-- ==== Sys2Proof/Word.lean ====
section
/-! DEFINITION. The word types of the model: a byte, a half word, a word and a double word (R5, R6). -/

namespace Sys2Proof

/-- Eight bits. -/
abbrev Byte := BitVec 8

/-- Sixteen bits: a lane of a Clove vector, a code of the mailbox. -/
abbrev Half := BitVec 16

/-- Thirty-two bits: a word of a parameter block (R358). -/
abbrev Word := BitVec 32

/-- Sixty-four bits: a time stamp, a bank signature. -/
abbrev Dword := BitVec 64

/-- A port P0 to P7 (R4). -/
abbrev Port := Fin 8

/-- A Clove engine, numbered 4 x cluster + engine (R444). -/
abbrev EngineId := Fin 32

/-- A zone , and a zone group (R358). -/
abbrev ZoneId := Fin 4096
abbrev GroupId := Fin 64

/-- Registers of an engine: vectors, addresses, accumulators; and a lane of a vector (R195). -/
abbrev VReg := Fin 32
abbrev AReg := Fin 8
abbrev AccReg := Fin 4
abbrev Lane := Fin 8

end Sys2Proof
end

