-- ==== Sys2Proof/Operand.lean ====
section
/-! DEFINITION. The kinds of operand the commands carry: routes, requests, causes, and what the surroundings report. -/

namespace Sys2Proof

/-- The route by which a command arrives and its completion returns (R353). -/
inductive Route where
  /-- the control port: a slot of the command window -/
  | controlPort
  /-- stream 0 of the Cherex link -/
  | link
deriving DecidableEq, Repr

/-- What every host command carries beside its parameters: tag, SEQ and TIMEOUT_MS of its slot header (R347) and the
route on which it was accepted (R353). -/
structure Req where
  tag : BitVec 6
  seq : Word
  timeout : Half
  route : Route
deriving DecidableEq, Repr

/-- Where a firmware image comes from (R50, R369). -/
inductive BootSrc where
  | flash
  | host
deriving DecidableEq, Repr

/-- The six rails under supervision (R466, R477). -/
inductive Rail where
  | vcore | vana | vser09 | vser12 | vddq105 | vddq05
deriving DecidableEq, Repr

/-- The eleven banks that sense their supply: HB0 to HB7, CB, AB, TB (R37). -/
inductive IoBank where
  | hb (n : Port) | cb | ab | tb
deriving DecidableEq, Repr

/-- The mode of a bank (R37). -/
inductive BankMode where
  | absent | v18 | v33 | fault
deriving DecidableEq, Repr

/-- The wake sources (R438). -/
inductive WakeSource where
  | activity | pattern | chipSelect
deriving DecidableEq, Repr

/-- A code of a fast converter (R137): 14 bits, two's complement. -/
abbrev Code := BitVec 14

/-- What reaches the gauge former for one gauge of one grid position (R156, R164): slot, cycle (in SINGLE mode the position
of the launch), gauge, and the codes of both converters from a nanosecond of the time base on (R137). (DESIGN CHOICE,
log 160) -/
structure GaugeIn where
  slot : Fin 4
  cycle : Nat
  gauge : Nat
  tFirst : Nat
  xs : List Code
  ys : List Code
deriving DecidableEq, Repr

/-- An emitter of a head (chapter 4). -/
inductive Emitter where
  | seed | gate | pump
deriving DecidableEq, Repr

/-- What the readbacks of one emitter show over the window in which they are judged (R88): forward voltage in mV, the
compliance flag, monitor current in nA (the mean over 2.0 µs of SEED, the 40 ns window of GATE). -/
structure EmitterReading where
  vf : Nat
  cmp : Bool
  mon : Nat
deriving DecidableEq, Repr

/-- Readings of an emitter of a port. -/
structure FaultReading where
  port : Port
  emitter : Emitter
  reading : EmitterReading
deriving DecidableEq, Repr

/-- The common mode of a Raman input, 0 STK and 1 ASTK: µV, and for how long it has lain on its side of the limits, ns (R176). -/
structure BiasReading where
  input : Fin 2
  common : Nat
  held : Nat
deriving DecidableEq, Repr

/-- How an identity transaction ends (R62, R63). -/
inductive IdResult where
  /-- STOP reached: the 64 bytes -/
  | data (bytes : List Byte)
  | nack
  /-- SDA held low after the recovery of R63 -/
  | busHeld
deriving DecidableEq, Repr

/-- An attempt of an identity transaction: the recovery pulses before its START, and how it ends (R62, R63). -/
structure IdAttempt where
  pulses : Fin 10
  result : IdResult
deriving DecidableEq, Repr

/-- An attempt failed: it ran into the 25 ms guard, which is none here, or did not end with the bytes (R62). -/
def attemptFailed : Option IdAttempt → Bool
  | none => true
  | some x => match x.result with
    | .data _ => false
    | .nack | .busHeld => true

/-- The attempts of the transaction that reads SERIAL alone, in order: at most four, of which only the last may succeed, with 16
bytes; a bus stays held only after nine pulses (R62, R63, R440). -/
def serialWhole (xs : List (Option IdAttempt)) : Bool :=
  decide (1 ≤ xs.length) && decide (xs.length ≤ 4) && xs.dropLast.all attemptFailed
    && (xs.length = 4 || !xs.getLast?.all attemptFailed)
    && xs.all (fun a => a.all (fun x => match x.result with
        | .data bytes => bytes.length == 16
        | .nack => true
        | .busHeld => x.pulses = 9))

/-- The 25 ms guard of a port's attempt runs out: the port, and the recovery pulses before its START (R62, R63). -/
structure IdGuard where
  port : Port
  pulses : Fin 10
deriving DecidableEq, Repr

/-- OVLD of an input, 0 X and 1 Y, and for how long it is raised, ns (R132). -/
structure Overload where
  input : Fin 2
  held : Nat
deriving DecidableEq, Repr

/-- A 1 ms boundary of the loop outputs: ns since the row before, and the currents that the regulators measure, µA (R406,
R410). -/
structure LoopTick where
  dt : Nat
  measured : Vector Nat 8
deriving DecidableEq, Repr

/-- What a loop output shows of its loop (R403, R407): measured current, voltage at LOOPn_CMP, and for how long the condition in
question has held or been absent. -/
structure LoopReading where
  measuredUa : Nat
  cmpUv : Nat
  heldMs : Nat
deriving DecidableEq, Repr

/-- An output of the FAST filters of the pair during an RTD pulse (R185, R394): ns after the pulse start, HK.24 and HK.25 as V / Vref
in units of 2^-24, RTD_EP at compliance, and whether an input sample of either stood at an end code (R400). -/
structure RtdOutput where
  at_ : Nat
  diff : Int
  common : Int
  compliance : Bool
  clip24 : Bool
  clip25 : Bool
deriving DecidableEq, Repr

/-- When an edge fell: how many ns ago, and the 1/256 ns of its stamp beyond that whole nanosecond (R376, R385). -/
structure Stamp where
  ago : Nat
  frac : BitVec 8
deriving DecidableEq, Repr

/-- How a period of SYNC_IN reads (R379). -/
inductive SyncPeriod where
  | marker | zero | one | idle
deriving DecidableEq, Repr

/-- The reference has had continuous edges: ns since the row before, and its frequency against the always-on crystal, ppm off
10 MHz (R373). -/
structure RefEdges where
  dt : Nat
  ppm : Int
deriving DecidableEq, Repr

/-- What an input in STOP_MASK shows at a stamp: an edge at a TI_STOP ball, or the currents into RX_X and RX_Y of a port in nA,
which its echo comparator compares (R385, R386). -/
inductive TiEdge where
  | pin (falling : Bool)
  | echo (x y : Int)
deriving DecidableEq, Repr

/-- A start event of the time-interval unit at a ball (R385, R387): an edge on TI_START, or a divided edge of TI_FREQ. -/
inductive TiStart where
  | pin (falling : Bool)
  | freq
deriving DecidableEq, Repr

/-- What a REF step reads on HK.26 of one port, in nV over the reference resistor: the excitation at 0.5 mA and 1.0 mA;
and the pilot in 1/1,000 of nominal, as 100,000 mΩ would give it (R412). (DESIGN CHOICE, log 160) -/
structure RefMeasure where
  port : Port
  lo : Nat
  hi : Nat
  pilot : Nat
deriving DecidableEq, Repr

/-- What a CONV step measures on a port: offsets in codes, magnitudes of C_r in 1/1,000 of their starting values, phases
of Y against X in 1/65,536 turn, reference amplitudes in codes; X and Y of ranges 0 to 3 in turn, phases of ranges 0
to 3 (R412). (DESIGN CHOICE, log 160) -/
structure ConvMeasure where
  port : Port
  offsets : List Int
  magnitudes : List Nat
  phases : List Int
  amplitudes : List Nat
deriving DecidableEq, Repr

/-- What a RAMAN step reads off the traces of a port: the half-plateau crossings of the coil in ps after the PUMP launch, and
ATTEN_COIL, the slope along it, in 0.001 dB/km (R412). (DESIGN CHOICE, log 160) -/
structure RamanMeasure where
  port : Port
  tLead : Nat
  tTrail : Nat
  attenCoil : Int
deriving DecidableEq, Repr

/-- What the step that ends has measured (R412); the port measured by SKEW gives its mean launch-to-echo time, that
of S0 to S3 and of X and Y, all in ps, and CONN_DELAY in 0.1 ns. (DESIGN CHOICE, log 160) -/
inductive CalMeasure where
  /-- REFIN is absent -/
  | noRefin
  | ref (refUv : Int) (gainA gainB : Nat) (ports : List RefMeasure)
  | skew (echoPs : Nat) (slots pols : List Nat) (connDelay : Nat)
  | conv (ports : List ConvMeasure)
  | raman (ports : List RamanMeasure)
deriving DecidableEq, Repr

/-- One entry of a repair map: memory, macro, a spare row or a spare column (R451). -/
structure RepairEntry where
  memId : Nat
  inst : Nat
  block : Nat
  column : Bool
  spare : Nat
deriving DecidableEq, Repr

/-- A failure record, its fields in the order of R453. -/
structure FailRecord where
  memId : Nat
  inst : Nat
  kind : Nat
  pattern : Nat
  address : Nat
  bit : Nat
  element : Nat
  block : Nat
  fails : Nat
deriving DecidableEq, Repr

/-- What a self-test finds: its failure records and the repair entries that answer them; for a per-block test the
failing-cell bitmap as well (R447, R453 to R455). -/
structure TestResult where
  records : List FailRecord
  repairs : List RepairEntry
  bitmap : List Byte
deriving DecidableEq, Repr

/-- The registers that an instruction of the test port selects (R457, R458). -/
inductive JtagInstr where
  | bypass | idcode | samplePreload | extest
  /-- the read-only BIST result register -/
  | bistResult
  /-- another test data register -/
  | testData (n : Nat)
deriving DecidableEq, Repr

/-- An operation of the test port (R458): TRST_N low or Test-Logic-Reset, an instruction, or a pass through a data
register with the bits that enter on TDI. -/
inductive JtagOp where
  | reset
  | instruction (i : JtagInstr)
  | shift (bits : List Bool)
deriving DecidableEq, Repr

/-- What the mode registers of a subchannel's devices say (R278, R279): LPDDR5 and not LPDDR5X, x16 and not byte mode, ECC, DVFSC,
density per die in Gb, ranks. -/
structure CapDevice where
  lpddr5 : Bool
  x16 : Bool
  ecc : Bool
  dvfsc : Bool
  densityGb : Nat
  ranks : Nat
deriving DecidableEq, Repr

/-- How capture memory training goes (R280): the devices of the four subchannels, A first, and the channel (0 A, 1 B) and step of a
failure besides the device check. -/
structure CapTrain where
  devices : List CapDevice
  failed : Option (Nat × Nat)
deriving DecidableEq, Repr

/-- Four subchannels, and a failure is of a channel and a step of R280. -/
def CapTrain.wf (r : CapTrain) : Bool :=
  r.devices.length == 4 && (match r.failed with
    | some (c, k) => c < 2 && 1 ≤ k && k ≤ 8
    | none => true)

/-- What enters the stream queues and rings (R268, R269): the next released block of a port, or codes of both converters from a
time on. -/
inductive EnqueueItem where
  | block (p : Port)
  | raw (p : Port) (tFirst : Nat) (xs ys : List Code)
deriving DecidableEq, Repr

/-- A measurement of the crystal: no edge for 1 ms, or its error in ppm (R474). -/
inductive XtalReading where
  | noEdge
  | ppm (x : Int)
deriving DecidableEq, Repr

/-- What an ALIGN block shows on a lane (R318, R320, R339): LANE, WIDTH code, BIP-8 bits in error, MCOUNT, and skew behind
the earliest lane in 0.1 ns. -/
structure AlignIn where
  laneField : Nat
  widthCode : Nat
  bip : Nat
  mcount : Nat
  skew : Nat
deriving DecidableEq, Repr

/-- Why a host frame is discarded (R321, R329): its CRC or structure, or its stream. -/
inductive FrameFault where
  | bad (bytes : Nat)
  | stream (n : Nat)
deriving DecidableEq, Repr

end Sys2Proof

namespace Sys2Proof.Machine

/-- An effective address: a displacement from ARk, or ARk with post-modification (R222). -/
inductive Ea where
  | disp (k : AReg) (d : BitVec 17)
  | post (k : AReg)
deriving DecidableEq, Repr

/-- An effective address of ELD and EST: the displacement has 14 bits. -/
inductive EaLane where
  | disp (k : AReg) (d : BitVec 14)
  | post (k : AReg)
deriving DecidableEq, Repr

end Sys2Proof.Machine
end

