-- ==== Sys2Proof/Syntax.lean ====
section
/-! DEFINITION. The commands of the block, one constructor per row of the opcode table. Every command but an instruction
of a Clove engine carries `dt`, the nanoseconds since the command before it (log 31). -/

namespace Sys2Proof

/-- A command. -/
inductive Instr where
  /-- IDENTIFY (R355). -/
  | identify (dt : Nat) (rq : Req)
  /-- STATUS (R492). -/
  | status (dt : Nat) (rq : Req)
  /-- EVENT_QUERY (R496). -/
  | eventQuery (dt : Nat) (rq : Req) (first : Word) (count : Byte)
  /-- CLEAR_STATS (R355). -/
  | clearStats (dt : Nat) (rq : Req) (block : Half) (inst : Half)
  /-- DEVICE_RESET (R468). -/
  | deviceReset (dt : Nat) (rq : Req)
  /-- PARAM_READ (R364). -/
  | paramRead (dt : Nat) (rq : Req) (block : Half) (inst : Half) (word : Half) (count : Byte)
  /-- PARAM_WRITE (R362). -/
  | paramWrite (dt : Nat) (rq : Req) (block : Half) (inst : Half) (word : Half) (flags : Byte) (words : List (Word × Word))
  /-- COMMIT (R365). -/
  | commit (dt : Nat) (rq : Req) (flags : Byte)
  /-- PORT_START (R495). -/
  | portStart (dt : Nat) (rq : Req) (ports : Byte)
  /-- PORT_STOP (R121). -/
  | portStop (dt : Nat) (rq : Req) (ports : Byte)
  /-- HEAD_RESCAN (R73). -/
  | headRescan (dt : Nat) (rq : Req) (port : Byte)
  /-- CLEAR_FAULT (R101). -/
  | clearFault (dt : Nat) (rq : Req) (port : Byte)
  /-- LAUNCH_SHOT (R110). -/
  | launchShot (dt : Nat) (rq : Req) (port : Byte) (slot : Byte)
  /-- LOAD_PROGRAM (R215). -/
  | loadProgram (dt : Nat) (rq : Req) (slot : Byte) (off : Word) (bytes : Word)
  /-- UNLOAD_PROGRAM (R355). -/
  | unloadProgram (dt : Nat) (rq : Req) (slot : Byte)
  /-- ENGINE_RESET (R213). -/
  | engineReset (dt : Nat) (rq : Req) (cl : Byte) (eng : Byte)
  /-- LOAD_ZONE_PACK (R238). -/
  | loadZonePack (dt : Nat) (rq : Req) (off : Word) (bytes : Word)
  /-- LOAD_BASELINES (R246). -/
  | loadBaselines (dt : Nat) (rq : Req) (off : Word) (bytes : Word)
  /-- ACK_GROUP (R259). -/
  | ackGroup (dt : Nat) (rq : Req) (g : Byte)
  /-- SNAP_READ (R291). -/
  | snapRead (dt : Nat) (rq : Req) (id : Word) (stream : Half) (flags : Byte)
  /-- SNAP_RELEASE (R291). -/
  | snapRelease (dt : Nat) (rq : Req) (id : Word)
  /-- LOAD_MASK (R292). -/
  | loadMask (dt : Nat) (rq : Req) (port : Byte) (off : Word) (bytes : Word)
  /-- MASK_REARM (R295). -/
  | maskRearm (dt : Nat) (rq : Req) (port : Byte)
  /-- CAPMEM_RETRAIN (R280). -/
  | capmemRetrain (dt : Nat) (rq : Req)
  /-- SUMAC_JOB (R306). -/
  | sumacJob (dt : Nat) (rq : Req) (desc : List Byte)
  /-- LINK_RESTART (R325). -/
  | linkRestart (dt : Nat) (rq : Req)
  /-- LINK_LOOP (R337). -/
  | linkLoop (dt : Nat) (rq : Req) (mode : Byte) (pattern : Byte) (lanes : Byte) (time : Half)
  /-- POWER_STATE (R426). -/
  | powerState (dt : Nat) (rq : Req) (target : Byte) (banks : Byte)
  /-- SHUTDOWN (R446). -/
  | shutdown (dt : Nat) (rq : Req) (flags : Byte)
  /-- ABORT_SELFTEST (R448). -/
  | abortSelftest (dt : Nat) (rq : Req)
  /-- SELFTEST_RUN (R455). -/
  | selftestRun (dt : Nat) (rq : Req) (block : Half) (pattern : Byte)
  /-- SELFTEST_RESULT (R453). -/
  | selftestResult (dt : Nat) (rq : Req) (index : Word)
  /-- SERVICE_CHALLENGE (R462). -/
  | serviceChallenge (dt : Nat) (rq : Req)
  /-- SERVICE_RESPONSE (R462). -/
  | serviceResponse (dt : Nat) (rq : Req) (sig : List Byte)
  /-- LIFECYCLE_SET (R459). -/
  | lifecycleSet (dt : Nat) (rq : Req) (target : Byte)
  /-- CAL_RUN (R420). -/
  | calRun (dt : Nat) (rq : Req) (ports : Byte) (steps : Half)
  /-- CAL_SET_REFRES (R355). -/
  | calSetRefres (dt : Nat) (rq : Req) (v : Word)
  /-- CAL_SET_BATH (R415). -/
  | calSetBath (dt : Nat) (rq : Req) (port : Byte) (temp : Word)
  /-- TI_ARM (R384). -/
  | tiArm (dt : Nat) (rq : Req) (params : List Byte)
  /-- TI_READ (R388). -/
  | tiRead (dt : Nat) (rq : Req) (first : Half) (count : Byte)
  /-- FW_DOWNLOAD (R370). -/
  | fwDownload (dt : Nat) (rq : Req) (bytes : Word)
  /-- FW_FLASH_WRITE (R371). -/
  | fwFlashWrite (dt : Nat) (rq : Req) (off : Word) (bytes : Word) (flags : Byte)
  /-- COMMAND_TIMEOUT (R356). -/
  | commandTimeout (dt : Nat) (tag : BitVec 6)
  /-- DOORBELL (R345). -/
  | doorbell (dt : Nat) (v : Word)
  /-- CQ_HEAD_WRITE (R350). -/
  | cqHeadWrite (dt : Nat) (v : Byte)
  /-- IRQ_STATUS_CLEAR (R343). -/
  | irqStatusClear (dt : Nat) (mask : BitVec 7)
  /-- REGISTER_WRITE (R342). -/
  | registerWrite (dt : Nat) (hclkKhz : Nat) (clocks : List (BitVec 4))
  /-- STREAM0_COMMAND (R352). -/
  | stream0Command (dt : Nat) (msg : List Byte)
  /-- STAGE_WRITE (R352). -/
  | stageWrite (dt : Nat) (msg : List Byte)
  /-- VAON_RISE (R426). -/
  | vaonRise (dt : Nat)
  /-- RESET_ASSERT (R43). -/
  | resetAssert (dt : Nat)
  /-- COLD_START (R469). -/
  | coldStart (dt : Nat) (src : BootSrc) (mailboxGood : Bool)
  /-- BOOT_IMAGE_CHECKED (R368). -/
  | bootImageChecked (dt : Nat) (responds : Bool)
  /-- FW_INIT_DONE (R469). -/
  | fwInitDone (dt : Nat) (good : Byte) (tj : Int)
  /-- SUPPLY_TRIP (R466). -/
  | supplyTrip (dt : Nat) (rail : Rail)
  /-- SUPPLY_RELEASE (R466). -/
  | supplyRelease (dt : Nat)
  /-- DEVICE_RESET_TRIGGER (R468). -/
  | deviceResetTrigger (dt : Nat)
  /-- WATCHDOG_EXPIRY (R472). -/
  | watchdogExpiry (dt : Nat)
  /-- DIE_TEMP_SAMPLE (R473). -/
  | dieTempSample (dt : Nat) (temp : Int)
  /-- XTAL_CHECK (R474). -/
  | xtalCheck (dt : Nat) (reading : XtalReading)
  /-- BANK_SUPPLY_RISE (R37). -/
  | bankSupplyRise (dt : Nat) (bank : IoBank) (mv : Nat)
  /-- BANK_SUPPLY_FALL (R38). -/
  | bankSupplyFall (dt : Nat) (bank : IoBank)
  /-- PRES_ACCEPT_LOW (R58). -/
  | presAcceptLow (dt : Nat) (p : Port)
  /-- PRES_LOSS (R59). -/
  | presLoss (dt : Nat) (p : Port)
  /-- ILK_CHANGE (R58). -/
  | ilkChange (dt : Nat) (p : Port) (closed : Bool)
  /-- ID_READ_START (R72). -/
  | idReadStart (dt : Nat) (p : Port)
  /-- ID_TRANSACTION_END (R62). -/
  | idTransactionEnd (dt : Nat) (p : Port) (result : IdAttempt)
  /-- ID_TRANSACTION_TIMEOUT (R62). -/
  | idTransactionTimeout (dt : Nat) (x : IdGuard)
  /-- DRIVE_UPDATE (R77). -/
  | driveUpdate (dt : Nat)
  /-- CASE_TEMP_UPDATE (R79). -/
  | caseTempUpdate (dt : Nat) (p : Port)
  /-- CASE_STALE_TIMEOUT (R79). -/
  | caseStaleTimeout (dt : Nat) (p : Port)
  /-- CASE_RANGE_TIMEOUT (R82). -/
  | caseRangeTimeout (dt : Nat) (p : Port)
  /-- OVERTEMP_TIMEOUT (R81). -/
  | overtempTimeout (dt : Nat) (p : Port)
  /-- EMITTER_FAULT_ACCEPT (R95). -/
  | emitterFaultAccept (dt : Nat) (readings : List FaultReading)
  /-- PROOF_DUE (R90). -/
  | proofDue (dt : Nat) (p : Port)
  /-- PROOF_PULSE (R91). -/
  | proofPulse (dt : Nat) (p : Port) (reading : EmitterReading)
  /-- PUMP_NRG_SAMPLE (R89). -/
  | pumpNrgSample (dt : Nat) (p : Port) (mv : Nat)
  /-- CYCLE_BOUNDARY (R8). -/
  | cycleBoundary (dt : Nat) (g : Fin 12)
  /-- GRID_LAUNCH (R109). -/
  | gridLaunch (dt : Nat) (p : Port) (slot : Fin 4)
  /-- HOST_LAUNCH_REQUEST (R110). -/
  | hostLaunchRequest (dt : Nat) (p : Port)
  /-- LAUNCH_DEFERRED_RETRY (R109). -/
  | launchDeferredRetry (dt : Nat) (p : Port)
  /-- WINDOW_OPEN (R116). -/
  | windowOpen (dt : Nat) (p : Port)
  /-- PUMP_LAUNCH (R116). -/
  | pumpLaunch (dt : Nat) (p : Port)
  /-- SINGLE_CHECK_WINDOW (R117). -/
  | singleCheckWindow (dt : Nat) (p : Port)
  /-- STOP_FRAMES_DRAINED (R121). -/
  | stopFramesDrained (dt : Nat) (p : Port)
  /-- RANGE_SWITCH (R134). -/
  | rangeSwitch (dt : Nat) (p : Port)
  /-- OVLD_ONSET (R132). -/
  | ovldOnset (dt : Nat) (p : Port) (ovld : Overload)
  /-- PAIR_CHECK_END (R149). -/
  | pairCheckEnd (dt : Nat) (p : Port) (xs : List Code) (ys : List Code)
  /-- GAUGE_SAMPLE (R161). -/
  | gaugeSample (dt : Nat) (p : Port) (sample : GaugeIn)
  /-- BIAS_FAULT_SET (R176). -/
  | biasFaultSet (dt : Nat) (p : Port) (reading : BiasReading)
  /-- BIAS_FAULT_CLEAR (R176). -/
  | biasFaultClear (dt : Nat) (p : Port) (reading : BiasReading)
  /-- RAMAN_RECORDING_END (R178). -/
  | ramanRecordingEnd (dt : Nat) (p : Port) (baseStk : List Half) (baseAst : List Half) (stk : List Half) (ast : List Half)
  /-- RAMAN_PERIOD_CLOSE (R179). -/
  | ramanPeriodClose (dt : Nat) (p : Port)
  /-- PROFILE_READY (R190). -/
  | profileReady (dt : Nat) (p : Port)
  /-- RTD_PULSE_START (R184). -/
  | rtdPulseStart (dt : Nat) (p : Port)
  /-- RTD_PULSE_END (R187). -/
  | rtdPulseEnd (dt : Nat) (p : Port) (outputs : List RtdOutput)
  /-- BLOCK_READY (R201). -/
  | blockReady (dt : Nat) (p : Port) (column : Nat)
  /-- ENGINE_REQUEST (R207). -/
  | engineRequest (dt : Nat) (eng : EngineId)
  /-- BLOCK_COPIED (R208). -/
  | blockCopied (dt : Nat) (eng : EngineId)
  /-- BLOCK_CUTOFF (R209). -/
  | blockCutoff (dt : Nat) (p : Port) (column : Nat)
  /-- ENGINE_WATCHDOG (R213). -/
  | engineWatchdog (dt : Nat) (eng : EngineId)
  /-- CLUSTER_TEMP_SAMPLE (R212). -/
  | clusterTempSample (dt : Nat) (cl : Port) (temp : Int)
  /-- UNDEFINED_OPCODE (R223). -/
  | undefinedOpcode (eng : EngineId)
  /-- NOP (R228). -/
  | nop (eng : EngineId)
  /-- DONE (R206). -/
  | done (eng : EngineId)
  /-- REP (R199). -/
  | rep (eng : EngineId) (n : BitVec 16)
  /-- BR (R226). -/
  | br (eng : EngineId) (cond : Fin 12) (off : BitVec 22)
  /-- BNZD (R228). -/
  | bnzd (eng : EngineId) (k : AReg) (off : BitVec 22)
  /-- CALL (R228). -/
  | call (eng : EngineId) (k : AReg) (off : BitVec 22)
  /-- RET (R228). -/
  | ret (eng : EngineId) (k : AReg)
  /-- CLRF (R228). -/
  | clrf (eng : EngineId)
  /-- LDI (R229). -/
  | ldi (eng : EngineId) (sel : Fin 4) (k : AReg) (imm : BitVec 18)
  /-- ADDA (R229). -/
  | adda (eng : EngineId) (k : AReg) (imm : BitVec 18)
  /-- CMPA (R229). -/
  | cmpa (eng : EngineId) (k : AReg) (imm : BitVec 18)
  /-- MOVA (R229). -/
  | mova (eng : EngineId) (dsel : Fin 4) (k : AReg) (ssel : Fin 4) (j : AReg)
  /-- GETS (R229). -/
  | gets (eng : EngineId) (k : AReg) (which : Fin 3)
  /-- PUTS (R229). -/
  | puts (eng : EngineId) (which : Fin 2) (k : AReg)
  /-- MVLA (R229). -/
  | mvla (eng : EngineId) (k : AReg) (a : VReg) (l : Lane)
  /-- MVAL (R229). -/
  | mval (eng : EngineId) (a : VReg) (l : Lane) (k : AReg)
  /-- VLD (R230). -/
  | vld (eng : EngineId) (d : VReg) (ea : Machine.Ea)
  /-- VST (R230). -/
  | vst (eng : EngineId) (ea : Machine.Ea) (v : VReg)
  /-- VLDB (R230). -/
  | vldb (eng : EngineId) (d : VReg) (ea : Machine.Ea)
  /-- VLDQ (R230). -/
  | vldq (eng : EngineId) (d : VReg) (ea : Machine.Ea)
  /-- ELD (R230). -/
  | eld (eng : EngineId) (d : VReg) (l : Lane) (ea : Machine.EaLane)
  /-- EST (R230). -/
  | est (eng : EngineId) (ea : Machine.EaLane) (v : VReg) (l : Lane)
  /-- VCPY (R230). -/
  | vcpy (eng : EngineId) (k : AReg) (j : AReg)
  /-- VADD (R231). -/
  | vadd (eng : EngineId) (d : VReg) (a : VReg) (b : VReg)
  /-- VSUB (R231). -/
  | vsub (eng : EngineId) (d : VReg) (a : VReg) (b : VReg)
  /-- VMUL (R231). -/
  | vmul (eng : EngineId) (d : VReg) (a : VReg) (b : VReg)
  /-- VABS (R231). -/
  | vabs (eng : EngineId) (d : VReg) (a : VReg)
  /-- VMAX (R231). -/
  | vmax (eng : EngineId) (d : VReg) (a : VReg) (b : VReg)
  /-- VMIN (R231). -/
  | vmin (eng : EngineId) (d : VReg) (a : VReg) (b : VReg)
  /-- VSHR (R231). -/
  | vshr (eng : EngineId) (d : VReg) (a : VReg) (sh : Fin 16)
  /-- VSHL (R231). -/
  | vshl (eng : EngineId) (d : VReg) (a : VReg) (sh : Fin 16)
  /-- VAND (R231). -/
  | vand (eng : EngineId) (d : VReg) (a : VReg) (b : VReg)
  /-- VOR (R231). -/
  | vor (eng : EngineId) (d : VReg) (a : VReg) (b : VReg)
  /-- VXOR (R231). -/
  | vxor (eng : EngineId) (d : VReg) (a : VReg) (b : VReg)
  /-- VCMPGT (R231). -/
  | vcmpgt (eng : EngineId) (d : VReg) (a : VReg) (b : VReg)
  /-- VSEL (R231). -/
  | vsel (eng : EngineId) (d : VReg) (a : VReg) (b : VReg)
  /-- VMOV (R231). -/
  | vmov (eng : EngineId) (d : VReg) (a : VReg)
  /-- VSPLAT (R231). -/
  | vsplat (eng : EngineId) (d : VReg) (imm : BitVec 16)
  /-- VSHUF (R232). -/
  | vshuf (eng : EngineId) (d : VReg) (a : VReg) (b : VReg) (pat : Fin 4)
  /-- ACLR (R233). -/
  | aclr (eng : EngineId) (d : AccReg)
  /-- VMAC (R233). -/
  | vmac (eng : EngineId) (d : AccReg) (a : VReg) (b : VReg)
  /-- VMACB (R233). -/
  | vmacb (eng : EngineId) (d : AccReg) (k : AReg) (j : AReg)
  /-- VSQA (R233). -/
  | vsqa (eng : EngineId) (d : AccReg) (ea : Machine.Ea)
  /-- VPWR (R233). -/
  | vpwr (eng : EngineId) (d : AccReg) (ea : Machine.Ea)
  /-- MVA (R200). -/
  | mva (eng : EngineId) (d : VReg) (a : AccReg) (auto : Bool) (sh : Fin 25)
  /-- AREDS (R233). -/
  | areds (eng : EngineId) (d : AccReg) (a : AccReg)
  /-- VBFLY (R235). -/
  | vbfly (eng : EngineId) (a : VReg) (b : VReg) (k : AReg)
  /-- MAXX (R234). -/
  | maxx (eng : EngineId) (d : VReg) (ea : Machine.Ea)
  /-- MINX (R234). -/
  | minx (eng : EngineId) (d : VReg) (ea : Machine.Ea)
  /-- MAXXV (R234). -/
  | maxxv (eng : EngineId) (d : VReg) (a : VReg)
  /-- MINXV (R234). -/
  | minxv (eng : EngineId) (d : VReg) (a : VReg)
  /-- VIBRATION_ZONE_SAMPLE (R250): the number of its blocks. -/
  | vibrationZoneSample (dt : Nat) (z : ZoneId) (block : Nat)
  /-- TEMPERATURE_ZONE_SAMPLE (R250). -/
  | temperatureZoneSample (dt : Nat) (z : ZoneId)
  /-- SNAPSHOT_PUBLISH (R290). -/
  | snapshotPublish (dt : Nat) (id : Nat)
  /-- AUTO_TIMEOUT (R288). -/
  | autoTimeout (dt : Nat) (g : GroupId)
  /-- HOLDOFF_END (R286). -/
  | holdoffEnd (dt : Nat) (g : GroupId)
  /-- RECORD_ENQUEUE (R275). -/
  | recordEnqueue (dt : Nat) (item : EnqueueItem)
  /-- SPILL_WRITE_TIMEOUT (R277). -/
  | spillWriteTimeout (dt : Nat) (stream : Nat)
  /-- SUMMARY_PERIODIC (R270). -/
  | summaryPeriodic (dt : Nat)
  /-- MASK_TRACE_EVAL (R293): how long ago the last frame of the trace ended at the balls, ns, and its taken cycles. -/
  | maskTraceEval (dt : Nat) (p : Port) (ago : Nat) (cycles : Nat)
  /-- CAPMEM_TRAIN_DONE (R280). -/
  | capmemTrainDone (dt : Nat) (result : CapTrain)
  /-- CAPMEM_PERIODIC_CAL (R280). -/
  | capmemPeriodicCal (dt : Nat)
  /-- CAPMEM_SELF_REFRESH (R427). -/
  | capmemSelfRefresh (dt : Nat)
  /-- STREAM_JOB_DONE (R311). -/
  | streamJobDone (dt : Nat) (stream : Nat)
  /-- COMPRESS_BLOCK_DONE (R307). -/
  | compressBlockDone (dt : Nat) (tag : BitVec 6)
  /-- DECOMPRESS_DONE (R309). -/
  | decompressDone (dt : Nat)
  /-- FRAME_SELECT (R332). -/
  | frameSelect (dt : Nat)
  /-- CREDIT_RECEIVED (R330). -/
  | creditReceived (dt : Nat) (stream : Nat) (total : Nat)
  /-- CREDIT_REPEAT (R331). -/
  | creditRepeat (dt : Nat)
  /-- BLOCK_DISCARD (R319). -/
  | blockDiscard (dt : Nat) (lane : Fin 8) (sync : BitVec 2) (bytes : List Byte)
  /-- HOST_FRAME_DISCARD (R321). -/
  | hostFrameDiscard (dt : Nat) (why : FrameFault)
  /-- DETECT_CHECK (R323). -/
  | detectCheck (dt : Nat) (found : Byte)
  /-- TRAINING_FRAME_RX (R324). -/
  | trainingFrameRx (dt : Nat) (lane : Fin 8) (control : Half) (status : Half) (ownReady : Bool)
  /-- ALIGN_RX (R320). -/
  | alignRx (dt : Nat) (locked : Byte) (seen : Vector (Option AlignIn) 8)
  /-- CAPABILITY_SEND (R327). -/
  | capabilitySend (dt : Nat)
  /-- CAPABILITY_RX (R328). -/
  | capabilityRx (dt : Nat) (bytes : List Byte)
  /-- BRINGUP_STAGE_TIMEOUT (R323). -/
  | bringupStageTimeout (dt : Nat)
  /-- LINK_FAIL_IDLE_END (R325). -/
  | linkFailIdleEnd (dt : Nat)
  /-- DOWN_CHECK (R325). -/
  | downCheck (dt : Nat) (found : Byte)
  /-- BLOCK_LOCK_LOSS (R326). -/
  | blockLockLoss (dt : Nat) (lane : Fin 8)
  /-- IDLE_LOSS (R326). -/
  | idleLoss (dt : Nat) (lane : Fin 8)
  /-- LREF_UNLOCK (R475). -/
  | lrefUnlock (dt : Nat)
  /-- PM_BLOCK_RX (R334). -/
  | pmBlockRx (dt : Nat) (target : Nat)
  /-- TX_QUIET_ENTRY (R334). -/
  | txQuietEntry (dt : Nat)
  /-- TX_SLEEP_ENTRY (R334). -/
  | txSleepEntry (dt : Nat)
  /-- QUIET_REFRESH (R335). -/
  | quietRefresh (dt : Nat)
  /-- TX_PM_EXIT (R335). -/
  | txPmExit (dt : Nat)
  /-- LINK_LOOP_START (R337). -/
  | linkLoopStart (dt : Nat)
  /-- LINK_LOOP_END (R337). -/
  | linkLoopEnd (dt : Nat)
  /-- REF_QUALIFIED (R373). -/
  | refQualified (edges : RefEdges)
  /-- REF_LOST (R375). -/
  | refLost (dt : Nat)
  /-- OCXO_RDY_CHANGE (R374). -/
  | ocxoRdyChange (dt : Nat) (level : Bool)
  /-- PPS_EDGE (R376). -/
  | ppsEdge (dt : Nat) (stamp : Stamp) (high : Bool)
  /-- PPS_TIMEOUT (R376). -/
  | ppsTimeout (dt : Nat)
  /-- PPS_OUT_SECOND (R378). -/
  | ppsOutSecond (dt : Nat)
  /-- SYNC_MARKER (R380); falling edges of the periods in 1/256 ns after their rising edges (R379). -/
  | syncMarker (dt : Nat) (stamp : Stamp) (falls : List Nat)
  /-- SYNC_TIMEOUT (R380). -/
  | syncTimeout (dt : Nat)
  /-- SYNC_PHASE_STEP (R380). -/
  | syncPhaseStep (dt : Nat)
  /-- TI_START_EDGE (R385). -/
  | tiStartEdge (dt : Nat) (start : TiStart) (stamp : Stamp)
  /-- TI_STOP_EDGE (R385). -/
  | tiStopEdge (dt : Nat) (ball : Fin 12) (edge : TiEdge) (stamp : Stamp)
  /-- TI_WINDOW_END (R385). -/
  | tiWindowEnd (dt : Nat)
  /-- TI_FREQ_GATE_END (R387): rising edges of TI_FREQ after the start, and the interval from the divided edge before, 1/256 ns. -/
  | tiFreqGateEnd (dt : Nat) (stamp : Stamp) (edges : Nat) (interval : Nat)
  /-- HKA_SEQUENCE (R393). -/
  | hkaSequence (dt : Nat)
  /-- HKB_JOB_TRIGGER (R395). -/
  | hkbJobTrigger (dt : Nat)
  /-- HK_CHECK_TRIGGER (R401). -/
  | hkCheckTrigger (dt : Nat)
  /-- HK_ENTRY_RESULT (R400). -/
  | hkEntryResult (dt : Nat) (conv : Fin 2) (result : Option (List Int × Bool))
  /-- REF_SETTLING_END (R399). -/
  | refSettlingEnd (dt : Nat) (conv : Fin 2)
  /-- LOOP_TICK (R406). -/
  | loopTick (x : LoopTick)
  /-- LOOP_CAUSE_SET (R407). -/
  | loopCauseSet (dt : Nat) (n : Fin 8) (cause : Fin 3) (reading : LoopReading)
  /-- LOOP_CAUSE_CLEAR (R407). -/
  | loopCauseClear (dt : Nat) (n : Fin 8) (cause : Fin 3) (reading : LoopReading)
  /-- LOOP_DRIVE_RETRY (R407). -/
  | loopDriveRetry (dt : Nat) (n : Fin 8)
  /-- ALARM_OVERLOAD (R409). -/
  | alarmOverload (dt : Nat) (n : Fin 8)
  /-- ALARM_RETRY (R409). -/
  | alarmRetry (dt : Nat) (n : Fin 8)
  /-- ALARM_OVERLOAD_CLEAR (R409). -/
  | alarmOverloadClear (dt : Nat) (n : Fin 8)
  /-- ALARM_MIN_ACTIVE_END (R408). -/
  | alarmMinActiveEnd (dt : Nat) (n : Fin 8)
  /-- START_UP_CAL_BEGIN (R470). -/
  | startUpCalBegin (dt : Nat)
  /-- CAL_AUTO_CHECK (R419). -/
  | calAutoCheck (dt : Nat)
  /-- CAL_STEP_END (R413). -/
  | calStepEnd (dt : Nat) (measure : CalMeasure)
  /-- CAL_RUN_END (R414). -/
  | calRunEnd (dt : Nat)
  /-- STANDBY_GATED (R427). -/
  | standbyGated (dt : Nat)
  /-- RETAIN_ARM (R435). -/
  | retainArm (dt : Nat)
  /-- COMMIT_POINT (R436). -/
  | commitPoint (dt : Nat)
  /-- WAKE_EVENT (R438). -/
  | wakeEvent (dt : Nat) (sources : List WakeSource)
  /-- WAKE_REPLAY (R437). -/
  | wakeReplay (dt : Nat)
  /-- BROWNOUT (R429). -/
  | brownout (dt : Nat)
  /-- WAKE_SUPPLIES_GOOD (R439). -/
  | wakeSuppliesGood (dt : Nat)
  /-- WAKE_SERIAL_CHECK (R440). -/
  | wakeSerialCheck (dt : Nat) (p : Port) (attempts : List (Option IdAttempt))
  /-- WAKE_COMPLETE (R433). -/
  | wakeComplete (dt : Nat)
  /-- SHUTDOWN_SELFTEST_DONE (R447). -/
  | shutdownSelftestDone (dt : Nat) (result : TestResult)
  /-- SELFTEST_BLOCK_DONE (R455). -/
  | selftestBlockDone (dt : Nat) (result : TestResult)
  /-- VAON_LOSS (R426). -/
  | vaonLoss (dt : Nat)
  /-- CLOCKS_UNGATED (R428). -/
  | clocksUngated (dt : Nat)
  /-- FLASH_WRITE_DONE (R371). -/
  | flashWriteDone (dt : Nat)
  /-- LIFECYCLE_PROGRAMMED (R459). -/
  | lifecycleProgrammed (dt : Nat)
  /-- RX_SLEEP_EXIT (R336). -/
  | rxSleepExit (dt : Nat)
  /-- TRAINING_FRAMES_START (R323). -/
  | trainingFramesStart (dt : Nat) (polarity : Byte)
  /-- LOOP_CHECKER_LOCK (R338). -/
  | loopCheckerLock (dt : Nat) (lane : Fin 8) (locked : Bool) (errors : Nat)
  /-- BOUNDARY_SCAN_ACCESS (R458). -/
  | boundaryScanAccess (dt : Nat) (op : JtagOp)
deriving DecidableEq, Repr

end Sys2Proof
end

