-- ==== Sys2Proof/Decode.lean ====
section
/-! DEFINITION. The opcode table gives no row bits: no word spells a command. -/

namespace Sys2Proof

/-- The command that a word spells by the bits of the opcode table: none, since no row has bits. (DEDUCED, log 34) -/
def decodeTableWord (_nbits _w : Nat) : Option Instr := none

end Sys2Proof
end

