-- ==== Sys2Proof/Machine/Blocks.lean ====
section
/-! DEFINITION. The parameter blocks of R359: every field of every configuration block and every counter of every
_STATS block, with its place, class, reset value and range, as the chapters give them. -/

namespace Sys2Proof

/-- The class of a field (R8, R9, R10). -/
inductive FieldClass where
  /-- shadowed, takes effect at a frame boundary -/
  | F
  /-- locked while its port or block runs -/
  | L
  /-- immediate -/
  | I
deriving DecidableEq, Repr

/-- One field of a configuration block: block number, first bit counted from bit 0 of word 0, width in bits, class,
reset value, and the least and largest value a write may store (R362). -/
structure Fld where
  block : Nat
  lo : Nat
  width : Nat
  cls : FieldClass
  reset : Nat
  least : Nat
  most : Nat
deriving DecidableEq, Repr

/-- One counter of a _STATS block: block number, word, width 16 (stops at the top) or 32 (wraps) (R360). -/
structure Ctr where
  block : Nat
  word : Nat
  width : Nat
deriving DecidableEq, Repr

/-- What a block is for (R359). -/
inductive BlockKind where
  | config
  | status
  | stats
deriving DecidableEq, Repr

/-- One parameter block: number, kind, words of an instance, number of instances, first instance. -/
structure BlockDesc where
  id : Nat
  kind : BlockKind
  words : Nat
  count : Nat
  first : Nat
  fields : List Fld
deriving Repr

/-! HEAD_CFG (block 0x0001, R58). -/

/-- HEAD_CFG.PRES_DEGLITCH -/
def Fld.headCfg_presDeglitch : Fld := ⟨0x01, 0, 7, .L, 20, 1, 100⟩
/-- HEAD_CFG.ILK_DEGLITCH -/
def Fld.headCfg_ilkDeglitch : Fld := ⟨0x01, 8, 5, .L, 10, 2, 20⟩
/-- HEAD_CFG.ID_SPEED -/
def Fld.headCfg_idSpeed : Fld := ⟨0x01, 16, 1, .L, 1, 0, 1⟩

/-! HEAD_STATS (block 0x0003, R71). -/

/-- HEAD_STATS.ID_RETRY -/
def Ctr.headStats_idRetry : Ctr := ⟨0x03, 0, 16⟩
/-- HEAD_STATS.ID_FAIL -/
def Ctr.headStats_idFail : Ctr := ⟨0x03, 1, 16⟩
/-- HEAD_STATS.PRES_LOSS -/
def Ctr.headStats_presLoss : Ctr := ⟨0x03, 2, 16⟩
/-- HEAD_STATS.ILK_OPEN -/
def Ctr.headStats_ilkOpen : Ctr := ⟨0x03, 3, 16⟩

/-! SAFETY (block 0x0004, R97). -/

/-- SAFETY.SCOPE -/
def Fld.safety_scope : Fld := ⟨0x04, 0, 1, .L, 0, 0, 1⟩

/-! SAFETY_PORT (block 0x0005, R81, R90). -/

/-- SAFETY_PORT.KNEE -/
def Fld.safetyPort_knee : Fld := ⟨0x05, 0, 10, .L, 550, 300, 650⟩
/-- SAFETY_PORT.PROOF_INTERVAL -/
def Fld.safetyPort_proofInterval : Fld := ⟨0x05, 16, 8, .L, 16, 1, 160⟩
/-- SAFETY_PORT.PROOF_FORCE -/
def Fld.safetyPort_proofForce : Fld := ⟨0x05, 24, 1, .L, 0, 0, 1⟩

/-! EMIT_CFG (block 0x0006, R85-R86). -/

/-- EMIT_CFG.SETPOINT_SEED -/
def Fld.emitCfg_setpointSeed : Fld := ⟨0x06, 0, 16, .I, 0, 0, 65535⟩
/-- EMIT_CFG.RAMP_SHAPE_SEED -/
def Fld.emitCfg_rampShapeSeed : Fld := ⟨0x06, 16, 3, .I, 5, 0, 7⟩
/-- EMIT_CFG.RAMP_TIME_SEED -/
def Fld.emitCfg_rampTimeSeed : Fld := ⟨0x06, 19, 8, .I, 10, 1, 200⟩
/-- EMIT_CFG.COMP_EN_SEED -/
def Fld.emitCfg_compEnSeed : Fld := ⟨0x06, 27, 1, .L, 1, 0, 1⟩
/-- EMIT_CFG.SETPOINT_GATE -/
def Fld.emitCfg_setpointGate : Fld := ⟨0x06, 32, 16, .I, 0, 0, 65535⟩
/-- EMIT_CFG.RAMP_SHAPE_GATE -/
def Fld.emitCfg_rampShapeGate : Fld := ⟨0x06, 48, 3, .I, 5, 0, 7⟩
/-- EMIT_CFG.RAMP_TIME_GATE -/
def Fld.emitCfg_rampTimeGate : Fld := ⟨0x06, 51, 8, .I, 10, 1, 200⟩
/-- EMIT_CFG.COMP_EN_GATE -/
def Fld.emitCfg_compEnGate : Fld := ⟨0x06, 59, 1, .L, 1, 0, 1⟩
/-- EMIT_CFG.SETPOINT_PUMP -/
def Fld.emitCfg_setpointPump : Fld := ⟨0x06, 64, 16, .I, 0, 0, 65535⟩
/-- EMIT_CFG.RAMP_SHAPE_PUMP -/
def Fld.emitCfg_rampShapePump : Fld := ⟨0x06, 80, 3, .I, 5, 0, 7⟩
/-- EMIT_CFG.RAMP_TIME_PUMP -/
def Fld.emitCfg_rampTimePump : Fld := ⟨0x06, 83, 8, .I, 10, 1, 200⟩
/-- EMIT_CFG.COMP_EN_PUMP -/
def Fld.emitCfg_compEnPump : Fld := ⟨0x06, 91, 1, .L, 1, 0, 1⟩

/-! SAFETY_STATS (block 0x0008, R105). -/

/-- SAFETY_STATS.SHUTDOWNS -/
def Ctr.safetyStats_shutdowns : Ctr := ⟨0x08, 0, 16⟩
/-- SAFETY_STATS.PROOF_RUN -/
def Ctr.safetyStats_proofRun : Ctr := ⟨0x08, 1, 16⟩
/-- SAFETY_STATS.PROOF_LATE -/
def Ctr.safetyStats_proofLate : Ctr := ⟨0x08, 2, 16⟩
/-- SAFETY_STATS.CMD_SAT -/
def Ctr.safetyStats_cmdSat : Ctr := ⟨0x08, 3, 16⟩
/-- SAFETY_STATS.DERATE_ENTER -/
def Ctr.safetyStats_derateEnter : Ctr := ⟨0x08, 4, 16⟩

/-! SEQ_PORT (block 0x0009, R106-R127). -/

/-- SEQ_PORT.FIBRE_LEN -/
def Fld.seqPort_fibreLen : Fld := ⟨0x09, 0, 17, .L, 48972, 16, 102384⟩
/-- SEQ_PORT.GUARD -/
def Fld.seqPort_guard : Fld := ⟨0x09, 17, 12, .L, 64, 16, 4095⟩
/-- SEQ_PORT.MODE -/
def Fld.seqPort_mode : Fld := ⟨0x09, 29, 1, .L, 0, 0, 1⟩
/-- SEQ_PORT.SLOT_MASK -/
def Fld.seqPort_slotMask : Fld := ⟨0x09, 32, 4, .F, 15, 1, 15⟩
/-- SEQ_PORT.PULSE_WIDTH -/
def Fld.seqPort_pulseWidth : Fld := ⟨0x09, 40, 8, .F, 10, 5, 200⟩
/-- SEQ_PORT.RAMAN_M -/
def Fld.seqPort_ramanM : Fld := ⟨0x09, 48, 9, .F, 16, 0, 256⟩
/-- SEQ_PORT.DITHER_SPAN -/
def Fld.seqPort_ditherSpan : Fld := ⟨0x09, 57, 3, .F, 5, 0, 7⟩
/-- SEQ_PORT.DITHER_SEED -/
def Fld.seqPort_ditherSeed : Fld := ⟨0x09, 64, 16, .L, 44257, 1, 65535⟩
/-- SEQ_PORT.PUMP_WIDTH -/
def Fld.seqPort_pumpWidth : Fld := ⟨0x09, 80, 10, .F, 10, 10, 1000⟩
/-- SEQ_PORT.IF_S0 -/
def Fld.seqPort_ifS0 : Fld := ⟨0x09, 96, 19, .F, 75000, 0, 524287⟩
/-- SEQ_PORT.IF_S1 -/
def Fld.seqPort_ifS1 : Fld := ⟨0x09, 128, 19, .F, 175000, 0, 524287⟩
/-- SEQ_PORT.IF_S2 -/
def Fld.seqPort_ifS2 : Fld := ⟨0x09, 160, 19, .F, 275000, 0, 524287⟩
/-- SEQ_PORT.IF_S3 -/
def Fld.seqPort_ifS3 : Fld := ⟨0x09, 192, 19, .F, 375000, 0, 524287⟩
/-- SEQ_PORT.PROBE_LEVEL -/
def Fld.seqPort_probeLevel : Fld := ⟨0x09, 224, 9, .F, 256, 0, 256⟩
/-- SEQ_PORT.GROUP_INDEX -/
def Fld.seqPort_groupIndex : Fld := ⟨0x09, 256, 21, .I, 1468200, 1400000, 1550000⟩

/-! LOCKSTEP (block 0x000A, R122-R124). -/

/-- LOCKSTEP.MEMBERS -/
def Fld.lockstep_members : Fld := ⟨0x0A, 0, 8, .L, 0, 0, 255⟩
/-- LOCKSTEP.SITE -/
def Fld.lockstep_site : Fld := ⟨0x0A, 8, 1, .L, 0, 0, 1⟩
/-- LOCKSTEP.SLOT_MASK -/
def Fld.lockstep_slotMask : Fld := ⟨0x0A, 16, 4, .L, 15, 1, 15⟩
/-- LOCKSTEP.DITHER_SPAN -/
def Fld.lockstep_ditherSpan : Fld := ⟨0x0A, 20, 3, .L, 5, 0, 7⟩
/-- LOCKSTEP.RAMAN_M -/
def Fld.lockstep_ramanM : Fld := ⟨0x0A, 23, 9, .L, 16, 0, 256⟩
/-- LOCKSTEP.FRAME -/
def Fld.lockstep_frame : Fld := ⟨0x0A, 32, 17, .L, 0, 0, 131071⟩
/-- LOCKSTEP.DITHER_SEED -/
def Fld.lockstep_ditherSeed : Fld := ⟨0x0A, 64, 16, .L, 44257, 1, 65535⟩
/-- LOCKSTEP.START_TIME -/
def Fld.lockstep_startTime : Fld := ⟨0x0A, 96, 64, .L, 0, 0, 18446744073709551615⟩

/-! PORT_STATS (block 0x000C, R129). -/

/-- PORT_STATS.LAUNCHES -/
def Ctr.portStats_launches : Ctr := ⟨0x0C, 0, 32⟩
/-- PORT_STATS.PUMP_LAUNCHES -/
def Ctr.portStats_pumpLaunches : Ctr := ⟨0x0C, 1, 32⟩
/-- PORT_STATS.LAUNCH_REFUSED -/
def Ctr.portStats_launchRefused : Ctr := ⟨0x0C, 2, 16⟩
/-- PORT_STATS.LAUNCH_DEFERRED -/
def Ctr.portStats_launchDeferred : Ctr := ⟨0x0C, 3, 16⟩
/-- PORT_STATS.CHECK_WINDOWS -/
def Ctr.portStats_checkWindows : Ctr := ⟨0x0C, 4, 16⟩
/-- PORT_STATS.SCHED_CHANGES -/
def Ctr.portStats_schedChanges : Ctr := ⟨0x0C, 5, 16⟩

/-! RX_CFG (block 0x000D, R137-R141). -/

/-- RX_CFG.ALIGN -/
def Fld.rxCfg_align : Fld := ⟨0x0D, 0, 1, .L, 0, 0, 1⟩
/-- RX_CFG.RAW_TAG -/
def Fld.rxCfg_rawTag : Fld := ⟨0x0D, 1, 2, .L, 0, 0, 2⟩
/-- RX_CFG.FILTER -/
def Fld.rxCfg_filter : Fld := ⟨0x0D, 3, 2, .F, 0, 0, 3⟩
/-- RX_CFG.PAIR_CHECK -/
def Fld.rxCfg_pairCheck : Fld := ⟨0x0D, 5, 1, .I, 1, 0, 1⟩
/-- RX_CFG.OVLD_EVENT -/
def Fld.rxCfg_ovldEvent : Fld := ⟨0x0D, 6, 1, .I, 1, 0, 1⟩

/-! RX_PROFILE (block 0x000E, R133-R136). -/

/-- RX_PROFILE.START_0 -/
def Fld.rxProfile_start0 : Fld := ⟨0x0E, 0, 17, .F, 0, 0, 131071⟩
/-- RX_PROFILE.RANGE_0 -/
def Fld.rxProfile_range0 : Fld := ⟨0x0E, 17, 2, .F, 1, 0, 3⟩
/-- RX_PROFILE.END_0 -/
def Fld.rxProfile_end0 : Fld := ⟨0x0E, 31, 1, .F, 1, 0, 1⟩
/-- RX_PROFILE.START_1 -/
def Fld.rxProfile_start1 : Fld := ⟨0x0E, 32, 17, .F, 0, 0, 131071⟩
/-- RX_PROFILE.RANGE_1 -/
def Fld.rxProfile_range1 : Fld := ⟨0x0E, 49, 2, .F, 0, 0, 3⟩
/-- RX_PROFILE.END_1 -/
def Fld.rxProfile_end1 : Fld := ⟨0x0E, 63, 1, .F, 0, 0, 1⟩
/-- RX_PROFILE.START_2 -/
def Fld.rxProfile_start2 : Fld := ⟨0x0E, 64, 17, .F, 0, 0, 131071⟩
/-- RX_PROFILE.RANGE_2 -/
def Fld.rxProfile_range2 : Fld := ⟨0x0E, 81, 2, .F, 0, 0, 3⟩
/-- RX_PROFILE.END_2 -/
def Fld.rxProfile_end2 : Fld := ⟨0x0E, 95, 1, .F, 0, 0, 1⟩
/-- RX_PROFILE.START_3 -/
def Fld.rxProfile_start3 : Fld := ⟨0x0E, 96, 17, .F, 0, 0, 131071⟩
/-- RX_PROFILE.RANGE_3 -/
def Fld.rxProfile_range3 : Fld := ⟨0x0E, 113, 2, .F, 0, 0, 3⟩
/-- RX_PROFILE.END_3 -/
def Fld.rxProfile_end3 : Fld := ⟨0x0E, 127, 1, .F, 0, 0, 1⟩
/-- RX_PROFILE.START_4 -/
def Fld.rxProfile_start4 : Fld := ⟨0x0E, 128, 17, .F, 0, 0, 131071⟩
/-- RX_PROFILE.RANGE_4 -/
def Fld.rxProfile_range4 : Fld := ⟨0x0E, 145, 2, .F, 0, 0, 3⟩
/-- RX_PROFILE.END_4 -/
def Fld.rxProfile_end4 : Fld := ⟨0x0E, 159, 1, .F, 0, 0, 1⟩
/-- RX_PROFILE.START_5 -/
def Fld.rxProfile_start5 : Fld := ⟨0x0E, 160, 17, .F, 0, 0, 131071⟩
/-- RX_PROFILE.RANGE_5 -/
def Fld.rxProfile_range5 : Fld := ⟨0x0E, 177, 2, .F, 0, 0, 3⟩
/-- RX_PROFILE.END_5 -/
def Fld.rxProfile_end5 : Fld := ⟨0x0E, 191, 1, .F, 0, 0, 1⟩
/-- RX_PROFILE.START_6 -/
def Fld.rxProfile_start6 : Fld := ⟨0x0E, 192, 17, .F, 0, 0, 131071⟩
/-- RX_PROFILE.RANGE_6 -/
def Fld.rxProfile_range6 : Fld := ⟨0x0E, 209, 2, .F, 0, 0, 3⟩
/-- RX_PROFILE.END_6 -/
def Fld.rxProfile_end6 : Fld := ⟨0x0E, 223, 1, .F, 0, 0, 1⟩
/-- RX_PROFILE.START_7 -/
def Fld.rxProfile_start7 : Fld := ⟨0x0E, 224, 17, .F, 0, 0, 131071⟩
/-- RX_PROFILE.RANGE_7 -/
def Fld.rxProfile_range7 : Fld := ⟨0x0E, 241, 2, .F, 0, 0, 3⟩
/-- RX_PROFILE.END_7 -/
def Fld.rxProfile_end7 : Fld := ⟨0x0E, 255, 1, .F, 0, 0, 1⟩
/-- RX_PROFILE.START_8 -/
def Fld.rxProfile_start8 : Fld := ⟨0x0E, 256, 17, .F, 0, 0, 131071⟩
/-- RX_PROFILE.RANGE_8 -/
def Fld.rxProfile_range8 : Fld := ⟨0x0E, 273, 2, .F, 0, 0, 3⟩
/-- RX_PROFILE.END_8 -/
def Fld.rxProfile_end8 : Fld := ⟨0x0E, 287, 1, .F, 0, 0, 1⟩
/-- RX_PROFILE.START_9 -/
def Fld.rxProfile_start9 : Fld := ⟨0x0E, 288, 17, .F, 0, 0, 131071⟩
/-- RX_PROFILE.RANGE_9 -/
def Fld.rxProfile_range9 : Fld := ⟨0x0E, 305, 2, .F, 0, 0, 3⟩
/-- RX_PROFILE.END_9 -/
def Fld.rxProfile_end9 : Fld := ⟨0x0E, 319, 1, .F, 0, 0, 1⟩
/-- RX_PROFILE.START_10 -/
def Fld.rxProfile_start10 : Fld := ⟨0x0E, 320, 17, .F, 0, 0, 131071⟩
/-- RX_PROFILE.RANGE_10 -/
def Fld.rxProfile_range10 : Fld := ⟨0x0E, 337, 2, .F, 0, 0, 3⟩
/-- RX_PROFILE.END_10 -/
def Fld.rxProfile_end10 : Fld := ⟨0x0E, 351, 1, .F, 0, 0, 1⟩
/-- RX_PROFILE.START_11 -/
def Fld.rxProfile_start11 : Fld := ⟨0x0E, 352, 17, .F, 0, 0, 131071⟩
/-- RX_PROFILE.RANGE_11 -/
def Fld.rxProfile_range11 : Fld := ⟨0x0E, 369, 2, .F, 0, 0, 3⟩
/-- RX_PROFILE.END_11 -/
def Fld.rxProfile_end11 : Fld := ⟨0x0E, 383, 1, .F, 0, 0, 1⟩
/-- RX_PROFILE.START_12 -/
def Fld.rxProfile_start12 : Fld := ⟨0x0E, 384, 17, .F, 0, 0, 131071⟩
/-- RX_PROFILE.RANGE_12 -/
def Fld.rxProfile_range12 : Fld := ⟨0x0E, 401, 2, .F, 0, 0, 3⟩
/-- RX_PROFILE.END_12 -/
def Fld.rxProfile_end12 : Fld := ⟨0x0E, 415, 1, .F, 0, 0, 1⟩
/-- RX_PROFILE.START_13 -/
def Fld.rxProfile_start13 : Fld := ⟨0x0E, 416, 17, .F, 0, 0, 131071⟩
/-- RX_PROFILE.RANGE_13 -/
def Fld.rxProfile_range13 : Fld := ⟨0x0E, 433, 2, .F, 0, 0, 3⟩
/-- RX_PROFILE.END_13 -/
def Fld.rxProfile_end13 : Fld := ⟨0x0E, 447, 1, .F, 0, 0, 1⟩
/-- RX_PROFILE.START_14 -/
def Fld.rxProfile_start14 : Fld := ⟨0x0E, 448, 17, .F, 0, 0, 131071⟩
/-- RX_PROFILE.RANGE_14 -/
def Fld.rxProfile_range14 : Fld := ⟨0x0E, 465, 2, .F, 0, 0, 3⟩
/-- RX_PROFILE.END_14 -/
def Fld.rxProfile_end14 : Fld := ⟨0x0E, 479, 1, .F, 0, 0, 1⟩
/-- RX_PROFILE.START_15 -/
def Fld.rxProfile_start15 : Fld := ⟨0x0E, 480, 17, .F, 0, 0, 131071⟩
/-- RX_PROFILE.RANGE_15 -/
def Fld.rxProfile_range15 : Fld := ⟨0x0E, 497, 2, .F, 0, 0, 3⟩
/-- RX_PROFILE.END_15 -/
def Fld.rxProfile_end15 : Fld := ⟨0x0E, 511, 1, .F, 0, 0, 1⟩
/-- RX_PROFILE.START_16 -/
def Fld.rxProfile_start16 : Fld := ⟨0x0E, 512, 17, .F, 0, 0, 131071⟩
/-- RX_PROFILE.RANGE_16 -/
def Fld.rxProfile_range16 : Fld := ⟨0x0E, 529, 2, .F, 0, 0, 3⟩
/-- RX_PROFILE.END_16 -/
def Fld.rxProfile_end16 : Fld := ⟨0x0E, 543, 1, .F, 0, 0, 1⟩
/-- RX_PROFILE.START_17 -/
def Fld.rxProfile_start17 : Fld := ⟨0x0E, 544, 17, .F, 0, 0, 131071⟩
/-- RX_PROFILE.RANGE_17 -/
def Fld.rxProfile_range17 : Fld := ⟨0x0E, 561, 2, .F, 0, 0, 3⟩
/-- RX_PROFILE.END_17 -/
def Fld.rxProfile_end17 : Fld := ⟨0x0E, 575, 1, .F, 0, 0, 1⟩
/-- RX_PROFILE.START_18 -/
def Fld.rxProfile_start18 : Fld := ⟨0x0E, 576, 17, .F, 0, 0, 131071⟩
/-- RX_PROFILE.RANGE_18 -/
def Fld.rxProfile_range18 : Fld := ⟨0x0E, 593, 2, .F, 0, 0, 3⟩
/-- RX_PROFILE.END_18 -/
def Fld.rxProfile_end18 : Fld := ⟨0x0E, 607, 1, .F, 0, 0, 1⟩
/-- RX_PROFILE.START_19 -/
def Fld.rxProfile_start19 : Fld := ⟨0x0E, 608, 17, .F, 0, 0, 131071⟩
/-- RX_PROFILE.RANGE_19 -/
def Fld.rxProfile_range19 : Fld := ⟨0x0E, 625, 2, .F, 0, 0, 3⟩
/-- RX_PROFILE.END_19 -/
def Fld.rxProfile_end19 : Fld := ⟨0x0E, 639, 1, .F, 0, 0, 1⟩
/-- RX_PROFILE.START_20 -/
def Fld.rxProfile_start20 : Fld := ⟨0x0E, 640, 17, .F, 0, 0, 131071⟩
/-- RX_PROFILE.RANGE_20 -/
def Fld.rxProfile_range20 : Fld := ⟨0x0E, 657, 2, .F, 0, 0, 3⟩
/-- RX_PROFILE.END_20 -/
def Fld.rxProfile_end20 : Fld := ⟨0x0E, 671, 1, .F, 0, 0, 1⟩
/-- RX_PROFILE.START_21 -/
def Fld.rxProfile_start21 : Fld := ⟨0x0E, 672, 17, .F, 0, 0, 131071⟩
/-- RX_PROFILE.RANGE_21 -/
def Fld.rxProfile_range21 : Fld := ⟨0x0E, 689, 2, .F, 0, 0, 3⟩
/-- RX_PROFILE.END_21 -/
def Fld.rxProfile_end21 : Fld := ⟨0x0E, 703, 1, .F, 0, 0, 1⟩
/-- RX_PROFILE.START_22 -/
def Fld.rxProfile_start22 : Fld := ⟨0x0E, 704, 17, .F, 0, 0, 131071⟩
/-- RX_PROFILE.RANGE_22 -/
def Fld.rxProfile_range22 : Fld := ⟨0x0E, 721, 2, .F, 0, 0, 3⟩
/-- RX_PROFILE.END_22 -/
def Fld.rxProfile_end22 : Fld := ⟨0x0E, 735, 1, .F, 0, 0, 1⟩
/-- RX_PROFILE.START_23 -/
def Fld.rxProfile_start23 : Fld := ⟨0x0E, 736, 17, .F, 0, 0, 131071⟩
/-- RX_PROFILE.RANGE_23 -/
def Fld.rxProfile_range23 : Fld := ⟨0x0E, 753, 2, .F, 0, 0, 3⟩
/-- RX_PROFILE.END_23 -/
def Fld.rxProfile_end23 : Fld := ⟨0x0E, 767, 1, .F, 0, 0, 1⟩
/-- RX_PROFILE.START_24 -/
def Fld.rxProfile_start24 : Fld := ⟨0x0E, 768, 17, .F, 0, 0, 131071⟩
/-- RX_PROFILE.RANGE_24 -/
def Fld.rxProfile_range24 : Fld := ⟨0x0E, 785, 2, .F, 0, 0, 3⟩
/-- RX_PROFILE.END_24 -/
def Fld.rxProfile_end24 : Fld := ⟨0x0E, 799, 1, .F, 0, 0, 1⟩
/-- RX_PROFILE.START_25 -/
def Fld.rxProfile_start25 : Fld := ⟨0x0E, 800, 17, .F, 0, 0, 131071⟩
/-- RX_PROFILE.RANGE_25 -/
def Fld.rxProfile_range25 : Fld := ⟨0x0E, 817, 2, .F, 0, 0, 3⟩
/-- RX_PROFILE.END_25 -/
def Fld.rxProfile_end25 : Fld := ⟨0x0E, 831, 1, .F, 0, 0, 1⟩
/-- RX_PROFILE.START_26 -/
def Fld.rxProfile_start26 : Fld := ⟨0x0E, 832, 17, .F, 0, 0, 131071⟩
/-- RX_PROFILE.RANGE_26 -/
def Fld.rxProfile_range26 : Fld := ⟨0x0E, 849, 2, .F, 0, 0, 3⟩
/-- RX_PROFILE.END_26 -/
def Fld.rxProfile_end26 : Fld := ⟨0x0E, 863, 1, .F, 0, 0, 1⟩
/-- RX_PROFILE.START_27 -/
def Fld.rxProfile_start27 : Fld := ⟨0x0E, 864, 17, .F, 0, 0, 131071⟩
/-- RX_PROFILE.RANGE_27 -/
def Fld.rxProfile_range27 : Fld := ⟨0x0E, 881, 2, .F, 0, 0, 3⟩
/-- RX_PROFILE.END_27 -/
def Fld.rxProfile_end27 : Fld := ⟨0x0E, 895, 1, .F, 0, 0, 1⟩
/-- RX_PROFILE.START_28 -/
def Fld.rxProfile_start28 : Fld := ⟨0x0E, 896, 17, .F, 0, 0, 131071⟩
/-- RX_PROFILE.RANGE_28 -/
def Fld.rxProfile_range28 : Fld := ⟨0x0E, 913, 2, .F, 0, 0, 3⟩
/-- RX_PROFILE.END_28 -/
def Fld.rxProfile_end28 : Fld := ⟨0x0E, 927, 1, .F, 0, 0, 1⟩
/-- RX_PROFILE.START_29 -/
def Fld.rxProfile_start29 : Fld := ⟨0x0E, 928, 17, .F, 0, 0, 131071⟩
/-- RX_PROFILE.RANGE_29 -/
def Fld.rxProfile_range29 : Fld := ⟨0x0E, 945, 2, .F, 0, 0, 3⟩
/-- RX_PROFILE.END_29 -/
def Fld.rxProfile_end29 : Fld := ⟨0x0E, 959, 1, .F, 0, 0, 1⟩
/-- RX_PROFILE.START_30 -/
def Fld.rxProfile_start30 : Fld := ⟨0x0E, 960, 17, .F, 0, 0, 131071⟩
/-- RX_PROFILE.RANGE_30 -/
def Fld.rxProfile_range30 : Fld := ⟨0x0E, 977, 2, .F, 0, 0, 3⟩
/-- RX_PROFILE.END_30 -/
def Fld.rxProfile_end30 : Fld := ⟨0x0E, 991, 1, .F, 0, 0, 1⟩
/-- RX_PROFILE.START_31 -/
def Fld.rxProfile_start31 : Fld := ⟨0x0E, 992, 17, .F, 0, 0, 131071⟩
/-- RX_PROFILE.RANGE_31 -/
def Fld.rxProfile_range31 : Fld := ⟨0x0E, 1009, 2, .F, 0, 0, 3⟩
/-- RX_PROFILE.END_31 -/
def Fld.rxProfile_end31 : Fld := ⟨0x0E, 1023, 1, .F, 0, 0, 1⟩

/-! RX_STATS (block 0x0010, R152). -/

/-- RX_STATS.CLIP_X -/
def Ctr.rxStats_clipX : Ctr := ⟨0x10, 0, 32⟩
/-- RX_STATS.CLIP_Y -/
def Ctr.rxStats_clipY : Ctr := ⟨0x10, 1, 32⟩
/-- RX_STATS.OVLD -/
def Ctr.rxStats_ovld : Ctr := ⟨0x10, 2, 16⟩
/-- RX_STATS.RANGE_SWITCHES -/
def Ctr.rxStats_rangeSwitches : Ctr := ⟨0x10, 3, 32⟩
/-- RX_STATS.MACE_SAT -/
def Ctr.rxStats_maceSat : Ctr := ⟨0x10, 4, 32⟩
/-- RX_STATS.PAIR_CHECKS -/
def Ctr.rxStats_pairChecks : Ctr := ⟨0x10, 5, 32⟩
/-- RX_STATS.PAIR_FAIL -/
def Ctr.rxStats_pairFail : Ctr := ⟨0x10, 6, 16⟩
/-- RX_STATS.PAIR_SKIPPED -/
def Ctr.rxStats_pairSkipped : Ctr := ⟨0x10, 7, 16⟩

/-! GAUGE_CFG (block 0x0011, R153-R161). -/

/-- GAUGE_CFG.GAUGE_LEN -/
def Fld.gaugeCfg_gaugeLen : Fld := ⟨0x11, 0, 7, .L, 4, 2, 64⟩
/-- GAUGE_CFG.PITCH -/
def Fld.gaugeCfg_pitch : Fld := ⟨0x11, 7, 7, .L, 2, 1, 64⟩
/-- GAUGE_CFG.FADE_LOGAMP -/
def Fld.gaugeCfg_fadeLogamp : Fld := ⟨0x11, 14, 4, .I, 4, 0, 14⟩
/-- GAUGE_CFG.FADE_HOLD -/
def Fld.gaugeCfg_fadeHold : Fld := ⟨0x11, 18, 1, .I, 1, 0, 1⟩
/-- GAUGE_CFG.ALIGN_SHIFT -/
def Fld.gaugeCfg_alignShift : Fld := ⟨0x11, 19, 4, .F, 10, 4, 14⟩
/-- GAUGE_CFG.XI -/
def Fld.gaugeCfg_xi : Fld := ⟨0x11, 32, 16, .I, 780, 500, 1000⟩
/-- GAUGE_CFG.KT -/
def Fld.gaugeCfg_kt : Fld := ⟨0x11, 48, 16, .I, 7350, 1000, 20000⟩

/-! GAUGE_STATS (block 0x0013, R169). -/

/-- GAUGE_STATS.SAMPLES -/
def Ctr.gaugeStats_samples : Ctr := ⟨0x13, 0, 32⟩
/-- GAUGE_STATS.HELD -/
def Ctr.gaugeStats_held : Ctr := ⟨0x13, 1, 32⟩
/-- GAUGE_STATS.FADED -/
def Ctr.gaugeStats_faded : Ctr := ⟨0x13, 2, 32⟩
/-- GAUGE_STATS.BLANKED -/
def Ctr.gaugeStats_blanked : Ctr := ⟨0x13, 3, 32⟩
/-- GAUGE_STATS.TRANSIT -/
def Ctr.gaugeStats_transit : Ctr := ⟨0x13, 4, 32⟩
/-- GAUGE_STATS.CLIPPED -/
def Ctr.gaugeStats_clipped : Ctr := ⟨0x13, 5, 32⟩
/-- GAUGE_STATS.GAP -/
def Ctr.gaugeStats_gap : Ctr := ⟨0x13, 6, 32⟩
/-- GAUGE_STATS.ALIGN_RESTARTS -/
def Ctr.gaugeStats_alignRestarts : Ctr := ⟨0x13, 7, 16⟩

/-! RAMAN_CFG (block 0x0014, R177-R191). -/

/-- RAMAN_CFG.ACC_TIME -/
def Fld.ramanCfg_accTime : Fld := ⟨0x14, 0, 12, .L, 60, 1, 3600⟩
/-- RAMAN_CFG.BIN_STEP -/
def Fld.ramanCfg_binStep : Fld := ⟨0x14, 12, 2, .L, 0, 0, 3⟩
/-- RAMAN_CFG.SUMS -/
def Fld.ramanCfg_sums : Fld := ⟨0x14, 14, 1, .L, 0, 0, 1⟩

/-! RTD_CFG (block 0x0015, R183-R184). -/

/-- RTD_CFG.EN -/
def Fld.rtdCfg_en : Fld := ⟨0x15, 0, 1, .L, 1, 0, 1⟩
/-- RTD_CFG.CURRENT -/
def Fld.rtdCfg_current : Fld := ⟨0x15, 1, 1, .L, 0, 0, 1⟩
/-- RTD_CFG.PULSE -/
def Fld.rtdCfg_pulse : Fld := ⟨0x15, 2, 5, .L, 10, 2, 20⟩
/-- RTD_CFG.PERIOD -/
def Fld.rtdCfg_period : Fld := ⟨0x15, 7, 10, .L, 100, 10, 1000⟩
/-- RTD_CFG.DELAY -/
def Fld.rtdCfg_delay : Fld := ⟨0x15, 17, 5, .L, 4, 1, 30⟩

/-! RAMAN_STATS (block 0x0017, R194). -/

/-- RAMAN_STATS.WINDOWS -/
def Ctr.ramanStats_windows : Ctr := ⟨0x17, 0, 32⟩
/-- RAMAN_STATS.DROPPED -/
def Ctr.ramanStats_dropped : Ctr := ⟨0x17, 1, 16⟩
/-- RAMAN_STATS.SAT_SAMPLES -/
def Ctr.ramanStats_satSamples : Ctr := ⟨0x17, 2, 32⟩
/-- RAMAN_STATS.PROFILES -/
def Ctr.ramanStats_profiles : Ctr := ⟨0x17, 3, 32⟩
/-- RAMAN_STATS.LOW_COUNT -/
def Ctr.ramanStats_lowCount : Ctr := ⟨0x17, 4, 16⟩
/-- RAMAN_STATS.EMPTY -/
def Ctr.ramanStats_empty : Ctr := ⟨0x17, 5, 16⟩
/-- RAMAN_STATS.RTD_PULSES -/
def Ctr.ramanStats_rtdPulses : Ctr := ⟨0x17, 6, 32⟩
/-- RAMAN_STATS.RTD_BAD -/
def Ctr.ramanStats_rtdBad : Ctr := ⟨0x17, 7, 16⟩
/-- RAMAN_STATS.RTD_UNSETTLED -/
def Ctr.ramanStats_rtdUnsettled : Ctr := ⟨0x17, 8, 16⟩

/-! CLOVE_PORT (block 0x0018, R201-R216). -/

/-- CLOVE_PORT.BLOCK_GAUGES -/
def Fld.clovePort_blockGauges : Fld := ⟨0x18, 0, 3, .L, 3, 0, 4⟩
/-- CLOVE_PORT.BLOCK_SAMPLES -/
def Fld.clovePort_blockSamples : Fld := ⟨0x18, 3, 3, .L, 2, 0, 3⟩
/-- CLOVE_PORT.READY_BLOCKS -/
def Fld.clovePort_readyBlocks : Fld := ⟨0x18, 6, 6, .L, 4, 2, 32⟩
/-- CLOVE_PORT.PROGRAM -/
def Fld.clovePort_program : Fld := ⟨0x18, 12, 4, .L, 0, 0, 15⟩

/-! CLOVE_CLUSTER (block 0x0019, R207, R212). -/

/-- CLOVE_CLUSTER.CLOCK_MAX -/
def Fld.cloveCluster_clockMax : Fld := ⟨0x19, 0, 2, .I, 0, 0, 2⟩
/-- CLOVE_CLUSTER.TAKE_EN -/
def Fld.cloveCluster_takeEn : Fld := ⟨0x19, 2, 1, .I, 1, 0, 1⟩
/-- CLOVE_CLUSTER.LEND_EN -/
def Fld.cloveCluster_lendEn : Fld := ⟨0x19, 3, 1, .I, 1, 0, 1⟩
/-- CLOVE_CLUSTER.ENGINE_EN -/
def Fld.cloveCluster_engineEn : Fld := ⟨0x19, 4, 4, .I, 15, 0, 15⟩

/-! CLOVE_CFG (block 0x001A, R213). -/

/-- CLOVE_CFG.WATCHDOG -/
def Fld.cloveCfg_watchdog : Fld := ⟨0x1A, 0, 7, .I, 10, 1, 100⟩

/-! CLOVE_STATS (block 0x001C, R218). -/

/-- CLOVE_STATS.BLOCKS -/
def Ctr.cloveStats_blocks : Ctr := ⟨0x1C, 0, 32⟩
/-- CLOVE_STATS.REMOTE -/
def Ctr.cloveStats_remote : Ctr := ⟨0x1C, 1, 32⟩
/-- CLOVE_STATS.LATE -/
def Ctr.cloveStats_late : Ctr := ⟨0x1C, 2, 32⟩
/-- CLOVE_STATS.GAP_LATE -/
def Ctr.cloveStats_gapLate : Ctr := ⟨0x1C, 3, 16⟩
/-- CLOVE_STATS.GAP_FAULT -/
def Ctr.cloveStats_gapFault : Ctr := ⟨0x1C, 4, 16⟩
/-- CLOVE_STATS.GAP_QUEUE -/
def Ctr.cloveStats_gapQueue : Ctr := ⟨0x1C, 5, 16⟩
/-- CLOVE_STATS.GAP_NOENG -/
def Ctr.cloveStats_gapNoeng : Ctr := ⟨0x1C, 6, 16⟩
/-- CLOVE_STATS.DISCARDED -/
def Ctr.cloveStats_discarded : Ctr := ⟨0x1C, 7, 16⟩

/-! CLOVE_CLUSTER_STATS (block 0x001D, R218). -/

/-- CLOVE_CLUSTER_STATS.ENGINE_FAULTS -/
def Ctr.cloveClusterStats_engineFaults : Ctr := ⟨0x1D, 0, 16⟩
/-- CLOVE_CLUSTER_STATS.OFFLINE_EVENTS -/
def Ctr.cloveClusterStats_offlineEvents : Ctr := ⟨0x1D, 1, 16⟩
/-- CLOVE_CLUSTER_STATS.THROTTLE_CHANGES -/
def Ctr.cloveClusterStats_throttleChanges : Ctr := ⟨0x1D, 2, 16⟩

/-! ZONE (block 0x001E, R236). -/

/-- ZONE.EN -/
def Fld.zone_en : Fld := ⟨0x1E, 0, 1, .I, 0, 0, 1⟩
/-- ZONE.PORT -/
def Fld.zone_port : Fld := ⟨0x1E, 1, 3, .L, 0, 0, 7⟩
/-- ZONE.KIND -/
def Fld.zone_kind : Fld := ⟨0x1E, 4, 1, .L, 0, 0, 1⟩
/-- ZONE.DETECTOR -/
def Fld.zone_detector : Fld := ⟨0x1E, 5, 3, .F, 0, 0, 3⟩
/-- ZONE.METRIC -/
def Fld.zone_metric : Fld := ⟨0x1E, 8, 2, .F, 0, 0, 2⟩
/-- ZONE.FIRST_BIN -/
def Fld.zone_firstBin : Fld := ⟨0x1E, 32, 17, .L, 0, 0, 131071⟩
/-- ZONE.LAST_BIN -/
def Fld.zone_lastBin : Fld := ⟨0x1E, 64, 17, .L, 0, 0, 131071⟩
/-- ZONE.GAUGE_LEN -/
def Fld.zone_gaugeLen : Fld := ⟨0x1E, 96, 7, .L, 0, 0, 64⟩
/-- ZONE.PITCH -/
def Fld.zone_pitch : Fld := ⟨0x1E, 103, 7, .L, 0, 0, 64⟩
/-- ZONE.BAND_SET -/
def Fld.zone_bandSet : Fld := ⟨0x1E, 110, 5, .L, 0, 0, 31⟩
/-- ZONE.STAT_BANDS -/
def Fld.zone_statBands : Fld := ⟨0x1E, 115, 8, .F, 1, 1, 255⟩
/-- ZONE.TEMPLATE -/
def Fld.zone_template : Fld := ⟨0x1E, 123, 4, .F, 0, 0, 15⟩
/-- ZONE.ON -/
def Fld.zone_on : Fld := ⟨0x1E, 128, 16, .F, 0, 0, 65535⟩
/-- ZONE.OFF -/
def Fld.zone_off : Fld := ⟨0x1E, 144, 16, .F, 0, 0, 65535⟩
/-- ZONE.PERSIST_K -/
def Fld.zone_persistK : Fld := ⟨0x1E, 160, 8, .F, 1, 1, 64⟩
/-- ZONE.PERSIST_W -/
def Fld.zone_persistW : Fld := ⟨0x1E, 168, 8, .F, 1, 1, 64⟩
/-- ZONE.MIN_LEVEL -/
def Fld.zone_minLevel : Fld := ⟨0x1E, 176, 16, .F, 0, 0, 65535⟩
/-- ZONE.CONF_WIN -/
def Fld.zone_confWin : Fld := ⟨0x1E, 192, 12, .F, 8, 1, 4095⟩
/-- ZONE.PROV_WIN -/
def Fld.zone_provWin : Fld := ⟨0x1E, 204, 12, .F, 0, 0, 4095⟩
/-- ZONE.CLEAR_WIN -/
def Fld.zone_clearWin : Fld := ⟨0x1E, 216, 8, .F, 4, 1, 255⟩
/-- ZONE.BASE_SHIFT -/
def Fld.zone_baseShift : Fld := ⟨0x1E, 224, 4, .F, 8, 2, 15⟩
/-- ZONE.BASE_FREEZE -/
def Fld.zone_baseFreeze : Fld := ⟨0x1E, 228, 1, .I, 0, 0, 1⟩
/-- ZONE.GROUP_A -/
def Fld.zone_groupA : Fld := ⟨0x1E, 256, 6, .I, 0, 0, 63⟩
/-- ZONE.MEMBER_A -/
def Fld.zone_memberA : Fld := ⟨0x1E, 263, 1, .I, 0, 0, 1⟩
/-- ZONE.GROUP_B -/
def Fld.zone_groupB : Fld := ⟨0x1E, 264, 6, .I, 0, 0, 63⟩
/-- ZONE.MEMBER_B -/
def Fld.zone_memberB : Fld := ⟨0x1E, 271, 1, .I, 0, 0, 1⟩
/-- ZONE.GROUP_C -/
def Fld.zone_groupC : Fld := ⟨0x1E, 272, 6, .I, 0, 0, 63⟩
/-- ZONE.MEMBER_C -/
def Fld.zone_memberC : Fld := ⟨0x1E, 279, 1, .I, 0, 0, 1⟩
/-- ZONE.GROUP_D -/
def Fld.zone_groupD : Fld := ⟨0x1E, 280, 6, .I, 0, 0, 63⟩
/-- ZONE.MEMBER_D -/
def Fld.zone_memberD : Fld := ⟨0x1E, 287, 1, .I, 0, 0, 1⟩

/-! BAND_SET (block 0x001F, R242). -/

/-- BAND_SET.FFT -/
def Fld.bandSet_fft : Fld := ⟨0x1F, 0, 3, .L, 0, 0, 6⟩
/-- BAND_SET.BANDS -/
def Fld.bandSet_bands : Fld := ⟨0x1F, 3, 4, .L, 0, 0, 8⟩
/-- BAND_SET.LO_HZ_0 -/
def Fld.bandSet_loHz0 : Fld := ⟨0x1F, 32, 16, .L, 0, 0, 65535⟩
/-- BAND_SET.HI_HZ_0 -/
def Fld.bandSet_hiHz0 : Fld := ⟨0x1F, 48, 16, .L, 0, 0, 65535⟩
/-- BAND_SET.LO_HZ_1 -/
def Fld.bandSet_loHz1 : Fld := ⟨0x1F, 64, 16, .L, 0, 0, 65535⟩
/-- BAND_SET.HI_HZ_1 -/
def Fld.bandSet_hiHz1 : Fld := ⟨0x1F, 80, 16, .L, 0, 0, 65535⟩
/-- BAND_SET.LO_HZ_2 -/
def Fld.bandSet_loHz2 : Fld := ⟨0x1F, 96, 16, .L, 0, 0, 65535⟩
/-- BAND_SET.HI_HZ_2 -/
def Fld.bandSet_hiHz2 : Fld := ⟨0x1F, 112, 16, .L, 0, 0, 65535⟩
/-- BAND_SET.LO_HZ_3 -/
def Fld.bandSet_loHz3 : Fld := ⟨0x1F, 128, 16, .L, 0, 0, 65535⟩
/-- BAND_SET.HI_HZ_3 -/
def Fld.bandSet_hiHz3 : Fld := ⟨0x1F, 144, 16, .L, 0, 0, 65535⟩
/-- BAND_SET.LO_HZ_4 -/
def Fld.bandSet_loHz4 : Fld := ⟨0x1F, 160, 16, .L, 0, 0, 65535⟩
/-- BAND_SET.HI_HZ_4 -/
def Fld.bandSet_hiHz4 : Fld := ⟨0x1F, 176, 16, .L, 0, 0, 65535⟩
/-- BAND_SET.LO_HZ_5 -/
def Fld.bandSet_loHz5 : Fld := ⟨0x1F, 192, 16, .L, 0, 0, 65535⟩
/-- BAND_SET.HI_HZ_5 -/
def Fld.bandSet_hiHz5 : Fld := ⟨0x1F, 208, 16, .L, 0, 0, 65535⟩
/-- BAND_SET.LO_HZ_6 -/
def Fld.bandSet_loHz6 : Fld := ⟨0x1F, 224, 16, .L, 0, 0, 65535⟩
/-- BAND_SET.HI_HZ_6 -/
def Fld.bandSet_hiHz6 : Fld := ⟨0x1F, 240, 16, .L, 0, 0, 65535⟩
/-- BAND_SET.LO_HZ_7 -/
def Fld.bandSet_loHz7 : Fld := ⟨0x1F, 256, 16, .L, 0, 0, 65535⟩
/-- BAND_SET.HI_HZ_7 -/
def Fld.bandSet_hiHz7 : Fld := ⟨0x1F, 272, 16, .L, 0, 0, 65535⟩

/-! TEMPLATE (block 0x0020, R248). -/

/-- TEMPLATE.T_0 -/
def Fld.template_t0 : Fld := ⟨0x20, 0, 16, .L, 0, 0, 65535⟩
/-- TEMPLATE.T_1 -/
def Fld.template_t1 : Fld := ⟨0x20, 16, 16, .L, 0, 0, 65535⟩
/-- TEMPLATE.T_2 -/
def Fld.template_t2 : Fld := ⟨0x20, 32, 16, .L, 0, 0, 65535⟩
/-- TEMPLATE.T_3 -/
def Fld.template_t3 : Fld := ⟨0x20, 48, 16, .L, 0, 0, 65535⟩
/-- TEMPLATE.T_4 -/
def Fld.template_t4 : Fld := ⟨0x20, 64, 16, .L, 0, 0, 65535⟩
/-- TEMPLATE.T_5 -/
def Fld.template_t5 : Fld := ⟨0x20, 80, 16, .L, 0, 0, 65535⟩
/-- TEMPLATE.T_6 -/
def Fld.template_t6 : Fld := ⟨0x20, 96, 16, .L, 0, 0, 65535⟩
/-- TEMPLATE.T_7 -/
def Fld.template_t7 : Fld := ⟨0x20, 112, 16, .L, 0, 0, 65535⟩

/-! SKEW (block 0x0021, R257, R360). -/

/-- SKEW.PORT_SKEW -/
def Fld.skew_portSkew : Fld := ⟨0x21, 0, 16, .I, 0, 0, 65535⟩
/-- SKEW.POL_SKEW_X -/
def Fld.skew_polSkewX : Fld := ⟨0x21, 16, 16, .I, 0, 0, 65535⟩
/-- SKEW.POL_SKEW_Y -/
def Fld.skew_polSkewY : Fld := ⟨0x21, 32, 16, .I, 0, 0, 65535⟩
/-- SKEW.SLOT_SKEW_S0 -/
def Fld.skew_slotSkewS0 : Fld := ⟨0x21, 64, 16, .I, 0, 0, 65535⟩
/-- SKEW.SLOT_SKEW_S1 -/
def Fld.skew_slotSkewS1 : Fld := ⟨0x21, 80, 16, .I, 0, 0, 65535⟩
/-- SKEW.SLOT_SKEW_S2 -/
def Fld.skew_slotSkewS2 : Fld := ⟨0x21, 96, 16, .I, 0, 0, 65535⟩
/-- SKEW.SLOT_SKEW_S3 -/
def Fld.skew_slotSkewS3 : Fld := ⟨0x21, 112, 16, .I, 0, 0, 65535⟩

/-! GROUP (block 0x0022, R258). -/

/-- GROUP.LOOP -/
def Fld.group_loop : Fld := ⟨0x22, 0, 3, .L, 0, 0, 7⟩
/-- GROUP.LOOP_EN -/
def Fld.group_loopEn : Fld := ⟨0x22, 3, 1, .L, 0, 0, 1⟩
/-- GROUP.ALARM -/
def Fld.group_alarm : Fld := ⟨0x22, 4, 3, .L, 0, 0, 7⟩
/-- GROUP.ALARM_EN -/
def Fld.group_alarmEn : Fld := ⟨0x22, 7, 1, .L, 0, 0, 1⟩
/-- GROUP.LATCH -/
def Fld.group_latch : Fld := ⟨0x22, 8, 1, .I, 0, 0, 1⟩
/-- GROUP.SNAP -/
def Fld.group_snap : Fld := ⟨0x22, 9, 1, .I, 0, 0, 1⟩
/-- GROUP.SNAP_SPEC -/
def Fld.group_snapSpec : Fld := ⟨0x22, 10, 1, .I, 0, 0, 1⟩
/-- GROUP.SUMMARY -/
def Fld.group_summary : Fld := ⟨0x22, 11, 1, .I, 0, 0, 1⟩
/-- GROUP.SRC -/
def Fld.group_src : Fld := ⟨0x22, 12, 1, .I, 0, 0, 1⟩
/-- GROUP.LO -/
def Fld.group_lo : Fld := ⟨0x22, 32, 16, .I, 0, 0, 65535⟩
/-- GROUP.HI -/
def Fld.group_hi : Fld := ⟨0x22, 48, 16, .I, 0, 0, 65535⟩

/-! DETECT_STATS (block 0x0024, R261). -/

/-- DETECT_STATS.SAMPLES -/
def Ctr.detectStats_samples : Ctr := ⟨0x24, 0, 32⟩
/-- DETECT_STATS.INVALID -/
def Ctr.detectStats_invalid : Ctr := ⟨0x24, 1, 32⟩
/-- DETECT_STATS.PROVISIONAL -/
def Ctr.detectStats_provisional : Ctr := ⟨0x24, 2, 32⟩
/-- DETECT_STATS.CONFIRMED -/
def Ctr.detectStats_confirmed : Ctr := ⟨0x24, 3, 32⟩
/-- DETECT_STATS.RETRACTED -/
def Ctr.detectStats_retracted : Ctr := ⟨0x24, 4, 32⟩
/-- DETECT_STATS.ENDED -/
def Ctr.detectStats_ended : Ctr := ⟨0x24, 5, 32⟩
/-- DETECT_STATS.SPEC_DISCARDED -/
def Ctr.detectStats_specDiscarded : Ctr := ⟨0x24, 6, 16⟩
/-- DETECT_STATS.EDGE -/
def Ctr.detectStats_edge : Ctr := ⟨0x24, 7, 16⟩

/-! STREAM (block 0x0025, R262). -/

/-- STREAM.EN -/
def Fld.stream_en : Fld := ⟨0x25, 0, 1, .I, 0, 0, 1⟩
/-- STREAM.CLASS -/
def Fld.stream_class : Fld := ⟨0x25, 1, 4, .L, 0, 1, 8⟩
/-- STREAM.SOURCE -/
def Fld.stream_source : Fld := ⟨0x25, 5, 6, .L, 0, 0, 63⟩
/-- STREAM.CODEC -/
def Fld.stream_codec : Fld := ⟨0x25, 11, 1, .L, 0, 0, 1⟩
/-- STREAM.BAND_SET -/
def Fld.stream_bandSet : Fld := ⟨0x25, 12, 5, .L, 0, 0, 31⟩
/-- STREAM.SHARE -/
def Fld.stream_share : Fld := ⟨0x25, 32, 16, .L, 0, 0, 32767⟩

/-! RING (block 0x0026, R282). -/

/-- RING.RAW_MIB -/
def Fld.ring_rawMib : Fld := ⟨0x26, 0, 16, .L, 0, 0, 32767⟩
/-- RING.PHASE_MIB -/
def Fld.ring_phaseMib : Fld := ⟨0x26, 16, 16, .L, 0, 0, 32767⟩
/-- RING.BAND_MIB -/
def Fld.ring_bandMib : Fld := ⟨0x26, 32, 16, .L, 0, 0, 32767⟩
/-- RING.BAND_SET -/
def Fld.ring_bandSet : Fld := ⟨0x26, 48, 5, .L, 0, 0, 31⟩

/-! SNAP_CFG (block 0x0027, R285). -/

/-- SNAP_CFG.CONTENT -/
def Fld.snapCfg_content : Fld := ⟨0x27, 0, 3, .L, 0, 0, 7⟩
/-- SNAP_CFG.PORTS -/
def Fld.snapCfg_ports : Fld := ⟨0x27, 3, 8, .L, 0, 0, 255⟩
/-- SNAP_CFG.AUTO_EN -/
def Fld.snapCfg_autoEn : Fld := ⟨0x27, 11, 1, .I, 0, 0, 1⟩
/-- SNAP_CFG.HOLDOFF_MODE -/
def Fld.snapCfg_holdoffMode : Fld := ⟨0x27, 12, 2, .I, 0, 0, 2⟩
/-- SNAP_CFG.PRE_MS -/
def Fld.snapCfg_preMs : Fld := ⟨0x27, 32, 16, .L, 1000, 0, 60000⟩
/-- SNAP_CFG.POST_MS -/
def Fld.snapCfg_postMs : Fld := ⟨0x27, 48, 16, .L, 1000, 0, 60000⟩
/-- SNAP_CFG.AUTO_TIMEOUT -/
def Fld.snapCfg_autoTimeout : Fld := ⟨0x27, 64, 16, .I, 60, 1, 65535⟩
/-- SNAP_CFG.HOLDOFF -/
def Fld.snapCfg_holdoff : Fld := ⟨0x27, 80, 16, .I, 1, 1, 65535⟩

/-! MASK (block 0x0028, R292). -/

/-- MASK.EN -/
def Fld.mask_en : Fld := ⟨0x28, 0, 1, .I, 0, 0, 1⟩
/-- MASK.ACTION -/
def Fld.mask_action : Fld := ⟨0x28, 1, 1, .L, 0, 0, 1⟩
/-- MASK.AVG -/
def Fld.mask_avg : Fld := ⟨0x28, 2, 3, .L, 4, 0, 5⟩
/-- MASK.STRIDE -/
def Fld.mask_stride : Fld := ⟨0x28, 5, 5, .L, 8, 1, 31⟩
/-- MASK.SMOOTH -/
def Fld.mask_smooth : Fld := ⟨0x28, 10, 4, .L, 5, 0, 8⟩
/-- MASK.MIN_BINS -/
def Fld.mask_minBins : Fld := ⟨0x28, 14, 8, .L, 4, 1, 255⟩
/-- MASK.FIRST_BIN -/
def Fld.mask_firstBin : Fld := ⟨0x28, 32, 17, .L, 0, 0, 131071⟩
/-- MASK.LAST_BIN -/
def Fld.mask_lastBin : Fld := ⟨0x28, 64, 17, .L, 0, 0, 131071⟩

/-! CAPTURE_STATS (block 0x002A, R297). -/

/-- CAPTURE_STATS.SNAPSHOTS -/
def Ctr.captureStats_snapshots : Ctr := ⟨0x2A, 0, 32⟩
/-- CAPTURE_STATS.FORCED -/
def Ctr.captureStats_forced : Ctr := ⟨0x2A, 1, 16⟩
/-- CAPTURE_STATS.SUPPRESSED -/
def Ctr.captureStats_suppressed : Ctr := ⟨0x2A, 2, 32⟩
/-- CAPTURE_STATS.SNAP_LOST -/
def Ctr.captureStats_snapLost : Ctr := ⟨0x2A, 3, 16⟩
/-- CAPTURE_STATS.TRUNCATED -/
def Ctr.captureStats_truncated : Ctr := ⟨0x2A, 4, 16⟩
/-- CAPTURE_STATS.OVERFLOWS -/
def Ctr.captureStats_overflows : Ctr := ⟨0x2A, 5, 16⟩
/-- CAPTURE_STATS.MASK_STOPS -/
def Ctr.captureStats_maskStops : Ctr := ⟨0x2A, 6, 16⟩

/-! STREAM_STATS (block 0x002B, R297). -/

/-- STREAM_STATS.RECORDS -/
def Ctr.streamStats_records : Ctr := ⟨0x2B, 0, 32⟩
/-- STREAM_STATS.DROPPED -/
def Ctr.streamStats_dropped : Ctr := ⟨0x2B, 1, 32⟩
/-- STREAM_STATS.GAP_MARKS -/
def Ctr.streamStats_gapMarks : Ctr := ⟨0x2B, 2, 16⟩
/-- STREAM_STATS.PEAK_SPILL -/
def Ctr.streamStats_peakSpill : Ctr := ⟨0x2B, 3, 16⟩

/-! CAPMEM_CFG (block 0x002C, R360). -/

/-- CAPMEM_CFG.RATE -/
def Fld.capmemCfg_rate : Fld := ⟨0x2C, 0, 2, .L, 2, 0, 2⟩

/-! CODEC_STATS (block 0x002D, R313). -/

/-- CODEC_STATS.STREAM_JOBS -/
def Ctr.codecStats_streamJobs : Ctr := ⟨0x2D, 0, 32⟩
/-- CODEC_STATS.STORED_BLOCKS -/
def Ctr.codecStats_storedBlocks : Ctr := ⟨0x2D, 1, 32⟩
/-- CODEC_STATS.BLOCK_JOBS -/
def Ctr.codecStats_blockJobs : Ctr := ⟨0x2D, 2, 32⟩
/-- CODEC_STATS.NOT_SMALLER -/
def Ctr.codecStats_notSmaller : Ctr := ⟨0x2D, 3, 16⟩
/-- CODEC_STATS.CHAIN_EXHAUSTED -/
def Ctr.codecStats_chainExhausted : Ctr := ⟨0x2D, 4, 16⟩
/-- CODEC_STATS.EXPANSION_LIMIT -/
def Ctr.codecStats_expansionLimit : Ctr := ⟨0x2D, 5, 16⟩
/-- CODEC_STATS.BAD_DATA -/
def Ctr.codecStats_badData : Ctr := ⟨0x2D, 6, 16⟩

/-! LINK_CFG (block 0x002E, R339). -/

/-- LINK_CFG.EN -/
def Fld.linkCfg_en : Fld := ⟨0x2E, 0, 1, .I, 1, 0, 1⟩
/-- LINK_CFG.RATE -/
def Fld.linkCfg_rate : Fld := ⟨0x2E, 1, 1, .L, 1, 0, 1⟩
/-- LINK_CFG.WIDTH -/
def Fld.linkCfg_width : Fld := ⟨0x2E, 2, 2, .L, 3, 0, 3⟩
/-- LINK_CFG.MIN_WIDTH -/
def Fld.linkCfg_minWidth : Fld := ⟨0x2E, 4, 2, .L, 0, 0, 3⟩
/-- LINK_CFG.RETRIES -/
def Fld.linkCfg_retries : Fld := ⟨0x2E, 6, 4, .L, 8, 1, 15⟩
/-- LINK_CFG.QUIET_EN -/
def Fld.linkCfg_quietEn : Fld := ⟨0x2E, 32, 1, .I, 0, 0, 1⟩
/-- LINK_CFG.SLEEP_EN -/
def Fld.linkCfg_sleepEn : Fld := ⟨0x2E, 33, 1, .I, 0, 0, 1⟩
/-- LINK_CFG.QUIET_IDLE -/
def Fld.linkCfg_quietIdle : Fld := ⟨0x2E, 34, 8, .I, 10, 1, 255⟩
/-- LINK_CFG.SLEEP_IDLE -/
def Fld.linkCfg_sleepIdle : Fld := ⟨0x2E, 42, 8, .I, 10, 1, 255⟩

/-! LINK_STATS (block 0x0030, R340). -/

/-- LINK_STATS.BIP_ERR_0 -/
def Ctr.linkStats_bipErr0 : Ctr := ⟨0x30, 0, 32⟩
/-- LINK_STATS.BIP_ERR_1 -/
def Ctr.linkStats_bipErr1 : Ctr := ⟨0x30, 1, 32⟩
/-- LINK_STATS.BIP_ERR_2 -/
def Ctr.linkStats_bipErr2 : Ctr := ⟨0x30, 2, 32⟩
/-- LINK_STATS.BIP_ERR_3 -/
def Ctr.linkStats_bipErr3 : Ctr := ⟨0x30, 3, 32⟩
/-- LINK_STATS.BIP_ERR_4 -/
def Ctr.linkStats_bipErr4 : Ctr := ⟨0x30, 4, 32⟩
/-- LINK_STATS.BIP_ERR_5 -/
def Ctr.linkStats_bipErr5 : Ctr := ⟨0x30, 5, 32⟩
/-- LINK_STATS.BIP_ERR_6 -/
def Ctr.linkStats_bipErr6 : Ctr := ⟨0x30, 6, 32⟩
/-- LINK_STATS.BIP_ERR_7 -/
def Ctr.linkStats_bipErr7 : Ctr := ⟨0x30, 7, 32⟩
/-- LINK_STATS.BAD_SYNC_0 -/
def Ctr.linkStats_badSync0 : Ctr := ⟨0x30, 8, 32⟩
/-- LINK_STATS.BAD_SYNC_1 -/
def Ctr.linkStats_badSync1 : Ctr := ⟨0x30, 9, 32⟩
/-- LINK_STATS.BAD_SYNC_2 -/
def Ctr.linkStats_badSync2 : Ctr := ⟨0x30, 10, 32⟩
/-- LINK_STATS.BAD_SYNC_3 -/
def Ctr.linkStats_badSync3 : Ctr := ⟨0x30, 11, 32⟩
/-- LINK_STATS.BAD_SYNC_4 -/
def Ctr.linkStats_badSync4 : Ctr := ⟨0x30, 12, 32⟩
/-- LINK_STATS.BAD_SYNC_5 -/
def Ctr.linkStats_badSync5 : Ctr := ⟨0x30, 13, 32⟩
/-- LINK_STATS.BAD_SYNC_6 -/
def Ctr.linkStats_badSync6 : Ctr := ⟨0x30, 14, 32⟩
/-- LINK_STATS.BAD_SYNC_7 -/
def Ctr.linkStats_badSync7 : Ctr := ⟨0x30, 15, 32⟩
/-- LINK_STATS.LOCK_LOSS_0 -/
def Ctr.linkStats_lockLoss0 : Ctr := ⟨0x30, 16, 16⟩
/-- LINK_STATS.LOCK_LOSS_1 -/
def Ctr.linkStats_lockLoss1 : Ctr := ⟨0x30, 17, 16⟩
/-- LINK_STATS.LOCK_LOSS_2 -/
def Ctr.linkStats_lockLoss2 : Ctr := ⟨0x30, 18, 16⟩
/-- LINK_STATS.LOCK_LOSS_3 -/
def Ctr.linkStats_lockLoss3 : Ctr := ⟨0x30, 19, 16⟩
/-- LINK_STATS.LOCK_LOSS_4 -/
def Ctr.linkStats_lockLoss4 : Ctr := ⟨0x30, 20, 16⟩
/-- LINK_STATS.LOCK_LOSS_5 -/
def Ctr.linkStats_lockLoss5 : Ctr := ⟨0x30, 21, 16⟩
/-- LINK_STATS.LOCK_LOSS_6 -/
def Ctr.linkStats_lockLoss6 : Ctr := ⟨0x30, 22, 16⟩
/-- LINK_STATS.LOCK_LOSS_7 -/
def Ctr.linkStats_lockLoss7 : Ctr := ⟨0x30, 23, 16⟩
/-- LINK_STATS.PRBS_ERR_0 -/
def Ctr.linkStats_prbsErr0 : Ctr := ⟨0x30, 24, 32⟩
/-- LINK_STATS.PRBS_ERR_1 -/
def Ctr.linkStats_prbsErr1 : Ctr := ⟨0x30, 25, 32⟩
/-- LINK_STATS.PRBS_ERR_2 -/
def Ctr.linkStats_prbsErr2 : Ctr := ⟨0x30, 26, 32⟩
/-- LINK_STATS.PRBS_ERR_3 -/
def Ctr.linkStats_prbsErr3 : Ctr := ⟨0x30, 27, 32⟩
/-- LINK_STATS.PRBS_ERR_4 -/
def Ctr.linkStats_prbsErr4 : Ctr := ⟨0x30, 28, 32⟩
/-- LINK_STATS.PRBS_ERR_5 -/
def Ctr.linkStats_prbsErr5 : Ctr := ⟨0x30, 29, 32⟩
/-- LINK_STATS.PRBS_ERR_6 -/
def Ctr.linkStats_prbsErr6 : Ctr := ⟨0x30, 30, 32⟩
/-- LINK_STATS.PRBS_ERR_7 -/
def Ctr.linkStats_prbsErr7 : Ctr := ⟨0x30, 31, 32⟩
/-- LINK_STATS.BRINGUPS -/
def Ctr.linkStats_bringups : Ctr := ⟨0x30, 32, 16⟩
/-- LINK_STATS.FAILURES -/
def Ctr.linkStats_failures : Ctr := ⟨0x30, 33, 16⟩
/-- LINK_STATS.CRC_ERR -/
def Ctr.linkStats_crcErr : Ctr := ⟨0x30, 34, 32⟩
/-- LINK_STATS.BAD_BLOCK -/
def Ctr.linkStats_badBlock : Ctr := ⟨0x30, 35, 32⟩
/-- LINK_STATS.RX_DISCARD -/
def Ctr.linkStats_rxDiscard : Ctr := ⟨0x30, 36, 16⟩
/-- LINK_STATS.CREDIT_STALE -/
def Ctr.linkStats_creditStale : Ctr := ⟨0x30, 37, 16⟩
/-- LINK_STATS.CREDIT_BAD -/
def Ctr.linkStats_creditBad : Ctr := ⟨0x30, 38, 16⟩
/-- LINK_STATS.FRAMES_TX -/
def Ctr.linkStats_framesTx : Ctr := ⟨0x30, 39, 32⟩
/-- LINK_STATS.FRAMES_RX -/
def Ctr.linkStats_framesRx : Ctr := ⟨0x30, 40, 32⟩
/-- LINK_STATS.QUIET_ENTRIES -/
def Ctr.linkStats_quietEntries : Ctr := ⟨0x30, 41, 16⟩
/-- LINK_STATS.SLEEP_ENTRIES -/
def Ctr.linkStats_sleepEntries : Ctr := ⟨0x30, 42, 16⟩

/-! MBOX_STATS (block 0x0031, R360). -/

/-- MBOX_STATS.DOORBELLS -/
def Ctr.mboxStats_doorbells : Ctr := ⟨0x31, 0, 32⟩
/-- MBOX_STATS.LOST_DOORBELL -/
def Ctr.mboxStats_lostDoorbell : Ctr := ⟨0x31, 1, 16⟩
/-- MBOX_STATS.TAG_CLASH -/
def Ctr.mboxStats_tagClash : Ctr := ⟨0x31, 2, 16⟩
/-- MBOX_STATS.TIMEOUTS -/
def Ctr.mboxStats_timeouts : Ctr := ⟨0x31, 3, 16⟩
/-- MBOX_STATS.EVENTS_LOST -/
def Ctr.mboxStats_eventsLost : Ctr := ⟨0x31, 4, 16⟩

/-! TIME_CFG (block 0x0040, R373-R377). -/

/-- TIME_CFG.REF_SRC -/
def Fld.timeCfg_refSrc : Fld := ⟨0x40, 0, 2, .L, 0, 0, 1⟩
/-- TIME_CFG.OCXO_USE -/
def Fld.timeCfg_ocxoUse : Fld := ⟨0x40, 2, 1, .L, 1, 0, 1⟩
/-- TIME_CFG.PPS_EN -/
def Fld.timeCfg_ppsEn : Fld := ⟨0x40, 3, 1, .I, 1, 0, 1⟩
/-- TIME_CFG.PPS_OUT_EN -/
def Fld.timeCfg_ppsOutEn : Fld := ⟨0x40, 4, 1, .I, 1, 0, 1⟩
/-- TIME_CFG.PPS_ALIGN -/
def Fld.timeCfg_ppsAlign : Fld := ⟨0x40, 5, 1, .L, 0, 0, 1⟩
/-- TIME_CFG.LOAD_ARM -/
def Fld.timeCfg_loadArm : Fld := ⟨0x40, 6, 1, .L, 0, 0, 1⟩
/-- TIME_CFG.PPS_TOL -/
def Fld.timeCfg_ppsTol : Fld := ⟨0x40, 8, 8, .I, 100, 1, 255⟩
/-- TIME_CFG.LOAD_SEC -/
def Fld.timeCfg_loadSec : Fld := ⟨0x40, 32, 64, .L, 0, 0, 18446744072⟩

/-! SITE_CFG (block 0x0041, R379-R380). -/

/-- SITE_CFG.IN_DELAY -/
def Fld.siteCfg_inDelay : Fld := ⟨0x41, 0, 16, .L, 0, 0, 65535⟩
/-- SITE_CFG.ROLE -/
def Fld.siteCfg_role : Fld := ⟨0x41, 16, 2, .L, 0, 0, 2⟩
/-- SITE_CFG.SYNC_OUT_EN -/
def Fld.siteCfg_syncOutEn : Fld := ⟨0x41, 18, 1, .I, 0, 0, 1⟩

/-! TIME_STATS (block 0x0044, R390). -/

/-- TIME_STATS.REF_LOSSES -/
def Ctr.timeStats_refLosses : Ctr := ⟨0x44, 0, 16⟩
/-- TIME_STATS.PPS_REJECTED -/
def Ctr.timeStats_ppsRejected : Ctr := ⟨0x44, 1, 16⟩
/-- TIME_STATS.PPS_MISSING -/
def Ctr.timeStats_ppsMissing : Ctr := ⟨0x44, 2, 16⟩
/-- TIME_STATS.SYNC_CRC_ERR -/
def Ctr.timeStats_syncCrcErr : Ctr := ⟨0x44, 3, 16⟩
/-- TIME_STATS.SYNC_LOSSES -/
def Ctr.timeStats_syncLosses : Ctr := ⟨0x44, 4, 16⟩
/-- TIME_STATS.TI_STARTS -/
def Ctr.timeStats_tiStarts : Ctr := ⟨0x44, 5, 32⟩
/-- TIME_STATS.TI_STAMPS -/
def Ctr.timeStats_tiStamps : Ctr := ⟨0x44, 6, 32⟩
/-- TIME_STATS.START_IGNORED -/
def Ctr.timeStats_startIgnored : Ctr := ⟨0x44, 7, 16⟩
/-- TIME_STATS.STOP_OVERFLOW -/
def Ctr.timeStats_stopOverflow : Ctr := ⟨0x44, 8, 16⟩
/-- TIME_STATS.STAMPS_OVERWRITTEN -/
def Ctr.timeStats_stampsOverwritten : Ctr := ⟨0x44, 9, 32⟩

/-! HK_CFG (block 0x0045, R395-R399). -/

/-- HK_CFG.REF_SEL -/
def Fld.hkCfg_refSel : Fld := ⟨0x45, 0, 2, .L, 0, 0, 2⟩
/-- HK_CFG.EN -/
def Fld.hkCfg_en : Fld := ⟨0x45, 2, 1, .I, 0, 0, 1⟩
/-- HK_CFG.TRIG -/
def Fld.hkCfg_trig : Fld := ⟨0x45, 3, 2, .L, 0, 0, 2⟩
/-- HK_CFG.TRIG_PORT -/
def Fld.hkCfg_trigPort : Fld := ⟨0x45, 5, 3, .L, 0, 0, 7⟩
/-- HK_CFG.PERIOD_MS -/
def Fld.hkCfg_periodMs : Fld := ⟨0x45, 16, 16, .L, 100, 1, 10000⟩
/-- HK_CFG.TRIG_DIV -/
def Fld.hkCfg_trigDiv : Fld := ⟨0x45, 32, 16, .L, 1, 1, 65535⟩
/-- HK_CFG.DELAY_US -/
def Fld.hkCfg_delayUs : Fld := ⟨0x45, 48, 10, .L, 0, 0, 1000⟩

/-! HK_SEQ (block 0x0046, R394, R400). -/

/-- HK_SEQ.CHANNEL_0 -/
def Fld.hkSeq_channel0 : Fld := ⟨0x46, 0, 5, .L, 0, 0, 31⟩
/-- HK_SEQ.PRESET_0 -/
def Fld.hkSeq_preset0 : Fld := ⟨0x46, 5, 2, .L, 1, 0, 3⟩
/-- HK_SEQ.VALID_0 -/
def Fld.hkSeq_valid0 : Fld := ⟨0x46, 7, 1, .L, 0, 0, 1⟩
/-- HK_SEQ.N_0 -/
def Fld.hkSeq_n0 : Fld := ⟨0x46, 8, 8, .L, 1, 1, 255⟩
/-- HK_SEQ.FORMAT_0 -/
def Fld.hkSeq_format0 : Fld := ⟨0x46, 16, 2, .L, 0, 0, 2⟩
/-- HK_SEQ.CHANNEL_1 -/
def Fld.hkSeq_channel1 : Fld := ⟨0x46, 32, 5, .L, 0, 0, 31⟩
/-- HK_SEQ.PRESET_1 -/
def Fld.hkSeq_preset1 : Fld := ⟨0x46, 37, 2, .L, 1, 0, 3⟩
/-- HK_SEQ.VALID_1 -/
def Fld.hkSeq_valid1 : Fld := ⟨0x46, 39, 1, .L, 0, 0, 1⟩
/-- HK_SEQ.N_1 -/
def Fld.hkSeq_n1 : Fld := ⟨0x46, 40, 8, .L, 1, 1, 255⟩
/-- HK_SEQ.FORMAT_1 -/
def Fld.hkSeq_format1 : Fld := ⟨0x46, 48, 2, .L, 0, 0, 2⟩
/-- HK_SEQ.CHANNEL_2 -/
def Fld.hkSeq_channel2 : Fld := ⟨0x46, 64, 5, .L, 0, 0, 31⟩
/-- HK_SEQ.PRESET_2 -/
def Fld.hkSeq_preset2 : Fld := ⟨0x46, 69, 2, .L, 1, 0, 3⟩
/-- HK_SEQ.VALID_2 -/
def Fld.hkSeq_valid2 : Fld := ⟨0x46, 71, 1, .L, 0, 0, 1⟩
/-- HK_SEQ.N_2 -/
def Fld.hkSeq_n2 : Fld := ⟨0x46, 72, 8, .L, 1, 1, 255⟩
/-- HK_SEQ.FORMAT_2 -/
def Fld.hkSeq_format2 : Fld := ⟨0x46, 80, 2, .L, 0, 0, 2⟩
/-- HK_SEQ.CHANNEL_3 -/
def Fld.hkSeq_channel3 : Fld := ⟨0x46, 96, 5, .L, 0, 0, 31⟩
/-- HK_SEQ.PRESET_3 -/
def Fld.hkSeq_preset3 : Fld := ⟨0x46, 101, 2, .L, 1, 0, 3⟩
/-- HK_SEQ.VALID_3 -/
def Fld.hkSeq_valid3 : Fld := ⟨0x46, 103, 1, .L, 0, 0, 1⟩
/-- HK_SEQ.N_3 -/
def Fld.hkSeq_n3 : Fld := ⟨0x46, 104, 8, .L, 1, 1, 255⟩
/-- HK_SEQ.FORMAT_3 -/
def Fld.hkSeq_format3 : Fld := ⟨0x46, 112, 2, .L, 0, 0, 2⟩
/-- HK_SEQ.CHANNEL_4 -/
def Fld.hkSeq_channel4 : Fld := ⟨0x46, 128, 5, .L, 0, 0, 31⟩
/-- HK_SEQ.PRESET_4 -/
def Fld.hkSeq_preset4 : Fld := ⟨0x46, 133, 2, .L, 1, 0, 3⟩
/-- HK_SEQ.VALID_4 -/
def Fld.hkSeq_valid4 : Fld := ⟨0x46, 135, 1, .L, 0, 0, 1⟩
/-- HK_SEQ.N_4 -/
def Fld.hkSeq_n4 : Fld := ⟨0x46, 136, 8, .L, 1, 1, 255⟩
/-- HK_SEQ.FORMAT_4 -/
def Fld.hkSeq_format4 : Fld := ⟨0x46, 144, 2, .L, 0, 0, 2⟩
/-- HK_SEQ.CHANNEL_5 -/
def Fld.hkSeq_channel5 : Fld := ⟨0x46, 160, 5, .L, 0, 0, 31⟩
/-- HK_SEQ.PRESET_5 -/
def Fld.hkSeq_preset5 : Fld := ⟨0x46, 165, 2, .L, 1, 0, 3⟩
/-- HK_SEQ.VALID_5 -/
def Fld.hkSeq_valid5 : Fld := ⟨0x46, 167, 1, .L, 0, 0, 1⟩
/-- HK_SEQ.N_5 -/
def Fld.hkSeq_n5 : Fld := ⟨0x46, 168, 8, .L, 1, 1, 255⟩
/-- HK_SEQ.FORMAT_5 -/
def Fld.hkSeq_format5 : Fld := ⟨0x46, 176, 2, .L, 0, 0, 2⟩
/-- HK_SEQ.CHANNEL_6 -/
def Fld.hkSeq_channel6 : Fld := ⟨0x46, 192, 5, .L, 0, 0, 31⟩
/-- HK_SEQ.PRESET_6 -/
def Fld.hkSeq_preset6 : Fld := ⟨0x46, 197, 2, .L, 1, 0, 3⟩
/-- HK_SEQ.VALID_6 -/
def Fld.hkSeq_valid6 : Fld := ⟨0x46, 199, 1, .L, 0, 0, 1⟩
/-- HK_SEQ.N_6 -/
def Fld.hkSeq_n6 : Fld := ⟨0x46, 200, 8, .L, 1, 1, 255⟩
/-- HK_SEQ.FORMAT_6 -/
def Fld.hkSeq_format6 : Fld := ⟨0x46, 208, 2, .L, 0, 0, 2⟩
/-- HK_SEQ.CHANNEL_7 -/
def Fld.hkSeq_channel7 : Fld := ⟨0x46, 224, 5, .L, 0, 0, 31⟩
/-- HK_SEQ.PRESET_7 -/
def Fld.hkSeq_preset7 : Fld := ⟨0x46, 229, 2, .L, 1, 0, 3⟩
/-- HK_SEQ.VALID_7 -/
def Fld.hkSeq_valid7 : Fld := ⟨0x46, 231, 1, .L, 0, 0, 1⟩
/-- HK_SEQ.N_7 -/
def Fld.hkSeq_n7 : Fld := ⟨0x46, 232, 8, .L, 1, 1, 255⟩
/-- HK_SEQ.FORMAT_7 -/
def Fld.hkSeq_format7 : Fld := ⟨0x46, 240, 2, .L, 0, 0, 2⟩

/-! HK_STATS (block 0x0049, R411). -/

/-- HK_STATS.SEQUENCES -/
def Ctr.hkStats_sequences : Ctr := ⟨0x49, 0, 32⟩
/-- HK_STATS.OVERRUN -/
def Ctr.hkStats_overrun : Ctr := ⟨0x49, 1, 16⟩
/-- HK_STATS.LATE -/
def Ctr.hkStats_late : Ctr := ⟨0x49, 2, 16⟩
/-- HK_STATS.NEVER_SETTLED -/
def Ctr.hkStats_neverSettled : Ctr := ⟨0x49, 3, 16⟩
/-- HK_STATS.CHECK_FAIL -/
def Ctr.hkStats_checkFail : Ctr := ⟨0x49, 4, 16⟩
/-- HK_STATS.CLIPPED -/
def Ctr.hkStats_clipped : Ctr := ⟨0x49, 5, 32⟩

/-! LOOP_CFG (block 0x004A, R406). -/

/-- LOOP_CFG.EN -/
def Fld.loopCfg_en : Fld := ⟨0x4A, 0, 1, .I, 0, 0, 1⟩
/-- LOOP_CFG.FAULT_DIR -/
def Fld.loopCfg_faultDir : Fld := ⟨0x4A, 1, 1, .I, 0, 0, 1⟩
/-- LOOP_CFG.FORCE_EN -/
def Fld.loopCfg_forceEn : Fld := ⟨0x4A, 2, 1, .I, 0, 0, 1⟩
/-- LOOP_CFG.FORCE_UA -/
def Fld.loopCfg_forceUa : Fld := ⟨0x4A, 16, 16, .I, 4000, 3500, 21500⟩

/-! ALM_CFG (block 0x004B, R408-R409). -/

/-- ALM_CFG.EN -/
def Fld.almCfg_en : Fld := ⟨0x4B, 0, 1, .I, 0, 0, 1⟩
/-- ALM_CFG.POLARITY -/
def Fld.almCfg_polarity : Fld := ⟨0x4B, 1, 1, .I, 0, 0, 1⟩
/-- ALM_CFG.FAULT_ACTIVE -/
def Fld.almCfg_faultActive : Fld := ⟨0x4B, 2, 1, .I, 0, 0, 1⟩
/-- ALM_CFG.FORCE_EN -/
def Fld.almCfg_forceEn : Fld := ⟨0x4B, 3, 1, .I, 0, 0, 1⟩
/-- ALM_CFG.FORCE_STATE -/
def Fld.almCfg_forceState : Fld := ⟨0x4B, 4, 1, .I, 0, 0, 1⟩
/-- ALM_CFG.MIN_ACTIVE_MS -/
def Fld.almCfg_minActiveMs : Fld := ⟨0x4B, 16, 16, .I, 0, 0, 10000⟩

/-! OUT_STATS (block 0x004D, R411). -/

/-- OUT_STATS.WORD0 -/
def Ctr.outStats_word0 : Ctr := ⟨0x4D, 0, 32⟩
/-- OUT_STATS.WORD1 -/
def Ctr.outStats_word1 : Ctr := ⟨0x4D, 1, 16⟩
/-- OUT_STATS.WORD2 -/
def Ctr.outStats_word2 : Ctr := ⟨0x4D, 2, 16⟩
/-- OUT_STATS.WORD3 -/
def Ctr.outStats_word3 : Ctr := ⟨0x4D, 3, 16⟩

/-! CAL_CFG (block 0x004E, R418-R419). -/

/-- CAL_CFG.AUTO_EN -/
def Fld.calCfg_autoEn : Fld := ⟨0x4E, 0, 1, .I, 1, 0, 1⟩
/-- CAL_CFG.DELTA -/
def Fld.calCfg_delta : Fld := ⟨0x4E, 1, 8, .I, 30, 5, 200⟩
/-- CAL_CFG.AUTO_STEPS -/
def Fld.calCfg_autoSteps : Fld := ⟨0x4E, 9, 4, .I, 13, 0, 15⟩
/-- CAL_CFG.START_STEPS -/
def Fld.calCfg_startSteps : Fld := ⟨0x4E, 13, 4, .I, 7, 0, 15⟩
/-- CAL_CFG.RAMAN_TIME -/
def Fld.calCfg_ramanTime : Fld := ⟨0x4E, 17, 9, .I, 50, 10, 300⟩
/-- CAL_CFG.REFRES_MOHM -/
def Fld.calCfg_refresMohm : Fld := ⟨0x4E, 32, 32, .I, 100000, 95000, 105000⟩

/-! CAL_PORT (block 0x004F, R415). -/

/-- CAL_PORT.BATH_FIRST -/
def Fld.calPort_bathFirst : Fld := ⟨0x4F, 0, 17, .I, 0, 0, 131071⟩
/-- CAL_PORT.BATH_LAST -/
def Fld.calPort_bathLast : Fld := ⟨0x4F, 32, 17, .I, 0, 0, 131071⟩

/-! CAL_TRIM (block 0x0050, R416-R417). -/

/-- CAL_TRIM.ATTEN_TRIM -/
def Fld.calTrim_attenTrim : Fld := ⟨0x50, 0, 16, .I, 0, 0, 65535⟩
/-- CAL_TRIM.RTD_OFFSET -/
def Fld.calTrim_rtdOffset : Fld := ⟨0x50, 16, 16, .I, 0, 0, 65535⟩

/-! CAL_STATS (block 0x0052, R424). -/

/-- CAL_STATS.RUNS -/
def Ctr.calStats_runs : Ctr := ⟨0x52, 0, 32⟩
/-- CAL_STATS.AUTO_RUNS -/
def Ctr.calStats_autoRuns : Ctr := ⟨0x52, 1, 32⟩
/-- CAL_STATS.LIMITS -/
def Ctr.calStats_limits : Ctr := ⟨0x52, 2, 16⟩
/-- CAL_STATS.ABORTED -/
def Ctr.calStats_aborted : Ctr := ⟨0x52, 3, 16⟩
/-- CAL_STATS.NOT_POSSIBLE -/
def Ctr.calStats_notPossible : Ctr := ⟨0x52, 4, 16⟩

/-! POWER_CFG (block 0x0053, R438). -/

/-- POWER_CFG.WAKE_ACT -/
def Fld.powerCfg_wakeAct : Fld := ⟨0x53, 0, 1, .I, 1, 0, 1⟩
/-- POWER_CFG.WAKE_PAT -/
def Fld.powerCfg_wakePat : Fld := ⟨0x53, 1, 1, .I, 1, 0, 1⟩
/-- POWER_CFG.WAKE_HCS -/
def Fld.powerCfg_wakeHcs : Fld := ⟨0x53, 2, 1, .I, 1, 0, 1⟩
/-- POWER_CFG.RESUME -/
def Fld.powerCfg_resume : Fld := ⟨0x53, 3, 1, .I, 0, 0, 1⟩
/-- POWER_CFG.RET_TJ_MAX -/
def Fld.powerCfg_retTjMax : Fld := ⟨0x53, 8, 7, .I, 85, 25, 105⟩
/-- POWER_CFG.RESTORE -/
def Fld.powerCfg_restore : Fld := ⟨0x53, 16, 8, .I, 0, 0, 255⟩

/-! POWER_STATS (block 0x0055, R443). -/

/-- POWER_STATS.STANDBY_ENTRIES -/
def Ctr.powerStats_standbyEntries : Ctr := ⟨0x55, 0, 16⟩
/-- POWER_STATS.RETAIN_ENTRIES -/
def Ctr.powerStats_retainEntries : Ctr := ⟨0x55, 1, 16⟩
/-- POWER_STATS.ABORTED -/
def Ctr.powerStats_aborted : Ctr := ⟨0x55, 2, 16⟩
/-- POWER_STATS.REPLAYED -/
def Ctr.powerStats_replayed : Ctr := ⟨0x55, 3, 16⟩
/-- POWER_STATS.BANK_FAILURES -/
def Ctr.powerStats_bankFailures : Ctr := ⟨0x55, 4, 16⟩
/-- POWER_STATS.BROWNOUTS -/
def Ctr.powerStats_brownouts : Ctr := ⟨0x55, 5, 16⟩

/-! The blocks (R359). -/

/-- HEAD_CFG -/
def headCfgBlock : BlockDesc := ⟨0x01, .config, 1, 8, 0, [.headCfg_presDeglitch, .headCfg_ilkDeglitch, .headCfg_idSpeed]⟩

/-- HEAD_STATUS -/
def headStatusBlock : BlockDesc := ⟨0x02, .status, 1, 8, 0, []⟩

/-- HEAD_STATS -/
def headStatsBlock : BlockDesc := ⟨0x03, .stats, 4, 8, 0, []⟩

/-- SAFETY -/
def safetyBlock : BlockDesc := ⟨0x04, .config, 1, 1, 0, [.safety_scope]⟩

/-- SAFETY_PORT -/
def safetyPortBlock : BlockDesc := ⟨0x05, .config, 1, 8, 0, [.safetyPort_knee, .safetyPort_proofInterval, .safetyPort_proofForce]⟩

/-- EMIT_CFG -/
def emitCfgBlock : BlockDesc := ⟨0x06, .config, 3, 8, 0, [.emitCfg_setpointSeed, .emitCfg_rampShapeSeed, .emitCfg_rampTimeSeed, .emitCfg_compEnSeed, .emitCfg_setpointGate, .emitCfg_rampShapeGate, .emitCfg_rampTimeGate, .emitCfg_compEnGate, .emitCfg_setpointPump, .emitCfg_rampShapePump, .emitCfg_rampTimePump, .emitCfg_compEnPump]⟩

/-- SAFETY_STATUS -/
def safetyStatusBlock : BlockDesc := ⟨0x07, .status, 1, 8, 0, []⟩

/-- SAFETY_STATS -/
def safetyStatsBlock : BlockDesc := ⟨0x08, .stats, 5, 8, 0, []⟩

/-- SEQ_PORT -/
def seqPortBlock : BlockDesc := ⟨0x09, .config, 9, 8, 0, [.seqPort_fibreLen, .seqPort_guard, .seqPort_mode, .seqPort_slotMask, .seqPort_pulseWidth, .seqPort_ramanM, .seqPort_ditherSpan, .seqPort_ditherSeed, .seqPort_pumpWidth, .seqPort_ifS0, .seqPort_ifS1, .seqPort_ifS2, .seqPort_ifS3, .seqPort_probeLevel, .seqPort_groupIndex]⟩

/-- LOCKSTEP -/
def lockstepBlock : BlockDesc := ⟨0x0A, .config, 5, 4, 0, [.lockstep_members, .lockstep_site, .lockstep_slotMask, .lockstep_ditherSpan, .lockstep_ramanM, .lockstep_frame, .lockstep_ditherSeed, .lockstep_startTime]⟩

/-- SEQ_STATUS -/
def seqStatusBlock : BlockDesc := ⟨0x0B, .status, 2, 8, 0, []⟩

/-- PORT_STATS -/
def portStatsBlock : BlockDesc := ⟨0x0C, .stats, 6, 8, 0, []⟩

/-- RX_CFG -/
def rxCfgBlock : BlockDesc := ⟨0x0D, .config, 1, 8, 0, [.rxCfg_align, .rxCfg_rawTag, .rxCfg_filter, .rxCfg_pairCheck, .rxCfg_ovldEvent]⟩

def rxProfileFields0 : List Fld := [.rxProfile_start0, .rxProfile_range0, .rxProfile_end0, .rxProfile_start1, .rxProfile_range1, .rxProfile_end1, .rxProfile_start2, .rxProfile_range2, .rxProfile_end2, .rxProfile_start3, .rxProfile_range3, .rxProfile_end3, .rxProfile_start4, .rxProfile_range4, .rxProfile_end4, .rxProfile_start5]
def rxProfileFields1 : List Fld := [.rxProfile_range5, .rxProfile_end5, .rxProfile_start6, .rxProfile_range6, .rxProfile_end6, .rxProfile_start7, .rxProfile_range7, .rxProfile_end7, .rxProfile_start8, .rxProfile_range8, .rxProfile_end8, .rxProfile_start9, .rxProfile_range9, .rxProfile_end9, .rxProfile_start10, .rxProfile_range10]
def rxProfileFields2 : List Fld := [.rxProfile_end10, .rxProfile_start11, .rxProfile_range11, .rxProfile_end11, .rxProfile_start12, .rxProfile_range12, .rxProfile_end12, .rxProfile_start13, .rxProfile_range13, .rxProfile_end13, .rxProfile_start14, .rxProfile_range14, .rxProfile_end14, .rxProfile_start15, .rxProfile_range15, .rxProfile_end15]
def rxProfileFields3 : List Fld := [.rxProfile_start16, .rxProfile_range16, .rxProfile_end16, .rxProfile_start17, .rxProfile_range17, .rxProfile_end17, .rxProfile_start18, .rxProfile_range18, .rxProfile_end18, .rxProfile_start19, .rxProfile_range19, .rxProfile_end19, .rxProfile_start20, .rxProfile_range20, .rxProfile_end20, .rxProfile_start21]
def rxProfileFields4 : List Fld := [.rxProfile_range21, .rxProfile_end21, .rxProfile_start22, .rxProfile_range22, .rxProfile_end22, .rxProfile_start23, .rxProfile_range23, .rxProfile_end23, .rxProfile_start24, .rxProfile_range24, .rxProfile_end24, .rxProfile_start25, .rxProfile_range25, .rxProfile_end25, .rxProfile_start26, .rxProfile_range26]
def rxProfileFields5 : List Fld := [.rxProfile_end26, .rxProfile_start27, .rxProfile_range27, .rxProfile_end27, .rxProfile_start28, .rxProfile_range28, .rxProfile_end28, .rxProfile_start29, .rxProfile_range29, .rxProfile_end29, .rxProfile_start30, .rxProfile_range30, .rxProfile_end30, .rxProfile_start31, .rxProfile_range31, .rxProfile_end31]
/-- RX_PROFILE -/
def rxProfileBlock : BlockDesc := ⟨0x0E, .config, 32, 32, 0, rxProfileFields0 ++ rxProfileFields1 ++ rxProfileFields2 ++ rxProfileFields3 ++ rxProfileFields4 ++ rxProfileFields5⟩

/-- RX_STATUS -/
def rxStatusBlock : BlockDesc := ⟨0x0F, .status, 4, 8, 0, []⟩

/-- RX_STATS -/
def rxStatsBlock : BlockDesc := ⟨0x10, .stats, 8, 8, 0, []⟩

/-- GAUGE_CFG -/
def gaugeCfgBlock : BlockDesc := ⟨0x11, .config, 2, 8, 0, [.gaugeCfg_gaugeLen, .gaugeCfg_pitch, .gaugeCfg_fadeLogamp, .gaugeCfg_fadeHold, .gaugeCfg_alignShift, .gaugeCfg_xi, .gaugeCfg_kt]⟩

/-- GAUGE_STATUS -/
def gaugeStatusBlock : BlockDesc := ⟨0x12, .status, 2, 8, 0, []⟩

/-- GAUGE_STATS -/
def gaugeStatsBlock : BlockDesc := ⟨0x13, .stats, 8, 8, 0, []⟩

/-- RAMAN_CFG -/
def ramanCfgBlock : BlockDesc := ⟨0x14, .config, 1, 8, 0, [.ramanCfg_accTime, .ramanCfg_binStep, .ramanCfg_sums]⟩

/-- RTD_CFG -/
def rtdCfgBlock : BlockDesc := ⟨0x15, .config, 1, 8, 0, [.rtdCfg_en, .rtdCfg_current, .rtdCfg_pulse, .rtdCfg_period, .rtdCfg_delay]⟩

/-- RAMAN_STATUS -/
def ramanStatusBlock : BlockDesc := ⟨0x16, .status, 4, 8, 0, []⟩

/-- RAMAN_STATS -/
def ramanStatsBlock : BlockDesc := ⟨0x17, .stats, 9, 8, 0, []⟩

/-- CLOVE_PORT -/
def clovePortBlock : BlockDesc := ⟨0x18, .config, 1, 8, 0, [.clovePort_blockGauges, .clovePort_blockSamples, .clovePort_readyBlocks, .clovePort_program]⟩

/-- CLOVE_CLUSTER -/
def cloveClusterBlock : BlockDesc := ⟨0x19, .config, 1, 8, 0, [.cloveCluster_clockMax, .cloveCluster_takeEn, .cloveCluster_lendEn, .cloveCluster_engineEn]⟩

/-- CLOVE_CFG -/
def cloveCfgBlock : BlockDesc := ⟨0x1A, .config, 1, 1, 0, [.cloveCfg_watchdog]⟩

/-- CLOVE_STATUS -/
def cloveStatusBlock : BlockDesc := ⟨0x1B, .status, 2, 8, 0, []⟩

/-- CLOVE_STATS -/
def cloveStatsBlock : BlockDesc := ⟨0x1C, .stats, 8, 8, 0, []⟩

/-- CLOVE_CLUSTER_STATS -/
def cloveClusterStatsBlock : BlockDesc := ⟨0x1D, .stats, 3, 8, 0, []⟩

def zoneFields0 : List Fld := [.zone_en, .zone_port, .zone_kind, .zone_detector, .zone_metric, .zone_firstBin, .zone_lastBin, .zone_gaugeLen, .zone_pitch, .zone_bandSet, .zone_statBands, .zone_template, .zone_on, .zone_off, .zone_persistK, .zone_persistW]
def zoneFields1 : List Fld := [.zone_minLevel, .zone_confWin, .zone_provWin, .zone_clearWin, .zone_baseShift, .zone_baseFreeze, .zone_groupA, .zone_memberA, .zone_groupB, .zone_memberB, .zone_groupC, .zone_memberC, .zone_groupD, .zone_memberD]
/-- ZONE -/
def zoneBlock : BlockDesc := ⟨0x1E, .config, 16, 4096, 0, zoneFields0 ++ zoneFields1⟩

def bandSetFields0 : List Fld := [.bandSet_fft, .bandSet_bands, .bandSet_loHz0, .bandSet_hiHz0, .bandSet_loHz1, .bandSet_hiHz1, .bandSet_loHz2, .bandSet_hiHz2, .bandSet_loHz3, .bandSet_hiHz3, .bandSet_loHz4, .bandSet_hiHz4, .bandSet_loHz5, .bandSet_hiHz5, .bandSet_loHz6, .bandSet_hiHz6]
def bandSetFields1 : List Fld := [.bandSet_loHz7, .bandSet_hiHz7]
/-- BAND_SET -/
def bandSetBlock : BlockDesc := ⟨0x1F, .config, 9, 32, 0, bandSetFields0 ++ bandSetFields1⟩

/-- TEMPLATE -/
def templateBlock : BlockDesc := ⟨0x20, .config, 4, 16, 0, [.template_t0, .template_t1, .template_t2, .template_t3, .template_t4, .template_t5, .template_t6, .template_t7]⟩

/-- SKEW -/
def skewBlock : BlockDesc := ⟨0x21, .config, 4, 8, 0, [.skew_portSkew, .skew_polSkewX, .skew_polSkewY, .skew_slotSkewS0, .skew_slotSkewS1, .skew_slotSkewS2, .skew_slotSkewS3]⟩

/-- GROUP -/
def groupBlock : BlockDesc := ⟨0x22, .config, 2, 64, 0, [.group_loop, .group_loopEn, .group_alarm, .group_alarmEn, .group_latch, .group_snap, .group_snapSpec, .group_summary, .group_src, .group_lo, .group_hi]⟩

/-- ZONE_STATE -/
def zoneStateBlock : BlockDesc := ⟨0x23, .status, 8, 4096, 0, []⟩

/-- DETECT_STATS -/
def detectStatsBlock : BlockDesc := ⟨0x24, .stats, 8, 1, 0, []⟩

/-- STREAM -/
def streamBlock : BlockDesc := ⟨0x25, .config, 2, 2048, 1, [.stream_en, .stream_class, .stream_source, .stream_codec, .stream_bandSet, .stream_share]⟩

/-- RING -/
def ringBlock : BlockDesc := ⟨0x26, .config, 2, 8, 0, [.ring_rawMib, .ring_phaseMib, .ring_bandMib, .ring_bandSet]⟩

/-- SNAP_CFG -/
def snapCfgBlock : BlockDesc := ⟨0x27, .config, 3, 64, 0, [.snapCfg_content, .snapCfg_ports, .snapCfg_autoEn, .snapCfg_holdoffMode, .snapCfg_preMs, .snapCfg_postMs, .snapCfg_autoTimeout, .snapCfg_holdoff]⟩

/-- MASK -/
def maskBlock : BlockDesc := ⟨0x28, .config, 3, 8, 0, [.mask_en, .mask_action, .mask_avg, .mask_stride, .mask_smooth, .mask_minBins, .mask_firstBin, .mask_lastBin]⟩

/-- CAP_STATUS -/
def capStatusBlock : BlockDesc := ⟨0x29, .status, 2, 8, 0, []⟩

/-- CAPTURE_STATS -/
def captureStatsBlock : BlockDesc := ⟨0x2A, .stats, 7, 1, 0, []⟩

/-- STREAM_STATS -/
def streamStatsBlock : BlockDesc := ⟨0x2B, .stats, 4, 2048, 1, []⟩

/-- CAPMEM_CFG -/
def capmemCfgBlock : BlockDesc := ⟨0x2C, .config, 1, 1, 0, [.capmemCfg_rate]⟩

/-- CODEC_STATS -/
def codecStatsBlock : BlockDesc := ⟨0x2D, .stats, 7, 1, 0, []⟩

/-- LINK_CFG -/
def linkCfgBlock : BlockDesc := ⟨0x2E, .config, 2, 1, 0, [.linkCfg_en, .linkCfg_rate, .linkCfg_width, .linkCfg_minWidth, .linkCfg_retries, .linkCfg_quietEn, .linkCfg_sleepEn, .linkCfg_quietIdle, .linkCfg_sleepIdle]⟩

/-- LINK_STATUS -/
def linkStatusBlock : BlockDesc := ⟨0x2F, .status, 9, 1, 0, []⟩

/-- LINK_STATS -/
def linkStatsBlock : BlockDesc := ⟨0x30, .stats, 43, 1, 0, []⟩

/-- MBOX_STATS -/
def mboxStatsBlock : BlockDesc := ⟨0x31, .stats, 5, 1, 0, []⟩

/-- TIME_CFG -/
def timeCfgBlock : BlockDesc := ⟨0x40, .config, 3, 1, 0, [.timeCfg_refSrc, .timeCfg_ocxoUse, .timeCfg_ppsEn, .timeCfg_ppsOutEn, .timeCfg_ppsAlign, .timeCfg_loadArm, .timeCfg_ppsTol, .timeCfg_loadSec]⟩

/-- SITE_CFG -/
def siteCfgBlock : BlockDesc := ⟨0x41, .config, 1, 1, 0, [.siteCfg_inDelay, .siteCfg_role, .siteCfg_syncOutEn]⟩

/-- TIME_STATUS -/
def timeStatusBlock : BlockDesc := ⟨0x42, .status, 4, 1, 0, []⟩

/-- TI_STATUS -/
def tiStatusBlock : BlockDesc := ⟨0x43, .status, 2, 1, 0, []⟩

/-- TIME_STATS -/
def timeStatsBlock : BlockDesc := ⟨0x44, .stats, 10, 1, 0, []⟩

/-- HK_CFG -/
def hkCfgBlock : BlockDesc := ⟨0x45, .config, 2, 2, 0, [.hkCfg_refSel, .hkCfg_en, .hkCfg_trig, .hkCfg_trigPort, .hkCfg_periodMs, .hkCfg_trigDiv, .hkCfg_delayUs]⟩

def hkSeqFields0 : List Fld := [.hkSeq_channel0, .hkSeq_preset0, .hkSeq_valid0, .hkSeq_n0, .hkSeq_format0, .hkSeq_channel1, .hkSeq_preset1, .hkSeq_valid1, .hkSeq_n1, .hkSeq_format1, .hkSeq_channel2, .hkSeq_preset2, .hkSeq_valid2, .hkSeq_n2, .hkSeq_format2, .hkSeq_channel3]
def hkSeqFields1 : List Fld := [.hkSeq_preset3, .hkSeq_valid3, .hkSeq_n3, .hkSeq_format3, .hkSeq_channel4, .hkSeq_preset4, .hkSeq_valid4, .hkSeq_n4, .hkSeq_format4, .hkSeq_channel5, .hkSeq_preset5, .hkSeq_valid5, .hkSeq_n5, .hkSeq_format5, .hkSeq_channel6, .hkSeq_preset6]
def hkSeqFields2 : List Fld := [.hkSeq_valid6, .hkSeq_n6, .hkSeq_format6, .hkSeq_channel7, .hkSeq_preset7, .hkSeq_valid7, .hkSeq_n7, .hkSeq_format7]
/-- HK_SEQ -/
def hkSeqBlock : BlockDesc := ⟨0x46, .config, 8, 2, 0, hkSeqFields0 ++ hkSeqFields1 ++ hkSeqFields2⟩

/-- HK_VALUE -/
def hkValueBlock : BlockDesc := ⟨0x47, .status, 1, 32, 0, []⟩

/-- HK_STATUS -/
def hkStatusBlock : BlockDesc := ⟨0x48, .status, 2, 2, 0, []⟩

/-- HK_STATS -/
def hkStatsBlock : BlockDesc := ⟨0x49, .stats, 6, 2, 0, []⟩

/-- LOOP_CFG -/
def loopCfgBlock : BlockDesc := ⟨0x4A, .config, 1, 8, 0, [.loopCfg_en, .loopCfg_faultDir, .loopCfg_forceEn, .loopCfg_forceUa]⟩

/-- ALM_CFG -/
def almCfgBlock : BlockDesc := ⟨0x4B, .config, 1, 8, 0, [.almCfg_en, .almCfg_polarity, .almCfg_faultActive, .almCfg_forceEn, .almCfg_forceState, .almCfg_minActiveMs]⟩

/-- OUT_STATUS -/
def outStatusBlock : BlockDesc := ⟨0x4C, .status, 2, 16, 0, []⟩

/-- OUT_STATS -/
def outStatsBlock : BlockDesc := ⟨0x4D, .stats, 4, 16, 0, []⟩

/-- CAL_CFG -/
def calCfgBlock : BlockDesc := ⟨0x4E, .config, 2, 1, 0, [.calCfg_autoEn, .calCfg_delta, .calCfg_autoSteps, .calCfg_startSteps, .calCfg_ramanTime, .calCfg_refresMohm]⟩

/-- CAL_PORT -/
def calPortBlock : BlockDesc := ⟨0x4F, .config, 2, 8, 0, [.calPort_bathFirst, .calPort_bathLast]⟩

/-- CAL_TRIM -/
def calTrimBlock : BlockDesc := ⟨0x50, .config, 1, 8, 0, [.calTrim_attenTrim, .calTrim_rtdOffset]⟩

/-- CAL_STATUS -/
def calStatusBlock : BlockDesc := ⟨0x51, .status, 4, 9, 0, []⟩

/-- CAL_STATS -/
def calStatsBlock : BlockDesc := ⟨0x52, .stats, 5, 1, 0, []⟩

/-- POWER_CFG -/
def powerCfgBlock : BlockDesc := ⟨0x53, .config, 1, 1, 0, [.powerCfg_wakeAct, .powerCfg_wakePat, .powerCfg_wakeHcs, .powerCfg_resume, .powerCfg_retTjMax, .powerCfg_restore]⟩

/-- POWER_STATUS -/
def powerStatusBlock : BlockDesc := ⟨0x54, .status, 10, 1, 0, []⟩

/-- POWER_STATS -/
def powerStatsBlock : BlockDesc := ⟨0x55, .stats, 6, 1, 0, []⟩

/-- START_STATUS -/
def startStatusBlock : BlockDesc := ⟨0x56, .status, 4, 1, 0, []⟩

def blocks0 : List BlockDesc :=
  [headCfgBlock, headStatusBlock, headStatsBlock, safetyBlock, safetyPortBlock, emitCfgBlock, safetyStatusBlock, safetyStatsBlock, seqPortBlock, lockstepBlock, seqStatusBlock, portStatsBlock]

def blocks1 : List BlockDesc :=
  [rxCfgBlock, rxProfileBlock, rxStatusBlock, rxStatsBlock, gaugeCfgBlock, gaugeStatusBlock, gaugeStatsBlock, ramanCfgBlock, rtdCfgBlock, ramanStatusBlock, ramanStatsBlock, clovePortBlock]

def blocks2 : List BlockDesc :=
  [cloveClusterBlock, cloveCfgBlock, cloveStatusBlock, cloveStatsBlock, cloveClusterStatsBlock, zoneBlock, bandSetBlock, templateBlock, skewBlock, groupBlock, zoneStateBlock, detectStatsBlock]

def blocks3 : List BlockDesc :=
  [streamBlock, ringBlock, snapCfgBlock, maskBlock, capStatusBlock, captureStatsBlock, streamStatsBlock, capmemCfgBlock, codecStatsBlock, linkCfgBlock, linkStatusBlock, linkStatsBlock]

def blocks4 : List BlockDesc :=
  [mboxStatsBlock, timeCfgBlock, siteCfgBlock, timeStatusBlock, tiStatusBlock, timeStatsBlock, hkCfgBlock, hkSeqBlock, hkValueBlock, hkStatusBlock, hkStatsBlock, loopCfgBlock]

def blocks5 : List BlockDesc :=
  [almCfgBlock, outStatusBlock, outStatsBlock, calCfgBlock, calPortBlock, calTrimBlock, calStatusBlock, calStatsBlock, powerCfgBlock, powerStatusBlock, powerStatsBlock, startStatusBlock]

/-- Every parameter block of R359. -/
def paramBlocks : List BlockDesc :=
  blocks0 ++ blocks1 ++ blocks2 ++ blocks3 ++ blocks4 ++ blocks5

end Sys2Proof
end

