-- ==== Sys2Proof/Machine/Fixed.lean ====
section
/-! DEFINITION. Rounding of exact fractions, square roots, and the real functions the rules name (logarithm, power of
ten, cosine, arctangent), computed with 64 fraction bits (DESIGN CHOICE, log 12). -/

namespace Sys2Proof.Machine

/-! ## Rounding -/

/-- Quotient rounded to nearest, ties up; the divisor is positive (R80, R81, R246, R404). -/
def divHalfUp (a : Int) (b : Nat) : Int := (2 * a + b) / (2 * (b : Int))

/-- Quotient rounded to nearest, ties away from zero (R161). -/
def divAway (a : Int) (b : Nat) : Int :=
  if a < 0 then -((2 * (-a) + b) / (2 * (b : Int))) else (2 * a + b) / (2 * (b : Int))

/-- Quotient rounded to nearest where the rule does not say which way a tie goes: the given bit says up or down. -/
def divNearest (tieUp : Bool) (a : Int) (b : Nat) : Int :=
  if tieUp then (2 * a + b) / (2 * (b : Int)) else (2 * a + b - 1) / (2 * (b : Int))

/-- Quotient rounded up. -/
def ceilDiv (a b : Nat) : Nat := (a + b - 1) / b

/-- Limit to a range. -/
def clampInt (lo hi x : Int) : Int := if x < lo then lo else if hi < x then hi else x

/-- An integer as the two's complement of `w` bits. -/
def toBits (w : Nat) (x : Int) : Nat := (x % (2 ^ w : Int)).toNat

/-- The signed value of the low `w` bits. -/
def ofBits (w : Nat) (n : Nat) : Int :=
  let m := n % 2 ^ w
  if 2 * m < 2 ^ w then (m : Int) else (m : Int) - (2 ^ w : Int)

/-! ## Square root -/

def isqrtLoop : Nat → Nat → Nat → Nat
  | 0, _, x => x
  | fuel + 1, n, x =>
    let y := (x + n / x) / 2
    if y < x then isqrtLoop fuel n y else x

/-- Integer square root, rounded down. (DESIGN CHOICE, log 12) -/
def isqrt (n : Nat) : Nat :=
  if n = 0 then 0 else isqrtLoop (n.log2 + 8) n (2 ^ (n.log2 / 2 + 1))

/-! ## Fixed point with 64 fraction bits -/

/-- One. (DESIGN CHOICE, log 12) -/
def fxOne : Int := 18446744073709551616
/-- Pi. -/
def fxPi : Int := 57952155664616982739
/-- ln 2. -/
def fxLn2 : Int := 12786308645202655660
/-- ln 10. -/
def fxLn10 : Int := 42475197918399869020

/-- (DESIGN CHOICE, log 12) -/
def fxMul (a b : Int) : Int := a * b / fxOne
/-- (DESIGN CHOICE, log 12) -/
def fxDiv (a b : Int) : Int := a * fxOne / b

/-- The fraction a / b as a fixed-point number. -/
def fxFrac (a : Int) (b : Nat) : Int := a * fxOne / b

/-- Odd power series t - s t^3/3 + t^5/5 - …, s = 1 for the arctangent and -1 for its hyperbolic sister: `n` terms from
the power `p` and the divisor `d`. -/
def fxOddSeries (alternate : Bool) (t2 : Int) : Nat → Int → Nat → Int
  | 0, _, _ => 0
  | n + 1, p, d =>
    let next := fxMul p t2
    p / (d : Int) + fxOddSeries alternate t2 n (if alternate then -next else next) (d + 2)

/-- Natural logarithm of a positive fraction a / b. (DESIGN CHOICE, log 12) -/
def fxLn (a b : Nat) : Int :=
  let e : Int := (a.log2 : Int) - (b.log2 : Int)
  let x : Int := if e < 0 then (a * 2 ^ (-e).toNat : Nat) * fxOne / (b : Int)
    else (a : Int) * fxOne / ((b * 2 ^ e.toNat : Nat) : Int)
  let t := fxDiv (x - fxOne) (x + fxOne)
  e * fxLn2 + 2 * fxOddSeries false (fxMul t t) 24 t 1

/-- Base-ten logarithm of a positive fraction. (DESIGN CHOICE, log 12) -/
def fxLog10 (a b : Nat) : Int := fxDiv (fxLn a b) fxLn10

/-- Power series of the exponential: `n` terms from the term `p` with divisor `d`. -/
def fxExpSeries (x : Int) : Nat → Int → Nat → Int
  | 0, _, _ => 0
  | n + 1, p, d => p + fxExpSeries x n (fxMul p x / (d : Int)) (d + 1)

/-- Exponential. (DESIGN CHOICE, log 12) -/
def fxExp (x : Int) : Int :=
  let k := x / fxLn2
  let r := fxExpSeries (x - k * fxLn2) 26 fxOne 1
  if k < 0 then r / (2 ^ (-k).toNat : Int) else r * (2 ^ k.toNat : Int)

/-- Ten to the power of a fixed-point number. (DESIGN CHOICE, log 12) -/
def fxPow10 (x : Int) : Int := fxExp (fxMul x fxLn10)

/-- Power series of the cosine. -/
def fxCosSeries (x2 : Int) : Nat → Int → Nat → Int
  | 0, _, _ => 0
  | n + 1, p, d => p + fxCosSeries x2 n (-(fxMul p x2) / ((d * (d + 1) : Nat) : Int)) (d + 2)

/-- Cosine of an angle from 0 to pi. (DESIGN CHOICE, log 12) -/
def fxCos (x : Int) : Int := fxCosSeries (fxMul x x) 24 fxOne 1

/-- Cosine and sine of an angle in 1/`turn` turn, with 64 fraction bits (DESIGN CHOICE, log 12). -/
def turnCos (turn a : Nat) : Int :=
  let x := a % turn
  let y := if turn < 2 * x then turn - x else x
  fxCos (2 * fxPi * (y : Int) / (turn : Int))
/-- (DESIGN CHOICE, log 12) -/
def turnSin (turn a : Nat) : Int := turnCos turn (a + 3 * turn / 4)

/-- Square root of a non-negative fixed-point number. (DESIGN CHOICE, log 12) -/
def fxSqrt (x : Int) : Int := (isqrt (x.toNat * fxOne.toNat) : Nat)

/-- Half the angle of a tangent: t / (1 + sqrt (1 + t^2)). -/
def fxHalfTan (t : Int) : Int := fxDiv t (fxOne + fxSqrt (fxOne + fxMul t t))

/-- Arctangent of a tangent from -1 to 1. (DESIGN CHOICE, log 12) -/
def fxAtan (t : Int) : Int :=
  let u := fxHalfTan (fxHalfTan (fxHalfTan t))
  8 * fxOddSeries true (fxMul u u) 14 u 1

/-- Angle of the vector (x, y), from -pi to pi; 0 for the zero vector. (DESIGN CHOICE, log 12) -/
def fxAtan2 (y x : Int) : Int :=
  if x = 0 ∧ y = 0 then 0
  else if y.natAbs ≤ x.natAbs then
    let a := fxAtan (y * fxOne / x)
    if 0 ≤ x then a else if 0 ≤ y then a + fxPi else a - fxPi
  else
    let a := fxAtan (x * fxOne / y)
    if 0 ≤ y then fxPi / 2 - a else -(fxPi / 2) - a

/-! ## 64-bit floating point (R180): (m, e) stands for m x 2^e, m of at most 53 bits -/

/-- The number nearest to n / d x 2^e, ties to an even m. (DESIGN CHOICE, log 12) -/
def dblOf (n : Int) (d : Nat) (e : Int) : Int × Int :=
  let a := n.natAbs
  let d := max 1 d
  let scaled (k : Int) : Nat × Nat := if k < 0 then (a, d * 2 ^ (-k).toNat) else (a * 2 ^ k.toNat, d)
  let k0 : Int := 53 + (d.log2 : Int) - (a.log2 : Int)
  let top := (scaled k0).1 / (scaled k0).2
  let k := if 2 ^ 53 ≤ top then k0 - 1 else k0
  let x := scaled k
  let q := x.1 / x.2
  let r := x.1 % x.2
  let m : Nat := if x.2 < 2 * r ∨ (2 * r = x.2 ∧ q % 2 = 1) then q + 1 else q
  if a = 0 then (0, 0) else (if n < 0 then -(m : Int) else m, e - k)

/-- The exact sum of two numbers, as m x 2^e. -/
def dblSum (x y : Int × Int) : Int × Int :=
  let e := min x.2 y.2
  (x.1 * 2 ^ (x.2 - e).toNat + y.1 * 2 ^ (y.2 - e).toNat, e)

def dblAdd (x y : Int × Int) : Int × Int := let z := dblSum x y; dblOf z.1 1 z.2
def dblSub (x y : Int × Int) : Int × Int := dblAdd x (-y.1, y.2)
def dblMul (x y : Int × Int) : Int × Int := dblOf (x.1 * y.1) 1 (x.2 + y.2)
def dblDiv (x y : Int × Int) : Int × Int := dblOf (if y.1 < 0 then -x.1 else x.1) y.1.natAbs (x.2 - y.2)
def dblLt (x y : Int × Int) : Bool := decide ((dblSum x (-y.1, y.2)).1 < 0)

/-- Natural logarithm of a positive number. (DESIGN CHOICE, log 12) -/
def dblLn (x : Int × Int) : Int × Int :=
  let m := x.1.toNat
  dblOf (if x.2 < 0 then fxLn m (2 ^ (-x.2).toNat) else fxLn (m * 2 ^ x.2.toNat) 1) 1 (-64)

/-- A number rounded to an integer, ties away from zero. -/
def dblRound (x : Int × Int) : Int := if x.2 < 0 then divAway x.1 (2 ^ (-x.2).toNat) else x.1 * 2 ^ x.2.toNat

/-- 1,000 times the base-ten logarithm of a fraction, rounded to nearest: a level in 0.01 dB (R243, R293).
(DESIGN CHOICE, log 12) -/
def centibels (a b : Nat) : Int := divHalfUp (1000 * fxLog10 a b) fxOne.toNat

end Sys2Proof.Machine
end

