-- ==== Sys2Proof/Config.lean ====
section
/-! DEFINITION. What the spec leaves open and the model leaves free: constants with no value that Lean can see. -/

namespace Sys2Proof.Config

/-- A value the spec leaves open, the n-th one taken (DESIGN CHOICE, log 3). -/
opaque freeValue : (w : Nat) → Nat → BitVec w

/-- FW_ID.BUILD, which R343 does not give (DESIGN CHOICE, log 5). -/
opaque fwBuild : BitVec 16

/-- Digit i of the device serial (R358, log 10). -/
opaque serialDigit : Nat → Fin 10

/-- Repair entries that are new to the one-time store in the shutdown self-test accepted at a time (R448, log 24). -/
opaque newRepairs : Nat → Nat

/-- The code, constants and entry of the firmware's library programs in slots 0 and 1 (R216, R244, log 9). -/
opaque libraryCode : Nat → List (BitVec 8)
/-- (DESIGN CHOICE, log 9) -/
opaque libraryConstants : Nat → List (BitVec 8)
/-- (DESIGN CHOICE, log 9) -/
opaque libraryEntry : Nat → Nat

/-- The number by which EV_ENGINE_FAULT names each cause, which R213 does not give (DESIGN CHOICE, log 17). -/
opaque engineFaultCode : Nat → BitVec 32

/-- Where a rule leaves the rounding of a result open: whether the exact value is rounded up (DESIGN CHOICE, log 15). -/
opaque roundUp : Nat → Nat → Bool

/-- The error of the arctangent of R161, in units, at most 1 either way: -1, 0 or 1 for 0, 1, 2 or more (DESIGN CHOICE, log 16). -/
opaque arctanError : Nat → Fin 3

/-- Coefficient i of the channeliser's filter response (0 5 ns, 1 10 ns, 2 20 ns), which the manual does not print (R141,
R143; DESIGN CHOICE, log 173). -/
opaque maceTap : Nat → Nat → Int

/-- A lane of an AUTO move that no shift up to 24 makes fit (R200, log 19). -/
opaque autoOverflow : BitVec 40 → BitVec 16

/-- An offset in 1/256 ns that a 32-bit word of TIME_STATUS cannot hold (R389, log 23). -/
opaque offsetOverflow : Int → BitVec 32

end Sys2Proof.Config
end

