-- ==== Sys2Proof/Machine/State.lean ====
section
/-! DEFINITION. The state of the UX8640 as plain data: every register, memory, buffer, counter, mode and pin level the
spec names (INVENTORY.md, State), and its value after reset. -/

namespace Sys2Proof.Machine

/-! ## Memories and tables -/

/-- A memory: (address, byte) pairs, addresses strictly rising, no byte equal to what an unlisted address reads as
(`Memory.wf` in Machine/Ops.lean; DESIGN CHOICE, log 4). -/
abbrev Memory := List Host.Cell

/-- A sparse table: keys strictly rising. -/
abbrev Tab (α : Type) := List (Nat × α)

/-! ## Start-up, power and life cycle (chapters 15, 19, 20, 21) -/

/-- DEV_STATE.BOOT (R343). -/
inductive Boot where
  | reset | rom | loading | waitHost | fwInit | ready
deriving DecidableEq, Repr

/-- The life-cycle states (R457). -/
inductive LifeCycle where
  | blank | factory | deployed | service | retired
deriving DecidableEq, Repr

/-- The power states of R425 and the moves between them (R343, R442). -/
inductive PowerMode where
  | active
  | standby
  /-- RETAIN accepted, commit point not reached (R434) -/
  | entering
  /-- RETAIN: the always-on island alone (R436) -/
  | retain
  /-- a wake runs (R439) -/
  | waking
  /-- VAON absent (R426) -/
  | off
deriving DecidableEq, Repr

/-- Causes of a cold start (R477). -/
inductive StartCause where
  | powerOn | resetPin | deviceReset | supply | watchdog | brownout | thermal
deriving DecidableEq, Repr

/-- What holds the device in reset (R43, R466, R468, R472, R473). -/
inductive ResetHold where
  /-- RESET_N low -/
  | pin
  /-- a supervised rail tripped -/
  | supply
  /-- the internal reset of DEVICE_RESET or of the watchdog -/
  | internal
  /-- a die sensor above 125.0 °C -/
  | thermal
deriving DecidableEq, Repr

/-- A firmware image that passed R368 and runs (R367, R462). -/
structure RunningImage where
  release : Nat
  sequence : Nat
  signed : Bool
  pubkey : List Byte
  /-- the flash slot it came from; none for a download -/
  slot : Option Nat
deriving DecidableEq, Repr

/-- A wake report (R441). -/
structure WakeReport where
  kind : Nat
  cause : Nat
  causes : Nat
  fastResume : Bool
  brownout : Bool
  resumed : Bool
  banksReq : BitVec 8
  banksFailed : BitVec 8
  presChanged : BitVec 8
  rescanned : BitVec 8
  tCommit : Nat
  retainNs : Nat
  supplyWaitUs : Nat
  tjWake : Int
deriving DecidableEq, Repr

/-- A RETAIN entry and the wake that ends it (R434 to R441). -/
structure RetainSt where
  req : Req
  banks : BitVec 8
  acceptedAt : Nat
  /-- when an enabled wake source last fired before it was armed (R435) -/
  noisyAt : Option Nat
  /-- when the wake sources were armed and the request was sent (R435) -/
  armedAt : Option Nat
  /-- when the commit point came, by the model's clock, and the time base then (R436) -/
  commitAt : Option Nat
  tCommit : Nat
  /-- ports whose presence and identity held at the commit point (R440), and those with presence alone (R441) -/
  presAtCommit : BitVec 8
  presence : BitVec 8
  /-- a wake registered in k_c to k_c + 3, waiting for its replay (R437) -/
  latched : Option (List WakeSource)
  /-- when the wake was registered -/
  wokenAt : Option Nat
  report : WakeReport
  /-- every supply good for 1.0 ms (R439 step 2) -/
  suppliesGood : Bool
  /-- banks judged kept and good (R432); none before step 5 -/
  goodBanks : Option (BitVec 8)
  /-- ports whose presence was lost in RETAIN while their bank stayed present (R440) -/
  presLost : BitVec 8
  /-- ports whose SERIAL alone is read, and those that passed (R440) -/
  serialChecks : BitVec 8
  serialGood : BitVec 8
  /-- the identity records in bank 5 (R431), empty for none -/
  kept : Vector (List Byte) 8
  /-- brown-out in this RETAIN (R429) -/
  brownout : Bool
deriving DecidableEq, Repr

/-- Chapter 19: the power state and what the always-on island holds. -/
structure PowerSt where
  mode : PowerMode
  portsAtStandby : BitVec 8
  funcOff : BitVec 8
  brownout : Bool
  brownoutAt : Nat
  lastWake : WakeReport
  retain : Option RetainSt
  /-- a POWER_STATE STANDBY or ACTIVE in progress: the command, the target, and its request time (R427, R428) -/
  move : Option (Req × PowerMode × Nat)
  pwrRet : Bool
  isolated : Bool
  signatures : Vector Dword 8
  /-- rails that have left their limits in RETAIN: their balls have no supply (R42) -/
  railsOut : List Rail
  /-- slots 8 to 15 with a program at the last commit point that no LOAD_PROGRAM has filled since (R431) -/
  lostSlots : List Nat
  /-- when an enabled wake source last fired while the device was awake (R435) -/
  stirredAt : Option Nat
deriving DecidableEq, Repr

/-- The image check in progress (R368 to R370). -/
inductive ImageLoad where
  | none
  /-- from boot flash at a start or wake -/
  | flash
  /-- FW_DOWNLOAD of the given length -/
  | download (req : Req) (bytes : Nat)
deriving DecidableEq, Repr

/-- The part of an image that FW_FLASH_WRITE is programming (R371). -/
structure FlashWrite where
  req : Req
  offset : Nat
  data : List Byte
  final : Bool
deriving DecidableEq, Repr

/-- Chapter 21: reset, boot and supervision. -/
structure StartSt where
  boot : Boot
  bootErr : Nat
  bootSrc : BootSrc
  holds : List ResetHold
  /-- the cause that was accepted first, for the next cold start, and its rail -/
  nextCause : StartCause
  nextRail : Option Rail
  cause : StartCause
  rail : Option Rail
  wdogStarts : List Nat
  starts : Nat
  startMs : Nat
  calMs : Nat
  /-- model time at the release of reset and at READY -/
  releasedAt : Nat
  readyAt : Option Nat
  /-- when the internal reset was last asserted (R468) -/
  heldAt : Nat
  load : ImageLoad
  image : Option RunningImage
  /-- DEVICE_RESET completed; the internal reset follows (R468) -/
  resetPending : Option Nat
  /-- when a supply last tripped, and when VAON rose, by the model's clock (R466, R474) -/
  tripAt : Nat
  vaonAt : Nat
  /-- when the die was last sampled and the crystal last measured (R473, R474) -/
  dieAt : Option Nat
  xtalAt : Option Nat
  dieHot : Bool
  /-- consecutive 1 ms samples of the die above 110.0 °C, at or below 100.0 °C -/
  dieAbove110 : Nat
  dieBelow100 : Nat
  xtalFault : Bool
  xtalBad : Nat
  xtalGood : Nat
  /-- the start-up calibration run has begun since READY (R470) -/
  startCalBegun : Bool
  flashWrite : Option FlashWrite
  /-- the next OFFSET that FW_FLASH_WRITE takes -/
  flashNext : Nat
deriving DecidableEq, Repr

/-- A self-test that runs (R447, R455). -/
inductive SelfTestRun where
  | none
  /-- SHUTDOWN accepted with SELFTEST at this time -/
  | shutdown (since : Nat)
  /-- SELFTEST_RUN of a block -/
  | block (req : Req) (memId inst pattern since : Nat)
deriving DecidableEq, Repr

/-- Chapter 20: self-test, repair and life cycle. -/
structure LifeSt where
  state : LifeCycle
  keyHash : List Byte
  /-- LIFECYCLE_SET in progress: the command, its target and the KEY_HASH to program -/
  setting : Option (Req × LifeCycle × List Byte)
  /-- the challenge issued, with its time (R462) -/
  challenge : Option (List Byte × Nat)
  failures : Nat
  test : SelfTestRun
  /-- SHUTDOWN from stream 0 whose completion has yet to be sent: its tag, its time, and SELFTEST (R446) -/
  shutNext : Option (BitVec 6 × Nat × Bool)
  shutDown : Bool
  outcome : Nat
  otpFull : Bool
  /-- the last result is from a per-block test -/
  setBit : Bool
  shutRecords : List FailRecord
  blockRecords : List FailRecord
  rawBitmap : List Byte
  startsSince : Nat
  aonMap : List RepairEntry
  otpMap : List RepairEntry
  /-- the repairs in effect: both maps as the last start applied them, and what per-block tests have added (R452, R455) -/
  applied : List RepairEntry
  /-- memories that no map repairs: (MEM_ID, INSTANCE) -/
  unrepaired : List (Nat × Nat)
  /-- the test port's instruction and the data register it selects (R458) -/
  jtagIr : JtagInstr
  jtagDr : List Bool
deriving DecidableEq, Repr

/-! ## The mailbox (chapter 15) -/

/-- A command in flight (R348): accepted, and started or not. -/
structure Flight where
  tag : BitVec 6
  seq : Word
  route : Route
  code : Nat
  /-- the parameter bytes copied when the doorbell was accepted -/
  params : List Byte
  timeoutMs : Nat
  acceptedAt : Nat
  started : Bool
deriving DecidableEq, Repr

/-- An event that waits for its entry (R350). -/
structure EventRec where
  code : Nat
  unit : Nat
  sub : Nat
  time : Nat
  values : List Nat
deriving DecidableEq, Repr

/-- The control port and the mailbox (R342 to R353). -/
structure MboxSt where
  window : Memory
  staging : Memory
  cq : Memory
  cqTail : BitVec 8
  cqHead : BitVec 8
  /-- IRQ_STATUS bits 6 to 1; bit 0 is computed -/
  irq : BitVec 7
  irqEnable : BitVec 7
  fullBusy : Bool
  eventRoute : BitVec 2
  scratch : Word
  flights : List Flight
  ring : List EventRec
  /-- events dropped since the last EV_EVENTS_LOST -/
  dropped : Nat
  /-- stream 0 messages to the host, oldest first: the bytes of each -/
  toHost : List (List Byte)
  /-- what the control port drove at the data clocks of the last read transaction (R341) -/
  portOut : List Nat
deriving DecidableEq, Repr

/-! ## Streams and capture (chapter 12) -/

/-- A record of a stream or a ring (R265): the fields of its frame and its payload. -/
structure Rec where
  typ : Nat
  source : Nat
  flags : Nat
  seq : Nat
  stream : Nat
  payload : List Byte
deriving DecidableEq, Repr

/-- An enabled stream (R262, R275): its records, oldest first, and what its next frame and HEADER need. -/
structure StreamSt where
  seq : Nat
  queue : List Rec
  /-- bytes of the oldest record already sent (R332) -/
  sent : Nat
  /-- a HEADER stands before the next data record (R267) -/
  headerDue : Bool
  /-- payload of the latest HEADER (R276) -/
  lastHeader : Option (List Byte)
  /-- frame sequence number of the next frame (R322) -/
  fseq : Nat
  /-- the share counts as full (R277) -/
  shareFull : Bool
deriving DecidableEq, Repr

/-- The three kinds of ring of a port (R282). -/
inductive RingKind where
  | raw | phase | band
deriving DecidableEq, Repr

/-- CAP_STATUS states of a ring (R296). -/
inductive RingMode where
  | off | running | stopped | frozen
deriving DecidableEq, Repr

/-- A record in a ring: the segments it lies in and the span of time it covers. -/
structure RingRec where
  record : Rec
  firstSeg : Nat
  lastSeg : Nat
  tFirst : Nat
  tLast : Nat
deriving DecidableEq, Repr

/-- One ring (R283, R284). -/
structure RingSt where
  mode : RingMode
  seq : Nat
  /-- segment being written and the bytes in it -/
  seg : Nat
  used : Nat
  recs : List RingRec
  headerDue : Bool
  /-- time of the oldest contiguous history -/
  since : Option Nat
deriving DecidableEq, Repr

/-- A ring's part of a snapshot (R287, R290): which ring, its pinned segments, whether it has ended and where. -/
structure SnapPart where
  port : Port
  kind : RingKind
  segs : List Nat
  done : Bool
  /-- time up to which each column of the ring has written records, at most T_trig + POST_MS -/
  ends : List Nat
deriving DecidableEq, Repr

/-- A snapshot, open or published (R287 to R291). -/
structure Snapshot where
  id : Nat
  /-- zone group; none for a mask snapshot -/
  group : Option (Fin 64)
  content : BitVec 3
  ports : BitVec 8
  forced : Bool
  spec : Bool
  early : Bool
  truncated : Bool
  frozen : Bool
  mask : Bool
  eventId : Nat
  location : Nat
  tTrig : Nat
  preReqMs : Nat
  preValidUs : Nat
  postReqMs : Nat
  postValidUs : Nat
  zone : Option (Fin 4096)
  parts : List SnapPart
  /-- grid position of the sample that opened it, and whether it waits for the CONFIRM of its event (R254, R289) -/
  trigPos : Int
  unconfirmed : Bool
  published : Bool
deriving DecidableEq, Repr

/-- SNAP_READ in progress (R291). -/
structure Readout where
  req : Req
  snapId : Nat
  stream : Nat
  release : Bool
  /-- records still to enter the stream -/
  todo : List Rec
  records : Nat
  bytes : Nat
  /-- SNAP_END has entered the stream -/
  ended : Bool
deriving DecidableEq, Repr

/-- States of a group's snapshots (R286). -/
inductive SnapMode where
  | armed | capturing | holdoff
deriving DecidableEq, Repr

/-- A zone group (R259, R270, R286). -/
structure GroupSt where
  active : Bool
  latched : Bool
  /-- a member has a value (the group is not STALE), the value and the zone giving it -/
  value : Option (Int × Nat)
  activeZones : Nat
  eventId : Nat
  snapMode : SnapMode
  /-- model time of entering ARMED, and of publication for HOLDOFF -/
  since : Nat
  suppressedCount : Nat
  /-- model time at which the timer of auto mode started, and whether it has expired since (R288) -/
  armedAt : Nat
  autoDone : Bool
  /-- T_SAMPLE of its latest trigger: the others of that evaluation are no triggers of their own (R287) -/
  trigAt : Option Nat
deriving DecidableEq, Repr

/-- A trace of a mask test (R293): its first cycle, the cycles taken for it, the end of its last frame, and sum and count per bin
from the first bin that the sums hold. -/
structure MaskTrace where
  first : Nat
  taken : Nat
  lastEnd : Nat
  sums : List (Nat × Nat)
deriving DecidableEq, Repr

/-- The mask test of a port (R292 to R295). -/
structure MaskSt where
  /-- upper and lower limit per bin from FIRST_BIN -/
  envelope : List (Int × Int)
  /-- the traces that wait for their evaluation or still sum, oldest first -/
  traces : List MaskTrace
  /-- the cycle in progress is taken; a window cycle has passed its turn on -/
  taking : Bool
  owed : Bool
  /-- violating runs of the last trace: first and last bin -/
  lastRuns : List (Nat × Nat)
  stopped : Bool
  /-- the mask snapshot, until released -/
  snapId : Option Nat
deriving DecidableEq, Repr

/-- Capture memory training (R280): steps run for the request, or the device's own at a start. -/
structure CapMemSt where
  trained : Bool
  /-- capacity in GiB that the last training read from the devices (R279); 0 before -/
  gib : Nat
  training : Option (Option Req)
  /-- a start or wake waits for the reference to qualify before it trains -/
  due : Bool
  /-- data rate in effect, by the code of CAPMEM_CFG.RATE -/
  rate : Nat
  selfRefresh : Bool
  /-- model time of the last access (R427) and of the last periodic calibration -/
  lastAccess : Nat
  lastCal : Nat
  content : Memory
deriving DecidableEq, Repr

/-- Chapter 12. -/
structure CaptureSt where
  streams : Tab StreamSt
  rings : Vector (Vector RingSt 3) 8
  snapshots : List Snapshot
  nextSnap : Nat
  readouts : List Readout
  masks : Vector MaskSt 8
  mem : CapMemSt
deriving DecidableEq, Repr

/-! ## Zones and detection (chapter 11) -/

/-- States of the event machine (R250, R260). -/
inductive ZoneMode where
  | off | idle | pending | prov | active
deriving DecidableEq, Repr

/-- The fields that say how a zone's samples are judged, and take effect at a sample (R253): DETECTOR, METRIC,
STAT_BANDS, TEMPLATE, CONF_WIN and PROV_WIN. -/
structure ZoneJudge where
  detector : Nat
  metric : Nat
  statBands : Nat
  template : Nat
  confWin : Nat
  provWin : Nat
deriving DecidableEq, Repr

/-- A zone (R245 to R250, R260). -/
structure ZoneSt where
  mode : ZoneMode
  run : Nat
  clear : Nat
  eventId : Nat
  /-- number of the next sample, and the first block number it may use (R245) -/
  next : Nat
  nextBlock : Nat
  /-- last evaluated sample, whether it was invalid, whether there was one -/
  zsample : Nat
  invalid : Bool
  sampled : Bool
  /-- T_SAMPLE of it -/
  lastT : Nat
  level : Int
  tmax : Option Int
  /-- baselines with 16 fraction bits; none until the first valid sample (R246) -/
  base : List (Option Int)
  /-- statistics of the last valid samples, newest first, at most 64 (R247) -/
  hist : List Int
  /-- LOCATION, the flags EDGE and CLIP and BAND of the event's last record (R256) -/
  recLocation : Nat
  recEdge : Nat
  recBand : Nat
  /-- LOCATION, the flags EDGE, CLIP and REF_HELD, BAND and STAT of a record emitted on the last sample -/
  location : Nat
  recFlags : Nat
  lastBand : Nat
  lastStat : Int
  /-- frame boundaries at which a change of the judging fields applies, each with the fields before it (R253) -/
  reconfig : List (Nat × ZoneJudge)
  /-- SEQ of the last profile record evaluated -/
  profSeq : Option Nat
deriving DecidableEq, Repr

/-- Chapter 11. -/
structure DetectSt where
  zones : Tab ZoneSt
  groups : Vector GroupSt 64
  /-- the EVENT_QUERY ring, oldest first, at most 256 records (R251) -/
  ring : List (List Byte)
  /-- running number of the next record (R496) -/
  nextRun : Word
  nextEventId : Word
  /-- the whole second of the time base that has had its PERIODIC records (R270) -/
  periodicAt : Nat
  /-- detection off by a lost bank or a bad zone table (R238, R431, R444) -/
  off : Bool
deriving DecidableEq, Repr

/-! ## Heads (chapter 3) -/

/-- HEAD_STATUS.ID_STATE (R69). -/
inductive IdState where
  | absent | reading | accepted | rejected | busFault
deriving DecidableEq, Repr

/-- What the master puts on the identity bus (R61, R63): START, a repeated START, a byte, the clocks of a byte read with
its acknowledge or without, a recovery pulse on SCL, STOP. -/
inductive BusOp where
  | start | restart | write (b : Byte) | read (ack : Bool) | pulse | stop
deriving DecidableEq, Repr

/-- A read of the identity record in progress (R61 to R63, R72). -/
structure IdRead where
  /-- model time at which the first transaction is due -/
  dueAt : Nat
  /-- transactions have begun -/
  begun : Bool
  /-- transaction 0 to 7 and attempt 0 to 3, and the model time at which the attempt began, its recovery pulses before its
  START included -/
  transaction : Nat
  attempt : Nat
  attemptAt : Nat
  bytes : List Byte
  /-- the HEAD_RESCAN that asked for the read -/
  rescan : Option Req
  /-- abandon at the next transaction boundary, by the timeout of HEAD_RESCAN (R356) -/
  abandonTimeout : Bool
deriving DecidableEq, Repr

/-- The head of a port (R58 to R76). -/
structure HeadSt where
  present : Bool
  ilkClosed : Bool
  idState : IdState
  rejectCause : Nat
  badOffset : Nat
  headChanged : Bool
  /-- the identity record, 512 bytes, while ACCEPTED -/
  record : List Byte
  read : Option IdRead
  /-- a read that a presence loss has abandoned and whose transaction has not ended (R74) -/
  lost : Option IdRead
  /-- model time at which the filters of PRES_N and ILK began or last accepted a change (R58) -/
  presAt : Nat
  ilkAt : Nat
  /-- what the UX8640 has put on the identity bus in the last attempt (R61, R63) -/
  bus : List BusOp
deriving DecidableEq, Repr

/-! ## Shot sequencing (chapter 5) -/

/-- SEQ_STATUS.STATE (R128). -/
inductive PortMode where
  | stopped | starting | running | single | halted | shut
deriving DecidableEq, Repr

/-- A launch grid: of a free-running port or of a lockstep group (R106, R113). -/
structure Grid where
  /-- epoch in ns of the time base; none before it is set -/
  epoch : Option Nat
  /-- cycle in progress -/
  cycle : Nat
  lfsr : BitVec 16
  /-- dither of each slot S0 to S3 in the cycle in progress -/
  dither : List Nat
  /-- SLOT_MASK of the schedule before this empty cycle, while one runs (R119) -/
  oldMask : Option (BitVec 4)
  /-- cycle 0 has begun -/
  launched : Bool
  /-- members of a group enabled since none was, in order (R122) -/
  order : List Port
deriving DecidableEq, Repr

/-- A DAS frame in flight (R108, R112). -/
structure Frame where
  slot : Fin 4
  /-- launch and end, ns of the time base -/
  start : Nat
  stop : Nat
  cycle : Nat
  /-- grid position of its samples -/
  pos : Nat
  pulse : Nat
  /-- blanked spans: first bin and count (R112) -/
  blanks : List (Nat × Nat)
  /-- the slot's gain profile the frame was launched with: start bin and range -/
  profile : List (Nat × Nat)
  /-- rank of its slot, and the port's start that it belongs to -/
  rank : Nat
  era : Nat
  /-- IF in kHz, filter response, ALIGN_SHIFT and probe amplitude in 1/256 mV that it was launched with (R126, R139) -/
  ifKhz : Nat
  resp : Fin 3
  shift : Nat
  ampl : Nat
  /-- alignment of its slot restarts with it (R159) -/
  restart : Bool
  /-- its cycle is taken for the mask test (R293) -/
  taken : Bool
  /-- time base at the acceptance of a fault that shut the port while the frame was in flight (R164) -/
  cutAt : Option Nat
  /-- bins that the channeliser has delivered, and gauges formed (R144, R167) -/
  formed : Nat
  gauges : Nat
deriving DecidableEq, Repr

/-- A grid position of a window cycle: its samples carry GAP (R115, R164). Span of the frame that it stands for, rank and era
as of a frame; gauges formed. -/
structure GapPos where
  slot : Fin 4
  start : Nat
  stop : Nat
  cycle : Nat
  pos : Nat
  rank : Nat
  era : Nat
  gauges : Nat
deriving DecidableEq, Repr

/-- A Raman or check window (R115 to R117). -/
structure Window where
  raman : Bool
  opened : Nat
  closes : Nat
  pumped : Bool
  /-- a proof pulse ran or was missed in it -/
  proofRan : Bool
deriving DecidableEq, Repr

/-- A host launch request (R109, R110): the command, its slot, when it is due, and whether it has been deferred. -/
structure LaunchReq where
  req : Req
  slot : Fin 4
  due : Nat
  deferred : Bool
deriving DecidableEq, Repr

/-- The sequencer of a port. -/
structure SeqSt where
  mode : PortMode
  /-- falling ramps wait for the last frame in flight (R121) -/
  draining : Bool
  /-- the enable ramps have completed, and when by the time base (R122) -/
  joined : Bool
  rampsAt : Nat
  busyUntil : Vector Nat 4
  windowUntil : Nat
  lastLaunch : Nat
  window : Option Window
  frames : List Frame
  /-- host launch requests: the command, the slot and the due time (R109, R110) -/
  requests : List LaunchReq
  /-- grid positions counted since the start or join (R201) -/
  gridPos : Nat
  /-- stretches of one schedule, newest first: first position, first cycle and SLOT_MASK (R119, R201) -/
  spans : List (Nat × Nat × Nat)
  /-- launches resume at the next cycle boundary (R295) -/
  resuming : Bool
  /-- slots in effect -/
  slotMask : BitVec 4
  /-- the port has launched since it was enabled -/
  started : Bool
  /-- positions of window cycles, newest first (R115) -/
  gaps : List GapPos
  /-- slots whose alignment restarts with their next launch (R159) -/
  realign : BitVec 4
deriving DecidableEq, Repr

/-! ## The cluster work queue and the engines (chapters 9, 10) -/

/-- Why a block's place holds MK_GAP (R209). -/
inductive GapCause where
  | late | engineFault | queueFull | noEngine
deriving DecidableEq, Repr

/-- Where a block stands (R201 to R211). -/
inductive BlockMode where
  | ready
  | taken (e : EngineId)
  /-- committed, waiting for its turn: the result bytes -/
  | committed (results : List Byte)
  | gap (c : GapCause)
deriving DecidableEq, Repr

/-- A block of a port's queue (R201, R204). -/
structure Block where
  column : Nat
  index : Nat
  /-- grid position of the first sample -/
  pos : Int
  tFirst : Nat
  tReady : Nat
  tCutoff : Nat
  deadline : Nat
  gauges : Nat
  firstGauge : Nat
  samples : Nat
  rows : Nat
  hasGap : Bool
  first : Bool
  /-- the port's grid interval and zone count of its header -/
  gridPs : Nat
  phase : List (BitVec 16)
  quality : List Byte
  mode : BlockMode
  /-- the port's start that the block belongs to (R205) -/
  era : Nat
  /-- it received state from a block other than the one before it (R206) -/
  restart : Bool
deriving DecidableEq, Repr

/-- A gauge sample in the queue: gauge, grid position, increment, quality code (R162, R201). -/
structure Sample where
  gauge : Nat
  pos : Nat
  phase : BitVec 16
  quality : Byte
deriving DecidableEq, Repr

/-- The work queue of a port (R201 to R211). -/
structure QueueSt where
  /-- samples not yet cut into blocks -/
  samples : List Sample
  blocks : List Block
  /-- number of the next block of each column -/
  nextBlock : List Nat
  /-- number of the latest committed block and its state, of each column -/
  state : List (Option Nat × List Byte)
  /-- blocks released in order, whose records are not yet in their stream queues (R210) -/
  released : List Block
  /-- blocks of this start that have left the queue, for the zone samples still to come (R245) -/
  recent : List Block
  /-- era, column and T_CUTOFF of blocks that ended as gaps before it: the next of the column is not eligible sooner (R206) -/
  waitUntil : List (Nat × Nat × Nat)
  /-- starts of the port counted, and whether the queue takes samples -/
  era : Nat
  taking : Bool
deriving DecidableEq, Repr

/-- State of an engine (R207, R213). -/
inductive EngineMode where
  | idle
  /-- a block is being copied: port, column, index -/
  | copying (p : Port) (column index : Nat)
  | running (p : Port) (column index : Nat)
  | offline
deriving DecidableEq, Repr

/-- A Clove engine (R195, R198). -/
structure EngineSt where
  v : Vector (Vector (BitVec 16) 8) 32
  acc : Vector (Vector (BitVec 40) 8) 4
  ar : Vector (BitVec 18) 8
  of : Vector (BitVec 18) 8
  cs : Vector (BitVec 18) 8
  cl : Vector (BitVec 18) 8
  rc : BitVec 17
  bexp : BitVec 5
  flg : BitVec 16
  pc : BitVec 16
  pmem : Memory
  dmem : Memory
  mode : EngineMode
  cycles : Nat
  /-- model times of the faults of the last 10 s -/
  faults : List Nat
  /-- program that ran last: its constants are in data memory -/
  lastProgram : Option Nat
  /-- program slots copied into program memory -/
  holds : List Nat
  /-- end of the code of the program that runs, bytes of program memory -/
  codeEnd : Nat
  /-- the next instruction lies outside program memory: PC has 16 bits (R195, R228) -/
  beyond : Bool
  /-- model time at which the block that runs was granted -/
  busySince : Nat
  /-- T_CUTOFF of the block that runs -/
  cutoff : Nat
deriving DecidableEq, Repr

/-- A program of the program table (R214 to R216). -/
structure Program where
  code : List Byte
  constants : List Byte
  entry : Nat
  stateBytes : Nat
  signed : Bool
deriving DecidableEq, Repr

/-- A cluster (R212, R217). -/
structure ClusterSt where
  /-- 0 1.000 GHz, 1 0.75 GHz, 2 0.5 GHz: the step of the sensor, before CLOCK_MAX -/
  step : Nat
  hot : Bool
  temp : Int
  /-- consecutive samples above 95.0, 100.0 and 105.0 °C, and at least 3.0 °C below the present threshold -/
  above95 : Nat
  above100 : Nat
  above105 : Nat
  below : Nat
  /-- spans of model time in which engines were busy, within the last second -/
  busy : List (Nat × Nat)
deriving DecidableEq, Repr

/-- Chapter 9, chip-wide. -/
structure CloveSt where
  engines : Vector EngineSt 32
  clusters : Vector ClusterSt 8
  programs : Tab Program
  /-- LOAD_PROGRAM in progress: slot, program, engines that hold it -/
  load : Option (Req × Nat × Program × List Nat)
  /-- the cluster whose remote request was served last (R207) -/
  lastRemote : Port
deriving DecidableEq, Repr

/-! ## Housekeeping and outputs (chapter 17) -/

/-- An entry of a converter's work (R391 to R400). -/
structure HkEntry where
  channel : Nat
  preset : Nat
  n : Nat
  format : Nat
  /-- of work that had been pending (R396), and started while a reference settled (R399) -/
  late : Bool
  settling : Bool
  /-- the check entry of R401 -/
  check : Bool
  /-- an entry of HK_SEQ -/
  user : Bool
  /-- the gain, in 1/32,768, and the reference in µV with which it started (R399, R414) -/
  gain : Nat
  vref : Nat
deriving DecidableEq, Repr

/-- A housekeeping converter (R392 to R402). -/
structure HkSt where
  fault : Bool
  mismatch : Bool
  refSettling : Bool
  settlingSince : Nat
  calHold : Bool
  pending : Bool
  neverSettled : Word
  /-- entries of the work in progress, the running one first -/
  work : List HkEntry
  /-- a user job or sequence is in progress -/
  jobRuns : Bool
  /-- an OVERRUN waits for the job's next result -/
  overrunDue : Bool
  checkFails : Nat
  checkPasses : Nat
  lastCheck : Option Nat
  checkDue : Bool
  /-- a check trigger was dropped: the next check's result carries OVERRUN (R396) -/
  checkExcess : Bool
  /-- launches counted towards TRIG_DIV, and the model times at which the triggers they have earned fall due (R395) -/
  launches : Nat
  due : List Nat
  /-- model time at which the front entry's settle count began, and how often it has begun again (R397, R398) -/
  frontAt : Nat
  restarts : Nat
  /-- the 10 ms boundary or timer period, and the whole second, in which a trigger has been taken -/
  tickAt : Nat
  checkAt : Nat
deriving DecidableEq, Repr

/-- A loop output (R404 to R407). -/
structure LoopSt where
  row : Nat
  openC : Bool
  compliance : Bool
  overCurrent : Bool
  /-- COMMAND_UA and MEASURED_UA, µA (R410) -/
  commandUa : Nat
  measuredUa : Nat
  lastCommand : Option Nat
  /-- model time since which the loop is stale (R405) -/
  staleSince : Option Nat
  driveOn : Bool
  /-- model time the drive was last tried and found good -/
  retryAt : Nat
deriving DecidableEq, Repr

/-- An alarm output (R408, R409). -/
structure AlarmSt where
  active : Bool
  activeSince : Nat
  conducting : Bool
  overload : Bool
  tripAt : Nat
  /-- the contact is held open by a trip until its retry -/
  tripped : Bool
  staleSince : Option Nat
deriving DecidableEq, Repr

/-- Chapter 17. -/
structure HouseSt where
  hk : Vector HkSt 2
  values : Vector Word 32
  /-- FORMAT of each channel's latest result (R400), and the reference of its entry, µV (R399, R414) -/
  formats : Vector Nat 32
  vrefs : Vector Nat 32
  /-- latest results of the fixed part of HK-A, HK.00 to HK.07, each with its reference in µV (R79, R393) -/
  cases : Vector (Word × Nat) 8
  /-- check divider step: 0 one quarter, 1 one half, 2 three quarters -/
  checkStep : Nat
  agreeFails : Nat
  agreePasses : Nat
  loops : Vector LoopSt 8
  alarms : Vector AlarmSt 8
deriving DecidableEq, Repr

/-! ## Source drive and optical safety (chapter 4) -/

/-- A ramp in progress (R83, R85, R86, R494). -/
structure Ramp where
  start : Nat
  stop : Nat
  shape : Nat
  /-- duration in ns, and the model time it began -/
  duration : Nat
  began : Nat
deriving DecidableEq, Repr

/-- One emitter of a port: SEED, GATE or PUMP (R77, R80). -/
structure EmitterSt where
  ramp : Option Ramp
  /-- set-point code after the ramp -/
  ramped : Nat
  /-- compensation factor in use, in 1/32,768 -/
  comp : Nat
  /-- command code at the DAC -/
  code : Nat
  /-- timing pair of SEED high, and model time since which it has been -/
  timing : Bool
  onAt : Nat
  /-- last pulse on the timing pair of GATE or PUMP: rise and fall, ns of the time base (R107) -/
  pulse : Option (Nat × Nat)
deriving DecidableEq, Repr

/-- A temperature as an exact fraction of 0.1 °C: numerator over a positive denominator. -/
structure Tenths where
  num : Int
  den : Nat
deriving DecidableEq, Repr

/-- The source drive of a port. -/
structure DriveSt where
  emitters : Vector EmitterSt 3
  /-- derating factor D in 1/32,768 (R81) -/
  derate : Nat
  /-- case temperature in use, and the model time of its last good delivery (R79, R82) -/
  caseTemp : Option Tenths
  caseAt : Nat
  /-- model time since which the reading is out of range, hot, and good and not stale -/
  rangeSince : Option Nat
  hotSince : Option Nat
  goodSince : Option Nat
  latched : Bool
  firstCause : Nat
  emitter : Nat
  causeMask : BitVec 10
  /-- model time a proof falls due (R90); none before the first launch -/
  proofDue : Option Nat
  /-- a proof is due and waits for a window -/
  proofWaits : Bool
  /-- model time of the last update of the command codes and of the last case temperature delivered (R78) -/
  updatedAt : Nat
  caseUpdAt : Option Nat
  /-- model time of the acceptance that shut the port last (R99) -/
  shutAt : Option Nat
  /-- time base at which PUMP_NRG is sampled, and the width of its pulse (R89) -/
  nrgDue : Option (Nat × Nat)
deriving DecidableEq, Repr

/-! ## Coherent receive (chapter 6) and the gauge former (chapter 7) -/

/-- The receive chain of a port (R130 to R152). -/
structure RxSt where
  /-- range code in use (R134) -/
  range : Nat
  /-- range switches, newest first: the receive bin boundary, ns of the time base, and the range from there on (R131) -/
  switches : List (Nat × Nat)
  pairFault : Bool
  faultInput : Nat
  faultKind : Nat
  faultRange : Nat
  clipSeen : Bool
  ovldSeen : Bool
  offsetX : Int
  offsetY : Int
  amplX : Nat
  amplY : Nat
  /-- range of the most recent judged check (R151), and of the check that runs -/
  checkRange : Nat
  runRange : Nat
  /-- range that is due at the next checked window (R148) -/
  dueRange : Nat
  /-- a check runs in the open window, which opened at this time -/
  checking : Option Nat
  /-- consecutive failures at each range, consecutive passes (R150) -/
  fails : Vector Nat 4
  passes : Nat
  /-- reference amplitudes of X and of Y at each range (R149) -/
  refX : Vector Nat 4
  refY : Vector Nat 4
  /-- corrections C_r refined by calibration: magnitude and phase of X and Y per range (R140); none before -/
  corr : Option (List (Int × Int))
  /-- refined trims and corrections that wait for the port's next cycle boundary (R140, R414) -/
  corrNext : Option (List Int × List (Int × Int))
  /-- offset trims of X and Y per range (R412) -/
  trims : List Int
  /-- the time base at which trims and corrections last took effect, and those before it (R140) -/
  coefBefore : Option (Nat × List Int × Option (List (Int × Int)))
  /-- model time of the last EV_RX_OVERLOAD -/
  lastOvld : Option Nat
  /-- spans in which OVLD was raised on an input: input, rise and fall, ns of the time base, newest first (R132) -/
  ovld : List (Fin 2 × Nat × Nat)
  /-- spans of the time base whose codes have been looked at for clips: first ns and end -/
  seen : List (Nat × Nat)
  /-- raw words of both converters that wait for their RAW_DATA record: the time of the first, X and Y; none while the port
  is not RUNNING (R269) -/
  raw : Option (Nat × List Half × List Half)
deriving DecidableEq, Repr

/-- A complex number with integer parts. -/
structure Cpx where
  re : Int
  im : Int
deriving DecidableEq, Repr

/-- What the gauge former keeps of one gauge (R158, R161). -/
structure GaugeMem where
  /-- alignment vector of each slot, 24 fraction bits; none before the first good pair -/
  align : Vector (Option Cpx) 4
  /-- last good vector of the reference slot, with its cycle -/
  vref : Option (Cpx × Nat)
  /-- aligned vector of the last good sample -/
  wlast : Option Cpx
deriving DecidableEq, Repr

/-- The gauge former of a port. -/
structure GaugeSt where
  mem : Tab GaugeMem
  /-- samples, FADE and held samples of the second in progress, and that second -/
  second : Nat
  nSamples : Nat
  nFaded : Nat
  nHeld : Nat
  fadedPermille : Nat
  heldPermille : Nat
deriving DecidableEq, Repr

/-! ## The Cherex link (chapter 14) -/

/-- LINK_STATUS.STATE (R323, R339). -/
inductive LinkStage where
  | disabled | detect | train | lock | exchange | active | down | loop
deriving DecidableEq, Repr

/-- Low-power state of a direction (R334). -/
inductive LinkPm where
  | awake | quiet | sleep
deriving DecidableEq, Repr

/-- A lane (R324, R326, R338, R339). -/
structure LaneSt where
  pre : Nat
  main : Nat
  post : Nat
  skew : Nat
  prbsLock : Bool
  /-- the partner's status report and this end's own RX_READY -/
  peerReady : Bool
  ownReady : Bool
  /-- consecutive training frames in which both reported it -/
  readyFrames : Nat
  /-- status that answers the partner's requests for PRE, MAIN and POST (R324) -/
  tapStatus : Vector Nat 3
  blockLock : Bool
  /-- marker count of the last ALIGN, consecutive good and bad marker periods -/
  mcount : Nat
  goodMarks : Nat
  badMarks : Nat
deriving DecidableEq, Repr

/-- A 66-bit block: control or data, and its eight bytes (R317). (DESIGN CHOICE, log 159) -/
structure WireBlock where
  control : Bool
  bytes : List Byte
deriving DecidableEq, Repr

/-- A test loop (R337). -/
structure LoopRun where
  mode : Nat
  pattern : Nat
  lanes : BitVec 8
  timeMs : Nat
  /-- the completion on stream 0 that has yet to be sent, and the model time at which the loop then starts -/
  awaits : Option (BitVec 6)
  startAt : Nat
  /-- FSEQ of PATTERN 1, and whether its last frame has yet to come back (R338) -/
  fseq : Nat
  out : Bool
deriving DecidableEq, Repr

/-- The link (R314 to R340). -/
structure LinkSt where
  stage : LinkStage
  /-- model time of entering the stage -/
  since : Nat
  /-- lanes in use, and the rate in effect -/
  width : Nat
  rate : Nat
  txPm : LinkPm
  rxPm : LinkPm
  failStage : Nat
  failCause : Nat
  failCount : Nat
  polarity : BitVec 8
  lanes : Vector LaneSt 8
  /-- consecutive good detection checks, the model time of the last check, and the lanes that passed -/
  goodChecks : Nat
  checkAt : Nat
  lanesSeen : BitVec 8
  /-- model time since which training frames are sent -/
  framesSince : Option Nat
  /-- the check of LOCK that failed last: 3, 4 or 5 -/
  lockCause : Nat
  /-- the last peer capability block with a good CRC, and whether one acknowledged the own block (R328) -/
  peerCap : Option (List Byte)
  acked : Bool
  /-- CRC of the own block sent last, and whether it had PEER_SEEN -/
  ownCrc : Nat
  seenSent : Bool
  frameMax : Nat
  /-- electrical idle after a failure, since (R325) -/
  idleSince : Option Nat
  /-- this bring-up was begun from DOWN (R325) -/
  fromDown : Bool
  /-- stream last served at each level of R332 -/
  lastHigh : Nat
  lastLow : Nat
  granted : Tab Nat
  consumed : Tab Nat
  /-- TOTAL of stream 0 granted to the host, and whether a CREDIT block is due (R331) -/
  hostTotal : Nat
  creditDue : Bool
  creditAt : Nat
  /-- model time since which there is only IDLE to send -/
  txIdleSince : Nat
  refreshAt : Nat
  /-- model time from which the transmitter may send again after QUIET or SLEEP (R335) -/
  txReadyAt : Nat
  /-- model time from which the receiver, out of SLEEP, takes frames again (R335, R336) -/
  rxReadyAt : Nat
  loop : Option LoopRun
  /-- bytes of the oldest stream 0 message already sent -/
  sent0 : Nat
  fseq0 : Nat
  /-- FSEQ of the next capability frame -/
  fseqCap : Nat
  /-- the blocks sent last: a frame, a CREDIT, or PM (R318, R321) -/
  txBlocks : List WireBlock
deriving DecidableEq, Repr

/-! ## Raman temperature (chapter 8) -/

/-- The sums of an accumulation period (R177 to R179): its span, windows accumulated and expected, whether a window was
dropped for a BIAS fault, and per trace bin the two sums and the saturation flag. -/
structure RamanAcc where
  start : Nat
  stop : Nat
  windows : Nat
  expected : Nat
  biasDrop : Bool
  stk : List Int
  ast : List Int
  sat : List Bool
deriving DecidableEq, Repr

/-- The Raman positions and delays in use (R171, R180): D_ram, COIL_FIRST, COIL_LAST, FIBRE0 and DIFF_ATTEN_USE. -/
structure RamanCoef where
  dRam : Nat
  coilFirst : Nat
  coilLast : Int
  fibre0 : Int
  atten : Int
deriving DecidableEq, Repr

/-- A closed period that is being converted (R180, R188, R190, R192): its sums, the values it is converted with, the
sum and number of the RTD readings behind T_COIL in 0.001 °C, and its header flags. -/
structure RamanConv where
  acc : RamanAcc
  coef : RamanCoef
  coilSum : Int
  coilN : Nat
  /-- GROUP_INDEX in effect as the period closed (R127) -/
  index : Nat
  stale : Bool
  refHeld : Bool
  noRef : Bool
deriving DecidableEq, Repr

/-- A Raman recording in progress (R175, R176, R179): when its PUMP launched, whether a BIAS fault stood at some moment
since its baseline began, whether a calibration step uses it, and for a RAMAN step whether its integrators are swapped. -/
structure RamanRec where
  pumpAt : Nat
  bias : Bool
  cal : Bool
  swap : Option Bool
deriving DecidableEq, Repr

/-- The two accumulations of a RAMAN step, of normal and of swapped windows (R412), and the windows that it has taken. -/
structure RamanCal where
  taken : Nat
  stk : List Int
  ast : List Int
  swapStk : List Int
  swapAst : List Int
deriving DecidableEq, Repr

/-- Causes of RTD_FAULT (R187). -/
inductive RtdCause where
  | open_ | short | ground | unsettled
deriving DecidableEq, Repr

/-- An RTD pulse in progress, with the values it began with (R183, R185): start, RTD_CFG.PULSE, the current that it
sources in units of 20 nA, DELAY, and whether it falls in a calibration hold of HK-B; gain and reference of HK-B as of an
entry, whether it started while the reference settled, and how often its settle count has begun again (R398, R399). -/
structure RtdPulse where
  start : Nat
  pulseMs : Nat
  current : Nat
  delay : Nat
  held : Bool
  gain : Nat
  vref : Nat
  settling : Bool
  restarts : Nat
deriving DecidableEq, Repr

/-- The Raman integrator and the reference-coil RTD of a port. (DEDUCED, log 22) -/
structure RamanSt where
  /-- positions measured by a calibration; none before the first (R171) -/
  coef : Option RamanCoef
  gainStk : Nat
  gainAst : Nat
  /-- D_ram and the two RAMAN_PAIR_GAIN that wait for the first window of the next period, after the start of the period
  in which the calibration completed (R181) -/
  nextWindow : Option (Nat × Nat × Nat × Nat)
  period : Option RamanAcc
  conv : Option RamanConv
  /-- sums of closed periods carried forward (R192) -/
  carried : Option RamanAcc
  seq : Nat
  /-- temperature words of the last record without STALE -/
  lastWords : Option (List Half)
  /-- the last profile record: header and words (R190, R191) -/
  profile : Option (List Byte)
  recording : Option RamanRec
  biasStk : Bool
  biasAst : Bool
  /-- model time at which a BIAS fault was last cleared, and at which the fault of each input last changed -/
  biasEnd : Option Nat
  biasAt : Vector Nat 2
  /-- the accumulations of the port's RAMAN step -/
  calSums : RamanCal
  /-- end of the period closed last -/
  closedAt : Nat
  /-- PUMP time of cycle 0, frame and RAMAN_M of the grid as last in effect (R179) -/
  sched : Option (Nat × Nat × Nat)
  /-- the identity record accepted last, with which sums accumulated before its loss are still converted (DEDUCED, log 22) -/
  lastRecord : List Byte
  pulse : Option RtdPulse
  /-- time base at which the port's last pulse was scheduled -/
  lastPulse : Option Nat
  /-- good readings: pulse start and temperature in 0.001 °C -/
  readings : List (Nat × Int)
  fault : Option RtdCause
  faultAt : Nat
  goods : Nat
  bads : Nat
  /-- latest good reading, 0.001 °C -/
  tRtd : Int
  /-- sum and number of the readings of the last period that had one, and its end (R188) -/
  lastGood : Option (Int × Nat × Nat)
  refHeld : Bool
  noRef : Bool
deriving DecidableEq, Repr

/-! ## Sumac jobs (chapter 13) -/

/-- What a decompression serves (R310). -/
inductive DecUse where
  /-- SUMAC_JOB with its descriptor -/
  | job (desc : List Byte)
  | zonePack
  | baselines
  | mask (p : Port)
deriving DecidableEq, Repr

/-- A decompression that waits or runs: its command, its use and the coded bytes. -/
structure DecJob where
  req : Req
  use : DecUse
  coded : List Byte
deriving DecidableEq, Repr

/-- The codec (R306 to R312). -/
structure SumacSt where
  /-- COMPRESS_BLOCK jobs in order of acceptance: descriptor and input -/
  blockJobs : List (Req × List Byte × List Byte)
  decJobs : List DecJob
  /-- STREAM jobs in order, with the marks that stand among them: stream, record, REF_DIST, length of the header left uncoded, and
  whether the stream has been disabled since -/
  streamJobs : List (Nat × Rec × Nat × Nat × Bool)
  /-- tags of the COMPRESS_BLOCK jobs that run on a lane of the encoder (R311) -/
  laneBlocks : List (BitVec 6)
deriving DecidableEq, Repr

/-! ## Time base, site synchronisation and the time-interval unit (chapter 16) -/

/-- TIME_STATUS.REF_STATE (R389). -/
inductive RefState where
  | free | acquiring | locked | holdover
deriving DecidableEq, Repr

/-- TIME_STATUS.SITE_STATE (R389). -/
inductive SiteState where
  | none | master | seeking | aligning | locked | holdover | fault
deriving DecidableEq, Repr

/-- Parameters of TI_ARM (R384). -/
structure TiArm where
  src : Nat
  port : Nat
  slot : Nat
  flags : Nat
  stopMask : Nat
  stops : Nat
  windowNs : Nat
  blankNs : Nat
  level : Nat
  count : Nat
  prescale : Nat
  gateNs : Nat
deriving DecidableEq, Repr

/-- A measurement in progress: start stamp (ns and 1/256 ns), stops stamped, the stamp of the last stop on each input that has
one, and its stops in the order of R385: stamp in 1/256 ns, input ID, record. -/
structure TiMeas where
  ns : Nat
  frac : Nat
  stops : Nat
  last : List (Nat × Nat)
  taken : List (Nat × Nat × List Byte)
deriving DecidableEq, Repr

/-- The time-interval unit (R384 to R388). -/
structure TiSt where
  arm : Option TiArm
  meas : Option TiMeas
  /-- the last measurement, which its stops closed, and its parameters, for STOP_OVERFLOW -/
  excess : Option (TiMeas × TiArm)
  /-- echo comparators that have fired and not re-armed, by port (R386) -/
  fired : BitVec 8
  /-- MEAS of the next measurement since the arm -/
  number : Nat
  /-- stamp records held, oldest first, at most 4,096; index of the next -/
  ring : List (List Byte)
  next : Half
deriving DecidableEq, Repr

/-- Chapter 16 apart from the count itself. -/
structure TimeSt where
  refState : RefState
  /-- model times since which the reference in use can have had edges, and OCXO_RDY its level (R373, R374) -/
  refSince : Nat
  ocxoReady : Bool
  ocxoSince : Nat
  ppsPresent : Bool
  ppsDrift : Bool
  /-- stamp of the last accepted PPS_IN edge, and model time of it, both in 1/256 ns -/
  ppsLast : Option (Nat × Nat)
  /-- no edge has been accepted since PPS_EN was written to 1 -/
  ppsFresh : Bool
  /-- consecutive accepted edges out of tolerance -/
  ppsOver : Nat
  ppsOffset : Int
  /-- model time at which PPS_OUT rose, while it is high, and the time base from which it runs (R378) -/
  ppsOutAt : Option Nat
  ppsOutFrom : Nat
  site : SiteState
  syncOffset : Int
  /-- last good marker: its stamp and model time, both in 1/256 ns -/
  lastMarker : Option (Nat × Nat)
  /-- consecutive markers within 0.25 ns while ALIGNING -/
  syncGood : Nat
  /-- model time of the last phase step of the sample clock (R380) -/
  stepAt : Nat
  /-- model time at which the current holdover began; seconds of the last -/
  holdoverAt : Nat
  holdoverS : Nat
  set : Bool
  coarse : Bool
  ti : TiSt
deriving DecidableEq, Repr

/-! ## Calibration (chapter 18) -/

/-- The four steps of R412. -/
inductive CalStep where
  | ref | skew | conv | raman
deriving DecidableEq, Repr

/-- Step outcomes (R413). -/
inductive CalOutcome where
  | notRun | done | limits | aborted | notPossible
deriving DecidableEq, Repr

/-- What a step that ended DONE found, applied at the end of the run (R414). -/
inductive CalResult where
  /-- internal reference - 2.5 V in µV, gains of HK-A and HK-B in 1/32,768, and of the named ports the excitation
  currents at 0.5 mA and 1.0 mA in 20 nA units and the pilot amplitude of R148 -/
  | ref (refUv : Int) (gainA gainB : Nat) (ports : List (Port × Nat × Nat × Nat))
  /-- D_rx in ps, skews of the port, S0 to S3, X and Y, CONN_DELAY in 0.1 ns -/
  | skew (p : Port) (dRxPs : Nat) (portSkew : Int) (slotSkew : List Int) (polSkew : List Int) (connDelay : Nat)
  /-- offset trims, corrections C_r and reference amplitudes, X and Y of each range -/
  | conv (p : Port) (trims : List Int) (corr : List (Int × Int)) (amps : List Nat)
  | raman (p : Port) (coef : RamanCoef) (gainStk gainAst : Nat) (attenCoil : Int) (attenTrim : Option Int)
deriving DecidableEq, Repr

/-- The step that runs: its kind, the ports it still serves, when it began, and the windows that a CONV step has used on each
port (R412). -/
structure CalNow where
  step : CalStep
  ports : BitVec 8
  began : Nat
  windows : Vector Nat 8
deriving DecidableEq, Repr

/-- A calibration run (R412 to R422). -/
structure CalRun where
  id : Word
  ports : BitVec 8
  steps : BitVec 4
  /-- the CAL_RUN that asked for it -/
  req : Option Req
  /-- the start-up run (R470) -/
  startUp : Bool
  now : Option CalNow
  /-- steps, and ports of SKEW, still to come -/
  todo : List (CalStep × BitVec 8)
  /-- outcome of step and port: byte 8 x step + port -/
  outcomes : Vector CalOutcome 32
  results : List CalResult
  holdA : Bool
  holdB : Bool
  holdLoops : BitVec 8
  holdPorts : BitVec 8
  began : Nat
deriving DecidableEq, Repr

/-- Calibration values of a port (R415 to R423). -/
structure CalPortSt where
  /-- D_rx in ps in use, and the one that the next start takes; none before a SKEW step (R143) -/
  dRx : Option Nat
  dRxNext : Option Nat
  connDelay : Nat
  attenCoil : Int
  caseRef : Option Int
  iLo : Nat
  iHi : Nat
  /-- pilot amplitude measured against REFRES, in 1/1,000 of nominal (R148) -/
  pilot : Nat
  /-- bath temperature in 0.001 °C while BATH_PENDING -/
  bath : Option Int
  /-- GROUP_INDEX with which the port's last RAMAN step began (R127) -/
  index : Nat
  /-- serial of the head that ATTEN_TRIM and RTD_OFFSET belong to (R417) -/
  coefSerial : List Byte
  /-- serial of the head accepted last -/
  lastSerial : List Byte
  /-- model time of the end of the port's last run -/
  lastRun : Option Nat
  caseOver : Nat
  dieOver : Nat
  /-- the port has not started since a cold start or a head change (R418) -/
  firstStart : Bool
deriving DecidableEq, Repr

/-- Chapter 18. -/
structure CalSt where
  nextRun : Word
  run : Option CalRun
  ports : Vector CalPortSt 8
  dieRef : Option Int
  /-- internal reference - 2.5 V, µV -/
  refUv : Int
  gainA : Nat
  gainB : Nat
  /-- ports whose automatic RAMAN run, and whose temperature-triggered run, waits for the run in progress -/
  waitFirst : BitVec 8
  lastCheck : Option Nat
deriving DecidableEq, Repr


/-! ## The whole machine -/

/-- A port: its head, drive, sequencer, receive chain, gauge former, queue. -/
structure PortSt where
  head : HeadSt
  drive : DriveSt
  seq : SeqSt
  rx : RxSt
  gauge : GaugeSt
  queue : QueueSt
  raman : RamanSt
deriving DecidableEq, Repr

/-- Why a step can stop with a fault. The spec gives this block no stop: every fault it describes is an effect on the
state (chapter 21, R476), so there is none. -/
inductive Fault : Type
deriving DecidableEq, Repr

/-- Why a command can be refused. -/
inductive Refusal where
  /-- raised by an arm of Dispatch.lean whose command has no meaning yet; safe: the machine stops -/
  | notModelled (mnemonic : String)
deriving DecidableEq, Repr

/-- The state of the UX8640. -/
structure State where
  /-- the commands that wait, first in, first out (the model's own) -/
  pending : List Instr
  /-- ns counted by the model since it began: the clock of every timer (the model's own, log 2) -/
  clk : Nat
  /-- counter behind the free values (the model's own, log 3) -/
  free : Nat
  /-- the time base, ns (R372) -/
  tb : Nat
  tbFrac : Nat
  mbox : MboxSt
  /-- fields of configuration blocks that differ from reset, by Fld.key (R359) -/
  cfg : Tab Nat
  /-- pending and held values of [F] fields (R8, R12) -/
  pend : Tab Nat
  held : Tab Nat
  /-- counters that are not zero, by Ctr.key (R360) -/
  stats : Tab Nat
  start : StartSt
  power : PowerSt
  life : LifeSt
  /-- mode of HB0 to HB7, CB, AB, TB (R37) -/
  banks : Vector BankMode 11
  flash : Memory
  ports : Vector PortSt 8
  /-- grids of the free-running ports P0 to P7, then of LSG0 to LSG3 -/
  grids : Vector Grid 12
  clove : CloveSt
  detect : DetectSt
  capture : CaptureSt
  house : HouseSt
  link : LinkSt
  sumac : SumacSt
  time : TimeSt
  cal : CalSt
deriving DecidableEq, Repr

/-! ## Reset -/

def WakeReport.none : WakeReport :=
  ⟨0, 0, 0, false, false, false, 0, 0, 0, 0, 0, 0, 0, 0⟩

def PowerSt.reset : PowerSt :=
  ⟨.active, 0, 0, false, 0, WakeReport.none, none, none, false, false, Vector.replicate 8 0, [], [], none⟩

/-- (DESIGN CHOICE, log 1) -/
def StartSt.reset : StartSt :=
  { boot := .reset, bootErr := 0, bootSrc := .flash, holds := [], nextCause := .powerOn, nextRail := none,
    cause := .powerOn, rail := none, wdogStarts := [], starts := 0, startMs := 0, calMs := 0, releasedAt := 0,
    readyAt := none, heldAt := 0, load := .none, image := none, resetPending := none,
    tripAt := 0, vaonAt := 0, dieAt := none, xtalAt := none, dieHot := false,
    dieAbove110 := 0, dieBelow100 := 0, xtalFault := false, xtalBad := 0,
    xtalGood := 0, startCalBegun := false, flashWrite := none, flashNext := 0 }

/-- (DESIGN CHOICE, log 1; DESIGN CHOICE, log 10) -/
def LifeSt.reset : LifeSt :=
  { state := .blank, keyHash := List.replicate 32 0, setting := none, challenge := none, failures := 0, test := .none,
    shutNext := none, shutDown := false, outcome := 0, otpFull := false, setBit := false, shutRecords := [], blockRecords := [],
    rawBitmap := [], startsSince := 0, aonMap := [], otpMap := [], applied := [], unrepaired := [], jtagIr := .idcode, jtagDr := [] }

def MboxSt.reset : MboxSt :=
  { window := [], staging := [], cq := [], cqTail := 0, cqHead := 0, irq := 0, irqEnable := 0x7F, fullBusy := true,
    eventRoute := 0, scratch := 0, flights := [], ring := [], dropped := 0, toHost := [], portOut := [] }

/-- (DESIGN CHOICE, log 1) -/
def HeadSt.reset : HeadSt :=
  { present := false, ilkClosed := false, idState := .absent, rejectCause := 0, badOffset := 0, headChanged := false,
    record := [], read := none, lost := none, presAt := 0, ilkAt := 0, bus := [] }

/-- (DESIGN CHOICE, log 7) -/
def EmitterSt.reset : EmitterSt :=
  { ramp := none, ramped := 0, comp := 32768, code := 0, timing := false, onAt := 0, pulse := none }

/-- (DESIGN CHOICE, log 7) -/
def DriveSt.reset : DriveSt :=
  { emitters := Vector.replicate 3 EmitterSt.reset, derate := 32768, caseTemp := none, caseAt := 0, rangeSince := none,
    hotSince := none, goodSince := none, latched := false, firstCause := 0, emitter := 0, causeMask := 0,
    proofDue := none, proofWaits := false, updatedAt := 0, caseUpdAt := none, shutAt := none,
    nrgDue := none }

/-- (DESIGN CHOICE, log 1) -/
def SeqSt.reset : SeqSt :=
  { mode := .stopped, draining := false, joined := false, rampsAt := 0, busyUntil := Vector.replicate 4 0,
    windowUntil := 0, lastLaunch := 0, window := none, frames := [], requests := [], gridPos := 0, spans := [], resuming := false,
    slotMask := 0xF, started := false, gaps := [], realign := 0 }

/-- (DESIGN CHOICE, log 1) -/
def RxSt.reset : RxSt :=
  { range := 0, switches := [], pairFault := false, faultInput := 0, faultKind := 0, faultRange := 0,
    clipSeen := false, ovldSeen := false, offsetX := 0, offsetY := 0, amplX := 0, amplY := 0, checkRange := 0, runRange := 0,
    dueRange := 0, checking := none, fails := Vector.replicate 4 0, passes := 0, refX := Vector.replicate 4 3277,
    refY := Vector.replicate 4 3277, corr := none, corrNext := none, trims := List.replicate 8 0, coefBefore := none,
    lastOvld := none, ovld := [], seen := [], raw := none }

/-- (DESIGN CHOICE, log 1) -/
def GaugeSt.reset : GaugeSt :=
  { mem := [], second := 0, nSamples := 0, nFaded := 0, nHeld := 0, fadedPermille := 0, heldPermille := 0 }

def QueueSt.reset : QueueSt :=
  { samples := [], blocks := [], nextBlock := [], state := [], released := [], recent := [], waitUntil := [], era := 0,
    taking := false }

/-- (DESIGN CHOICE, log 1) -/
def RamanSt.reset : RamanSt :=
  { coef := none, gainStk := 32768, gainAst := 32768, nextWindow := none, period := none, conv := none,
    carried := none, seq := 0, lastWords := none, profile := none, recording := none, biasStk := false, biasAst := false, biasEnd := none,
    biasAt := Vector.replicate 2 0, calSums := ⟨0, [], [], [], []⟩, closedAt := 0, sched := none, lastRecord := [], lastPulse := none,
    pulse := none, readings := [], fault := none, faultAt := 0, goods := 0, bads := 0, tRtd := 0, lastGood := none,
    refHeld := false, noRef := false }

def SumacSt.reset : SumacSt := { blockJobs := [], decJobs := [], streamJobs := [], laneBlocks := [] }

def TiSt.reset : TiSt := { arm := none, meas := none, excess := none, fired := 0, number := 0, ring := [], next := 0 }

/-- (DESIGN CHOICE, log 1) -/
def TimeSt.reset : TimeSt :=
  { refState := .free, refSince := 0, ocxoReady := false, ocxoSince := 0, ppsPresent := false, ppsDrift := false, ppsLast := none, ppsFresh := true, ppsOver := 0,
    ppsOffset := 0, ppsOutAt := none, ppsOutFrom := 0, site := .none, syncOffset := 0, lastMarker := none, syncGood := 0, stepAt := 0,
    holdoverAt := 0, holdoverS := 0, set := false, coarse := false, ti := TiSt.reset }

def CalPortSt.reset : CalPortSt :=
  { dRx := none, dRxNext := none, connDelay := 0, attenCoil := 0, index := 1468200, caseRef := none, iLo := 25000, iHi := 50000,
    pilot := 1000, bath := none, coefSerial := [], lastSerial := [], lastRun := none, caseOver := 0, dieOver := 0, firstStart := true }

/-- (DESIGN CHOICE, log 1) -/
def CalSt.reset : CalSt :=
  { nextRun := 1, run := none, ports := Vector.replicate 8 CalPortSt.reset, dieRef := none, refUv := 0, gainA := 32768,
    gainB := 32768, waitFirst := 0, lastCheck := none }

def PortSt.reset : PortSt :=
  { head := HeadSt.reset, drive := DriveSt.reset, seq := SeqSt.reset, rx := RxSt.reset, gauge := GaugeSt.reset,
    queue := QueueSt.reset, raman := RamanSt.reset }

def Grid.reset : Grid :=
  { epoch := none, cycle := 0, lfsr := 0xACE1, dither := [0, 0, 0, 0], oldMask := none, launched := false, order := [] }

/-- (DESIGN CHOICE, log 8) -/
def EngineSt.reset : EngineSt :=
  { v := Vector.replicate 32 (Vector.replicate 8 0), acc := Vector.replicate 4 (Vector.replicate 8 0),
    ar := Vector.replicate 8 0, of := Vector.replicate 8 0, cs := Vector.replicate 8 0, cl := Vector.replicate 8 0,
    rc := 0, bexp := 0, flg := 0, pc := 0, pmem := [], dmem := [], mode := .idle, cycles := 0, faults := [],
    lastProgram := none, holds := [], codeEnd := 0, beyond := false, busySince := 0, cutoff := 0 }

def ClusterSt.reset : ClusterSt :=
  { step := 0, hot := false, temp := 0, above95 := 0, above100 := 0, above105 := 0, below := 0, busy := [] }

def CloveSt.reset : CloveSt :=
  { engines := Vector.replicate 32 EngineSt.reset, clusters := Vector.replicate 8 ClusterSt.reset, programs := [],
    load := none, lastRemote := 7 }

def RingSt.reset : RingSt :=
  { mode := .off, seq := 0, seg := 0, used := 0, recs := [], headerDue := true, since := none }

def MaskSt.reset : MaskSt :=
  { envelope := [], traces := [], taking := false, owed := false, lastRuns := [], stopped := false, snapId := none }

def CapMemSt.reset : CapMemSt :=
  { trained := false, gib := 0, training := none, due := true, rate := 2, selfRefresh := false, lastAccess := 0, lastCal := 0, content := [] }

/-- (DESIGN CHOICE, log 1) -/
def CaptureSt.reset : CaptureSt :=
  { streams := [], rings := Vector.replicate 8 (Vector.replicate 3 RingSt.reset), snapshots := [], nextSnap := 1,
    readouts := [], masks := Vector.replicate 8 MaskSt.reset, mem := CapMemSt.reset }

def GroupSt.reset : GroupSt :=
  { active := false, latched := false, value := none, activeZones := 0, eventId := 0, snapMode := .armed, since := 0,
    suppressedCount := 0, armedAt := 0, autoDone := false, trigAt := none }

/-- (DESIGN CHOICE, log 1) -/
def DetectSt.reset : DetectSt :=
  { zones := [], groups := Vector.replicate 64 GroupSt.reset, ring := [], nextRun := 0, nextEventId := 1, periodicAt := 0, off := false }

def HkSt.reset : HkSt :=
  { fault := false, mismatch := false, refSettling := false, settlingSince := 0, calHold := false, pending := false,
    neverSettled := 0, work := [], jobRuns := false, overrunDue := false, checkFails := 0, checkPasses := 0,
    lastCheck := none, checkDue := false, checkExcess := false, launches := 0, due := [], frontAt := 0, restarts := 0, tickAt := 0, checkAt := 0 }

def LoopSt.reset : LoopSt :=
  { row := 1, openC := false, compliance := false, overCurrent := false, commandUa := 0, measuredUa := 0,
    lastCommand := none, staleSince := none, driveOn := false, retryAt := 0 }

def AlarmSt.reset : AlarmSt :=
  { active := false, activeSince := 0, conducting := false, overload := false, tripAt := 0, tripped := false,
    staleSince := none }

/-- (DESIGN CHOICE, log 1; DEDUCED, log 157) -/
def HouseSt.reset : HouseSt :=
  { hk := Vector.replicate 2 HkSt.reset, values := Vector.replicate 32 0, formats := Vector.replicate 32 0,
    vrefs := Vector.replicate 32 2500000, cases := Vector.replicate 8 (0, 2500000), checkStep := 0, agreeFails := 0,
    agreePasses := 0, loops := Vector.replicate 8 LoopSt.reset, alarms := Vector.replicate 8 AlarmSt.reset }

def LaneSt.reset : LaneSt :=
  { pre := 0, main := 0, post := 0, skew := 0, prbsLock := false, peerReady := false, ownReady := false,
    readyFrames := 0, tapStatus := Vector.replicate 3 0, blockLock := false, mcount := 0, goodMarks := 0, badMarks := 0 }

/-- (DESIGN CHOICE, log 1) -/
def LinkSt.reset : LinkSt :=
  { stage := .disabled, since := 0, width := 0, rate := 0, txPm := .awake, rxPm := .awake, failStage := 0,
    failCause := 0, failCount := 0, polarity := 0, lanes := Vector.replicate 8 LaneSt.reset, goodChecks := 0, checkAt := 0,
    lanesSeen := 0, framesSince := none, lockCause := 3, peerCap := none, acked := false, ownCrc := 0, seenSent := false,
    frameMax := 0, idleSince := none, fromDown := false, lastHigh := 0, lastLow := 0, granted := [], consumed := [],
    hostTotal := 0, creditDue := false, creditAt := 0, txIdleSince := 0, refreshAt := 0, txReadyAt := 0, rxReadyAt := 0,
    loop := none,
    sent0 := 0, fseq0 := 0, fseqCap := 0, txBlocks := [] }

/-- The banks as reset leaves them: HB and TB absent, CB and AB at 3.3 V (DESIGN CHOICE, log 6). -/
def bankReset : Vector BankMode 11 :=
  #v[.absent, .absent, .absent, .absent, .absent, .absent, .absent, .absent, .v33, .v33, .absent]

/-- The machine right after reset: RESET_N has just risen and no step of R469 has run. (DESIGN CHOICE, log 1) -/
def State.reset : State :=
  { pending := [], clk := 0, free := 0, tb := 0, tbFrac := 0, mbox := MboxSt.reset, cfg := [], pend := [], held := [],
    stats := [], start := StartSt.reset, power := PowerSt.reset, life := LifeSt.reset, banks := bankReset, flash := [],
    ports := Vector.replicate 8 PortSt.reset, grids := Vector.replicate 12 Grid.reset, clove := CloveSt.reset,
    detect := DetectSt.reset, capture := CaptureSt.reset, house := HouseSt.reset,
    link := LinkSt.reset, sumac := SumacSt.reset, time := TimeSt.reset, cal := CalSt.reset }

end Sys2Proof.Machine
end

