-- ==== Sys2Proof/Machine/Ops.lean ====
section
/-! DEFINITION. The named operations over memories, tables, fields, counters and units of the state, and the passing of
time. -/

namespace Sys2Proof.Machine

/-! ## Memories -/

/-- What an unlisted address of every memory but the boot flash reads as (DESIGN CHOICE, log 4). -/
def blankByte : Byte := 0
/-- What an erased byte of NOR flash reads as (DESIGN CHOICE, log 4). -/
def flashBlank : Byte := 0xFF

/-- The byte at an address. (DESIGN CHOICE, log 4) -/
def memRead (blank : Byte) : Memory → Nat → Byte
  | [], _ => blank
  | (a, b) :: m, x => if a = x then b else memRead blank m x

/-- Take the entry of an address out. -/
def memErase : Memory → Nat → Memory
  | [], _ => []
  | (a, b) :: m, x => if a = x then m else (a, b) :: memErase m x

/-- Put an entry in its place. -/
def memInsert : Memory → Nat → Byte → Memory
  | [], x, v => [(x, v)]
  | (a, b) :: m, x, v =>
    if x < a then (x, v) :: (a, b) :: m else if x = a then (x, v) :: m else (a, b) :: memInsert m x v

/-- Write a byte; the canonical form stays. -/
def memWrite (blank : Byte) (m : Memory) (x : Nat) (v : Byte) : Memory :=
  if v = blank then memErase m x else memInsert m x v

/-- Write bytes from an address up. -/
def memWriteAll (blank : Byte) : Memory → Nat → List Byte → Memory
  | m, _, [] => m
  | m, x, v :: vs => memWriteAll blank (memWrite blank m x v) (x + 1) vs

/-- Read `n` bytes from an address up. -/
def memReadAll (blank : Byte) (m : Memory) (x : Nat) : Nat → List Byte
  | 0 => []
  | n + 1 => memRead blank m x :: memReadAll blank m (x + 1) n

/-- Erase the bytes from `x` below `x + n`. -/
def memClear (m : Memory) (x n : Nat) : Memory := m.filter (fun c => c.1 < x ∨ x + n ≤ c.1)

/-- The canonical form: addresses strictly rising, no entry equal to the blank byte. (DESIGN CHOICE, log 4) -/
def Memory.wf (blank : Byte) : Memory → Bool
  | [] => true
  | [(_, b)] => b != blank
  | (a, b) :: (a', b') :: m => b != blank && a < a' && Memory.wf blank ((a', b') :: m)

/-! ## Bytes, little-endian (R6) -/

/-- The low `n` bytes of a number, least significant first. -/
def leBytes : Nat → Nat → List Byte
  | 0, _ => []
  | n + 1, v => BitVec.ofNat 8 v :: leBytes n (v / 256)

/-- The number some bytes spell, least significant first. -/
def leNat : List Byte → Nat
  | [] => 0
  | b :: bs => b.toNat + 256 * leNat bs

/-- Signed number of some bytes. -/
def leInt (bs : List Byte) : Int := ofBits (8 * bs.length) (leNat bs)

/-- `n` bytes of a list from an offset, zero beyond its end. -/
def bytesAt (bs : List Byte) (off n : Nat) : List Byte :=
  let t := (bs.drop off).take n
  t ++ List.replicate (n - t.length) 0

def u8At (bs : List Byte) (off : Nat) : Nat := leNat (bytesAt bs off 1)
def u16At (bs : List Byte) (off : Nat) : Nat := leNat (bytesAt bs off 2)
def u32At (bs : List Byte) (off : Nat) : Nat := leNat (bytesAt bs off 4)
def u64At (bs : List Byte) (off : Nat) : Nat := leNat (bytesAt bs off 8)
def s16At (bs : List Byte) (off : Nat) : Int := leInt (bytesAt bs off 2)
def s32At (bs : List Byte) (off : Nat) : Int := leInt (bytesAt bs off 4)

/-- Zero bytes. -/
def zeros (n : Nat) : List Byte := List.replicate n 0

/-- Pad with zeros to a multiple of 4 bytes. -/
def pad4 (bs : List Byte) : List Byte := bs ++ zeros ((4 - bs.length % 4) % 4)

/-- Bit `i` of a mask of eight ports. -/
def maskHas (m : BitVec 8) (p : Port) : Bool := m.getLsbD p.val

/-- The ports, in ascending order. -/
def allPorts : List Port := [0, 1, 2, 3, 4, 5, 6, 7]

/-- A number as a bit: 1 or 0. -/
def bitNat (b : Bool) : Nat := if b then 1 else 0

/-- The mask of the ports a test names. -/
def portMask (f : Port → Bool) : BitVec 8 :=
  BitVec.ofNat 8 ((allPorts.map (fun p => if f p then 2 ^ p.val else 0)).foldl (· + ·) 0)

/-! ## Tables -/

def Tab.find? {α : Type} : Tab α → Nat → Option α
  | [], _ => none
  | (k, v) :: t, x => if k = x then some v else Tab.find? t x

def Tab.erase {α : Type} : Tab α → Nat → Tab α
  | [], _ => []
  | (k, v) :: t, x => if k = x then t else (k, v) :: Tab.erase t x

def Tab.put {α : Type} : Tab α → Nat → α → Tab α
  | [], x, v => [(x, v)]
  | (k, w) :: t, x, v =>
    if x < k then (x, v) :: (k, w) :: t else if x = k then (x, v) :: t else (k, w) :: Tab.put t x v

/-- Write a number in a table in which an absent key reads as `dflt`. -/
def Tab.putNat (t : Tab Nat) (x v dflt : Nat) : Tab Nat := if v = dflt then Tab.erase t x else Tab.put t x v

/-! ## Vectors -/

/-- Change one element of a vector. -/
def vmod {α : Type} {n : Nat} (v : Vector α n) (i : Fin n) (f : α → α) : Vector α n := v.set i.val (f v[i]) i.isLt

/-! ## Fields of configuration blocks (R8 to R14, R359) -/

/-- The place of a field of an instance in the tables of the state. -/
def fldKey (f : Fld) (inst : Nat) : Nat := f.block * 4194304 + inst * 1024 + f.lo

/-- The value in effect of a field of an instance. -/
def State.fld (s : State) (f : Fld) (inst : Nat) : Nat := (Tab.find? s.cfg (fldKey f inst)).getD f.reset

/-- The value in effect, as a signed number of the field's width. -/
def State.sfld (s : State) (f : Fld) (inst : Nat) : Int := ofBits f.width (s.fld f inst)

/-- A one-bit field as a truth value. -/
def State.flag (s : State) (f : Fld) (inst : Nat) : Bool := s.fld f inst = 1

/-- Put a value into effect. -/
def State.setFld (s : State) (f : Fld) (inst v : Nat) : State :=
  { s with cfg := Tab.putNat s.cfg (fldKey f inst) v f.reset }

/-- The value pending or held, or else in effect (R364). -/
def State.nextFld (s : State) (f : Fld) (inst : Nat) : Nat :=
  match Tab.find? s.pend (fldKey f inst) with
  | some v => v
  | none =>
    match Tab.find? s.held (fldKey f inst) with
    | some v => v
    | none => s.fld f inst

/-! ## Counters (R360) -/

/-- The place of a counter of an instance. -/
def ctrKey (c : Ctr) (inst : Nat) : Nat := c.block * 4194304 + inst * 64 + c.word

/-- The value of a counter. -/
def State.ctr (s : State) (c : Ctr) (inst : Nat) : Nat := (Tab.find? s.stats (ctrKey c inst)).getD 0

/-- A counter after `n` more: 16-bit counters stop at 65,535, 32-bit counters wrap. -/
def ctrAdd (width v n : Nat) : Nat := if width = 16 then min 65535 (v + n) else (v + n) % 4294967296

/-- Count `n` more. -/
def State.count (s : State) (c : Ctr) (inst n : Nat) : State :=
  { s with stats := Tab.putNat s.stats (ctrKey c inst) (ctrAdd c.width (s.ctr c inst) n) 0 }

/-- Count one where a condition holds. -/
def State.countIf (s : State) (c : Ctr) (inst : Nat) (b : Bool) : State := if b then s.count c inst 1 else s

/-- Raise a counter to a value (a highest value seen). -/
def State.raise (s : State) (c : Ctr) (inst v : Nat) : State :=
  { s with stats := Tab.putNat s.stats (ctrKey c inst) (max (s.ctr c inst) (min v 65535)) 0 }

/-! ## Free values (DESIGN CHOICE, log 3) -/

/-- Take the next free value. (DESIGN CHOICE, log 3) -/
def State.takeFree (s : State) (w : Nat) : BitVec w × State :=
  (Config.freeValue w s.free, { s with free := s.free + 1 })

/-! ## Ports and other units -/

def State.port (s : State) (p : Port) : PortSt := s.ports[p]

def State.setPort (s : State) (p : Port) (f : PortSt → PortSt) : State := { s with ports := vmod s.ports p f }

def State.setHead (s : State) (p : Port) (f : HeadSt → HeadSt) : State :=
  s.setPort p (fun x => { x with head := f x.head })
def State.setDrive (s : State) (p : Port) (f : DriveSt → DriveSt) : State :=
  s.setPort p (fun x => { x with drive := f x.drive })
def State.setSeq (s : State) (p : Port) (f : SeqSt → SeqSt) : State :=
  s.setPort p (fun x => { x with seq := f x.seq })
def State.setRx (s : State) (p : Port) (f : RxSt → RxSt) : State :=
  s.setPort p (fun x => { x with rx := f x.rx })
def State.setGauge (s : State) (p : Port) (f : GaugeSt → GaugeSt) : State :=
  s.setPort p (fun x => { x with gauge := f x.gauge })
def State.setQueue (s : State) (p : Port) (f : QueueSt → QueueSt) : State :=
  s.setPort p (fun x => { x with queue := f x.queue })
def State.setMbox (s : State) (f : MboxSt → MboxSt) : State := { s with mbox := f s.mbox }
def State.setPower (s : State) (f : PowerSt → PowerSt) : State := { s with power := f s.power }
def State.setStart (s : State) (f : StartSt → StartSt) : State := { s with start := f s.start }
def State.setLife (s : State) (f : LifeSt → LifeSt) : State := { s with life := f s.life }
def State.setCapture (s : State) (f : CaptureSt → CaptureSt) : State := { s with capture := f s.capture }
def State.mask (s : State) (p : Port) : MaskSt := s.capture.masks[p]
def State.setMask (s : State) (p : Port) (f : MaskSt → MaskSt) : State :=
  s.setCapture (fun c => { c with masks := vmod c.masks p f })
def State.setDetect (s : State) (f : DetectSt → DetectSt) : State := { s with detect := f s.detect }
def State.setHouse (s : State) (f : HouseSt → HouseSt) : State := { s with house := f s.house }
def State.setClove (s : State) (f : CloveSt → CloveSt) : State := { s with clove := f s.clove }

/-- Do something for each port of a list in turn. -/
def forPorts (ps : List Port) (f : Port → State → State) (s : State) : State := ps.foldl (fun t p => f p t) s

/-! ## Ports and their modes (R128) -/

/-- A port is enabled: starting, running, single or halted (R128, R493). -/
def portEnabled (q : SeqSt) : Bool :=
  match q.mode with
  | .starting | .running | .single | .halted => true
  | .stopped | .shut => false

/-- A port that takes launches (R109). -/
def portLaunches (q : SeqSt) : Bool :=
  match q.mode with
  | .running | .single => true
  | .stopped | .starting | .halted | .shut => false

/-- Some port is enabled. (DEDUCED, log 152) -/
def State.anyEnabled (s : State) : Bool := allPorts.any (fun p => portEnabled (s.port p).seq)

/-- The lockstep group a port is a member of (R122, R128). -/
def State.groupOf (s : State) (p : Port) : Option (Fin 4) :=
  [(0 : Fin 4), 1, 2, 3].find? (fun g => (s.fld Fld.lockstep_members g.val).testBit p.val)

/-- The members of a lockstep group. -/
def State.members (s : State) (g : Fin 4) : List Port :=
  allPorts.filter (fun p => (s.fld Fld.lockstep_members g.val).testBit p.val)

/-- The grid of a port: its own or its group's. -/
def State.gridIx (s : State) (p : Port) : Fin 12 :=
  match s.groupOf p with
  | some g => ⟨8 + g.val, by omega⟩
  | none => ⟨p.val, by omega⟩

def State.grid (s : State) (p : Port) : Grid := s.grids[s.gridIx p]
def State.setGrid (s : State) (i : Fin 12) (f : Grid → Grid) : State := { s with grids := vmod s.grids i f }

/-! ## Time -/

/-- The time base counts: in ACTIVE and STANDBY and the moves between them, and in a wake once firmware has restarted it;
not in reset, RETAIN or OFF (R372, R383, R439). -/
def State.timeRuns (s : State) : Bool :=
  (s.start.holds = [] : Bool) && (match s.power.mode with
    | .active | .standby | .entering => true
    | .waking => s.start.boot = .ready
    | .retain | .off => false)

/-- The device is in ACTIVE and no move to another power state is under way (R425, R427). -/
def State.inActive (s : State) : Bool := s.power.mode = .active && s.power.move.isNone

/-- The clocks of the port front ends and Clove clusters run: not in STANDBY and in what leads from it to RETAIN and back (R425,
R427, R428). -/
def State.clocked (s : State) : Bool :=
  match s.power.mode with
  | .active => true
  | .standby | .entering | .retain | .waking | .off => false

/-- `dt` nanoseconds pass (DESIGN CHOICE, log 2). (DESIGN CHOICE, log 31) -/
def State.elapse (s : State) (dt : Nat) : State :=
  { s with clk := s.clk + dt, tb := if s.timeRuns then (s.tb + dt) % 18446744073709551616 else s.tb }

/-- One second, one millisecond and one microsecond in ns. -/
def secNs : Nat := 1000000000
def msNs : Nat := 1000000
def usNs : Nat := 1000


/-- The accepted record of a port; none while ID_STATE is not ACCEPTED. -/
def State.record (s : State) (p : Port) : Option (List Byte) :=
  match (s.port p).head.idState with
  | .accepted => some (s.port p).head.record
  | .absent | .reading | .rejected | .busFault => none

/-! ## Banks (R37) -/

/-- Place of a bank among the eleven (R37). -/
def bankIx : IoBank → Fin 11
  | .hb n => ⟨n.val, by omega⟩
  | .cb => 8
  | .ab => 9
  | .tb => 10

/-- A bank is in one of its two modes: its outputs drive and its inputs read what stands at the balls. Otherwise outputs are
high-impedance and inputs read as their pull values (R37). -/
def State.bankUp (s : State) (b : IoBank) : Bool :=
  match s.banks[bankIx b] with
  | .v18 | .v33 => true
  | .absent | .fault => false

end Sys2Proof.Machine
end

