-- ==== Sys2Proof/Machine/Crypto.lean ====
section
/-! DEFINITION. The checks over bytes that the rules name: CRC-32 (R66), CRC-8 (R318), CRC-64 (R432), SHA-256 and ECDSA
over P-256 (R214, R461; FIPS 180-4 and FIPS 186-4). -/

namespace Sys2Proof.Machine

/-! ## CRCs -/

/-- One bit of a reflected CRC. -/
def crc32Bit (c : Nat) : Nat := if c % 2 = 1 then Nat.xor (c / 2) 0xEDB88320 else c / 2

def crc32Bits : Nat → Nat → Nat
  | 0, c => c
  | n + 1, c => crc32Bits n (crc32Bit c)

def crc32From : List Byte → Nat → Nat
  | [], c => c
  | b :: bs, c => crc32From bs (crc32Bits 8 (Nat.xor c b.toNat))

/-- CRC-32 of R66: 0x04C11DB7 reflected, from all ones, inverted at the end. -/
def crc32 (bs : List Byte) : Nat := Nat.xor (crc32From bs 0xFFFFFFFF) 0xFFFFFFFF

/-- One bit of an unreflected CRC of `w` bits. -/
def crcBit (w poly c : Nat) : Nat := if c.testBit (w - 1) then Nat.xor (2 * c % 2 ^ w) poly else 2 * c % 2 ^ w

def crcBits (w poly : Nat) : Nat → Nat → Nat
  | 0, c => c
  | n + 1, c => crcBits w poly n (crcBit w poly c)

def crcFrom (w poly : Nat) : List Byte → Nat → Nat
  | [], c => c
  | b :: bs, c => crcFrom w poly bs (crcBits w poly 8 (Nat.xor c (b.toNat * 2 ^ (w - 8))))

/-- CRC-8 of R318: x^8 + x^2 + x + 1. -/
def crc8 (bs : List Byte) : Nat := crcFrom 8 0x07 bs 0

/-- CRC-64 of R432: ECMA-182. -/
def crc64 (bs : List Byte) : Nat := crcFrom 64 0x42F0E1EBA9EA3693 bs 0

/-! ## Numbers as bytes, most significant first -/

/-- Big-endian number of some bytes. -/
def beNat (bs : List Byte) : Nat := bs.foldl (fun n b => 256 * n + b.toNat) 0

/-- A number as `n` bytes, most significant first. -/
def beBytes (n v : Nat) : List Byte := (leBytes n v).reverse

/-! ## SHA-256 (R16, R214): the hash of FIPS 180-4, its constants taken from the roots of primes that define them -/

/-- The first 64 primes. -/
def shaPrimes : List Nat :=
  (List.range 312).filter (fun n => decide (2 ≤ n) && [2, 3, 5, 7, 11, 13, 17].all (fun d => n = d || n % d ≠ 0))

/-- The largest number whose k-th power is at most x, its bits from bit n - 1 down. -/
def rootFloor (k x : Nat) : Nat → Nat → Nat
  | 0, r => r
  | n + 1, r => rootFloor k x n (if (r + 2 ^ n) ^ k ≤ x then r + 2 ^ n else r)

/-- The first 32 bits of the fraction of the k-th root of a prime. -/
def rootWord (k p : Nat) : Word := BitVec.ofNat 32 (rootFloor k (p * 2 ^ (32 * k)) 37 0)

/-- Three turned copies of a word, added without carry. -/
def turns (x : Word) (a b c : Nat) : Word := [a, b, c].foldl (fun y n => y ^^^ x.rotateRight n) 0

/-- Two turned copies and a shifted one. -/
def turnsShift (x : Word) (a b n : Nat) : Word := (x >>> n) ^^^ (x.rotateRight a ^^^ x.rotateRight b)

/-- The word that follows sixteen others, oldest first. -/
def shaNext (win : List Word) : Word :=
  let at_ (i : Nat) : Word := win.getD i 0
  turnsShift (at_ 14) 17 19 10 + at_ 9 + (turnsShift (at_ 1) 7 18 3 + at_ 0)

/-- One step on the chain of eight words, the first of them a: `kw` is the constant plus the schedule's word. A bit of e chooses
between f and g; the majority of a, b and c counts. -/
def shaStep (kw : Word) : List Word → List Word
  | [a, b, c, d, e, f, g, h] =>
    let up := kw + h + (g ^^^ (e &&& (f ^^^ g))) + turns e 6 11 25
    [up + turns a 2 13 22 + ((a &&& b) ||| (c &&& (a ||| b))), a, b, c, up + d, e, f, g]
  | ws => ws

/-- The steps of a block with the sixteen words to come. -/
def shaSteps : List Nat → List Word → List Word → List Word
  | [], _, chain => chain
  | p :: ps, win, chain => shaSteps ps (win.drop 1 ++ [shaNext win]) (shaStep (win.headD 0 + rootWord 3 p) chain)

/-- The chain after the blocks of a padded message. -/
def shaChain : Nat → List Byte → List Word → List Word
  | 0, _, chain => chain
  | n + 1, bs, chain =>
    let win : List Word := (List.range 16).map (fun i => BitVec.ofNat 32 (beNat (bytesAt bs (4 * i) 4)))
    shaChain n (bs.drop 64) (List.zipWith (· + ·) chain (shaSteps shaPrimes win chain))

/-- SHA-256: 32 bytes. -/
def sha256 (bs : List Byte) : List Byte :=
  let fill := 63 - (bs.length + 8) % 64
  let padded := bs ++ (0x80 :: zeros fill) ++ beBytes 8 (8 * bs.length)
  (shaChain (padded.length / 64) padded ((shaPrimes.take 8).map (rootWord 2))).flatMap (fun w => beBytes 4 w.toNat)

/-! ## ECDSA over P-256 -/

def p256P : Nat := 0xffffffff00000001000000000000000000000000ffffffffffffffffffffffff
def p256N : Nat := 0xffffffff00000000ffffffffffffffffbce6faada7179e84f3b9cac2fc632551
def p256B : Nat := 0x5ac635d8aa3a93e7b3ebbd55769886bc651d06b0cc53b0f63bce3c3e27d2604b
def p256Gx : Nat := 0x6b17d1f2e12c4247f8bce6e563a440f277037d812deb33a0f4a13945d898c296
def p256Gy : Nat := 0x4fe342e2fe1a7f9b8ee7eb4a7c0f9e162bce33576b315ececbb6406837bf51f5

/-- Power modulo m: bits of the exponent from the lowest, `n` of them. -/
def powMod (m : Nat) : Nat → Nat → Nat → Nat → Nat
  | 0, _, _, acc => acc
  | n + 1, b, e, acc => powMod m n (b * b % m) (e / 2) (if e % 2 = 1 then acc * b % m else acc)

/-- Inverse modulo a prime. -/
def invMod (m x : Nat) : Nat := powMod m 256 (x % m) (m - 2) 1

/-- A point of the curve in Jacobian coordinates; z = 0 at infinity. -/
structure JPoint where
  x : Nat
  y : Nat
  z : Nat
deriving DecidableEq, Repr

def jInf : JPoint := ⟨1, 1, 0⟩

/-- a - b modulo p. -/
def subP (a b : Nat) : Nat := (a + p256P - b % p256P) % p256P
def mulP (a b : Nat) : Nat := a * b % p256P

def jDouble (q : JPoint) : JPoint :=
  if q.z = 0 ∨ q.y = 0 then jInf
  else
    let delta := mulP q.z q.z
    let gamma := mulP q.y q.y
    let beta := mulP q.x gamma
    let alpha := mulP 3 (mulP (subP q.x delta) (q.x + delta))
    let x3 := subP (mulP alpha alpha) (8 * beta)
    let z3 := mulP 2 (mulP q.y q.z)
    ⟨x3, subP (mulP alpha (subP (4 * beta) x3)) (8 * mulP gamma gamma), z3⟩

def jAdd (a b : JPoint) : JPoint :=
  if a.z = 0 then b
  else if b.z = 0 then a
  else
    let za := mulP a.z a.z
    let zb := mulP b.z b.z
    let u1 := mulP a.x zb
    let u2 := mulP b.x za
    let s1 := mulP a.y (mulP b.z zb)
    let s2 := mulP b.y (mulP a.z za)
    if u1 = u2 then (if s1 = s2 then jDouble a else jInf)
    else
      let h := subP u2 u1
      let r := subP s2 s1
      let hh := mulP h h
      let hhh := mulP h hh
      let v := mulP u1 hh
      let x3 := subP (subP (mulP r r) hhh) (2 * v)
      ⟨x3, subP (mulP r (subP v x3)) (mulP s1 hhh), mulP h (mulP a.z b.z)⟩

/-- k times a point: `n` bits of k from bit n - 1 down. -/
def jMul (k : Nat) (q : JPoint) : Nat → JPoint → JPoint
  | 0, acc => acc
  | n + 1, acc =>
    let d := jDouble acc
    jMul k q n (if k.testBit n then jAdd d q else d)

/-- A pair of coordinates is a point of P-256 other than infinity (R461 step 2). -/
def onP256 (x y : Nat) : Bool :=
  x < p256P && y < p256P && y * y % p256P == (x * x * x + (p256P - 3) * x + p256B) % p256P

/-- The ECDSA verification of FIPS 186-4 over a digest, r and s in range (R461 steps 3 and 4). -/
def ecdsaVerify (pubkey digest sig : List Byte) : Bool :=
  let r := beNat (sig.take 32)
  let s := beNat ((sig.drop 32).take 32)
  if r = 0 ∨ s = 0 ∨ p256N ≤ r ∨ p256N ≤ s then false
  else
    let w := invMod p256N s
    let u1 := beNat digest * w % p256N
    let u2 := r * w % p256N
    let q : JPoint := ⟨beNat (pubkey.take 32), beNat ((pubkey.drop 32).take 32), 1⟩
    let x := jAdd (jMul u1 ⟨p256Gx, p256Gy, 1⟩ 256 jInf) (jMul u2 q 256 jInf)
    if x.z = 0 then false
    else
      let zi := invMod p256P x.z
      mulP x.x (mulP zi zi) % p256N == r

/-- How a signature check ends (R461). -/
inductive SigCheck where
  | pass
  /-- step 1: the key's hash -/
  | keyHash
  /-- steps 2 to 4 -/
  | signature
deriving DecidableEq, Repr

/-- The signature check of R461 over some bytes, with the 64 bytes of PUBKEY and of SIG. -/
def sigCheck (keyHash pubkey sig msg : List Byte) : SigCheck :=
  if sha256 pubkey ≠ keyHash then .keyHash
  else if !onP256 (beNat (pubkey.take 32)) (beNat ((pubkey.drop 32).take 32)) then .signature
  else if ecdsaVerify pubkey (sha256 msg) sig then .pass else .signature

end Sys2Proof.Machine
end

