-- ==== Sys2Proof/Machine/Mailbox.lean ====
section
/-! DEFINITION. The mailbox: status codes, event codes, interrupt bits, completions and events (R343 to R354, R366). -/

namespace Sys2Proof.Machine

/-- The status codes of R354. -/
inductive Status where
  | ok | badParam | locked | readOnly | noResource | busy | busySelftest | notRunning | slotBusy | faultPresent
  | badImage | badSignature | badData | notSmaller | chainExhausted | expansionLimit | timeout | unknownCmd | badState
  | entryAbortedWake | aborted | denied
deriving DecidableEq, Repr

/-- The number of a status (R354). -/
def statusCode : Status → Nat
  | .ok => 0x0000
  | .badParam => 0x0001
  | .locked => 0x0002
  | .readOnly => 0x0003
  | .noResource => 0x0004
  | .busy => 0x0005
  | .busySelftest => 0x0006
  | .notRunning => 0x0007
  | .slotBusy => 0x0008
  | .faultPresent => 0x0009
  | .badImage => 0x000A
  | .badSignature => 0x000B
  | .badData => 0x000C
  | .notSmaller => 0x000D
  | .chainExhausted => 0x000E
  | .expansionLimit => 0x000F
  | .timeout => 0x0010
  | .unknownCmd => 0x0011
  | .badState => 0x0012
  | .entryAbortedWake => 0x0013
  | .aborted => 0x0014
  | .denied => 0x0015

/-! ## Event codes (R366 and the chapters that add to it) -/

def evHeadRemoved : Nat := 0x0101
def evHeadAccepted : Nat := 0x0102
def evHeadRejected : Nat := 0x0103
def evHeadBusFault : Nat := 0x0104
def evEmitterFault : Nat := 0x0111
def evDerateEnter : Nat := 0x0112
def evDerateExit : Nat := 0x0113
def evRxOverload : Nat := 0x0121
def evRxPairFault : Nat := 0x0122
def evRxPairClear : Nat := 0x0123
def evRamanBias : Nat := 0x0131
def evRamanBiasClear : Nat := 0x0132
def evRtdFault : Nat := 0x0133
def evRtdClear : Nat := 0x0134
def evCloveThrottle : Nat := 0x0141
def evEngineFault : Nat := 0x0142
def evSnapshotReady : Nat := 0x0151
/-- (DEDUCED, log 100) -/
def evMaskStop : Nat := 0x0152
def evCapmemFail : Nat := 0x0153
def evLinkUp : Nat := 0x0161
def evLinkDown : Nat := 0x0162
def evEventsLost : Nat := 0x0171
def evHkFault : Nat := 0x0189
def evHkClear : Nat := 0x018A
def evHkNeverSettled : Nat := 0x018B
def evLoopFault : Nat := 0x018C
def evLoopClear : Nat := 0x018D
def evLoopStale : Nat := 0x018E
def evAlarmOverload : Nat := 0x018F
def evAlarmClear : Nat := 0x0190
def evWake : Nat := 0x0194
def evBankLost : Nat := 0x0195
def evSelftestDone : Nat := 0x0196
def evLifecycle : Nat := 0x0197
def evStart : Nat := 0x0198
def evDieHot : Nat := 0x0199
def evDieClear : Nat := 0x019A
def evXtalFault : Nat := 0x019B

/-- The unit or sub-unit of an event that has none (R366). -/
def noUnit : Nat := 0xFF

/-! ## IRQ_STATUS (R343, R346) -/

/-- Bits 1 to 6 of IRQ_STATUS. -/
def irqBootDone : BitVec 7 := 0x02
def irqLostDoorbell : BitVec 7 := 0x04
def irqTagClash : BitVec 7 := 0x08
def irqEventsLost : BitVec 7 := 0x10
def irqCqErr : BitVec 7 := 0x20
def irqFatal : BitVec 7 := 0x40

/-- Set bits of IRQ_STATUS. -/
def State.setIrq (s : State) (bits : BitVec 7) : State := s.setMbox (fun m => { m with irq := m.irq ||| bits })

/-- IRQ_STATUS as it reads: CQ_NONEMPTY is 1 while CQ_HEAD and CQ_TAIL differ. -/
def State.irqStatus (s : State) : BitVec 7 :=
  s.mbox.irq ||| (if s.mbox.cqHead = s.mbox.cqTail then 0 else 1)

/-- FATAL stands (R471). -/
def State.fatal (s : State) : Bool := s.mbox.irq &&& irqFatal = irqFatal

/-- HIRQ (R346). -/
def State.hirq (s : State) : Bool :=
  (s.irqStatus &&& s.mbox.irqEnable != 0) && (s.start.holds = [] : Bool) && !s.power.isolated

/-- HRDY, the moment between a doorbell and the copy of its slot apart (R344); a bad mailbox memory keeps it low
(R444). -/
def State.hrdy (s : State) : Bool :=
  (s.start.holds = [] : Bool)
  && (match s.start.boot with
      | .waitHost | .ready => true
      | .reset | .rom | .loading | .fwInit => false)
  && !(s.mbox.fullBusy && 64 ≤ s.mbox.flights.length)
  && (match s.life.test with
      | .shutdown _ => false
      | .none | .block .. => true)
  && !s.life.shutDown && !s.power.isolated && s.start.resetPending.isNone && !s.life.unrepaired.contains (8, 0)
  && (match s.power.mode with
      | .retain | .off => false
      | .active | .standby | .entering | .waking => true)

/-! ## The completion queue (R350) -/

/-- Entries in use: one place stays free, so that full and empty differ (DEDUCED, log 13). -/
def State.cqUsed (s : State) : Nat := (s.mbox.cqTail - s.mbox.cqHead).toNat

/-- Entries free. (DEDUCED, log 13) -/
def State.cqFree (s : State) : Nat := 255 - s.cqUsed

/-- Write the 32 bytes of an entry at CQ_TAIL and advance it. (DEDUCED, log 13) -/
def State.cqPush (s : State) (entry : List Byte) : State :=
  s.setMbox (fun m =>
    { m with cq := memWriteAll blankByte m.cq (32 * m.cqTail.toNat) entry, cqTail := m.cqTail + 1 })

/-- The 32 bytes of an entry: TYPE, TAG, STATUS or CODE, SEQ or SOURCE, TIME, FLAGS, RESULT. -/
def cqEntry (typ tag code seq time flags : Nat) (result : List Byte) : List Byte :=
  leBytes 1 typ ++ leBytes 1 tag ++ leBytes 2 code ++ leBytes 4 seq ++ leBytes 8 time ++ leBytes 1 flags ++ zeros 3
    ++ bytesAt result 0 12

/-- The link carries traffic (R353). -/
def State.linkActive (s : State) : Bool := s.link.stage = .active

/-- Put a message of stream 0 into the queue to the host (R352): TYPE, then the body. -/
def State.toHost (s : State) (typ : Nat) (body : List Byte) : State :=
  s.setMbox (fun m => { m with toHost := m.toHost ++ [leBytes 1 typ ++ zeros 3 ++ leBytes 4 (8 + body.length) ++ body] })

/-! ## Events -/

/-- The 32-byte entry of an event. -/
def eventEntry (e : EventRec) : List Byte :=
  cqEntry 2 0xFF e.code (e.unit + 256 * e.sub) e.time 0 (e.values.flatMap (leBytes 4))

/-- Move waiting events into the completion queue while more than 64 entries are free; EV_EVENTS_LOST goes first
where events were dropped (R350). (DEDUCED, log 13) -/
def State.drainEvents : Nat → State → State
  | 0, s => s
  | fuel + 1, s =>
    if s.cqFree ≤ 64 then s
    else if s.mbox.dropped ≠ 0 then
      State.drainEvents fuel
        ((s.cqPush (eventEntry ⟨evEventsLost, noUnit, noUnit, s.tb, [s.mbox.dropped]⟩)).setMbox
          (fun m => { m with dropped := 0 }))
    else
      match s.mbox.ring with
      | [] => s
      | e :: es => State.drainEvents fuel ((s.cqPush (eventEntry e)).setMbox (fun m => { m with ring := es }))

/-- Put an event into the ring of 256 on its way to the completion queue; a full ring drops its oldest (R350). -/
def State.eventToQueue (s : State) (e : EventRec) : State :=
  let full := 256 ≤ s.mbox.ring.length
  let s1 := s.setMbox (fun m =>
    { m with ring := (if full then m.ring.drop 1 else m.ring) ++ [e], dropped := m.dropped + bitNat full })
  let s2 := if full then (s1.setIrq irqEventsLost).count Ctr.mboxStats_eventsLost 0 1 else s1
  State.drainEvents 260 s2

/-- Send an event by EVENT_ROUTE (R343, R353, R366). -/
def State.event (s : State) (code unit sub : Nat) (values : List Nat) : State :=
  let e : EventRec := ⟨code, unit, sub, s.tb, values⟩
  let byLink := s.linkActive && (s.mbox.eventRoute != 0)
  let byPort := !s.linkActive || (s.mbox.eventRoute != 1)
  let s1 := if byLink then s.toHost 3 (eventEntry e) else s
  if byPort then s1.eventToQueue e else s1

/-! ## Completions -/

/-- The bytes after which a slot's parameters begin (R347). -/
def slotHeader : Nat := 16

/-- Address of a slot in the command window's own memory. -/
def slotBase (tag : BitVec 6) : Nat := 256 * tag.toNat

/-- A completion's FLAGS (R350). -/
structure CompFlags where
  pending : Bool
  held : Bool
deriving DecidableEq, Repr

def noFlags : CompFlags := ⟨false, false⟩

/-- Complete a command: its tag leaves flight, result data beyond RESULT goes back to the slot or after the message
with MORE, and the entry goes out by the route of the command (R348, R350, R353). -/
def State.completeWith (s : State) (rq : Req) (st : Status) (fl : CompFlags) (result more : List Byte) : State :=
  let flags := bitNat (!more.isEmpty) + 2 * bitNat fl.pending + 4 * bitNat fl.held
  let entry := cqEntry 1 rq.tag.toNat (statusCode st) rq.seq.toNat s.tb flags result
  let s1 := s.setMbox (fun m => { m with flights := m.flights.filter (fun f => f.tag != rq.tag) })
  match rq.route with
  | .link =>
    if s.linkActive then s1.toHost 2 (entry ++ more)
    else (s1.setMbox (fun m => { m with window := memWriteAll blankByte m.window (slotBase rq.tag + slotHeader) more })).cqPush entry
  | .controlPort =>
    (s1.setMbox (fun m => { m with window := memWriteAll blankByte m.window (slotBase rq.tag + slotHeader) more })).cqPush entry

/-- Complete with a status alone. -/
def State.complete (s : State) (rq : Req) (st : Status) : State := s.completeWith rq st noFlags [] []

/-- Complete with a short result. -/
def State.completeResult (s : State) (rq : Req) (st : Status) (result : List Byte) : State :=
  s.completeWith rq st noFlags result []

end Sys2Proof.Machine
end

