-- ==== Sys2Proof/Machine/Interval.lean ====
section
/-! DEFINITION. The time-interval unit: arming, start and stop stamps, the record ring (R384 to R388). -/

namespace Sys2Proof.Machine

/-- EV_ codes of R390. -/
def evRefHoldover : Nat := 0x0181
def evRefLocked : Nat := 0x0182
def evPpsLost : Nat := 0x0183
def evPpsDrift : Nat := 0x0184
def evSiteLocked : Nat := 0x0185
def evSiteFault : Nat := 0x0186
def evTiDone : Nat := 0x0187
def evOcxoChange : Nat := 0x0188

def State.setTime (s : State) (f : TimeSt → TimeSt) : State := { s with time := f s.time }
def State.setTi (s : State) (f : TiSt → TiSt) : State := s.setTime (fun t => { t with ti := f t.ti })

/-- SITE_STATE, with the return from FAULT once no port is enabled (R381). (DEDUCED, log 154) -/
def State.siteNow (s : State) : SiteState :=
  match s.time.site with
  | .fault => if s.anyEnabled then .fault else .seeking
  | .none => .none
  | .master => .master
  | .seeking => .seeking
  | .aligning => .aligning
  | .locked => .locked
  | .holdover => .holdover

/-- The inputs of the references begin: what they show counts from now on (R373, R374). -/
def State.refBegins (s : State) : State := s.setTime (fun t => { t with refSince := s.clk, ocxoSince := s.clk })

/-- Start sources (R384). -/
def tiPin : Nat := 1
def tiLaunchSrc : Nat := 2
def tiFreq : Nat := 3

/-- TI_STATUS.STATE: IDLE, ARMED, MEASURING. -/
def tiState (t : TiSt) : Nat := if t.meas.isSome then 2 else if t.arm.isSome then 1 else 0

/-- Index of the oldest record held (R388). -/
def tiOldest (t : TiSt) : Half := t.next - BitVec.ofNat 16 t.ring.length

/-- A stamp record: time, input, index, flags, measurement, edges, slot (R388). -/
def tiRecord (ns frac input index flags meas edges slot : Nat) : List Byte :=
  leBytes 8 ns ++ leBytes 1 frac ++ leBytes 1 input ++ leBytes 1 index ++ leBytes 1 flags ++ leBytes 4 meas
    ++ leBytes 4 edges ++ leBytes 1 slot ++ zeros 3

/-- Write a record into the ring of 4,096; a full ring loses its oldest (R388). -/
def State.tiWrite (s : State) (r : List Byte) : State :=
  let full := 4096 ≤ s.time.ti.ring.length
  let s1 := s.setTi (fun t => { t with ring := (if full then t.ring.drop 1 else t.ring) ++ [r], next := t.next + 1 })
  (s1.count Ctr.timeStats_tiStamps 0 1).countIf Ctr.timeStats_stampsOverwritten 0 full

/-- A measurement opens with its start stamp. -/
def State.tiOpen (s : State) (ns frac input flags slot : Nat) : State :=
  let s1 := s.setTi (fun t => { t with meas := some ⟨ns, frac, 0, [], []⟩, excess := none })
  (s1.tiWrite (tiRecord ns frac input 0 flags s.time.ti.number 0 slot)).count Ctr.timeStats_tiStarts 0 1

/-- LAST and SHORT set in the record written last. -/
def shortLast (ring : List (List Byte)) : List (List Byte) :=
  match ring.getLast? with
  | some r => ring.dropLast ++ [r.set 11 ((r.getD 11 0) ||| 3)]
  | none => ring

/-- Insert a stop among those of its measurement: in time order, equal stamps in ascending input ID (R385). -/
def stopInsert (x : Nat × Nat × List Byte) : List (Nat × Nat × List Byte) → List (Nat × Nat × List Byte)
  | [] => [x]
  | y :: ys => if x.1 < y.1 ∨ (x.1 = y.1 ∧ x.2.1 < y.2.1) then x :: y :: ys else y :: stopInsert x ys

/-- Records of a measurement's stops: INDEX by order, and LAST on the last of a measurement that its stops close. -/
def stopRecords (done : Bool) (xs : List (Nat × Nat × List Byte)) : List (List Byte) :=
  xs.mapIdx (fun k x => (x.2.2.set 10 (BitVec.ofNat 8 (k + 1))).set 11 (BitVec.ofNat 8 (bitNat (done && decide (k + 1 = xs.length)))))

/-- The measurement in progress closes; after COUNT of them the unit is IDLE and EV_TI_DONE is sent (R385). -/
def State.tiClose (s : State) (byStops : Bool) : State :=
  match s.time.ti.arm, s.time.ti.meas with
  | some a, some m =>
    let n := s.time.ti.number + 1
    let s1 := s.setTi (fun t => { t with meas := none, number := n, excess := if byStops then some (m, a) else none })
    if a.count ≠ 0 ∧ a.count ≤ n then (s1.setTi (fun t => { t with arm := none })).event evTiDone noUnit noUnit [] else s1
  | some _, none | none, some _ | none, none => s

/-- A launch of a slot: a start event where LAUNCH is armed for it (R385). -/
def State.tiLaunch (s : State) (p : Port) (k : Fin 4) (t : Nat) : State :=
  match s.time.ti.arm with
  | none => s
  | some a =>
    if a.src = tiLaunchSrc ∧ a.port = p.val ∧ (a.slot = 0xFF ∨ a.slot = k.val) then
      match s.time.ti.meas with
      | some _ => s.count Ctr.timeStats_startIgnored 0 1
      | none => s.tiOpen t 0 (0x20 + p.val) 4 k.val
    else s

/-- A stamp as ns and 1/256 ns. -/
def State.stampNs (s : State) (x : Stamp) : Nat := s.tb - x.ago

/-- 1/256 ns from one stamp to another. -/
def fine (ns frac : Nat) : Nat := 256 * ns + frac

/-- TI_START_EDGE (R385, R387). (DEDUCED, log 156) -/
def tiStartEdge (dt : Nat) (e : TiStart) (x : Stamp) (s0 : State) : State :=
  let s := s0.elapse dt
  match s.time.ti.arm with
  | none => s
  | some a =>
    let ns := s.stampNs x
    match e with
    | .pin falling =>
      if a.src ≠ tiPin ∨ a.flags.testBit 0 ≠ falling ∨ !s.bankUp .tb then s
      else
        match s.time.ti.meas with
        | some _ => s.count Ctr.timeStats_startIgnored 0 1
        | none => s.tiOpen ns x.frac.toNat 0x00 0 0xFF
    | .freq =>
      if a.src ≠ tiFreq then s
      else
        match s.time.ti.meas with
        | some _ => s
        | none => s.tiOpen ns x.frac.toNat 0x30 0 0xFF

/-- Input ID of a bit of STOP_MASK (R388). -/
def stopInput (i : Fin 12) : Nat := if i.val < 4 then 1 + i.val else 0x10 + (i.val - 4)

/-- The currents make an echo comparator fire: one exceeds ECHO_LEVEL in magnitude; or re-arm: both lie below half of it (R386). -/
def echoFires (level : Nat) (x y : Int) : Bool := decide (1000 * level < x.natAbs) || decide (1000 * level < y.natAbs)
def echoRearms (level : Nat) (x y : Int) : Bool := decide (2 * x.natAbs < 1000 * level) && decide (2 * y.natAbs < 1000 * level)

/-- The port of an echo input. -/
def echoPort (i : Fin 12) : Port := ⟨(i.val - 4) % 8, by omega⟩

/-- What an input shows is a stop: the chosen edge of a pin, while its bank is in a mode (R37); an echo comparator that is armed
fires, while its port runs (R386). -/
def State.stopTaken (s : State) (a : TiArm) (i : Fin 12) (e : TiEdge) : Bool :=
  a.stopMask.testBit i.val
  && match e with
    | .pin falling => decide (i.val < 4) && s.bankUp .tb && a.flags.testBit (1 + i.val) = falling
    | .echo x y =>
      decide (4 ≤ i.val) && portLaunches (s.port (echoPort i)).seq && !s.time.ti.fired.getLsbD (echoPort i).val && echoFires a.level x y

/-- An echo comparator fires or re-arms (R386). -/
def State.echoNote (s : State) (a : TiArm) (i : Fin 12) (e : TiEdge) : State :=
  match e with
  | .pin _ => s
  | .echo x y =>
    let p := echoPort i
    let on := decide (4 ≤ i.val) && portLaunches (s.port p).seq
    let bit := 1#8 <<< p.val
    if on && echoFires a.level x y then s.setTi (fun t => { t with fired := t.fired ||| bit })
    else if on && echoRearms a.level x y then s.setTi (fun t => { t with fired := t.fired &&& ~~~bit })
    else s

/-- A stamp of an input lies less than 2.0 ns from its last (R385). -/
def nearLast (last : List (Nat × Nat)) (i t : Nat) : Bool :=
  (Tab.find? last i).any (fun l => decide (t < l + 512) && decide (l < t + 512))

/-- A stop of the measurement in progress is recorded among the others (R385). -/
def State.tiStop (s : State) (a : TiArm) (m : TiMeas) (i : Fin 12) (ns frac : Nat) : State :=
  let t := fine ns frac
  let k := m.stops + 1
  let done := decide (a.stops ≤ k)
  let taken := stopInsert (t, stopInput i, tiRecord ns frac (stopInput i) k 0 s.time.ti.number 0 0xFF) m.taken
  let m1 : TiMeas := { m with stops := k, last := Tab.put m.last i.val t, taken := taken }
  let s1 := (s.tiWrite (zeros 24)).setTi (fun u =>
    { u with ring := u.ring.take (u.ring.length - k) ++ stopRecords done taken, meas := some m1 })
  if done then s1.tiClose true else s1

/-- TI_STOP_EDGE (R385): bit `i` of STOP_MASK; a stop beyond STOPS counts while the window of its measurement lasts, of the last
one too. (DEDUCED, log 156) -/
def tiStopEdge (dt : Nat) (i : Fin 12) (e : TiEdge) (x : Stamp) (s0 : State) : State :=
  let s := s0.elapse dt
  let t := fine (s.stampNs x) x.frac.toNat
  let inside (a : TiArm) (m : TiMeas) : Bool :=
    let start := fine m.ns m.frac
    a.src ≠ tiFreq && decide (start ≤ t ∧ t ≤ start + 256 * a.windowNs) && (decide (i.val < 4) || decide (start + 256 * a.blankNs ≤ t))
  match s.time.ti.arm, s.time.ti.meas with
  | some a, some m =>
    let s1 := s.echoNote a i e
    if !s.stopTaken a i e || !inside a m then s1
    else if nearLast m.last i.val t then s1.setTi (fun u => { u with meas := some { m with last := Tab.put m.last i.val t } })
    else s1.tiStop a m i (s.stampNs x) x.frac.toNat
  | some _, none | none, some _ | none, none =>
    match s.time.ti.excess with
    | some (m, a) =>
      let s1 := s.echoNote a i e
      if !s.stopTaken a i e || !inside a m then s1
      else
        (s1.setTi (fun u => { u with excess := some ({ m with last := Tab.put m.last i.val t }, a) })).countIf
          Ctr.timeStats_stopOverflow 0 (!nearLast m.last i.val t)
    | none => match s.time.ti.arm with
      | some a => s.echoNote a i e
      | none => s

/-- TI_WINDOW_END (R385). (DEDUCED, log 156) -/
def tiWindowEnd (dt : Nat) (s0 : State) : State :=
  let s := s0.elapse dt
  match s.time.ti.arm, s.time.ti.meas with
  | some a, some m =>
    if a.src = tiFreq ∨ s.tb < m.ns + a.windowNs then s
    else (s.setTi (fun t => { t with ring := shortLast t.ring })).tiClose false
  | some _, none | none, some _ | none, none => s

/-- TI_FREQ_GATE_END (R387): the first divided edge at or after start + GATE_NS, the rising edges of TI_FREQ since the start, and
the interval from the divided edge before it, 1/256 ns. COUNT_EDGES and OVER_RATE follow: above 250 MHz over the measurement.
(DEDUCED, log 156) -/
def tiFreqGateEnd (dt : Nat) (x : Stamp) (edges interval : Nat) (s0 : State) : State :=
  let s := s0.elapse dt
  match s.time.ti.arm, s.time.ti.meas with
  | some a, some m =>
    let t := fine (s.stampNs x) x.frac.toNat
    let start := fine m.ns m.frac
    let gate := start + 256 * a.gateNs
    let n := edges / max 1 a.prescale
    if a.src ≠ tiFreq ∨ t < gate ∨ gate + interval ≤ t ∨ n = 0 ∨ edges % max 1 a.prescale ≠ 0 then s
    else
      let tooFast := decide (t - start < 1024 * n)
      (s.tiWrite (tiRecord (s.stampNs x) x.frac.toNat 0x30 1 (1 + 8 * bitNat tooFast) s.time.ti.number n 0xFF)).tiClose false
  | some _, none | none, some _ | none, none => s

/-! ## The commands (R384, R388) -/

/-- The parameters of TI_ARM as its 28 bytes lay them out; none where one is out of its range. -/
def tiParams (b : List Byte) : Option TiArm :=
  let a : TiArm :=
    { src := u8At b 0, port := u8At b 1, slot := u8At b 2, flags := u8At b 3, stopMask := u16At b 4, stops := u8At b 6,
      windowNs := u32At b 8, blankNs := u32At b 12, level := u16At b 16, count := u16At b 18, prescale := u16At b 20,
      gateNs := u32At b 24 }
  let ok := decide (a.src ≤ 3 ∧ a.port ≤ 7 ∧ (a.slot ≤ 3 ∨ a.slot = 0xFF) ∧ a.flags < 32 ∧ a.stopMask < 4096
    ∧ (a.stopMask ≠ 0 ∨ a.src = tiFreq) ∧ 1 ≤ a.stops ∧ a.stops ≤ 16 ∧ u8At b 7 = 0 ∧ 100 ≤ a.windowNs
    ∧ a.windowNs ≤ 10000000 ∧ a.blankNs < a.windowNs ∧ 10 ≤ a.level ∧ a.level ≤ 750 ∧ 1 ≤ a.prescale ∧ a.prescale ≤ 256
    ∧ u16At b 22 = 0 ∧ 1000 ≤ a.gateNs ∧ a.gateNs ≤ 1000000000)
  if ok then some a else none

/-- TI_ARM: its status and the state after it. -/
def State.tiArmed (s : State) (b : List Byte) : Status × State :=
  match (if b.length = 28 then tiParams b else none) with
  | none => (.badParam, s)
  | some a =>
    if a.src = 0 then (.ok, s.setTi (fun t => { t with arm := none, meas := none, excess := none, fired := 0 }))
    else if s.time.ti.arm.isSome then (.busy, s)
    else (.ok, s.setTi (fun t => { t with arm := some a, meas := none, excess := none, fired := 0, number := 0 }))

/-- TI_READ: status, RESULT and the records. -/
def tiReadOf (t : TiSt) (first count : Nat) : Status × List Byte × List Byte :=
  let oldest := tiOldest t
  let at_ := (BitVec.ofNat 16 first - oldest).toNat
  let bounds := leBytes 2 oldest.toNat ++ leBytes 2 t.next.toNat
  if count = 0 ∨ 10 < count then (.badParam, [], [])
  else if t.ring.length ≤ at_ then (.badParam, bounds, [])
  else (.ok, [], ((t.ring.drop at_).take count).flatten)

end Sys2Proof.Machine
end

