-- ==== Sys2Proof/Machine/Clove.lean ====
section
/-! DEFINITION. A Clove engine: memories, addressing, flags, and what each instruction does to the engine
(R195 to R200, R219 to R235). -/

namespace Sys2Proof.Machine

abbrev Vec := Vector (BitVec 16) 8
abbrev Acc := Vector (BitVec 40) 8

/-! ## Encoding (R222) -/

/-- A field of an instruction word: lowest bit, width, value. -/
abbrev WordField := Nat × Nat × Nat

/-- A word carries the given fields. (DEDUCED, log 62) -/
def wordFits (w : Nat) (fs : List WordField) : Bool := fs.all (fun f => w / 2 ^ f.1 % 2 ^ f.2.1 = f.2.2 % 2 ^ f.2.1)

/-- Fields of format C with only an opcode and zeros. -/
def encC0 (op : Nat) : List WordField := [(26, 6, op), (0, 26, 0)]

/-- Fields of format V: vd, va, vb. -/
def encV (op vd va vb : Nat) : List WordField := [(26, 6, op), (21, 5, vd), (16, 5, va), (11, 5, vb)]

/-- Fields of format M with one pointer. -/
def encM (op v : Nat) : Ea → List WordField
  | .disp k d => [(26, 6, op), (21, 5, v), (18, 3, k.val), (17, 1, 0), (0, 17, d.toNat)]
  | .post k => [(26, 6, op), (21, 5, v), (18, 3, k.val), (17, 1, 1), (0, 17, 0)]

/-- Fields of ELD and EST. -/
def encML (op v lane : Nat) : EaLane → List WordField
  | .disp k d => [(26, 6, op), (21, 5, v), (18, 3, k.val), (17, 1, 0), (14, 3, lane), (0, 14, d.toNat)]
  | .post k => [(26, 6, op), (21, 5, v), (18, 3, k.val), (17, 1, 1), (14, 3, lane), (0, 14, 0)]

/-- Fields of a two-pointer instruction. -/
def encM2 (op v k j : Nat) : List WordField :=
  [(26, 6, op), (21, 5, v), (18, 3, k), (17, 1, 1), (14, 3, j), (0, 14, 0)]

def Ea.isPost : Ea → Bool
  | .disp .. => false
  | .post .. => true
def EaLane.isPost : EaLane → Bool
  | .disp .. => false
  | .post .. => true

/-- Bits of a word. (DEDUCED, log 62) -/
def wbits (w lo n : Nat) : Nat := w / 2 ^ lo % 2 ^ n

/-- A word with an undefined opcode (R223), the conditions of REP apart. (DEDUCED, log 62) -/
def undefinedWord (w : Nat) : Bool :=
  let op := wbits w 26 6
  let oneM := wbits w 17 1 = 1 && wbits w 0 17 ≠ 0
  let laneM := wbits w 17 1 = 1 && wbits w 0 14 ≠ 0
  let twoM := wbits w 17 1 = 0 || wbits w 0 14 ≠ 0
  let accHigh := wbits w 23 3 ≠ 0
  match op with
  | 0x00 | 0x01 => wbits w 0 26 ≠ 0
  | 0x02 => wbits w 16 10 ≠ 0
  | 0x03 => 12 ≤ wbits w 22 4
  | 0x04 | 0x05 => wbits w 22 1 ≠ 0
  | 0x06 => wbits w 0 23 ≠ 0
  | 0x07 => false
  | 0x08 | 0x09 | 0x0A => wbits w 18 3 ≠ 0
  | 0x0B => wbits w 0 16 ≠ 0
  | 0x0C => wbits w 18 3 ≠ 0 || wbits w 0 2 = 3
  | 0x0D => wbits w 18 3 ≠ 0 || 2 ≤ wbits w 0 2
  | 0x0E | 0x0F => false
  | 0x10 | 0x11 | 0x12 | 0x13 => oneM
  | 0x14 | 0x15 => laneM
  | 0x16 => twoM
  | 0x1E | 0x1F => 15 < wbits w 0 7
  | 0x18 | 0x19 | 0x1A | 0x1B | 0x1C | 0x1D => false
  | 0x20 | 0x21 | 0x22 | 0x23 | 0x24 | 0x25 => false
  | 0x26 => wbits w 16 5 ≠ 0
  | 0x27 => 3 < wbits w 0 7
  | 0x28 | 0x29 => false
  | 0x2A => twoM || accHigh
  | 0x2B | 0x2C => oneM || accHigh
  | 0x2D => if wbits w 5 1 = 1 then wbits w 0 5 ≠ 0 else 24 < wbits w 0 5
  | 0x2E => false
  | 0x2F => wbits w 17 1 = 0 || wbits w 0 12 ≠ 0
  | 0x30 | 0x31 => oneM
  | 0x32 | 0x33 => false
  | _ => true

/-- A word that may not follow REP: its instruction is not eligible, or it is a memory instruction with P = 0 (R223, R228 to
R233). -/
def notAfterRep (w : Nat) : Bool :=
  let op := wbits w 26 6
  !(op = 0x00 || (((0x10 ≤ op && op ≤ 0x16) || (0x2A ≤ op && op ≤ 0x2C) || op = 0x30 || op = 0x31) && wbits w 17 1 = 1))

/-! ## Memory and pointers (R196, R197) -/

def setAr (s : EngineSt) (k : AReg) (x : BitVec 18) : EngineSt := { s with ar := s.ar.set k.val x k.isLt }

/-- A new address of ARk, moved by the length of its circular region where it lies outside (R196). -/
def circular (s : EngineSt) (k : AReg) (new : Int) : Int :=
  let lo : Int := s.cs[k].toNat
  let len : Int := s.cl[k].toNat
  if s.cl[k] = 0 then new else if lo + len ≤ new then new - len else if new < lo then new + len else new

/-- The address of an element some bytes behind ARk's, wrapped as a post-modification is (R196, R197).
(DEDUCED, log 60) -/
def wrapAddr (s : EngineSt) (k : AReg) (x : Nat) : Nat := (circular s k x % 262144).toNat

/-- Post-modification of ARk (R196). -/
def postMod (s : EngineSt) (k : AReg) : EngineSt :=
  setAr s k (BitVec.ofInt 18 (circular s k ((s.ar[k].toNat : Int) + s.of[k].toInt)))

/-- Byte at a data memory address. -/
def dbyte (s : EngineSt) (a : Nat) : BitVec 8 := memRead blankByte s.dmem (a % 262144)

/-- Element at an address. -/
def delem (s : EngineSt) (a : Nat) : BitVec 16 := (dbyte s (a + 1)) ++ (dbyte s a)

/-- Write an element. -/
def dput (s : EngineSt) (a : Nat) (x : BitVec 16) : EngineSt :=
  { s with dmem := memWriteAll blankByte s.dmem (a % 262144) [x.extractLsb' 0 8, x.extractLsb' 8 8] }

/-- Address of an effective address. (DEDUCED, log 60) -/
def Ea.addr (s : EngineSt) : Ea → Nat
  | .disp k d => (((s.ar[k].toNat : Int) + d.toInt) % 262144).toNat
  | .post k => s.ar[k].toNat
def EaLane.addr (s : EngineSt) : EaLane → Nat
  | .disp k d => (((s.ar[k].toNat : Int) + d.toInt) % 262144).toNat
  | .post k => s.ar[k].toNat

/-- Address of part `i` (of `n` bytes each) of an access; it wraps in the circular region after a post-modified
pointer. (DEDUCED, log 60) -/
def Ea.part (s : EngineSt) (ea : Ea) (n i : Nat) : Nat :=
  match ea with
  | .disp _ _ => (ea.addr s + n * i) % 262144
  | .post k => if i = 0 then s.ar[k].toNat else wrapAddr s k (s.ar[k].toNat + n * i)

def Ea.mod (s : EngineSt) : Ea → EngineSt
  | .disp .. => s
  | .post k => postMod s k
def EaLane.mod (s : EngineSt) : EaLane → EngineSt
  | .disp .. => s
  | .post k => postMod s k

/-- The vector with given lanes. -/
def mkVec (f : Lane → BitVec 16) : Vec := #v[f 0, f 1, f 2, f 3, f 4, f 5, f 6, f 7]
def mkAcc (f : Lane → BitVec 40) : Acc := #v[f 0, f 1, f 2, f 3, f 4, f 5, f 6, f 7]

/-- Eight elements at an effective address, from element `start` of it. -/
def loadVec (s : EngineSt) (ea : Ea) (start : Nat) : Vec := mkVec (fun i => delem s (ea.part s 2 (start + i.val)))

/-- Write eight elements at an effective address. -/
def storeVec (s : EngineSt) (ea : Ea) (x : Vec) : EngineSt :=
  ([0, 1, 2, 3, 4, 5, 6, 7] : List Lane).foldl (fun t i => dput t (ea.part s 2 i.val) x[i]) s

/-- An address that a 16-bit access may use. (DEDUCED, log 61) -/
def evenAddr (a : Nat) : Bool := a % 2 = 0

/-- Each of the first `n` elements at an effective address has an even address (R197; an odd circular region can give a
wrapped element an odd one). (DEDUCED, log 60; DEDUCED, log 61) -/
def Ea.even (s : EngineSt) (ea : Ea) (n : Nat) : Bool := (List.range n).all (fun i => evenAddr (ea.part s 2 i))

/-! ## Registers and flags (R225) -/

def setV (s : EngineSt) (d : VReg) (x : Vec) : EngineSt := { s with v := s.v.set d.val x d.isLt }
def setAcc (s : EngineSt) (d : AccReg) (x : Acc) : EngineSt := { s with acc := s.acc.set d.val x d.isLt }

/-- Set or clear one bit of FLG. -/
def setFlag (s : EngineSt) (i : Nat) (b : Bool) : EngineSt :=
  { s with flg := if b then s.flg ||| (1#16 <<< i) else s.flg &&& ~~~(1#16 <<< i) }

def getFlag (s : EngineSt) (i : Nat) : Bool := s.flg.getLsbD i

def flgZ : Nat := 0
def flgN : Nat := 1
def flgC : Nat := 2
def flgV : Nat := 3
def flgSat : Nat := 4
def flgAsat : Nat := 5
def flgFound : Nat := 6
def flgAny : Nat := 7

/-- Set a sticky flag where something saturated. -/
def stick (s : EngineSt) (i : Nat) (b : Bool) : EngineSt := if b then setFlag s i true else s

/-- The condition of a branch (R226). -/
def branchCond (s : EngineSt) (c : Fin 12) : Bool :=
  match c with
  | 0 => true
  | 1 => getFlag s flgZ
  | 2 => !getFlag s flgZ
  | 3 => getFlag s flgN != getFlag s flgV
  | 4 => getFlag s flgN == getFlag s flgV
  | 5 => getFlag s flgC
  | 6 => !getFlag s flgC
  | 7 => getFlag s flgAny
  | 8 => !getFlag s flgAny
  | 9 => getFlag s flgFound
  | 10 => getFlag s flgSat
  | 11 => getFlag s flgAsat

/-! ## Arithmetic (R227) -/

def fits16 (x : Int) : Bool := -32768 ≤ x && x ≤ 32767
def sat16 (x : Int) : Int := clampInt (-32768) 32767 x
def sat40 (x : Int) : Int := clampInt (-549755813888) 549755813887 x

/-- rnd(x, s) of the notation. -/
def rnd (x : Int) (s : Nat) : Int := if s = 0 then x else (x + 2 ^ (s - 1)) / 2 ^ s

/-- Apply an exact lane function to all lanes with 16-bit saturation: the vector, and whether a lane saturated. -/
def laneMap (f : Lane → Int) : Vec × Bool :=
  (mkVec (fun i => BitVec.ofInt 16 (sat16 (f i))),
   !(fits16 (f 0) && fits16 (f 1) && fits16 (f 2) && fits16 (f 3) && fits16 (f 4) && fits16 (f 5) && fits16 (f 6) && fits16 (f 7)))

/-- Write a saturated vector and note SAT. -/
def putLanes (s : EngineSt) (d : VReg) (f : Lane → Int) : EngineSt :=
  let r := laneMap f
  stick (setV s d r.1) flgSat r.2

/-- Add exact terms to an accumulator's lanes with 40-bit saturation. -/
def accumulate (s : EngineSt) (d : AccReg) (f : Lane → Int) : EngineSt :=
  let a := s.acc[d]
  let sum (i : Lane) : Int := a[i].toInt + f i
  let excess (i : Lane) : Bool := sat40 (sum i) ≠ sum i
  stick (setAcc s d (mkAcc (fun i => BitVec.ofInt 40 (sat40 (sum i))))) flgAsat
    (excess 0 || excess 1 || excess 2 || excess 3 || excess 4 || excess 5 || excess 6 || excess 7)

/-- The number of a lane. -/
def lane (s : EngineSt) (v : VReg) (i : Lane) : Int := (s.v[v][i]).toInt

/-! ## Address and move instructions (R229) -/

/-- An address-side register by SEL: AR, OF, CS, CL. -/
def getSel (s : EngineSt) (sel : Fin 4) (k : AReg) : BitVec 18 :=
  match sel with
  | 0 => s.ar[k]
  | 1 => s.of[k]
  | 2 => s.cs[k]
  | 3 => s.cl[k]

def setSel (s : EngineSt) (sel : Fin 4) (k : AReg) (x : BitVec 18) : EngineSt :=
  match sel with
  | 0 => { s with ar := s.ar.set k.val x k.isLt }
  | 1 => { s with of := s.of.set k.val x k.isLt }
  | 2 => { s with cs := s.cs.set k.val x k.isLt }
  | 3 => { s with cl := s.cl.set k.val x k.isLt }

/-- Z, N, C and V of an address result. -/
def addrFlags (s : EngineSt) (r : BitVec 18) (c v : Bool) : EngineSt :=
  setFlag (setFlag (setFlag (setFlag s flgZ (r = 0)) flgN r.msb) flgC c) flgV v

def opAdda (s : EngineSt) (k : AReg) (imm : BitVec 18) : EngineSt :=
  let a := s.ar[k]
  let r := a + imm
  addrFlags (setAr s k r) r (262144 ≤ a.toNat + imm.toNat) (a.toInt + imm.toInt ≠ r.toInt)

def opCmpa (s : EngineSt) (k : AReg) (imm : BitVec 18) : EngineSt :=
  let a := s.ar[k]
  let r := a - imm
  addrFlags s r (a.toNat < imm.toNat) (a.toInt - imm.toInt ≠ r.toInt)

/-- GETS: FLG, BEXP, or RC, which reads 0 outside a repeat. -/
def opGets (s : EngineSt) (k : AReg) (which : Fin 3) : EngineSt :=
  match which with
  | 0 => setAr s k (s.flg.setWidth 18)
  | 1 => setAr s k (s.bexp.setWidth 18)
  | 2 => setAr s k (s.rc.setWidth 18)

def opPuts (s : EngineSt) (which : Fin 2) (k : AReg) : EngineSt :=
  match which with
  | 0 => { s with flg := (s.ar[k].extractLsb' 0 8).setWidth 16 }
  | 1 => { s with bexp := BitVec.ofNat 5 (min s.ar[k].toNat 24) }

/-! ## Memory instructions (R230): none where the address is odd -/

def opVld (s : EngineSt) (d : VReg) (ea : Ea) : Option EngineSt :=
  if ea.even s 8 then some (ea.mod (setV s d (loadVec s ea 0))) else none

def opVst (s : EngineSt) (ea : Ea) (v : VReg) : Option EngineSt :=
  if ea.even s 8 then some (ea.mod (storeVec s ea s.v[v])) else none

def opVldb (s : EngineSt) (d : VReg) (ea : Ea) : Option EngineSt :=
  if evenAddr (ea.addr s) then some (ea.mod (setV s d (mkVec (fun _ => delem s (ea.addr s))))) else none

def opVldq (s : EngineSt) (d : VReg) (ea : Ea) : Option EngineSt :=
  some (ea.mod (setV s d (mkVec (fun i => (dbyte s (ea.part s 1 i.val)).setWidth 16))))

def opEld (s : EngineSt) (d : VReg) (l : Lane) (ea : EaLane) : Option EngineSt :=
  if evenAddr (ea.addr s) then some (ea.mod (setV s d (s.v[d].set l.val (delem s (ea.addr s)) l.isLt))) else none

def opEst (s : EngineSt) (ea : EaLane) (v : VReg) (l : Lane) : Option EngineSt :=
  if evenAddr (ea.addr s) then some (ea.mod (dput s (ea.addr s) (s.v[v][l]))) else none

/-- Post-modify two pointers, once where they are one register (R221). -/
def postMod2 (s : EngineSt) (k j : AReg) : EngineSt := if k = j then postMod s k else postMod (postMod s k) j

def opVcpy (s : EngineSt) (k j : AReg) : Option EngineSt :=
  if (Ea.post k).even s 8 && (Ea.post j).even s 8 then
    some (postMod2 (storeVec s (.post k) (loadVec s (.post j) 0)) k j)
  else none

/-! ## Lane instructions (R231, R232) -/

def opVcmpgt (s : EngineSt) (d a b : VReg) : EngineSt :=
  let gt (i : Lane) : Bool := lane s b i < lane s a i
  setFlag (setV s d (mkVec (fun i => if gt i then 0xFFFF else 0))) flgAny
    (gt 0 || gt 1 || gt 2 || gt 3 || gt 4 || gt 5 || gt 6 || gt 7)

/-- The source elements of the shuffle patterns. -/
def shufIndex (p : Fin 4) : List Nat :=
  match p with
  | 0 => [0, 8, 1, 9, 2, 10, 3, 11]
  | 1 => [4, 12, 5, 13, 6, 14, 7, 15]
  | 2 => [0, 1, 8, 9, 2, 3, 10, 11]
  | 3 => [4, 5, 12, 13, 6, 7, 14, 15]

def opVshuf (s : EngineSt) (d a b : VReg) (p : Fin 4) : EngineSt :=
  let w := s.v[a].toList ++ s.v[b].toList
  setV s d (mkVec (fun i => w.getD ((shufIndex p).getD i.val 0) 0))

/-! ## Accumulator and search instructions (R200, R233 to R235) -/

def opVmacb (s : EngineSt) (d : AccReg) (k j : AReg) : Option EngineSt :=
  if (Ea.post k).even s 8 && evenAddr s.ar[j].toNat then
    let e := loadVec s (.post k) 0
    let c := (delem s s.ar[j].toNat).toInt
    some (postMod2 (accumulate s d (fun i => (e[i]).toInt * c)) k j)
  else none

def opVsqa (s : EngineSt) (d : AccReg) (ea : Ea) : Option EngineSt :=
  if ea.even s 8 then
    let e := loadVec s ea 0
    some (ea.mod (accumulate s d (fun i => (e[i]).toInt * (e[i]).toInt)))
  else none

def opVpwr (s : EngineSt) (d : AccReg) (ea : Ea) : Option EngineSt :=
  if ea.even s 16 then
    let x (n : Nat) : Int := (delem s (ea.part s 2 n)).toInt
    some (ea.mod (accumulate s d (fun i => x (2 * i.val) * x (2 * i.val) + x (2 * i.val + 1) * x (2 * i.val + 1))))
  else none

/-- Every lane of an accumulator fits 16 bits after a shift. (DESIGN CHOICE, log 19) -/
def accFits (a : Acc) (s : Nat) : Bool := a.toList.all (fun x => fits16 (rnd x.toInt s))

/-- The smallest shift from `n` up to 24 at which every lane fits; 24 where none does. (DESIGN CHOICE, log 19) -/
def shiftNeed (a : Acc) : Nat → Nat → Nat
  | 0, n => n
  | fuel + 1, n => if accFits a n then n else shiftNeed a fuel (n + 1)

def opMvaFixed (s : EngineSt) (d : VReg) (a : AccReg) (sh : Nat) : EngineSt :=
  let x := s.acc[a]
  putLanes s d (fun i => rnd (x[i]).toInt sh)

/-- A lane that no shift up to 24 makes fit, which rounding up at 24 alone can bring about, takes an open value
(DESIGN CHOICE, log 19). -/
def opMvaAuto (s : EngineSt) (d : VReg) (a : AccReg) : EngineSt :=
  let x := s.acc[a]
  let sh := max s.bexp.toNat (shiftNeed x 24 0)
  let one (i : Lane) : BitVec 16 :=
    if fits16 (rnd (x[i]).toInt sh) then BitVec.ofInt 16 (rnd (x[i]).toInt sh) else Config.autoOverflow (x[i])
  { setV s d (mkVec one) with bexp := BitVec.ofNat 5 sh }

def opAreds (s : EngineSt) (d a : AccReg) : EngineSt :=
  let x := s.acc[a]
  let y := s.acc[d]
  let sum := ((x.toList.map (·.toInt)).foldl (· + ·) 0)
  stick (setAcc s d #v[y[1], y[2], y[3], y[4], y[5], y[6], y[7], BitVec.ofInt 40 (sat40 sum)]) flgAsat (sat40 sum ≠ sum)

/-- VBFLY (R235). A difference can come to 32,768, which R227 limits and marks with SAT. (DEDUCED, log 184) -/
def opVbfly (s : EngineSt) (va vb : VReg) (k : AReg) : Option EngineSt :=
  if (Ea.post k).even s 8 then
    let w := loadVec s (.post k) 0
    let re (m : Nat) (x : Vec) : Int := (x.toList.getD (2 * m) 0).toInt
    let im (m : Nat) (x : Vec) : Int := (x.toList.getD (2 * m + 1) 0).toInt
    let a := s.v[va]
    let b := s.v[vb]
    let tr (m : Nat) : Int := rnd (re m b * re m w - im m b * im m w) 15
    let ti (m : Nat) : Int := rnd (re m b * im m w + im m b * re m w) 15
    let t (i : Lane) : Int := if i.val % 2 = 0 then sat16 (tr (i.val / 2)) else sat16 (ti (i.val / 2))
    let sum := laneMap (fun i => ((a[i]).toInt + t i + 1) / 2)
    let dif := laneMap (fun i => ((a[i]).toInt - t i + 1) / 2)
    let excess := [0, 1, 2, 3].any (fun m => !fits16 (tr m) || !fits16 (ti m))
    some (postMod (stick (setV (setV s va sum.1) vb dif.1) flgSat (excess || dif.2)) k)
  else none

/-- One step of a search over the eight elements: Vd after it, and whether the extremum changed. -/
def searchStep (max_ : Bool) (x : Vec) (e : Vec) : Vec × Bool :=
  let base := x[2]
  let one (st : Vec × Bool) (i : Lane) : Vec × Bool :=
    let better := if max_ then (st.1[0]).toInt < (e[i]).toInt else (e[i]).toInt < (st.1[0]).toInt
    if better then (((st.1.set 0 (e[i])).set 1 (base + BitVec.ofNat 16 i.val)), true) else st
  let r := ([0, 1, 2, 3, 4, 5, 6, 7] : List Lane).foldl one (x, false)
  (r.1.set 2 (base + 8), r.2)

/-- A search on eight elements; FOUND joins what it was, so that a repeat gathers it. -/
def search (max_ : Bool) (s : EngineSt) (d : VReg) (e : Vec) : EngineSt :=
  let r := searchStep max_ s.v[d] e
  stick (setV s d r.1) flgFound r.2

def opSearchMem (max_ : Bool) (s : EngineSt) (d : VReg) (ea : Ea) : Option EngineSt :=
  if ea.even s 8 then some (ea.mod (search max_ s d (loadVec s ea 0))) else none

/-- Run something n times, stopping at a fault. -/
def repeatOp (f : EngineSt → Option EngineSt) : Nat → EngineSt → Option EngineSt
  | 0, s => some s
  | n + 1, s =>
    match f s with
    | some t => repeatOp f n t
    | none => none

end Sys2Proof.Machine
end

