-- ==== Sys2Proof/Machine/Grid.lean ====
section
/-! DEFINITION. The launch grid: frame, offsets, slots, grid interval and window cycles (R106 to R117, R209). -/

namespace Sys2Proof.Machine

/-- Divide, the rounding of a remainder left open (DESIGN CHOICE, log 15). -/
def divOpen (a b : Nat) : Nat := a / b + (if a % b = 0 then 0 else bitNat (Config.roundUp a b))

/-- L + g of a port, bins (R23). -/
def State.ownFrame (s : State) (p : Port) : Nat := s.fld Fld.seqPort_fibreLen p.val + s.fld Fld.seqPort_guard p.val

/-- The frame of a lockstep group, bins (R29, R122). FIBRE_LEN or GUARD written on a stopped member changes it, and the grid of
the members that run, at once. (DESIGN CHOICE, log 166) -/
def State.groupFrame (s : State) (g : Fin 4) : Nat :=
  if s.fld Fld.lockstep_frame g.val ≠ 0 then s.fld Fld.lockstep_frame g.val
  else ((s.members g).map s.ownFrame).foldl max 0

/-- The frame F in effect on a port, bins. -/
def State.frame (s : State) (p : Port) : Nat :=
  match s.groupOf p with
  | some g => s.groupFrame g
  | none => s.ownFrame p

/-- SLOT_MASK in effect: the group's or the port's (R122). -/
def State.slotMask (s : State) (p : Port) : Nat :=
  match s.groupOf p with
  | some g => s.fld Fld.lockstep_slotMask g.val
  | none => s.fld Fld.seqPort_slotMask p.val

def State.ramanM (s : State) (p : Port) : Nat :=
  match s.groupOf p with
  | some g => s.fld Fld.lockstep_ramanM g.val
  | none => s.fld Fld.seqPort_ramanM p.val

def State.ditherBits (s : State) (p : Port) : Nat :=
  match s.groupOf p with
  | some g => s.fld Fld.lockstep_ditherSpan g.val
  | none => s.fld Fld.seqPort_ditherSpan p.val

def State.ditherSeed (s : State) (p : Port) : Nat :=
  match s.groupOf p with
  | some g => s.fld Fld.lockstep_ditherSeed g.val
  | none => s.fld Fld.seqPort_ditherSeed p.val

/-- SINGLE mode (R117). -/
def State.singleMode (s : State) (p : Port) : Bool := s.flag Fld.seqPort_mode p.val

/-- The slots of a mask, in order of rank (R106). -/
def maskSlots (m : Nat) : List (Fin 4) := [(0 : Fin 4), 1, 2, 3].filter (fun k => m.testBit k.val)

/-- Number of enabled slots. -/
def slotCount (m : Nat) : Nat := (maskSlots m).length

/-- Rank of a slot among the slots of a mask (R106). -/
def slotRank (m : Nat) (k : Fin 4) : Nat := ((maskSlots m).filter (fun j => j < k)).length

/-- off(r), bins (R106). -/
def slotOffset (frame n r : Nat) : Nat := r * frame / n

/-- Span of the dither, bins (R113). -/
def ditherSpan (bits : Nat) : Nat := if bits = 0 then 1 else 2 ^ bits

/-- One shift of the dither register (R113). -/
def lfsrShift (x : BitVec 16) : BitVec 16 :=
  let b := ((x >>> 15) ^^^ (x >>> 13) ^^^ (x >>> 12) ^^^ (x >>> 10)) &&& 1
  (x <<< 1) ||| b

/-- The sixteen shifts of one grid position. -/
def lfsrStep : Nat → BitVec 16 → BitVec 16
  | 0, x => x
  | n + 1, x => lfsrStep n (lfsrShift x)

/-- The register after a cycle and the dithers of its positions, in order of rank (R113). (DEDUCED, log 51) -/
def ditherCycle (span : Nat) : Nat → BitVec 16 → BitVec 16 × List Nat
  | 0, x => (x, [])
  | n + 1, x =>
    let y := lfsrStep 16 x
    let rest := ditherCycle span n y
    (rest.1, y.toNat % span :: rest.2)

/-- Start of cycle c of a port's grid, ns of the time base. (DEDUCED, log 50) -/
def State.cycleStart (s : State) (p : Port) (c : Nat) : Nat := (s.grid p).epoch.getD 0 + c * s.frame p * 10

/-- Grid interval I of a port, ps (R209): F / n x 10 ns; its rounding where n = 3 is open. (DESIGN CHOICE, log 15) -/
def State.gridPs (s : State) (p : Port) : Nat := divOpen (s.frame p * 10000) (max 1 (slotCount (s.slotMask p)))

/-- Effective rate of a port as a fraction of Hz: numerator and denominator (R23). -/
def State.effRate (s : State) (p : Port) : Nat × Nat := (slotCount (s.slotMask p) * 100000000, s.frame p)

/-- A Raman window cycle (R115). -/
def State.ramanCycle (s : State) (p : Port) (c : Nat) : Bool :=
  let m := s.ramanM p
  c ≠ 0 && m ≠ 0 && c % m = m - 1

/-- A check window cycle that a whole second brings (R115). -/
def State.secondCycle (s : State) (p : Port) (c : Nat) : Bool :=
  s.ramanM p = 0 && 1 ≤ c && s.cycleStart p (c - 1) / secNs < s.cycleStart p c / secNs

/-- The present cycle of the port's grid is the empty cycle of a slot-mask change (R119). -/
def State.emptyCycle (s : State) (p : Port) (c : Nat) : Bool :=
  (s.grid p).oldMask.isSome && c = (s.grid p).cycle

/-- A window cycle of a port in RUN mode (R115). -/
def State.windowCycle (s : State) (p : Port) (c : Nat) : Bool :=
  !s.singleMode p && (s.ramanCycle p c || (c ≠ 0 && (s.secondCycle p c || s.emptyCycle p c)))

/-- WINDOW_MIN: F - off(n - 1), bins (R128). -/
def State.windowMin (s : State) (p : Port) : Nat :=
  let n := slotCount (s.slotMask p)
  s.frame p - slotOffset (s.frame p) (max 1 n) (n - 1)

/-- Gauges of a port (R25, R153). -/
def State.gauges (s : State) (p : Port) : Nat :=
  s.fld Fld.seqPort_fibreLen p.val / max 1 (s.fld Fld.gaugeCfg_pitch p.val)

/-- BLOCK_GAUGES and BLOCK_SAMPLES as numbers (chapter 9). -/
def State.blockGauges (s : State) (p : Port) : Nat := 32 * 2 ^ s.fld Fld.clovePort_blockGauges p.val
def State.blockSamples (s : State) (p : Port) : Nat := 16 * 2 ^ s.fld Fld.clovePort_blockSamples p.val

/-- Columns of a port (R201). -/
def State.columns (s : State) (p : Port) : Nat := ceilDiv (s.gauges p) (s.blockGauges p)

/-- Stagger of a column (R201). -/
def State.stagger (s : State) (p : Port) (j : Nat) : Nat := j * s.blockSamples p / max 1 (s.columns p)

/-! ## Times of grid positions (R106, R201, R204) -/

/-- The stretch of one schedule that a position lies in; positions below 0 lie in the oldest. -/
def spanOf (p : Int) : List (Nat × Nat × Nat) → Option (Nat × Nat × Nat)
  | [] => none
  | [x] => some x
  | x :: xs => if (x.1 : Int) ≤ p then some x else spanOf p xs

/-- Time base of a grid position of a port, ns. In SINGLE mode each launch has a stretch of its own, with mask 0 and its
launch time (R164). -/
def State.posTime (s : State) (p : Port) (pos : Int) : Int :=
  match spanOf pos (s.port p).seq.spans with
  | none => s.tb
  | some (_, t0, 0) => t0
  | some (p0, c0, m) =>
    let n := max 1 (slotCount m)
    let k := pos - p0
    let c : Int := c0 + k / n
    let r := (k % n).toNat
    (s.grid p).epoch.getD 0 + 10 * (c * s.frame p + slotOffset (s.frame p) n r)

/-! ## The grid of a port -/

/-- The port follows a grid and has joined it. -/
def onGrid (q : SeqSt) : Bool :=
  match q.mode with
  | .running => true
  | .stopped | .starting | .single | .halted | .shut => false

/-- Grid positions of the cycle in progress that have gone by, or are launched (R164). -/
def State.passed (s : State) (p : Port) : Nat :=
  let g := s.grid p
  let mask := match g.oldMask with
    | some m => m.toNat
    | none => s.slotMask p
  let n := slotCount mask
  let start := s.cycleStart p g.cycle
  let window := s.windowCycle p g.cycle
  ((List.range n).filter (fun r =>
    decide (start + 10 * (slotOffset (s.frame p) (max 1 n) r + (if window then 0 else g.dither.getD r 0)) ≤ s.tb))).length

/-- The first grid position absent from a port's output, were it to stop now. -/
def State.firstAbsent (s : State) (p : Port) : Nat :=
  let q := (s.port p).seq
  if onGrid q && (s.grid p).launched then q.gridPos + s.passed p else q.gridPos

/-! ## The receive delay (R143) -/

/-- D_rx in ps: as calibration measured it; before, the round trip of INT_PATH at the port's group index (DEDUCED, log 21). -/
def State.dRxPs (s : State) (p : Port) : Nat :=
  match (s.cal.ports[p]).dRx with
  | some d => d
  | none =>
    match s.record p with
    | some r => divOpen (2000 * u32At r 0x160 * s.fld Fld.seqPort_groupIndex p.val) 299792458
    | none => 0

/-- The part of D_rx in whole ns, the remainder lying within ± 0.5 ns. (DEDUCED, log 21) -/
def State.dRxNs (s : State) (p : Port) : Nat := (s.dRxPs p + 500) / 1000

end Sys2Proof.Machine
end

