-- ==== Sys2Proof/Machine/Streams.lean ====
section
/-! DEFINITION. Stream records, HEADERs, marks, stream queues, spill shares and rings (R262 to R284). -/

namespace Sys2Proof.Machine

/-! ## Records and classes -/

def typHeader : Nat := 0x0001
def typPhase : Nat := 0x0002
def typBand : Nat := 0x0003
def typRaw : Nat := 0x0004
def typTemp : Nat := 0x0005
def typEvent : Nat := 0x0006
def typSummary : Nat := 0x0007
def typSnapHeader : Nat := 0x0008
def typSnapEnd : Nat := 0x0009
def mkTrigger : Nat := 0x0101
def mkGap : Nat := 0x0102
def mkOverflow : Nat := 0x0103
def mkSchedule : Nat := 0x0104
def mkStart : Nat := 0x0105
def mkStop : Nat := 0x0106
def mkMaskStop : Nat := 0x0107

/-- Stream classes (R263). -/
def clsPhase : Nat := 1
def clsBand : Nat := 2
def clsRaw : Nat := 3
def clsTemp : Nat := 4
def clsConf : Nat := 5
def clsProv : Nat := 6
def clsSummary : Nat := 7
def clsSnapshot : Nat := 8

/-- Bytes of a record with its frame (R265). -/
def recBytes (r : Rec) : Nat := 16 + r.payload.length

/-- The bytes of a record as the link carries them (R265). -/
def recWire (r : Rec) : List Byte :=
  leBytes 2 r.typ ++ leBytes 1 r.source ++ leBytes 1 r.flags ++ leBytes 4 r.payload.length ++ leBytes 4 r.seq
    ++ leBytes 2 r.stream ++ zeros 2 ++ r.payload

def recsBytes (q : List Rec) : Nat := (q.map recBytes).foldl (· + ·) 0

/-- The payload of a mark (R272). -/
structure Mark where
  typ : Nat
  pos : Int
  id : Nat
  group : Nat
  cause : Nat
  flags : Nat
  argA : Nat
  argB : Nat
deriving DecidableEq, Repr

/-- A mark without snapshot or group. -/
def plainMark (typ : Nat) (pos : Int) (cause argA argB : Nat) : Mark := ⟨typ, pos, 0, 0xFFFF, cause, 0, argA, argB⟩

def markPayload (time : Nat) (m : Mark) : List Byte :=
  leBytes 8 time ++ leBytes 8 (toBits 64 m.pos) ++ leBytes 4 m.id ++ leBytes 2 m.group ++ leBytes 1 m.cause
    ++ leBytes 1 m.flags ++ leBytes 4 m.argA ++ leBytes 4 m.argB

/-! ## The stream table (R262, R275) -/

/-- The enabled streams, in ascending order: the entries of the field table that set EN. -/
def State.enabledStreams (s : State) : List Nat :=
  s.cfg.filterMap (fun e =>
    if e.1 / 4194304 = Fld.stream_en.block ∧ e.1 % 1024 = Fld.stream_en.lo ∧ e.2 = 1 then some (e.1 / 1024 % 4096)
    else none)

def State.streamClass (s : State) (i : Nat) : Nat := s.fld Fld.stream_class i
def State.streamSource (s : State) (i : Nat) : Nat := s.fld Fld.stream_source i

/-- The enabled streams of a class and a source. -/
def State.streamsOf (s : State) (cls src : Nat) : List Nat :=
  s.enabledStreams.filter (fun i => s.streamClass i = cls ∧ s.streamSource i = src)

/-- Quota of a stream in shared SRAM, bytes (R275). -/
def State.quota (s : State) : Nat :=
  max 4096 (min 262144 (8388608 / max 1 s.enabledStreams.length) / 4096 * 4096)

/-- Share of a stream in capture memory, bytes. -/
def State.shareBytes (s : State) (i : Nat) : Nat :=
  if s.capture.mem.trained then s.fld Fld.stream_share i * 1048576 else 0

def freshStream : StreamSt :=
  { seq := 0, queue := [], sent := 0, headerDue := true, lastHeader := none, fseq := 0,
    shareFull := false }

def State.stream (s : State) (i : Nat) : StreamSt := (Tab.find? s.capture.streams i).getD freshStream

def State.setStream (s : State) (i : Nat) (f : StreamSt → StreamSt) : State :=
  s.setCapture (fun c => { c with streams := Tab.put c.streams i (f (s.stream i)) })

/-! ## Dropping (R276) -/

/-- A record is an MK_GAP of cause 5. -/
def isDropGap (r : Rec) : Bool := r.typ = mkGap && u8At r.payload 0x16 = 5

/-- Join a record that is dropped to a run: SEQ of its first record and their number. -/
def joinRun (run : Option (Nat × Nat)) (r : Rec) : Option (Nat × Nat) :=
  if isDropGap r then
    match run with
    | none => some (u32At r.payload 0x18, u32At r.payload 0x1C)
    | some (a, n) => some (a, n + u32At r.payload 0x1C)
  else
    match run with
    | none => some (r.seq, 1)
    | some (a, n) => some (a, n + 1)

/-- Drop oldest records until the rest, `need` bytes, and once one is dropped the `front` bytes of what stands for it, fit in `cap`:
the rest, the run, and the records dropped. -/
def dropOldest (cap need front : Nat) : List Rec → Option (Nat × Nat) → Nat → List Rec × Option (Nat × Nat) × Nat
  | [], run, n => ([], run, n)
  | r :: q, run, n =>
    if recsBytes (r :: q) + need + (if run.isSome then front else 0) ≤ cap then (r :: q, run, n)
    else dropOldest cap need front q (joinRun run r) (n + bitNat (!isDropGap r))

/-- An MK_GAP of cause 5 for a run. -/
def dropGapRec (s : State) (i seq : Nat) (run : Nat × Nat) (src : Nat) : Rec :=
  ⟨mkGap, src, 0, seq, i, markPayload s.tb (plainMark mkGap (-1) 5 run.1 run.2)⟩

/-- Source byte of a stream's frames: its port or group, 0xFF for the interrogator (R265). -/
def State.sourceByte (s : State) (i : Nat) : Nat :=
  let c := s.streamClass i
  if c = clsConf ∨ c = clsProv ∨ c = clsSnapshot then 0xFF else s.streamSource i

/-- A stream whose class has HEADERs (R267). -/
def hasHeader (cls : Nat) : Bool := cls = clsPhase || cls = clsBand || cls = clsRaw

/-- What stands before the oldest record that remains after a drop: MK_GAP, and the latest HEADER repeated
(R276, R333; the numbers they take: DEDUCED, log 14). -/
def State.dropFront (s : State) (i : Nat) (run : Nat × Nat) (seq : Nat) : List Rec :=
  let src := s.sourceByte i
  let gap := dropGapRec s i seq run src
  match (s.stream i).lastHeader with
  | some h => if hasHeader (s.streamClass i) then [gap, ⟨typHeader, src, 2, (seq + 1) % 4294967296, i, h⟩] else [gap]
  | none => [gap]

/-- The whole memory of a stream: quota and share (R275). -/
def State.streamWhole (s : State) (i : Nat) : Nat := s.quota + s.shareBytes i

/-- Room of a stream: its whole memory; while records are in its share and the share counts as full, what it holds already
(R275, R277). -/
def State.streamRoom (s : State) (i : Nat) : Nat :=
  if (s.stream i).shareFull && s.quota < recsBytes (s.stream i).queue then recsBytes (s.stream i).queue else s.streamWhole i

def State.setMem (s : State) (f : CapMemSt → CapMemSt) : State := s.setCapture (fun c => { c with mem := f c.mem })

/-- An access to capture memory takes it out of self-refresh (R427). -/
def State.memAccess (s : State) : State := s.setMem (fun m => { m with selfRefresh := false, lastAccess := s.clk })

/-- A stream's records have entered or left its queue: what is beyond the quota is in capture memory, which it accesses, and the
highest use of its share counts (R275, R297, R427). -/
def State.spillNote (s : State) (i : Nat) : State :=
  let n := recsBytes (s.stream i).queue
  if s.quota < n then (s.raise Ctr.streamStats_peakSpill i (ceilDiv (n - s.quota) 1048576)).memAccess else s

/-- Put a record at the end of a stream's queue, dropping the oldest where it does not fit (R275, R276). Where not even an empty
queue takes it with the MK_GAP and the HEADER, these stay beside it. (DEDUCED, log 14) -/
def State.pushStream (s : State) (i typ flags : Nat) (payload : List Byte) : State :=
  let st := s.stream i
  let src := s.sourceByte i
  let r : Rec := ⟨typ, src, flags, st.seq, i, payload⟩
  let cap := s.streamRoom i
  if s.streamWhole i < recBytes r then
    -- larger than quota and share: it alone is dropped
    let q := st.queue
    let joins := match q.getLast? with
      | some l => isDropGap l
      | none => false
    let run := if joins then (joinRun (joinRun none (q.getLast?.getD r)) r).getD (st.seq, 1) else (st.seq, 1)
    let q' := (if joins then q.dropLast else q) ++ [dropGapRec s i ((st.seq + 1) % 4294967296) run src]
    ((s.setStream i (fun x => { x with queue := q', seq := (st.seq + 2) % 4294967296 })).count Ctr.streamStats_dropped i 1).count
      Ctr.streamStats_gapMarks i 1
  else
    -- a record of which part has been sent stays
    let started := if st.sent = 0 then [] else st.queue.take 1
    let rest := if st.sent = 0 then st.queue else st.queue.drop 1
    let gone := recsBytes (s.dropFront i (0, 0) 0)
    let d := dropOldest cap (recBytes r + recsBytes started) gone rest none 0
    let front := match d.2.1 with
      | none => []
      | some run => s.dropFront i run ((st.seq + 1) % 4294967296)
    let q := started ++ front ++ d.1 ++ [r]
    let s1 := s.setStream i (fun x =>
      { x with queue := q, seq := (st.seq + 1 + front.length) % 4294967296, shareFull := false })
    ((s1.count Ctr.streamStats_dropped i d.2.2).countIf Ctr.streamStats_gapMarks i (d.2.1.isSome)).spillNote i

/-! ## HEADER (R267) -/

/-- Fields of the head record the streams need: SEED wavelength, pm. -/
def State.seedWavelength (s : State) (p : Port) : Nat := u32At (s.port p).head.record 0x020

/-- STRAIN_UNIT in 10^-18: lambda / (131,072 x n x xi x L_g), with n x L_g = G x 1.4989623 m (R127, R166). -/
def State.strainUnit (s : State) (p : Port) : Nat :=
  divOpen (s.seedWavelength p * 10000000000000000)
    (max 1 (131072 * s.fld Fld.gaugeCfg_xi p.val * s.fld Fld.gaugeCfg_gaugeLen p.val * 14989623))

/-- The HEADER of a PHASE, BAND or RAW stream or ring of a port. -/
def State.headerPayload (s : State) (cls : Nat) (p : Port) (bandSet : Nat) : List Byte :=
  let band := cls = clsBand
  let raw := cls = clsRaw
  leBytes 2 1 ++ leBytes 1 cls ++ leBytes 1 p.val ++ leBytes 1 (s.fld Fld.gaugeCfg_gaugeLen p.val)
    ++ leBytes 1 (s.fld Fld.gaugeCfg_pitch p.val) ++ leBytes 1 (s.slotMask p)
    ++ leBytes 1 (match s.groupOf p with | some g => g.val | none => 0xFF)
    ++ leBytes 4 (s.gauges p) ++ leBytes 4 (s.frame p) ++ leBytes 8 ((s.grid p).epoch.getD 0)
    ++ leBytes 4 (s.gridPs p) ++ leBytes 2 (s.blockGauges p) ++ leBytes 2 (s.blockSamples p)
    ++ leBytes 4 (s.seedWavelength p) ++ leBytes 4 (s.fld Fld.seqPort_groupIndex p.val)
    ++ leBytes 2 (s.fld Fld.gaugeCfg_xi p.val) ++ leBytes 2 (s.fld Fld.gaugeCfg_kt p.val)
    ++ leBytes 4 (s.strainUnit p) ++ leBytes 1 (if band then bandSet else 0)
    ++ leBytes 1 (if band then s.fld Fld.bandSet_bands bandSet else 0)
    ++ leBytes 1 (if raw then s.fld Fld.rxCfg_align p.val else 0)
    ++ leBytes 1 (if raw then s.fld Fld.rxCfg_rawTag p.val else 0) ++ zeros 12

/-- Put a data record into a PHASE, BAND or RAW stream, after its HEADER where one is due. A record larger than quota and share is
never queued (R276), and no HEADER for it (R267). -/
def State.pushData (s : State) (i typ flags : Nat) (payload : List Byte) : State :=
  let p : Port := ⟨s.streamSource i % 8, by omega⟩
  let fits := decide (16 + payload.length ≤ s.streamWhole i)
  let s1 :=
    if (s.stream i).headerDue && fits then
      let h := s.headerPayload (s.streamClass i) p (s.fld Fld.stream_bandSet i)
      (s.pushStream i typHeader 0 h).setStream i (fun x => { x with headerDue := false, lastHeader := some h })
    else s
  s1.pushStream i typ flags payload

/-- A record type that the codec codes (R271). -/
def codedType (typ : Nat) : Bool := typ = typPhase || typ = typBand || typ = typRaw

/-- A mark enters a stream; MK_START and MK_SCHEDULE bring a HEADER with them (R267). -/
def State.placeMark (s : State) (i typ : Nat) (payload : List Byte) : State :=
  let s1 := s.pushStream i typ 0 payload
  if typ = mkStart ∨ typ = mkSchedule then s1.setStream i (fun x => { x with headerDue := true }) else s1

/-- Data of a stream wait for the codec. -/
def State.codecHolds (s : State) (i : Nat) : Bool := s.sumac.streamJobs.any (fun j => j.1 == i && !j.2.2.2.2)

/-- A mark follows the records that a stream has taken before it, those that the codec still codes among them, and keeps its place
in the release order (R210, R274). -/
def State.pushMark (s : State) (i typ : Nat) (payload : List Byte) : State :=
  if s.codecHolds i then
    { s with sumac := { s.sumac with
        streamJobs := s.sumac.streamJobs ++ [(i, ⟨typ, s.sourceByte i, 0, 0, i, payload⟩, 0, 0, false)] } }
  else s.placeMark i typ payload

/-- The first entry of a stream leaves what waits for the codec. -/
def State.dropJob (s : State) (i : Nat) : State :=
  let jobs : List (Nat × Rec × Nat × Nat × Bool) := s.sumac.streamJobs
  { s with sumac := { s.sumac with
      streamJobs := jobs.takeWhile (fun j => j.1 ≠ i) ++ (jobs.dropWhile (fun j => j.1 ≠ i)).drop 1 } }

/-- Marks of a stream at the front of what waits for the codec enter the stream. -/
def State.marksPass (i : Nat) : Nat → State → State
  | 0, s => s
  | fuel + 1, s =>
    match s.sumac.streamJobs.find? (fun j => j.1 = i) with
    | some (_, r, _, _, _) =>
      if codedType r.typ then s
      else
        State.marksPass i fuel ((s.dropJob i).placeMark i r.typ r.payload)
    | none => s

/-! ## Rings (R282 to R284) -/

def ringIx : RingKind → Fin 3
  | .raw => 0
  | .phase => 1
  | .band => 2

/-- Stream class of a ring's records. -/
def ringClass : RingKind → Nat
  | .raw => clsRaw
  | .phase => clsPhase
  | .band => clsBand

/-- ARG_A of MK_OVERFLOW (R273). -/
def ringCode : RingKind → Nat
  | .raw => 1
  | .phase => 2
  | .band => 3

def allRings : List RingKind := [.raw, .phase, .band]

/-- Segments of 1 MiB of a ring (R282). -/
def State.ringMib (s : State) (p : Port) : RingKind → Nat
  | .raw => s.fld Fld.ring_rawMib p.val
  | .phase => s.fld Fld.ring_phaseMib p.val
  | .band => s.fld Fld.ring_bandMib p.val

def State.ring (s : State) (p : Port) (k : RingKind) : RingSt := s.capture.rings[p][ringIx k]

def State.setRing (s : State) (p : Port) (k : RingKind) (f : RingSt → RingSt) : State :=
  s.setCapture (fun c => { c with rings := vmod c.rings p (fun v => vmod v (ringIx k) f) })

/-- Segments of a ring that snapshots pin (R287). -/
def State.pinned (s : State) (p : Port) (k : RingKind) : List Nat :=
  s.capture.snapshots.flatMap (fun n => (n.parts.filter (fun q => q.port = p ∧ q.kind = k)).flatMap (·.segs))

/-- How many segments of a ring are pinned, one that several snapshots share counting once. -/
def State.pinnedCount (s : State) (p : Port) (k : RingKind) : Nat := (s.pinned p k).eraseDups.length

/-- The next unpinned segment in address order after `seg`, in a ring of `n` segments. -/
def nextSegment (pins : List Nat) (n : Nat) : Nat → Nat → Option Nat
  | 0, _ => none
  | fuel + 1, seg =>
    let x := (seg + 1) % max 1 n
    if pins.contains x then nextSegment pins n fuel x else some x

/-- Bytes of a segment. -/
def segBytes : Nat := 1048576

/-- Begin of the contiguous history of a ring's records once those in segment x are overwritten: that of the oldest record after
the last one overwritten (R283, R287). -/
def historyAfter (x : Nat) (recs : List RingRec) : Option Nat :=
  ((recs.reverse.takeWhile (fun q => q.firstSeg ≠ x ∧ q.lastSeg ≠ x)).getLast?).map (·.tFirst)

/-- Write a record into a ring that runs; none where the ring finds no unpinned segment (R283, R284). -/
def ringWrite (r : RingSt) (pins : List Nat) (n typ : Nat) (src : Nat) (payload : List Byte) (t0 t1 : Nat) :
    Option RingSt :=
  let record : Rec := ⟨typ, src, 0, r.seq, 0, payload⟩
  let len := recBytes record
  if r.used + len ≤ segBytes then
    some { r with seq := (r.seq + 1) % 4294967296, used := r.used + len,
                  recs := r.recs ++ [⟨record, r.seg, r.seg, t0, t1⟩], since := some (r.since.getD t0) }
  else
    match nextSegment pins n n r.seg with
    | none => none
    | some x =>
      let kept := r.recs.filter (fun q => q.firstSeg ≠ x ∧ q.lastSeg ≠ x)
      some { r with seq := (r.seq + 1) % 4294967296, seg := x, used := r.used + len - segBytes,
                    recs := kept ++ [⟨record, r.seg, x, t0, t1⟩],
                    since := match historyAfter x r.recs with
                      | some t => some (max (r.since.getD 0) t)
                      | none => some t0 }

/-- A ring stops: MK_OVERFLOW goes into its port's streams of that class (R284). -/
def State.ringStop (s : State) (p : Port) (k : RingKind) : State :=
  let m := plainMark mkOverflow (-1) 1 (ringCode k) (s.pinnedCount p k)
  let s1 := (s.setRing p k (fun r => { r with mode := .stopped, since := none })).count Ctr.captureStats_overflows 0 1
  (s1.streamsOf (ringClass k) p.val).foldl (fun t i => t.pushMark i mkOverflow (markPayload t.tb m)) s1

/-- End of the post-trigger span of a snapshot, ns. -/
def snapEnd (n : Snapshot) : Nat := n.tTrig + n.postReqMs * msNs

/-- The column whose place a record fills: of a data record, or of an MK_GAP in a block's place; RAW has one. -/
def State.recColumn (s : State) (p : Port) (r : Rec) : Option Nat :=
  if r.typ = typRaw then some 0
  else if r.typ = typPhase ∨ r.typ = typBand then some (u16At r.payload 0)
  else if r.typ = mkGap then some (u32At r.payload 0x18 / max 1 (s.blockGauges p))
  else none

/-- Columns of a ring's records. -/
def State.ringColumns (s : State) (p : Port) : RingKind → Nat
  | .raw => 1
  | .phase | .band => s.columns p

/-- A column has written up to a time, at most `stop`. -/
def endsNote (col : Option Nat) (t stop : Nat) (ends : List Nat) : List Nat :=
  match col with
  | some c => ends.zipIdx.map (fun e => if e.2 = c then max e.1 (min t stop) else e.1)
  | none => ends

/-- What a record written into segments a to b of a ring means for an open snapshot: its segments are pinned while it begins by
T_trig + POST_MS, and once every column has written up to that time the ring's part ends (R287, R290). -/
def snapNote (p : Port) (k : RingKind) (a b t0 t1 : Nat) (col : Option Nat) (n : Snapshot) : Snapshot :=
  if n.published then n
  else
    { n with parts := n.parts.map (fun q =>
        if q.port = p ∧ q.kind = k ∧ !q.done then
          let ends := endsNote col t1 (snapEnd n) q.ends
          let one := if t0 ≤ snapEnd n ∧ !q.segs.contains a then q.segs ++ [a] else q.segs
          { q with segs := if t0 ≤ snapEnd n ∧ !one.contains b then one ++ [b] else one,
                   done := col.isSome && ends.all (fun e => snapEnd n ≤ e), ends := ends }
        else q) }

/-- The open parts of a ring's snapshots end where the ring ends (R290). -/
def snapCut (p : Port) (k : RingKind) (n : Snapshot) : Snapshot :=
  if n.published then n
  else
    { n with truncated := n.truncated || n.parts.any (fun q => q.port = p && q.kind = k && !q.done),
             parts := n.parts.map (fun q => if q.port = p ∧ q.kind = k then { q with done := true } else q) }

/-- End the open parts of a ring early. -/
def State.cutParts (s : State) (p : Port) (k : RingKind) : State :=
  s.setCapture (fun c => { c with snapshots := c.snapshots.map (fun n => snapCut p k n) })

/-- Put a record into a ring, if it runs. -/
def State.pushRing (s : State) (p : Port) (k : RingKind) (typ : Nat) (payload : List Byte) (t0 t1 : Nat) : State :=
  let r := s.ring p k
  if r.mode = .running then
    match ringWrite r (s.pinned p k) (s.ringMib p k) typ p.val payload t0 t1 with
    | some r' =>
      (s.setRing p k (fun _ => r')).setCapture (fun c =>
        { c with snapshots := c.snapshots.map (fun n =>
            snapNote p k r.seg r'.seg t0 t1 (s.recColumn p ⟨typ, p.val, 0, 0, 0, payload⟩) n) })
    | none => (s.ringStop p k).cutParts p k
  else s

/-- Put a data record into a ring, after its HEADER where one is due (R267). -/
def State.pushRingData (s : State) (p : Port) (k : RingKind) (typ : Nat) (payload : List Byte) (t0 t1 : Nat) : State :=
  let s1 :=
    if (s.ring p k).headerDue ∧ (s.ring p k).mode = .running then
      (s.pushRing p k typHeader (s.headerPayload (ringClass k) p (s.fld Fld.ring_bandSet p.val)) t0 t0).setRing p k
        (fun r => { r with headerDue := false })
    else s
  s1.pushRing p k typ payload t0 t1

/-- A stopped ring restarts in a released segment (R284). -/
def State.ringResume (s : State) (p : Port) (k : RingKind) : State :=
  if (s.ring p k).mode = .stopped then
    match nextSegment (s.pinned p k) (s.ringMib p k) (s.ringMib p k) (s.ring p k).seg with
    | none => s
    | some x =>
      let m := plainMark mkOverflow (-1) 2 (ringCode k) (s.pinnedCount p k)
      let s1 := s.setRing p k (fun r =>
        { r with mode := .running, seg := x, used := 0, recs := r.recs.filter (fun q => q.firstSeg ≠ x ∧ q.lastSeg ≠ x),
                 since := none })
      let s2 := s1.pushRing p k mkOverflow (markPayload s1.tb m) s1.tb s1.tb
      (s2.streamsOf (ringClass k) p.val).foldl (fun t i => t.pushMark i mkOverflow (markPayload t.tb m)) s2
  else s

/-! ## Marks (R272 to R274) -/

/-- A mark into the streams of some classes of a port. (DEDUCED, log 100) -/
def State.markStreams (s : State) (p : Port) (classes : List Nat) (m : Mark) : State :=
  (classes.flatMap (fun c => s.streamsOf c p.val)).foldl
    (fun t i => t.pushMark i m.typ (markPayload t.tb m)) s

/-- A mark into the rings of a port. -/
def State.markRings (s : State) (p : Port) (kinds : List RingKind) (m : Mark) : State :=
  kinds.foldl (fun t k => t.pushRing p k m.typ (markPayload t.tb m) t.tb t.tb) s

/-- A HEADER falls due in the rings of a port (R267). -/
def State.headerDueRings (s : State) (p : Port) : State :=
  allRings.foldl (fun t k => t.setRing p k (fun r => { r with headerDue := true })) s

/-- MK_START into all streams and rings of a port: cause 1 ENABLED, 2 JOINED, 3 MASK_REARM (R273); a HEADER follows it. -/
def State.markStart (s : State) (p : Port) (cause : Nat) : State :=
  let m := plainMark mkStart 0 cause 0 0
  ((s.markStreams p [clsPhase, clsBand, clsRaw, clsTemp] m).markRings p allRings m).headerDueRings p

/-- MK_STOP into all streams and rings of a port: cause 1 STOPPED, 2 SHUT, 3 HALTED, 4 LEFT_GROUP. -/
def State.markStop (s : State) (p : Port) (cause : Nat) : State :=
  let m : Mark := ⟨mkStop, (s.port p).seq.gridPos, 0, 0xFFFF, cause, if cause = 3 then 8 else 0, 0, 0⟩
  (s.markStreams p [clsPhase, clsBand, clsRaw, clsTemp] m).markRings p allRings m

/-- A HEADER falls due in the streams and rings of a port: a write of XI, KT or GROUP_INDEX (R267). -/
def State.headerDueAll (s : State) (p : Port) : State :=
  (([clsPhase, clsBand, clsRaw].flatMap (fun c => s.streamsOf c p.val)).foldl
    (fun t i => t.setStream i (fun x => { x with headerDue := true })) s).headerDueRings p

/-- MK_SCHEDULE at the empty cycle of R119. -/
def State.markSchedule (s : State) (p : Port) : State :=
  let m := plainMark mkSchedule (s.port p).seq.gridPos 0 (s.slotMask p) (s.frame p)
  ((s.markStreams p [clsPhase, clsBand, clsRaw] m).markRings p allRings m).headerDueRings p

/-- The rings of a port run from its start (R282, R283): enabled ones that are off begin empty. -/
def State.ringsStart (s : State) (p : Port) : State :=
  allRings.foldl (fun t k =>
    if t.ringMib p k = 0 then t.setRing p k (fun _ => RingSt.reset)
    else if (t.ring p k).mode = .off ∧ t.capture.mem.trained then
      t.setRing p k (fun r => { r with mode := .running, headerDue := true, since := none })
    else t) s

/-- The rings of a port stop taking records at its stop; what they hold stays (R283). -/
def State.ringsStop (s : State) (p : Port) : State :=
  allRings.foldl (fun t k =>
    if (t.ring p k).mode = .running then (t.setRing p k (fun r => { r with mode := .off })).cutParts p k
    else t) s

end Sys2Proof.Machine
end

