-- ==== Sys2Proof/Machine/Capture.lean ====
section
/-! DEFINITION. Snapshots: triggers, speculative snapshots, publication, release (R285 to R291). -/

namespace Sys2Proof.Machine

def State.group (s : State) (g : GroupId) : GroupSt := s.detect.groups[g]
def State.setGroup (s : State) (g : GroupId) (f : GroupSt → GroupSt) : State :=
  s.setDetect (fun d => { d with groups := vmod d.groups g f })

/-- A group enters ARMED, and its timer of auto mode starts (R286, R288). -/
def GroupSt.arm (now : Nat) (x : GroupSt) : GroupSt :=
  { x with snapMode := .armed, since := now, armedAt := now, autoDone := false }

/-- The 64 groups in ascending order. -/
def allGroups : List GroupId := (List.range 64).filterMap (fun i => if h : i < 64 then some ⟨i, h⟩ else none)

/-! ## Ring rates (R281, R285) -/

/-- Gauges of column j of a port. -/
def State.columnGauges (s : State) (p : Port) (j : Nat) : Nat :=
  min (s.blockGauges p) (s.gauges p - j * s.blockGauges p)

/-- Round up to a multiple of 4. -/
def up4 (n : Nat) : Nat := (n + 3) / 4 * 4

/-- Bytes a ring takes in each span of BLOCK_SAMPLES grid positions; for RAW in each 32,768 ns (R268, R269). -/
def State.ringSpanBytes (s : State) (p : Port) : RingKind → Nat
  | .raw => 131120
  | .phase =>
    ((List.range (s.columns p)).map (fun j =>
      let n := s.columnGauges p j * s.blockSamples p
      48 + 2 * n + up4 n)).foldl (· + ·) 0
  | .band =>
    ((List.range (s.columns p)).map (fun j =>
      48 + up4 (2 * s.columnGauges p j * s.fld Fld.bandSet_bands (s.fld Fld.ring_bandSet p.val)))).foldl (· + ·) 0

/-- The span of those bytes, in ps. -/
def State.ringSpanPs (s : State) (p : Port) : RingKind → Nat
  | .raw => 32768000
  | .phase | .band => s.blockSamples p * s.frame p * 10000 / max 1 (slotCount (s.slotMask p))

/-- Bytes a ring writes in a number of ms, rounded up. -/
def State.ringBytesIn (s : State) (p : Port) (k : RingKind) (ms : Nat) : Nat :=
  ceilDiv (ms * 1000000000 * s.ringSpanBytes p k) (max 1 (s.ringSpanPs p k))

/-- Time in µs in which a ring writes a number of bytes. -/
def State.ringUsOf (s : State) (p : Port) (k : RingKind) (bytes : Nat) : Nat :=
  bytes * s.ringSpanPs p k / (1000000 * max 1 (s.ringSpanBytes p k))

/-! ## Opening -/

/-- The ports and kinds a group's snapshots take (R285, R287). -/
def State.snapRings (s : State) (g : GroupId) : List (Port × RingKind) :=
  let content := s.fld Fld.snapCfg_content g.val
  let ports := s.fld Fld.snapCfg_ports g.val
  (allPorts.filter (fun p => ports.testBit p.val)).flatMap (fun p =>
    (allRings.filter (fun k => content.testBit (ringIx k).val)).map (fun k => (p, k)))

/-- PRE_VALID of one ring, µs (R287). -/
def State.preValid (s : State) (p : Port) (k : RingKind) (tTrig preMs postMs : Nat) : Nat :=
  let r := s.ring p k
  let hist := match r.since with
    | some t => (tTrig - t) / 1000
    | none => 0
  let free := s.ringMib p k - s.pinnedCount p k
  let room := s.ringUsOf p k ((free - 2) * segBytes - s.ringBytesIn p k postMs)
  min (preMs * 1000) (min hist room)

/-- Segments of a ring that hold records of a span of time. -/
def segsOf (r : RingSt) (t0 t1 : Nat) : List Nat :=
  ((r.recs.filter (fun q => t0 ≤ q.tLast ∧ q.tFirst ≤ t1)).flatMap (fun q => [q.firstSeg, q.lastSeg])).eraseDups

/-- The part that a ring gives a snapshot of the span from t0 by way of tTrig to t1: the segments that hold records of it, the time
up to which each column has data, and whether the ring has written up to t1 or writes no more (R287, R290). -/
def State.snapPart (s : State) (p : Port) (k : RingKind) (t0 tTrig t1 : Nat) : SnapPart :=
  let r := s.ring p k
  let ends := r.recs.foldl (fun es q => endsNote (s.recColumn p q.record) q.tLast t1 es)
    (List.replicate (s.ringColumns p k) tTrig)
  { port := p, kind := k, segs := segsOf r t0 t1, done := decide (r.mode ≠ .running) || ends.all (fun e => t1 ≤ e), ends := ends }

/-- A group's snapshot opens with the given trigger time; its state becomes CAPTURING (R287). (DEDUCED, log 185) -/
def State.openSnap (s : State) (g : GroupId) (tTrig eventId location : Nat) (zone : Option (Fin 4096))
    (forced spec : Bool) (pos : Int) : State :=
  let pre := s.fld Fld.snapCfg_preMs g.val
  let post := s.fld Fld.snapCfg_postMs g.val
  let rings := s.snapRings g
  let frozen := rings.any (fun x => (s.ring x.1 x.2).mode = .frozen)
  let valid := (rings.map (fun x =>
    if (s.ring x.1 x.2).mode = .frozen then 0 else s.preValid x.1 x.2 tTrig pre post)).foldl min (pre * 1000)
  let parts := rings.map (fun x =>
    if (s.ring x.1 x.2).mode = .frozen then { port := x.1, kind := x.2, segs := [], done := true, ends := [] : SnapPart }
    else s.snapPart x.1 x.2 (tTrig - valid * 1000) tTrig (tTrig + post * msNs))
  let n : Snapshot :=
    { id := s.capture.nextSnap, group := some g, content := BitVec.ofNat 3 (s.fld Fld.snapCfg_content g.val),
      ports := BitVec.ofNat 8 (s.fld Fld.snapCfg_ports g.val), forced := forced, spec := spec,
      early := valid < pre * 1000, truncated := rings.any (fun x => (s.ring x.1 x.2).mode = .stopped || (s.ring x.1 x.2).mode = .off), frozen := frozen, mask := false,
      eventId := eventId, location := location, tTrig := tTrig, preReqMs := pre, preValidUs := valid,
      postReqMs := post, postValidUs := 0, zone := zone, parts := parts, trigPos := pos,
      unconfirmed := spec, published := false }
  (s.setCapture (fun c =>
    { c with snapshots := c.snapshots ++ [n],
             nextSnap := if c.nextSnap = 4294967295 then 1 else c.nextSnap + 1 })).setGroup g
    (fun x => { x with snapMode := .capturing, since := s.clk })

/-- MK_TRIGGER into the streams and rings of the group's PORTS and its SUMMARY stream (R273). -/
def State.markTrigger (s : State) (g : GroupId) (pos : Int) (id cause flags eventId location : Nat) : State :=
  let m : Mark := ⟨mkTrigger, pos, id, g.val, cause, flags, eventId, location⟩
  let ports := allPorts.filter (fun p => (s.fld Fld.snapCfg_ports g.val).testBit p.val)
  let s1 := forPorts ports (fun p t => (t.markStreams p [clsPhase, clsBand, clsRaw] m).markRings p allRings m) s
  (s1.streamsOf clsSummary g.val).foldl (fun t i => t.pushMark i mkTrigger (markPayload t.tb m)) s1

/-- A snapshot opens and writes MK_TRIGGER with cause TAKEN, or finds no memory or a full directory (R280, R287). -/
def State.takeSnap (s : State) (g : GroupId) (tTrig eventId location : Nat) (pos : Int) (zone : Option (Fin 4096))
    (forced : Bool) : State :=
  let f := bitNat forced
  if !s.capture.mem.trained then
    (s.markTrigger g pos 0 4 f eventId location).count Ctr.captureStats_snapLost 0 1
  else if 1024 ≤ s.capture.snapshots.length then
    (s.markTrigger g pos 0 3 f eventId location).count Ctr.captureStats_snapLost 0 1
  else
    let id := s.capture.nextSnap
    let s1 := s.markTrigger g pos id 0 f eventId location
    (s1.openSnap g tTrig eventId location zone forced false pos).countIf Ctr.captureStats_forced 0 forced

/-- The open snapshot of a group. -/
def State.openOf (s : State) (g : GroupId) : Option Snapshot :=
  s.capture.snapshots.find? (fun n => n.group = some g ∧ !n.published)

def State.setSnap (s : State) (id : Nat) (f : Snapshot → Snapshot) : State :=
  s.setCapture (fun c => { c with snapshots := c.snapshots.map (fun n => if n.id = id then f n else n) })

/-- Free a snapshot: its segments are released, and stopped rings restart (R284, R291). -/
def State.freeSnap (s : State) (id : Nat) : State :=
  let parts := match s.capture.snapshots.find? (fun n => n.id = id) with
    | some n => n.parts
    | none => []
  let s1 := s.setCapture (fun c =>
    { c with snapshots := c.snapshots.filter (fun n => n.id ≠ id),
             masks := c.masks.map (fun m => if m.snapId = some id then { m with snapId := none } else m) })
  parts.foldl (fun t q => t.ringResume q.port q.kind) s1

/-- The end of the timer of auto mode (R288). -/
def State.autoEnd (s : State) (g : GroupId) : Nat := (s.group g).armedAt + s.fld Fld.snapCfg_autoTimeout g.val * secNs

/-- An unpublished snapshot is discarded: no mark, SPEC_DISCARDED counts, the group is ARMED (R286, R289). The timer of auto mode
has gone on; if it has reached AUTO_TIMEOUT meanwhile, the group was not ARMED then (R288; DEDUCED, log 205). -/
def State.discardSnap (s : State) (g : GroupId) (id : Nat) : State :=
  ((s.freeSnap id).setGroup g (fun x =>
    { x with snapMode := .armed, since := s.clk, autoDone := x.autoDone || decide (s.autoEnd g < s.clk) })).count
    Ctr.detectStats_specDiscarded 0 1

/-- A PROVISIONAL of a member zone: with SNAP_SPEC set and the group ARMED an unpublished snapshot opens (R254, R289). -/
def State.snapProvisional (s : State) (g : GroupId) (tSample eventId location : Nat) (pos : Int) (zone : Fin 4096) : State :=
  if s.flag Fld.group_snapSpec g.val && (s.group g).snapMode = .armed && s.capture.mem.trained
      && s.capture.snapshots.length < 1024 then
    s.openSnap g tSample eventId location (some zone) false true pos
  else s

/-- A RETRACT: the speculative snapshot of the event is discarded (R289). -/
def State.snapRetract (s : State) (g : GroupId) (eventId : Nat) : State :=
  match s.openOf g with
  | some n => if n.unconfirmed ∧ n.eventId = eventId then s.discardSnap g n.id else s
  | none => s

/-- A trigger that opens nothing (R287); under HOLDOFF_MODE COUNT it counts towards the end of hold-off (R286). -/
def State.suppressTrigger (s : State) (g : GroupId) (cause eventId location : Nat) (pos : Int) : State :=
  let s1 := (s.markTrigger g pos 0 cause 2 eventId location).count Ctr.captureStats_suppressed 0 1
  if cause = 2 ∧ s.fld Fld.snapCfg_holdoffMode g.val = 2 then
    let n := (s.group g).suppressedCount + 1
    s1.setGroup g (fun x =>
      if s.fld Fld.snapCfg_holdoff g.val ≤ n then { x.arm s.clk with suppressedCount := 0 }
      else { x with suppressedCount := n })
  else s1

/-- PRE_VALID in µs of a snapshot that another event takes over: from where its data begins to the new trigger time, at most
PRE_MS (R289). -/
def takenOver (x : Snapshot) (tSample : Nat) : Nat := min (x.preReqMs * 1000) ((x.preValidUs * 1000 + tSample - x.tTrig) / 1000)

/-- A snapshot that another event takes over: its trigger time, and its parts for the span from there, without the data older than
PRE_MS before it (R289). -/
def State.retime (s : State) (x : Snapshot) (tSample eventId location : Nat) (pos : Int) (zone : Fin 4096) : Snapshot :=
  let pre := takenOver x tSample
  { x with spec := false, eventId := eventId, location := location, zone := some zone, tTrig := tSample, trigPos := pos,
           unconfirmed := false, preValidUs := pre, early := pre < x.preReqMs * 1000,
           parts := x.parts.map (fun q =>
             if (s.ring q.port q.kind).mode = .frozen then q
             else s.snapPart q.port q.kind (tSample - pre * 1000) tSample (tSample + x.postReqMs * msNs)) }

/-- A CONFIRM of a member zone is a trigger (R286, R287, R289). The mark of the snapshot that its own PROVISIONAL opened stands at
the provisional sample, and only now can that snapshot be published. -/
def State.confirmTrigger (s : State) (g : GroupId) (tSample eventId location : Nat) (pos : Int) (zone : Fin 4096) : State :=
  match (s.group g).snapMode with
  | .armed => s.takeSnap g tSample eventId location pos (some zone) false
  | .holdoff => s.suppressTrigger g 2 eventId location pos
  | .capturing =>
    match s.openOf g with
    | some n =>
      if n.unconfirmed ∧ n.eventId = eventId then
        (s.markTrigger g n.trigPos n.id 0 4 eventId location).setSnap n.id (fun x =>
          { x with location := location, unconfirmed := false })
      else if n.unconfirmed then
        let s1 := (s.markTrigger g pos n.id 0 0 eventId location).setSnap n.id (fun x =>
          s.retime x tSample eventId location pos zone)
        n.parts.foldl (fun t q => t.ringResume q.port q.kind) s1
      else s.suppressTrigger g 1 eventId location pos
    | none => s.suppressTrigger g 1 eventId location pos

/-- A CONFIRM of a member zone while snapshots are on. The first of a group in one evaluation is its trigger, and later ones of the
same T_SAMPLE count with it (R287; the zones of one evaluation come in ascending order: DEDUCED, log 182). -/
def State.snapConfirm (s : State) (g : GroupId) (tSample eventId location : Nat) (pos : Int) (zone : Fin 4096) : State :=
  if !(s.flag Fld.group_snap g.val || s.flag Fld.group_snapSpec g.val) || (s.group g).trigAt == some tSample then s
  else
    (s.setGroup g (fun x => { x with trigAt := some tSample })).confirmTrigger g tSample eventId location pos zone

/-! ## Publication (R290) -/

/-- Every ring part has ended, and no CONFIRM is waited for (R254). -/
def snapReady (n : Snapshot) : Bool := !n.published && !n.unconfirmed && n.parts.all (fun q => q.done)

/-- Post-trigger span kept, µs: the least over the rings. -/
def snapPost (n : Snapshot) : Nat :=
  (n.parts.flatMap (fun q => q.ends.map (fun e => (e - n.tTrig) / 1000))).foldl min (n.postReqMs * 1000)

/-- A snapshot is published: EV_SNAPSHOT_READY, and its group goes to HOLDOFF or ARMED (R286, R290). -/
def State.publish (s : State) (n : Snapshot) : State :=
  let s1 := s.setSnap n.id (fun x =>
    { x with published := true, postValidUs := if x.frozen then 0 else snapPost x,
             preValidUs := if x.frozen then 0 else x.preValidUs })
  let s2 := (s1.event evSnapshotReady (match n.group with | some g => g.val | none => noUnit) noUnit
    [n.id, match n.group with | some g => g.val | none => 0xFF]).count Ctr.captureStats_snapshots 0 1
  let s3 := s2.countIf Ctr.captureStats_truncated 0 n.truncated
  match n.group with
  | none => s3
  | some g =>
    s3.setGroup g (fun x =>
      if s.fld Fld.snapCfg_holdoffMode g.val = 0 then { x.arm s.clk with suppressedCount := 0 }
      else { x with snapMode := .holdoff, since := s.clk, suppressedCount := 0 })

/-- A mask snapshot of everything the frozen rings of a port hold (R294). (DEDUCED, log 99) -/
def State.maskSnap (s : State) (p : Port) (tTrig : Nat) : State :=
  let kinds := allRings.filter (fun k => s.ringMib p k ≠ 0)
  let parts := kinds.map (fun k =>
    { port := p, kind := k, segs := ((s.ring p k).recs.flatMap (fun r => [r.firstSeg, r.lastSeg])).eraseDups,
      done := true, ends := [tTrig] : SnapPart })
  let n : Snapshot :=
    { id := s.capture.nextSnap, group := none,
      content := BitVec.ofNat 3 ((kinds.map (fun k => 2 ^ (ringIx k).val)).foldl (· + ·) 0),
      ports := BitVec.ofNat 8 (2 ^ p.val), forced := false, spec := false, early := false, truncated := false,
      frozen := false, mask := true, eventId := 0, location := 0, tTrig := tTrig, preReqMs := 0, preValidUs := 0,
      postReqMs := 0, postValidUs := 0, zone := none, parts := parts, trigPos := -1,
      unconfirmed := false, published := true }
  ((s.setCapture (fun c =>
    { c with snapshots := c.snapshots ++ [n], nextSnap := if c.nextSnap = 4294967295 then 1 else c.nextSnap + 1,
             masks := vmod c.masks p (fun m => { m with snapId := some n.id }) })).event evSnapshotReady noUnit noUnit
    [n.id, 0xFF]).count Ctr.captureStats_snapshots 0 1

/-! ## Readout (R291) -/

/-- The records of a snapshot, port by port, RAW, PHASE, BAND, in ring order. -/
def State.snapRecords (s : State) (n : Snapshot) : List Rec :=
  n.parts.flatMap (fun q =>
    ((s.ring q.port q.kind).recs.filter (fun r =>
      q.segs.contains r.firstSeg && (n.mask || (n.tTrig - n.preValidUs * 1000 ≤ r.tLast && r.tFirst ≤ snapEnd n)))).map
      (·.record))

def snapFlags (n : Snapshot) : Nat :=
  bitNat n.forced + 2 * bitNat n.spec + 4 * bitNat n.early + 8 * bitNat n.truncated + 16 * bitNat n.frozen
    + 32 * bitNat n.mask

/-- SNAP_HEADER payload (R291). -/
def snapHeader (n : Snapshot) (bytes : Nat) : List Byte :=
  leBytes 4 n.id ++ leBytes 1 (match n.group with | some g => g.val | none => 0xFF) ++ leBytes 1 n.content.toNat
    ++ leBytes 1 n.ports.toNat ++ leBytes 1 (snapFlags n) ++ leBytes 4 (if n.forced || n.mask then 0 else n.eventId)
    ++ leBytes 4 (if n.forced then 0 else n.location) ++ leBytes 8 n.tTrig ++ leBytes 4 (n.preReqMs * 1000)
    ++ leBytes 4 n.preValidUs ++ leBytes 4 (n.postReqMs * 1000) ++ leBytes 4 n.postValidUs ++ leBytes 8 bytes
    ++ leBytes 2 (match n.zone with | some z => z.val | none => 0xFFFF) ++ zeros 14

end Sys2Proof.Machine
end

