-- ==== Sys2Proof/Machine/Outputs.lean ====
section
/-! DEFINITION. Loop outputs LOOP0 to LOOP7 and alarm outputs ALM0 to ALM7 (R403 to R410). -/

namespace Sys2Proof.Machine

/-- The eight outputs of a kind. -/
def allOutputs : List (Fin 8) := [0, 1, 2, 3, 4, 5, 6, 7]

def State.loop (s : State) (n : Fin 8) : LoopSt := s.house.loops[n]
def State.setLoop (s : State) (n : Fin 8) (f : LoopSt → LoopSt) : State :=
  s.setHouse (fun h => { h with loops := vmod h.loops n f })
def State.alarm (s : State) (n : Fin 8) : AlarmSt := s.house.alarms[n]
def State.setAlarm (s : State) (n : Fin 8) (f : AlarmSt → AlarmSt) : State :=
  s.setHouse (fun h => { h with alarms := vmod h.alarms n f })

/-- The group that drives a loop output, and the one that drives an alarm output (R258). -/
def State.loopGroup (s : State) (n : Fin 8) : Option GroupId :=
  allGroups.find? (fun g => s.flag Fld.group_loopEn g.val && s.fld Fld.group_loop g.val = n.val)
def State.alarmGroup (s : State) (n : Fin 8) : Option GroupId :=
  allGroups.find? (fun g => s.flag Fld.group_alarmEn g.val && s.fld Fld.group_alarm g.val = n.val)

/-- RESET_N low or an internal reset, the clamp state, or a shutdown self-test and SHUT_DOWN (R406, R409, R447, R449). -/
def State.outputsClamped (s : State) : Bool :=
  !(s.start.holds = [] : Bool) || s.power.isolated || s.life.shutDown
    || (match s.life.test with
        | .shutdown _ => true
        | .none | .block .. => false)

/-! ## Loops -/

/-- The command of R404 for a group's value, µA. -/
def State.loopCommand (s : State) (g : GroupId) (v : Int) : Int :=
  let lo := s.sfld Fld.group_lo g.val
  let span := (s.sfld Fld.group_hi g.val - lo).toNat
  if span = 0 then 3800 else clampInt 3800 20500 (divHalfUp (4000 * span + 16000 * (v - lo)) span)

/-- The condition of a device fault of a loop (R406 row 4). -/
def State.loopDeviceFault (s : State) (n : Fin 8) : Bool :=
  (s.loopGroup n).isNone || s.detect.off || s.fatal

/-- A calibration step holds a loop (R405, R422). -/
def State.loopHeld (s : State) (n : Fin 8) : Bool :=
  match s.cal.run with
  | some r => r.holdLoops.getLsbD n.val
  | none => false

/-- The value of the group that drives a loop; none where it carries STALE. -/
def State.loopValue (s : State) (n : Fin 8) : Option Int :=
  match s.loopGroup n with
  | some g => (s.group g).value.map (·.1)
  | none => none

/-- The loop is stale (R405): its group's value carries STALE or a calibration step holds it. -/
def State.loopStale (s : State) (n : Fin 8) : Bool :=
  s.loopHeld n || (s.loopGroup n).any (fun g => (s.group g).value.isNone)

/-- A loop is judged under R407: enabled, not held off by row 1, not forced below 3.600 mA. (DEDUCED, log 81) -/
def State.loopJudged (s : State) (n : Fin 8) : Bool :=
  s.flag Fld.loopCfg_en n.val && !s.outputsClamped
  && !(s.flag Fld.loopCfg_forceEn n.val && s.fld Fld.loopCfg_forceUa n.val < 3600)

/-- The first of rows 3 to 7 of R406 that applies, given since when the loop has been stale. -/
def State.loopRowOn (s : State) (n : Fin 8) (stale : Option Nat) : Nat :=
  if s.flag Fld.loopCfg_forceEn n.val then 3
  else if s.loopDeviceFault n then 4
  else
    match stale with
    | some since => if 60 * secNs < s.clk - since then 5 else 6
    | none => 7

/-- The row of R406 in effect. -/
def State.loopRow (s : State) (n : Fin 8) (stale : Option Nat) : Nat :=
  if s.outputsClamped || !s.flag Fld.loopCfg_en n.val then 1
  else if (s.loop n).overCurrent then 2
  else s.loopRowOn n stale

/-- The command of a row, µA: nothing where the drive is off. -/
def State.loopOutput (s : State) (n : Fin 8) (row : Nat) : Nat :=
  if row = 3 then s.fld Fld.loopCfg_forceUa n.val
  else if row = 4 then (if s.flag Fld.loopCfg_faultDir n.val then 21000 else 3600)
  else if row = 5 then 3600
  else if row = 6 then ((s.loop n).lastCommand.getD 3600)
  else if row = 7 then
    match s.loopGroup n, s.loopValue n with
    | some g, some v => (s.loopCommand g v).toNat
    | some _, none | none, some _ | none, none => 3600
  else 0

def loopOpenCtr : Ctr := ⟨0x4D, 0, 16⟩

/-- Code of a cause in OUT_STATUS and in the events (R410). -/
def causeOpen : Nat := 1
def causeCompliance : Nat := 2
def causeOverCurrent : Nat := 3

/-- Clear a standing cause with EV_LOOP_CLEAR. -/
def State.loopClear (s : State) (n : Fin 8) (cause : Nat) : State :=
  let standing := if cause = causeOpen then (s.loop n).openC
    else if cause = causeCompliance then (s.loop n).compliance else (s.loop n).overCurrent
  if standing then
    (s.setLoop n (fun l =>
      if cause = causeOpen then { l with openC := false }
      else if cause = causeCompliance then { l with compliance := false }
      else { l with overCurrent := false })).event evLoopClear n.val noUnit [cause]
  else s

/-- A loop that is no longer judged drops every cause (R407). -/
def State.loopUnjudge (s : State) (n : Fin 8) : State :=
  if s.loopJudged n then s
  else ((s.loopClear n causeOpen).loopClear n causeCompliance).loopClear n causeOverCurrent

/-- A loop output takes its row of R406; a drive that is retried under R407 takes the command of the row below OVER_CURRENT.
(DEDUCED, log 81) -/
def State.loopEval (n : Fin 8) (s : State) : State :=
  let s1 := s.loopUnjudge n
  let l := s1.loop n
  let stale := if s1.loopStale n then some (l.staleSince.getD s1.clk) else none
  let row := s1.loopRow n stale
  let tried := decide (row = 2) && l.driveOn
  let ua := s1.loopOutput n (if tried then s1.loopRowOn n stale else row)
  let forgets := !s1.flag Fld.loopCfg_en n.val || s1.flag Fld.loopCfg_forceEn n.val
  let s2 := s1.setLoop n (fun x =>
    { x with row := row, staleSince := stale, commandUa := ua, driveOn := decide (3 ≤ row) || tried,
             lastCommand := if forgets then none else if row = 7 then some ua else x.lastCommand })
  if row = 5 ∧ l.row ≠ 5 then
    (s2.event evLoopStale n.val noUnit []).count Ctr.outStats_word3 n.val 1
  else s2

/-! ## Alarms -/

/-- An alarm device fault (R408). -/
def State.alarmDeviceFault (s : State) (n : Fin 8) : Bool :=
  (s.alarmGroup n).isNone || s.detect.off || s.fatal

/-- The conditions of R408 hold. -/
def State.alarmWanted (s : State) (n : Fin 8) (stale : Option Nat) : Bool :=
  (s.alarmGroup n).any (fun g => (s.group g).active)
  || (s.flag Fld.almCfg_faultActive n.val
      && (s.alarmDeviceFault n || stale.any (fun since => 60 * secNs < s.clk - since)))

/-- Instance of OUT_STATUS and OUT_STATS of an alarm output (R410, R411). (DEDUCED, log 80) -/
def alarmInst (n : Fin 8) : Nat := 8 + n.val

/-- The contact of an alarm output (R408, R409). -/
def State.alarmContact (s : State) (n : Fin 8) (active tripped : Bool) : Bool :=
  if s.outputsClamped || !s.flag Fld.almCfg_en n.val || tripped then false
  else if s.flag Fld.almCfg_forceEn n.val then s.flag Fld.almCfg_forceState n.val
  else active != s.flag Fld.almCfg_polarity n.val

/-- An alarm output takes its logical state and its contact. -/
def State.alarmEval (n : Fin 8) (s : State) : State :=
  let a := s.alarm n
  let stale := if (s.alarmGroup n).any (fun g => (s.group g).value.isNone) then some (a.staleSince.getD s.clk) else none
  let want := s.alarmWanted n stale
  let active := want || (a.active && s.clk - a.activeSince < s.fld Fld.almCfg_minActiveMs n.val * msNs)
  let s1 := s.setAlarm n (fun x =>
    { x with active := active, activeSince := if active && !a.active then s.clk else a.activeSince, staleSince := stale,
             conducting := s.alarmContact n active a.tripped })
  s1.countIf Ctr.outStats_word0 (alarmInst n) (active && !a.active)

/-- Every loop and alarm output follows a change of its inputs at once (R404, R406, R408). -/
def State.outputsEval (s : State) : State :=
  allOutputs.foldl (fun t n => State.alarmEval n t) (allOutputs.foldl (fun t n => State.loopEval n t) s)

/-! ## The commands of the outputs -/

/-- A loop's measured current and compliance voltage. -/
def State.loopMeasured (s : State) (n : Fin 8) (ua : Nat) : State := s.setLoop n (fun l => { l with measuredUa := ua })

/-- LOOP_TICK: the 1 ms boundary, with the currents that the regulators measure (R406, R410). -/
def loopTick (dt : Nat) (measured : Vector Nat 8) (s0 : State) : State :=
  let s := allOutputs.foldl (fun t n => t.loopMeasured n measured[n]) (s0.elapse dt)
  if s.tb % msNs = 0 then s.outputsEval else s

/-- The compliance voltage lies below 1.50 V, read through the divider of 1/21 at LOOPn_CMP (R403, R407). -/
def lowCompliance (x : LoopReading) : Bool := decide (21 * x.cmpUv < 1500000)

/-- The condition of a cause of R407. -/
def State.loopCondition (s : State) (n : Fin 8) (cause : Fin 3) (x : LoopReading) : Bool :=
  let ua := (s.loop n).commandUa
  match cause with
  | 0 => decide (x.measuredUa < 1000) && decide (3600 ≤ ua) && lowCompliance x
  | 1 => decide (1000 ≤ x.measuredUa) && decide (x.measuredUa + 200 < ua) && lowCompliance x
  | 2 => decide (ua + 500 < x.measuredUa) || decide (23000 < x.measuredUa)

/-- For how long a condition must hold, ms (R407). -/
def causeHold (cause : Fin 3) : Nat :=
  match cause with
  | 0 | 1 => 50
  | 2 => 5

/-- LOOP_CAUSE_SET: a condition of R407 has held for its time. (DEDUCED, log 81) -/
def loopCauseSet (dt : Nat) (n : Fin 8) (cause : Fin 3) (x : LoopReading) (s0 : State) : State :=
  let s := (s0.elapse dt).loopMeasured n x.measuredUa
  if !s.loopJudged n || !s.loopCondition n cause x || decide (x.heldMs < causeHold cause) then s
  else
    let l := s.loop n
    match cause with
    | 0 =>
      if l.openC then s
      else ((s.setLoop n (fun x => { x with openC := true })).event evLoopFault n.val noUnit [causeOpen]).count
        loopOpenCtr n.val 1
    | 1 =>
      if l.compliance then s
      else ((s.setLoop n (fun x => { x with compliance := true })).event evLoopFault n.val noUnit [causeCompliance]).count
        Ctr.outStats_word1 n.val 1
    | 2 =>
      let s1 := s.setLoop n (fun x => { x with overCurrent := true, driveOn := false, retryAt := s.clk })
      (if l.overCurrent then s1
        else (s1.event evLoopFault n.val noUnit [causeOverCurrent]).count Ctr.outStats_word2 n.val 1).loopEval n

/-- LOOP_CAUSE_CLEAR: a cause's condition has been absent for 1 s; for OVER_CURRENT the 1 s of a retried drive (R407).
(DEDUCED, log 81) -/
def loopCauseClear (dt : Nat) (n : Fin 8) (cause : Fin 3) (x : LoopReading) (s0 : State) : State :=
  let s := (s0.elapse dt).loopMeasured n x.measuredUa
  if s.loopCondition n cause x || decide (x.heldMs < 1000) then s
  else
    match cause with
    | 0 => s.loopClear n causeOpen
    | 1 => s.loopClear n causeCompliance
    | 2 => if (s.loop n).driveOn && secNs ≤ s.clk - (s.loop n).retryAt then (s.loopClear n causeOverCurrent).loopEval n else s

/-- LOOP_DRIVE_RETRY: the drive of a loop with OVER_CURRENT is tried again each second (R407). (DEDUCED, log 81) -/
def loopDriveRetry (dt : Nat) (n : Fin 8) (s0 : State) : State :=
  let s := s0.elapse dt
  let l := s.loop n
  if l.overCurrent && !l.driveOn && s.loopJudged n && secNs ≤ s.clk - l.retryAt then
    (s.setLoop n (fun l => { l with driveOn := true, retryAt := s.clk })).loopEval n
  else s

/-- ALARM_OVERLOAD: above 150 mA for 10 µs the contact opens (R409). (DEDUCED, log 80) -/
def alarmOverload (dt : Nat) (n : Fin 8) (s0 : State) : State :=
  let s := s0.elapse dt
  let a := s.alarm n
  if !a.conducting then s
  else
    let s1 := (s.setAlarm n (fun x =>
      { x with conducting := false, tripped := true, overload := true, tripAt := s.clk })).count
        Ctr.outStats_word1 (alarmInst n) 1
    if a.overload then s1 else s1.event evAlarmOverload (alarmInst n) noUnit []

/-- ALARM_RETRY: 100 ms after a trip the contact is tried again (R409). -/
def alarmRetry (dt : Nat) (n : Fin 8) (s0 : State) : State :=
  let s := s0.elapse dt
  if (s.alarm n).tripped && 100 * msNs ≤ s.clk - (s.alarm n).tripAt then
    (s.setAlarm n (fun x => { x with tripped := false })).alarmEval n
  else s

/-- ALARM_OVERLOAD_CLEAR: 1 s without a trip (R409). (DEDUCED, log 80) -/
def alarmOverloadClear (dt : Nat) (n : Fin 8) (s0 : State) : State :=
  let s := s0.elapse dt
  if (s.alarm n).overload && secNs ≤ s.clk - (s.alarm n).tripAt then
    ((s.setAlarm n (fun x => { x with overload := false, tripped := false })).event evAlarmClear (alarmInst n) noUnit []).alarmEval n
  else s

/-- ALARM_MIN_ACTIVE_END: MIN_ACTIVE_MS has passed (R408). -/
def alarmMinActiveEnd (dt : Nat) (n : Fin 8) (s : State) : State := (s.elapse dt).alarmEval n

end Sys2Proof.Machine
end

