-- ==== Sys2Proof/Machine/Bands.lean ====
section
/-! DEFINITION. Band sets, zone gauge samples and band samples: what the library programs compute of a block (R240 to R244). -/

namespace Sys2Proof.Machine

/-! ## Band sets (R242 to R244) -/

def loHzFld (b : Nat) : Fld := { Fld.bandSet_loHz0 with lo := 32 + 32 * b }
def hiHzFld (b : Nat) : Fld := { Fld.bandSet_hiHz0 with lo := 48 + 32 * b }

/-- N of a band set. -/
def State.bandN (s : State) (b : Nat) : Nat := 64 * 2 ^ s.fld Fld.bandSet_fft b

/-- A frequency's line at a port's effective rate; the rounding of a tie is open (DESIGN CHOICE, log 15). -/
def State.lineOf (s : State) (p : Port) (n hz : Nat) : Nat :=
  let r := s.effRate p
  (divNearest (Config.roundUp (hz * n * r.2) r.1) (hz * n * r.2 : Nat) (max 1 r.1)).toNat

/-- A band set is defined, and every band is valid at a port's effective rate (R243). -/
def State.bandsOk (s : State) (p : Port) (b : Nat) : Bool :=
  let n := s.bandN b
  let bands := s.fld Fld.bandSet_bands b
  bands ≠ 0 && (List.range bands).all (fun i =>
    let lo := s.lineOf p n (s.fld (loHzFld i) b)
    let hi := s.lineOf p n (s.fld (hiHzFld i) b)
    1 ≤ lo && lo ≤ hi && hi ≤ n / 2)

/-- The lines of each band of a set at a port's effective rate (R243). -/
def State.bandLines (s : State) (p : Port) (b : Nat) : List (Nat × Nat) :=
  let n := s.bandN b
  (List.range (s.fld Fld.bandSet_bands b)).map (fun i =>
    (s.lineOf p n (s.fld (loHzFld i) b), s.lineOf p n (s.fld (hiHzFld i) b)))

/-! ## Zone gauge samples (R240, R241) -/

/-- A sample of a block: increment and quality code of a gauge at the t-th position. -/
def Block.cell (b : Block) (gauge t : Nat) : Int × Byte :=
  let i := (gauge - b.firstGauge) * b.samples + t
  ((b.phase.getD i 0).toInt, b.quality.getD i 0x80)

/-- Quality of a zone gauge sample: the least LOGAMP, 15 on any one giving 15, and each flag that any carries (R241). -/
def joinQuality (qs : List Byte) : Byte :=
  let amps := qs.map (fun q => q.toNat % 16)
  let amp := if amps.contains 15 then 15 else amps.foldl min 15
  BitVec.ofNat 8 amp ||| (qs.foldl (fun a q => a ||| (q &&& 0xF0)) 0)

/-- A zone gauge sample: the sum of its port gauges' increments, and its quality (R240, R241). -/
def zoneCell (b : Block) (gs : List Nat) (t : Nat) : Int × Byte :=
  let cs := gs.map (fun g => b.cell g t)
  ((cs.map (·.1)).foldl (· + ·) 0, joinQuality (cs.map (·.2)))

/-- A zone gauge sample is bad: GAP, or FADE while FADE_HOLD is 1 (R241). -/
def badSample (fadeHold : Bool) (q : Byte) : Bool := q.getLsbD 7 || (q.getLsbD 4 && fadeHold)

/-! ## Band samples (R243) -/

/-- The Hann window w_i of n samples, with 64 fraction bits (DESIGN CHOICE, log 12). -/
def hann (n i : Nat) : Int := (fxOne - turnCos n i) / 2

/-- Line k of the transform of the windowed samples from the i-th on, with 64 fraction bits (DESIGN CHOICE, log 12). -/
def lineOfDft (n k : Nat) : Nat → List Int → Cpx → Cpx
  | _, [], acc => acc
  | i, x :: xs, acc =>
    let v := x * hann n i
    lineOfDft n k (i + 1) xs ⟨acc.re + fxMul v (turnCos n (i * k)), acc.im - fxMul v (turnSin n (i * k))⟩

/-- Sum of |X_k|² over the lines of a band, with 128 fraction bits. -/
def bandSum (n : Nat) (xs : List Int) (lines : Nat × Nat) : Nat :=
  ((List.range (lines.2 + 1 - lines.1)).map (fun i =>
    let z := lineOfDft n (lines.1 + i) 0 xs ⟨0, 0⟩
    z.re.natAbs * z.re.natAbs + z.im.natAbs * z.im.natAbs)).foldl (· + ·) 0

/-- A band sample of a gauge: whether it is valid, whether LOGAMP 15 stands in it, and the energy of each band as a number of
1 / `den`. -/
structure BandSample where
  valid : Bool
  clip : Bool
  energy : List Nat
  den : Nat
deriving DecidableEq, Repr

/-- The band sample of a gauge from the samples it uses, a whole number of transforms of n. The window's squares add up to
3 n / 8, so E_b = 16 / (3 n²) of the sum over its lines. Bad samples enter as zero, and at most one quarter may be bad (R243). -/
def bandSample (n : Nat) (fadeHold : Bool) (lines : List (Nat × Nat)) (cells : List (Int × Byte)) : BandSample :=
  let xs := cells.map (fun c => if badSample fadeHold c.2 then 0 else c.1)
  let runs := cells.length / max 1 n
  let bands := lines.map (fun l =>
    16 * ((List.range runs).map (fun i => bandSum n ((xs.drop (i * n)).take n) l)).foldl (· + ·) 0)
  { valid := 4 * (cells.filter (fun c => badSample fadeHold c.2)).length ≤ cells.length,
    clip := cells.any (fun c => c.2.toNat % 16 = 15), energy := bands, den := 3 * n * n * 2 ^ 128 * max 1 runs }

/-- A block whose results have committed. -/
def isCommitted (b : Block) : Bool :=
  match b.mode with
  | .committed _ => true
  | .ready | .taken _ | .gap _ => false

/-- The block whose state a block has received: the one before it in the column, unless it carries RESTART (R206). -/
def priorOf (bs : List Block) (b : Block) : Option Block :=
  if b.restart then none
  else bs.find? (fun a => a.era = b.era && a.column = b.column && a.index + 1 = b.index && isCommitted a)

/-- The samples of a zone gauge in a block and in up to `back` blocks before it, as far as the column's state reaches. -/
def seriesOf (bs : List Block) (gs : List Nat) : Nat → Block → List (Int × Byte)
  | 0, b => (List.range b.samples).map (zoneCell b gs)
  | back + 1, b =>
    (match priorOf bs b with
      | some a => seriesOf bs gs back a
      | none => []) ++ (List.range b.samples).map (zoneCell b gs)

/-- The samples a band sample uses: those of the block for N <= S; else the last N, with GAP for those that the column's state
does not reach back to. (DESIGN CHOICE, log 180) -/
def bandCells (bs : List Block) (n : Nat) (gs : List Nat) (b : Block) : List (Int × Byte) :=
  if n ≤ b.samples then (List.range b.samples).map (zoneCell b gs)
  else
    let xs := seriesOf bs gs (ceilDiv (n - b.samples) (max 1 b.samples)) b
    if xs.length < n then List.replicate (n - xs.length) (0, (0x80 : Byte)) ++ xs else xs.drop (xs.length - n)

/-- The band sample of a zone gauge formed from some port gauges of a block; a block that ended as a gap gives none. -/
def State.bandOf (s : State) (p : Port) (set : Nat) (bs : List Block) (gs : List Nat) (b : Block) : BandSample :=
  if isCommitted b then
    bandSample (s.bandN set) (s.flag Fld.gaugeCfg_fadeHold p.val) (s.bandLines p set) (bandCells bs (s.bandN set) gs b)
  else ⟨false, false, [], 1⟩

/-- A level in 0.01 dB; -32,768 for no energy (R243). -/
def level (e den : Nat) : Int := if e = 0 then -32768 else clampInt (-32768) 32767 (centibels e (max 1 den))

/-- The levels of a block's port gauges for a band set, gauge-major; 0x7FFF where the band sample is not valid (R268). -/
def State.bandLevels (s : State) (p : Port) (set : Nat) (b : Block) : List Half :=
  (List.range b.gauges).flatMap (fun i =>
    let x := s.bandOf p set (s.port p).queue.recent [b.firstGauge + i] b
    (List.range (s.fld Fld.bandSet_bands set)).map (fun k =>
      if x.valid then BitVec.ofInt 16 (level (x.energy.getD k 0) x.den) else 0x7FFF))

end Sys2Proof.Machine
end

