-- ==== Sys2Proof/Machine/Zones.lean ====
section
/-! DEFINITION. Zones, detectors, the event rule and zone groups (R236 to R261, R270, R496). -/

namespace Sys2Proof.Machine


/-! ## The zone table -/

def freshZone : ZoneSt :=
  { mode := .idle, run := 0, clear := 0, eventId := 0, next := 0, nextBlock := 0, zsample := 0, invalid := true, sampled := false,
    lastT := 0, level := 0, tmax := none, base := List.replicate 8 none, hist := [], recLocation := 0,
    recEdge := 0, recBand := 0xFF, location := 0, recFlags := 0,
    lastBand := 0xFF, lastStat := 0, reconfig := [], profSeq := none }

def State.zone (s : State) (z : ZoneId) : ZoneSt := (Tab.find? s.detect.zones z.val).getD freshZone

def State.setZone (s : State) (z : ZoneId) (f : ZoneSt → ZoneSt) : State :=
  s.setDetect (fun d => { d with zones := Tab.put d.zones z.val (f (s.zone z)) })

/-- The enabled zones, in ascending order. -/
def State.enabledZones (s : State) : List ZoneId :=
  s.cfg.filterMap (fun e =>
    if e.1 / 4194304 = Fld.zone_en.block ∧ e.1 % 1024 = Fld.zone_en.lo ∧ e.2 = 1 then
      (if h : e.1 / 1024 % 4096 < 4096 then some ⟨e.1 / 1024 % 4096, h⟩ else none)
    else none)

/-- Port of a zone. -/
def State.zonePort (s : State) (z : ZoneId) : Port := ⟨s.fld Fld.zone_port z.val % 8, by omega⟩

/-- The enabled zones of a port. -/
def State.zonesOf (s : State) (p : Port) : List ZoneId := s.enabledZones.filter (fun z => s.zonePort z = p)

/-- A temperature zone. -/
def State.zoneTemp (s : State) (z : ZoneId) : Bool := s.flag Fld.zone_kind z.val

/-- The groups that GROUP_A to GROUP_D of a zone name (R259). -/
def State.zoneGroups (s : State) (z : ZoneId) : List GroupId :=
  let one (g m : Fld) : List GroupId :=
    if s.flag m z.val then (if h : s.fld g z.val < 64 then [⟨s.fld g z.val, h⟩] else []) else []
  (one Fld.zone_groupA Fld.zone_memberA ++ one Fld.zone_groupB Fld.zone_memberB
    ++ one Fld.zone_groupC Fld.zone_memberC ++ one Fld.zone_groupD Fld.zone_memberD).eraseDups

/-! ## Geometry (R240) -/

/-- ZG, ZP, k and m of a zone with the port's G and P. -/
structure ZoneGeom where
  g : Nat
  p : Nat
  zg : Nat
  zp : Nat
deriving DecidableEq, Repr

def State.zoneGeom (s : State) (z : ZoneId) : ZoneGeom :=
  let q := s.zonePort z
  let g := s.fld Fld.gaugeCfg_gaugeLen q.val
  let p := s.fld Fld.gaugeCfg_pitch q.val
  let zg := s.fld Fld.zone_gaugeLen z.val
  let zp := s.fld Fld.zone_pitch z.val
  ⟨g, p, if zg = 0 then g else zg, if zp = 0 then p else zp⟩

def ZoneGeom.k (x : ZoneGeom) : Nat := x.zg / max 1 x.g
def ZoneGeom.m (x : ZoneGeom) : Nat := x.zp / max 1 x.p

/-- The geometry rules of R240. -/
def ZoneGeom.valid (x : ZoneGeom) : Bool :=
  decide (x.zg % max 1 x.g = 0 ∧ 1 ≤ x.k ∧ x.k ≤ 32 ∧ x.zg ≤ 64 ∧ (x.k ≤ 1 ∨ x.g % max 1 x.p = 0)
    ∧ x.zp % max 1 x.p = 0 ∧ 1 ≤ x.m)

/-- The first port gauge of each zone gauge that is formed, in ascending order. -/
def State.zoneGauges (s : State) (z : ZoneId) : List Nat :=
  let x := s.zoneGeom z
  let q := s.zonePort z
  let first := s.fld Fld.zone_firstBin z.val
  let last := s.fld Fld.zone_lastBin z.val
  let g0 := ceilDiv (first + x.g) (max 1 x.p)
  let reach := (x.k - 1) * x.g + x.p
  -- number of q with g_q * P + reach - 1 <= LAST_BIN
  let n := if last + 1 < g0 * x.p + reach then 0 else (last + 1 - g0 * x.p - reach) / max 1 x.zp + 1
  let bg := s.blockGauges q
  ((List.range n).map (fun i => g0 + i * x.m)).filter (fun g =>
    let far := g + (x.k - 1) * x.g / max 1 x.p
    far < s.gauges q && g / bg = far / bg)

/-- Centre of a zone gauge in 1/512 bin (R240, R256). -/
def ZoneGeom.centre (x : ZoneGeom) (g : Nat) : Int :=
  256 * (2 * (g * x.p : Int) + ((x.k - 1) * x.g : Nat) + x.p - 1 - x.g)

/-- The columns that hold a zone's gauges (R245). -/
def State.zoneColumns (s : State) (z : ZoneId) : List Nat :=
  ((s.zoneGauges z).map (fun g => g / s.blockGauges (s.zonePort z))).eraseDups

/-! ## Records (R251, R255, R496) -/

/-- KIND of an event record. -/
inductive EventKind where
  | provisional | confirm | retract | ended
deriving DecidableEq, Repr

def eventKindCode : EventKind → Nat
  | .provisional => 1
  | .confirm => 2
  | .retract => 3
  | .ended => 4

/-- CAUSE of RETRACT and END. -/
def causeNotSatisfied : Nat := 1
def causeInvalid : Nat := 2
def causePortStop : Nat := 3
def causeZoneDisabled : Nat := 4
def causeReconfig : Nat := 5
def causeDetectionOff : Nat := 6

/-- FLAGS bits of an event record. -/
def flagProv : Nat := 1
def flagNoProv : Nat := 2
def flagEdge : Nat := 4
def flagClip : Nat := 8
def flagTemp : Nat := 16
def flagRefHeld : Nat := 32

/-- The 32 bytes of an event record for the zone as it stands. -/
def eventRecord (kind : EventKind) (temp : Bool) (zone : ZoneId) (port : Port) (x : ZoneSt) (flags cause : Nat) : List Byte :=
  leBytes 1 (eventKindCode kind) ++ leBytes 1 (flags + x.recFlags + (if temp then flagTemp else 0))
    ++ leBytes 2 zone.val ++ leBytes 4 x.eventId ++ leBytes 8 x.lastT ++ leBytes 4 x.location ++ leBytes 1 port.val
    ++ leBytes 1 cause ++ leBytes 2 (toBits 16 (clampInt (-32768) 32767 x.lastStat)) ++ leBytes 4 x.zsample
    ++ leBytes 1 x.lastBand ++ zeros 3

/-- Put a record into every enabled stream of a class. -/
def State.toClass (s : State) (cls typ : Nat) (payload : List Byte) : State :=
  (s.enabledStreams.filter (fun i => s.streamClass i = cls)).foldl (fun t i => t.pushStream i typ 0 payload) s

/-- Put a record into the EVENT_QUERY ring with its running number (R496). -/
def State.toQuery (s : State) (r : List Byte) : State :=
  s.setDetect (fun d =>
    { d with ring := (if 256 ≤ d.ring.length then d.ring.drop 1 else d.ring) ++ [r], nextRun := d.nextRun + 1 })

/-- The counter of a kind of record (R261). -/
def kindCtr : EventKind → Ctr
  | .provisional => Ctr.detectStats_provisional
  | .confirm => Ctr.detectStats_confirmed
  | .retract => Ctr.detectStats_retracted
  | .ended => Ctr.detectStats_ended

/-- Emit a record of a zone to the outputs of R251; the next record of the event may carry its LOCATION (R256). -/
def State.emitRecord (s : State) (z : ZoneId) (kind : EventKind) (flags cause : Nat) : State :=
  let x := s.zone z
  let r := eventRecord kind (s.zoneTemp z) z (s.zonePort z) x flags cause
  let prov := kind = .provisional ∨ kind = .retract ∨ (kind = .confirm ∧ flags &&& flagNoProv = 0)
  let conf := kind = .confirm ∨ kind = .ended
  let s1 := if prov then s.toClass clsProv typEvent r else s
  let s2 := if conf then s1.toClass clsConf typEvent r else s1
  (((s2.toQuery r).count (kindCtr kind) 0 1).countIf Ctr.detectStats_edge 0 (x.recFlags &&& flagEdge != 0)).setZone z (fun y =>
    { y with recLocation := x.location, recEdge := x.recFlags &&& (flagEdge + flagClip), recBand := x.lastBand })

/-- Take the next event ID; 0 is skipped (R255). -/
def State.takeEventId (s : State) : Nat × State :=
  let id := if s.detect.nextEventId = 0 then 1 else s.detect.nextEventId
  (id.toNat, s.setDetect (fun d => { d with nextEventId := if id + 1 = 0 then 1 else id + 1 }))

/-! ## Groups (R259, R270) -/

/-- The member zones of a group. -/
def State.groupZones (s : State) (g : GroupId) : List ZoneId :=
  s.enabledZones.filter (fun z => (s.zoneGroups z).contains g)

/-- A member's value of SRC; none where its last sample was not valid or it has none, and in STANDBY (R259, R427). -/
def State.memberValue (s : State) (g : GroupId) (z : ZoneId) : Option Int :=
  let x := s.zone z
  if x.invalid || !x.sampled || s.power.mode ≠ .active then none
  else if s.flag Fld.group_src g.val then (if s.zoneTemp z then x.tmax else none)
  else some x.level

/-- The highest member value and the lowest zone that has it. -/
def State.groupValue (s : State) (g : GroupId) : Option (Int × Nat) :=
  (s.groupZones g).foldl (fun best z =>
    match s.memberValue g z with
    | none => best
    | some v =>
      match best with
      | none => some (v, z.val)
      | some (w, n) => if w < v then some (v, z.val) else some (w, n)) none

/-- SUMMARY payload (R270). -/
def summaryPayload (time : Nat) (g : GroupId) (x : GroupSt) (periodic : Bool) : List Byte :=
  leBytes 8 time ++ leBytes 1 g.val
    ++ leBytes 1 (bitNat x.active + 2 * bitNat x.value.isNone + 4 * bitNat x.latched + 8 * bitNat periodic)
    ++ leBytes 2 x.activeZones ++ leBytes 2 (toBits 16 (match x.value with | some v => v.1 | none => 0))
    ++ leBytes 2 (match x.value with | some v => v.2 | none => 0xFFFF) ++ leBytes 4 x.eventId ++ zeros 12

/-- A SUMMARY record of a group into its summary stream, where GROUP.SUMMARY is 1. -/
def State.sendSummary (s : State) (g : GroupId) (periodic : Bool) : State :=
  if s.flag Fld.group_summary g.val then
    (s.streamsOf clsSummary g.val).foldl
      (fun t i => t.pushStream i typSummary 0 (summaryPayload t.tb g (t.group g) periodic)) s
  else s

/-- A group takes its state from its members. -/
def State.groupEval (g : GroupId) (s : State) : State :=
  let old := s.group g
  let n := ((s.groupZones g).filter (fun z => (s.zone z).mode = .active)).length
  let latch := s.flag Fld.group_latch g.val
  let active := n ≠ 0 || (latch && old.active)
  let value := s.groupValue g
  let s1 := s.setGroup g (fun x =>
    { x with active := active, latched := active && n = 0, value := value, activeZones := n })
  if active = old.active ∧ value.isNone = old.value.isNone ∧ (active && n = 0) = old.latched then s1
  else s1.sendSummary g false

/-- Groups take their states, and the outputs follow (R259). -/
def State.groupsEval (s : State) (gs : List GroupId) : State :=
  (gs.foldl (fun t g => State.groupEval g t) s).outputsEval

/-! ## Happenings that close events (R252) -/

/-- A record without a position of its own carries LOCATION and EDGE of the event's record before it (R256), and with them CLIP and
BAND. (DEDUCED, log 82) -/
def State.zoneCarry (s : State) (z : ZoneId) (refHeld : Bool) : State :=
  s.setZone z (fun x =>
    { x with location := x.recLocation, recFlags := x.recEdge + (if refHeld then flagRefHeld else 0), lastBand := x.recBand })

/-- The groups whose open snapshot waits for an event: those it was opened for, members or not by now (R254, R289). -/
def State.heldGroups (s : State) (eventId : Nat) : List GroupId :=
  (s.capture.snapshots.filter (fun n => !n.published && n.unconfirmed && n.eventId = eventId)).filterMap (·.group)

/-- RETRACT of an event: its speculative snapshots are discarded (R254). -/
def State.snapsRetract (s : State) (eventId : Nat) : State :=
  (s.heldGroups eventId).foldl (fun t g => t.snapRetract g eventId) s

/-- Close a zone's open event with a cause, and put it into a mode. -/
def State.zoneClose (z : ZoneId) (cause : Nat) (dest : ZoneMode) (s0 : State) : State :=
  let x := s0.zone z
  let s := s0.zoneCarry z (x.recFlags &&& flagRefHeld != 0)
  let ending (t : State) : State := t.setZone z (fun y => { y with mode := dest, run := 0, eventId := 0 })
  match x.mode with
  | .prov =>
    (ending (s.emitRecord z .retract 0 cause)).snapsRetract x.eventId
  | .active => ending (s.emitRecord z .ended 0 cause)
  | .off | .idle | .pending => s.setZone z (fun y => { y with mode := dest, run := 0 })

/-- A port's stop, shut-down, halt or leaving closes the events of its zones (R252). -/
def State.zonesPortStop (s : State) (p : Port) : State :=
  if s.zonesOf p = [] then s
  else
    let s1 := (s.zonesOf p).foldl (fun t z => t.zoneClose z causePortStop .idle) s
    s1.groupsEval allGroups

/-- A port's start restarts the numbering of its zones' samples (R245). -/
def State.zonesPortStart (s : State) (p : Port) : State :=
  (s.zonesOf p).foldl (fun t z => t.setZone z (fun x => { x with next := 0, nextBlock := 0 })) s

/-- The first block number that no column of a zone has cut yet. (DESIGN CHOICE, log 180) -/
def State.uncutBlock (s : State) (z : ZoneId) : Nat :=
  ((s.zoneColumns z).map (fun j => (s.port (s.zonePort z)).queue.nextBlock.getD j 0)).foldl max 0

/-- A zone is enabled; on a port that runs its first sample is of blocks still to be cut. (DESIGN CHOICE, log 180) -/
def State.zoneEnable (s : State) (z : ZoneId) : State :=
  s.setZone z (fun _ => { freshZone with mode := if s.detect.off then .off else .idle, nextBlock := s.uncutBlock z })

/-- A zone is disabled. -/
def State.zoneDisable (s : State) (z : ZoneId) : State :=
  let s1 := s.zoneClose z causeZoneDisabled .off
  s1.setDetect (fun d => { d with zones := Tab.erase d.zones z.val })

/-- Detection is switched off by a lost bank (R238, R252, R431). -/
def State.detectionOff (s : State) : State :=
  let s1 := s.enabledZones.foldl (fun t z => t.zoneClose z causeDetectionOff .off) s
  (s1.setDetect (fun d => { d with off := true })).groupsEval allGroups

/-- The zone table is lost: detection is off, and FUNC_OFF has the bit of bank 2 (R431, R444). -/
def State.zonesLost (s : State) : State := (s.detectionOff).setPower (fun w => { w with funcOff := w.funcOff ||| 4 })

/-! ## Detectors (R245 to R248) -/

/-- The fields that judge a zone's samples now. -/
def State.zoneJudge (s : State) (z : ZoneId) : ZoneJudge :=
  ⟨s.fld Fld.zone_detector z.val, s.fld Fld.zone_metric z.val, s.fld Fld.zone_statBands z.val,
   s.fld Fld.zone_template z.val, s.fld Fld.zone_confWin z.val, s.fld Fld.zone_provWin z.val⟩

/-- The fields that judge a sample whose last grid position lies at `t`: those before the first boundary after it. -/
def judgeAt (now : ZoneJudge) (t : Nat) : List (Nat × ZoneJudge) → ZoneJudge
  | [] => now
  | (b, j) :: rest => if t < b then j else judgeAt now t rest

/-- The eight TEMPLATE levels and the eight baselines' places. -/
def templateFlds : List Fld :=
  [.template_t0, .template_t1, .template_t2, .template_t3, .template_t4, .template_t5, .template_t6, .template_t7]

/-- A baseline in whole units, ties up (R246). -/
def baseUnit (b : Option Int) (dflt : Int) : Int :=
  match b with
  | some x => divHalfUp x 65536
  | none => dflt

/-- Mean of some values on the scale of 1/65,536, rounded to nearest (R246). -/
def meanScaled (xs : List Int) : Int :=
  let sum := xs.foldl (· + ·) 0
  divNearest (Config.roundUp sum.natAbs xs.length) (65536 * sum) (max 1 xs.length)

/-- Pearson correlation x 1,000, rounded, of two lists of levels; 0 where either is constant (R248). -/
def score (l t : List Int) : Int :=
  let n : Int := l.length
  let sum (xs : List Int) : Int := xs.foldl (· + ·) 0
  let dot (xs ys : List Int) : Int := sum (List.zipWith (· * ·) xs ys)
  let num := n * dot l t - sum l * sum t
  let den := ((n * dot l l - sum l * sum l) * (n * dot t t - sum t * sum t)).toNat
  if den = 0 then 0
  else
    let k := (isqrt (4000000 * num.natAbs * num.natAbs / den) + 1) / 2
    let tie := (2 * k - 1) * (2 * k - 1) * den = 4000000 * num.natAbs * num.natAbs
    let k' := if tie && !Config.roundUp num.natAbs den then k - 1 else k
    if num < 0 then -(k' : Int) else k'

/-- What a sample shows: positions in 1/512 bin with the value at each valid one, what the detector judges (the score under
TEMPLATE), LEVEL and TMAX, inputs of the baselines, and BAND and CLIP by position. -/
structure ZoneView where
  valid : Bool
  places : List (Int × Option Int)
  stat : Int
  level : Int
  tmax : Option Int
  inputs : List (Option Int)
  bands : List Nat
  clips : List Bool
deriving DecidableEq, Repr

/-- Highest of some values. -/
def highest (xs : List Int) : Option Int :=
  xs.foldl (fun b x => match b with | none => some x | some y => some (max x y)) none

/-- Position of the largest value, the lowest on ties. -/
def argmax : List (Option Int) → Nat → Option (Nat × Int) → Option (Nat × Int)
  | [], _, b => b
  | none :: xs, i, b => argmax xs (i + 1) b
  | some v :: xs, i, none => argmax xs (i + 1) (some (i, v))
  | some v :: xs, i, some (j, w) => argmax xs (i + 1) (if w < v then some (i, v) else some (j, w))

/-- The indices of the bands a mask selects, among `n` defined. -/
def maskBands (m n : Nat) : List Nat := (List.range n).filter (fun b => m.testBit b)

/-- The port gauges of a zone gauge by its first (R240). -/
def ZoneGeom.chain (x : ZoneGeom) (g : Nat) : List Nat := (List.range x.k).map (fun i => g + i * x.g / max 1 x.p)

/-- The blocks of a port's present start that have left its queue. -/
def State.outBlocks (s : State) (p : Port) : List Block :=
  (s.port p).queue.recent.filter (fun b => b.era = (s.port p).queue.era)

/-- The band samples of a vibration zone's gauges for block m of its columns, from the blocks that have left the queue (R244,
R245). (DESIGN CHOICE, log 163) -/
def State.zoneBands (s : State) (z : ZoneId) (m : Nat) : List BandSample :=
  let p := s.zonePort z
  let x := s.zoneGeom z
  let bs := s.outBlocks p
  (s.zoneGauges z).map (fun g =>
    match bs.find? (fun b => b.column = g / s.blockGauges p && b.index = m) with
    | some b => s.bandOf p (s.fld Fld.zone_bandSet z.val) bs (x.chain g) b
    | none => ⟨false, false, [], 1⟩)

/-- A vibration sample as the zone sees it. -/
def State.vibView (s : State) (z : ZoneId) (j : ZoneJudge) (gauges : List BandSample) : ZoneView :=
  let x := s.zone z
  let geom := s.zoneGeom z
  let n := s.fld Fld.bandSet_bands (s.fld Fld.zone_bandSet z.val)
  let sel := maskBands j.statBands n
  let levels (g : BandSample) : List Int := (List.range n).map (fun b => level (g.energy.getD b 0) g.den)
  let combined (g : BandSample) : Int := level ((sel.map (fun b => g.energy.getD b 0)).foldl (· + ·) 0) g.den
  let good := gauges.filter (fun g => g.valid)
  let inputs := (List.range 8).map (fun b =>
    if b < n ∧ good ≠ [] then some (meanScaled (good.map (fun g => (levels g).getD b 0))) else none)
  let base (b : Nat) : Int := baseUnit (x.base.getD b none) (baseUnit (inputs.getD b none) 0)
  let excess (g : BandSample) : Int := (highest (sel.map (fun b => (levels g).getD b 0 - base b))).getD 0
  let value (g : BandSample) : Int := if j.detector = 1 then excess g else combined g
  let places := List.zipWith (fun c g => (geom.centre c, if g.valid then some (value g) else none)) (s.zoneGauges z) gauges
  let loud := argmax (gauges.map (fun g => if g.valid then some (combined g) else none)) 0 none
  let loudLevels := match loud with
    | some (i, _) => (levels (gauges.getD i ⟨false, false, [], 1⟩))
    | none => []
  let stat := (highest (places.filterMap (·.2))).getD 0
  { valid := good ≠ [], places := places,
    stat := if j.detector = 3 then score loudLevels ((templateFlds.take n).map (fun f => s.sfld f j.template)) else stat,
    level := stat, tmax := none, inputs := inputs,
    bands := gauges.map (fun g => match argmax ((levels g).map some) 0 none with | some (i, _) => i | none => 0),
    clips := gauges.map (fun g => g.clip) }

/-- A temperature sample as the zone sees it: the profile record's header and words (R190, R191, R245). -/
def State.tempView (s : State) (z : ZoneId) (j : ZoneJudge) (prof : List Byte) : ZoneView :=
  let x := s.zone z
  let step := max 1 (u8At prof 0x24)
  let count := u32At prof 0x20
  let first := s.fld Fld.zone_firstBin z.val
  let last := s.fld Fld.zone_lastBin z.val
  let flags := u8At prof 3
  let tCoil := s16At prof 0x26
  let offset := s16At prof 0x36
  let bins := (List.range count).filter (fun i => first ≤ i * step ∧ i * step + step - 1 ≤ last)
  let word (i : Nat) : Option Int := if u16At prof (64 + 2 * i) = 0x8000 then none else some (s16At prof (64 + 2 * i))
  let words := bins.map word
  let good := words.filterMap id
  let inputs := [if good = [] then none else some (meanScaled good)]
  let base := baseUnit (x.base.getD 0 none) (baseUnit (inputs.getD 0 none) 0)
  let ref : Int := if j.metric = 1 then base else if j.metric = 2 then tCoil else 0
  let places := bins.map (fun i =>
    ((512 * i * step + 256 * (step - 1) : Nat) + 2 * offset, (word i).map (fun t => t - ref)))
  let stale := flags.testBit 0 || (flags.testBit 2 && j.metric = 2)
  let stat := (highest (places.filterMap (·.2))).getD 0
  { valid := good ≠ [] && !stale, places := places, stat := stat, level := stat,
    tmax := highest good, inputs := inputs, bands := [], clips := [] }

/-! ## Location (R256, R257) -/

/-- Walk outward over the positions beyond the last valid one: the crossing as a fraction, and EDGE. -/
def walk (lam : Int) : List (Int × Option Int) → Int → Int → Int → (Int × Nat) × Bool
  | [], _, _, farEnd => ((farEnd, 1), true)
  | (x, none) :: rest, xl, vl, _ => walk lam rest xl vl x
  | (x, some v) :: rest, xl, vl, _ =>
    if v < lam then
      let d := (vl - v).toNat
      ((x * d + (xl - x) * (lam - v), max 1 d), false)
    else walk lam rest x v x

/-- Location in 1/256 bin before skew, EDGE, and the position's index; none where no position is valid. -/
def locate (lam : Int) (places : List (Int × Option Int)) : Option (Int × Bool × Nat) :=
  match argmax (places.map (·.2)) 0 none with
  | none => none
  | some (q, v) =>
    let x := (places.getD q (0, none)).1
    if v < lam then some (divHalfUp x 2, false, q)
    else
      let a := walk lam (places.take q).reverse x v x
      let b := walk lam (places.drop (q + 1)) x v x
      some (divHalfUp (a.1.1 * b.1.2 + b.1.1 * a.1.2) (4 * a.1.2 * b.1.2), a.2 || b.2, q)

/-- The skew of a port in 1/256 bin (R257). -/
def State.skewOf (s : State) (p : Port) (temp : Bool) : Int :=
  let port := s.sfld Fld.skew_portSkew p.val
  if temp then port
  else
    let slots := maskSlots (s.slotMask p)
    let n := max 1 slots.length
    let one (k : Fin 4) : Int := match k with
      | 0 => s.sfld Fld.skew_slotSkewS0 p.val
      | 1 => s.sfld Fld.skew_slotSkewS1 p.val
      | 2 => s.sfld Fld.skew_slotSkewS2 p.val
      | 3 => s.sfld Fld.skew_slotSkewS3 p.val
    let sum := (slots.map one).foldl (· + ·) 0
    let pol := s.sfld Fld.skew_polSkewX p.val + s.sfld Fld.skew_polSkewY p.val
    divHalfUp (2 * n * port + 2 * sum + n * pol) (2 * n)

/-! ## The event machine (R250) -/

/-- A sample's location, flags, band and statistic go into the zone for its records; on an invalid sample those of the event's record
before it, with REF_HELD of this sample (R255, R256). (DEDUCED, log 82) -/
def State.zoneNote (s : State) (z : ZoneId) (j : ZoneJudge) (v : ZoneView) (refHeld : Bool) : State :=
  let temp := s.zoneTemp z
  let lam := if j.detector = 3 then s.sfld Fld.zone_minLevel z.val else s.sfld Fld.zone_on z.val
  match (if v.valid then locate lam v.places else none) with
  | none => s.zoneCarry z refHeld
  | some (loc, edge, q) =>
    let at_ := toBits 32 (loc + s.skewOf (s.zonePort z) temp)
    let flags := (if edge then flagEdge else 0) + (if v.clips.getD q false then flagClip else 0)
      + (if refHeld then flagRefHeld else 0)
    s.setZone z (fun x =>
      { x with location := at_, recFlags := flags, lastBand := if temp then 0xFF else v.bands.getD q 0, lastStat := v.stat })

/-- Result of a detector: TRUE, FALSE or INVALID, and the hold (R247). -/
inductive Cond where
  | true_ | false_ | invalid
deriving DecidableEq, Repr

/-- The loudest gauge's level under TEMPLATE: the highest combined level. (DEDUCED, log 82) -/
def ZoneView.loudest (v : ZoneView) : Int := (highest (v.places.filterMap (·.2))).getD (-32768)

/-- While the baselines are lost, the zones that need them give INVALID samples (R431). -/
def State.baseLost (s : State) (z : ZoneId) (j : ZoneJudge) : Bool :=
  s.power.funcOff.getLsbD 3 && (if s.zoneTemp z then j.metric = 1 else j.detector = 1)

/-- Condition and hold of a view, with the statistics of the last valid samples, this one first. -/
def State.detect_ (s : State) (z : ZoneId) (j : ZoneJudge) (v : ZoneView) (hist : List Int) : Cond × Bool :=
  let on := s.sfld Fld.zone_on z.val
  let off := s.sfld Fld.zone_off z.val
  if !v.valid then (.invalid, false)
  else
    let yes : Bool :=
      if j.detector = 2 then
        s.fld Fld.zone_persistK z.val ≤ ((hist.take (s.fld Fld.zone_persistW z.val)).filter (fun x => on ≤ x)).length
      else if j.detector = 3 then on ≤ v.stat && s.sfld Fld.zone_minLevel z.val ≤ v.loudest
      else on ≤ v.stat
    (if yes then .true_ else .false_, off ≤ v.stat)

/-- PROV_WIN, or its default (R250). -/
def provWindow (j : ZoneJudge) : Nat := if j.provWin = 0 then max 2 (j.confWin / 8) else j.provWin

/-- RETRACT of an open provisional event: its speculative snapshots go (R254). -/
def State.zoneRetract (s : State) (z : ZoneId) (cause : Nat) : State :=
  let id := (s.zone z).eventId
  ((s.emitRecord z .retract 0 cause).setZone z (fun x => { x with mode := .idle, run := 0, eventId := 0 })).snapsRetract id

/-- CONFIRM: the record, the groups' latest event and their snapshots; so too the snapshot of a group that has dropped the zone since
it was opened for the event (R250, R254, R286). -/
def State.zoneConfirm (s : State) (z : ZoneId) (noProv : Bool) (pos : Int) : State :=
  let s1 := s.emitRecord z .confirm (if noProv then flagNoProv else 0) 0
  let x := s1.zone z
  let s2 := s1.setZone z (fun y => { y with mode := .active, clear := 0 })
  let members := s2.zoneGroups z
  let left := (s2.heldGroups x.eventId).filter (fun g => !members.contains g)
  left.foldl (fun t g => t.confirmTrigger g x.lastT x.eventId x.location pos z)
    (members.foldl (fun t g =>
      (t.setGroup g (fun y => { y with eventId := x.eventId })).snapConfirm g x.lastT x.eventId x.location pos z) s2)

/-- The machine of R250 on one sample; its statistics, location and numbers stand in the zone already. -/
def State.zoneMachine (s : State) (z : ZoneId) (j : ZoneJudge) (c : Cond) (hold : Bool) (pos : Int) : State :=
  let x := s.zone z
  let pw := provWindow j
  match x.mode with
  | .off => s
  | .active =>
    match c with
    | .invalid => s
    | .true_ | .false_ =>
      if hold then s.setZone z (fun y => { y with clear := 0 })
      else if x.clear + 1 = s.fld Fld.zone_clearWin z.val then
        (s.emitRecord z .ended 0 causeNotSatisfied).setZone z (fun y =>
          { y with mode := .idle, run := 0, clear := x.clear + 1, eventId := 0 })
      else s.setZone z (fun y => { y with clear := x.clear + 1 })
  | .idle | .pending | .prov =>
    match c with
    | .true_ =>
      let run := x.run + 1
      let s1 := s.setZone z (fun y => { y with run := run })
      if j.confWin ≤ run then
        if x.mode = .prov then s1.zoneConfirm z false pos
        else
          let t := s1.takeEventId
          (t.2.setZone z (fun y => { y with eventId := t.1 })).zoneConfirm z true pos
      else if x.mode ≠ .prov ∧ pw ≤ run ∧ pw < j.confWin then
        let t := s1.takeEventId
        let s2 := (t.2.setZone z (fun y => { y with eventId := t.1, mode := .prov })).emitRecord z .provisional flagProv 0
        let y := s2.zone z
        (s2.zoneGroups z).foldl (fun u g => u.snapProvisional g y.lastT y.eventId y.location pos z) s2
      else if x.mode = .idle then s1.setZone z (fun y => { y with mode := .pending })
      else s1
    | .false_ | .invalid =>
      if x.mode = .prov then s.zoneRetract z (if c = .invalid then causeInvalid else causeNotSatisfied)
      else s.setZone z (fun y => { y with mode := .idle, run := 0 })

/-- Move a baseline (R246). (DEDUCED, log 83) -/
def moveBase (shift : Nat) (old x : Option Int) : Option Int :=
  match x with
  | none => old
  | some v =>
    match old with
    | none => some v
    | some b => some (b + (v - b) / (2 ^ shift : Int))

/-- Baselines after a valid sample: the first valid sample sets them; they move while the zone is IDLE and
BASE_FREEZE is 0. (DEDUCED, log 83) -/
def State.zoneBase (s : State) (z : ZoneId) (v : ZoneView) : State :=
  if !v.valid then s
  else
    let x := s.zone z
    let moves := x.mode = .idle ∧ ¬ s.flag Fld.zone_baseFreeze z.val
    let shift := s.fld Fld.zone_baseShift z.val
    s.setZone z (fun y =>
      { y with base := (List.range 8).map (fun b =>
          let old := y.base.getD b none
          let inp := v.inputs.getD b none
          if moves then moveBase shift old inp else (if old.isNone then inp else old)) })

/-- Evaluate one sample of a zone (R250, R253). -/
def State.zoneSample (s : State) (z : ZoneId) (tSample : Nat) (pos : Int) (j : ZoneJudge) (reconfigured : Bool)
    (later : List (Nat × ZoneJudge)) (view : State → ZoneView) (refHeld : Bool) : State :=
  let s1 := s.setZone z (fun x =>
    { x with zsample := x.next, next := x.next + 1, sampled := true, lastT := tSample, reconfig := later })
  let seen := view s1
  let v := { seen with valid := seen.valid && !s1.baseLost z j }
  let hist := if v.valid then (v.level :: (s1.zone z).hist).take 64 else (s1.zone z).hist
  let s2 := (s1.setZone z (fun x =>
    { x with invalid := !v.valid, hist := hist, level := if v.valid then v.level else x.level,
             tmax := if v.valid then v.tmax else x.tmax })).zoneNote z j v refHeld
  let s3 := if reconfigured ∧ (s2.zone z).mode = .prov then s2.zoneRetract z causeReconfig else s2
  let c := s3.detect_ z j v hist
  let s4 := (s3.zoneMachine z j c.1 c.2 pos).zoneBase z v
  let s5 := (s4.count Ctr.detectStats_samples 0 1).countIf Ctr.detectStats_invalid 0 (!v.valid)
  s5.groupsEval (s5.zoneGroups z)

/-! ## The commands of the zones -/

/-- The block number of a vibration zone's next sample: the first that every column of its gauges has released or given up
(R245, R249). -/
def State.sampleBlock (s : State) (z : ZoneId) : Option Nat :=
  let bs := s.outBlocks (s.zonePort z)
  let cs := s.zoneColumns z
  ((bs.map (·.index)).filter (fun m =>
    decide ((s.zone z).nextBlock ≤ m) && cs.all (fun j => bs.any (fun b => b.column = j && b.index = m)))).min?

/-- Blocks that band samples of a band set reach back to on a port (R243). -/
def State.backBlocks (s : State) (p : Port) (set : Nat) : Nat := ceilDiv (s.bandN set - s.blockSamples p) (s.blockSamples p)

/-- The oldest block whose records are still to come, and the blocks before it that its levels reach back to (R268). -/
def State.bandNeeds (s : State) (p : Port) : List Nat :=
  let q := (s.port p).queue
  let low := ((((q.released ++ q.blocks).filter (fun b => b.era = q.era)).map (·.index) ++ q.nextBlock).min?).getD 0
  ((s.streamsOf clsBand p.val).map (fun i => s.fld Fld.stream_bandSet i)
    ++ (if s.ringMib p .band = 0 then [] else [s.fld Fld.ring_bandSet p.val])).map (fun set => low - s.backBlocks p set)

/-- Blocks that no zone sample and no band levels to come use are forgotten. -/
def State.forgetBlocks (s : State) (p : Port) : State :=
  let needs := ((s.zonesOf p).filter (fun z => !s.zoneTemp z && decide ((s.zone z).mode ≠ .off))).map (fun z =>
    (s.zone z).nextBlock - s.backBlocks p (s.fld Fld.zone_bandSet z.val))
  let keep (b : Block) : Bool := match (needs ++ s.bandNeeds p).min? with
    | some m => m ≤ b.index
    | none => false
  s.setQueue p (fun q => { q with recent := q.recent.filter (fun b =>
    if b.era = q.era then keep b else (q.released ++ q.blocks).any (fun x => x.era = b.era)) })

/-- The grid position of the last sample of block m of a zone's columns. -/
def State.sampleLast (s : State) (z : ZoneId) (m : Nat) : Int :=
  ((((s.outBlocks (s.zonePort z)).filter (fun b => b.index = m && (s.zoneColumns z).contains b.column)).map (fun b =>
    b.pos + (b.samples : Int) - 1)).max?).getD 0

/-- The next sample of a zone, where one waits for the evaluator: its T_SAMPLE (R249, R255). -/
def State.sampleWaits (s : State) (z : ZoneId) : Option Nat :=
  let p := s.zonePort z
  if s.zoneTemp z then
    match (s.port p).raman.profile with
    | some prof => if (s.zone z).profSeq = some (u32At prof 4) then none else some (u64At prof 0x10)
    | none => none
  else if portLaunches (s.port p).seq then (s.sampleBlock z).map (fun m => (s.posTime p (s.sampleLast z m)).toNat)
  else none

/-- It is a zone's turn: of the samples of one T_SAMPLE that wait, the zone with the lowest number that shares a group with it goes
first, so that the first trigger of an evaluation is that of the lowest zone (R287). (DEDUCED, log 182) -/
def State.zoneTurn (s : State) (z : ZoneId) : Bool :=
  (s.enabledZones.filter (fun y => decide (y.val < z.val) && (s.zoneGroups y).any (fun g => (s.zoneGroups z).contains g))).all
    (fun y => s.sampleWaits y = none || s.sampleWaits y ≠ s.sampleWaits z)

/-- VIBRATION_ZONE_SAMPLE: the blocks of a vibration zone's next sample, which have the given number, have left the queue (R249,
R250). (DESIGN CHOICE, log 163; DESIGN CHOICE, log 180) -/
def vibrationZoneSample (dt : Nat) (z : ZoneId) (block : Nat) (s0 : State) : State :=
  let s := s0.elapse dt
  let x := s.zone z
  if !s.flag Fld.zone_en z.val || s.zoneTemp z || s.detect.off || !portLaunches (s.port (s.zonePort z)).seq || !s.zoneTurn z then s
  else
    match s.sampleBlock z with
    | none => s
    | some m =>
      if m ≠ block then s
      else
        let pos := s.sampleLast z m
        let tLast := (s.posTime (s.zonePort z) pos).toNat
        let j := judgeAt (s.zoneJudge z) tLast x.reconfig
        let s1 := s.setZone z (fun y => { y with nextBlock := m + 1 })
        (s1.zoneSample z tLast pos j (x.reconfig.any (fun e => e.1 ≤ tLast)) (x.reconfig.filter (fun e => tLast < e.1))
          (fun t => t.vibView z j (t.zoneBands z m)) false).forgetBlocks (s.zonePort z)

/-- TEMPERATURE_ZONE_SAMPLE: the port's last profile record is the zone's next sample (R249, R250). -/
def temperatureZoneSample (dt : Nat) (z : ZoneId) (s0 : State) : State :=
  let s := s0.elapse dt
  let x := s.zone z
  match (s.port (s.zonePort z)).raman.profile with
  | none => s
  | some prof =>
    if !s.flag Fld.zone_en z.val || !s.zoneTemp z || s.detect.off || x.profSeq = some (u32At prof 4) || !s.zoneTurn z then s
    else
      let j := s.zoneJudge z
      let s1 := s.setZone z (fun y => { y with profSeq := some (u32At prof 4) })
      s1.zoneSample z (u64At prof 0x10) (-1) j (x.reconfig ≠ []) [] (fun t => t.tempView z j prof)
        ((u8At prof 3).testBit 1)

/-- SUMMARY_PERIODIC: at each whole second of the time base a SUMMARY with PERIODIC, once, within the 100 µs of R270. -/
def summaryPeriodic (dt : Nat) (s0 : State) : State :=
  let s := s0.elapse dt
  let second := s.tb / secNs
  if 100000 ≤ s.tb % secNs ∨ second = s.detect.periodicAt then s
  else allGroups.foldl (fun t g => t.sendSummary g true) (s.setDetect (fun d => { d with periodicAt := second }))

/-- ACK_GROUP (R259). -/
def State.ackGroup (s : State) (g : GroupId) : Status × State :=
  let x := s.group g
  if x.activeZones ≠ 0 then (.busy, s)
  else if !x.latched then (.ok, s)
  else
    let s1 := (s.setGroup g (fun y => { y with active := false, latched := false })).sendSummary g false
    (.ok, s1.outputsEval)

end Sys2Proof.Machine
end

