-- ==== Sys2Proof/Machine/Queue.lean ====
section
/-! DEFINITION. The cluster work queues, the engines' blocks, programs and thermal throttling (R201 to R218), and the
records that leave a queue (R265, R268, R269, R275). -/

namespace Sys2Proof.Machine

/-! ## Access -/

def State.engine (s : State) (e : EngineId) : EngineSt := s.clove.engines[e]
def State.setEngine (s : State) (e : EngineId) (f : EngineSt → EngineSt) : State :=
  s.setClove (fun c => { c with engines := vmod c.engines e f })
def State.cluster (s : State) (c : Port) : ClusterSt := s.clove.clusters[c]
def State.setCluster (s : State) (c : Port) (f : ClusterSt → ClusterSt) : State :=
  s.setClove (fun x => { x with clusters := vmod x.clusters c f })

/-- The cluster of an engine: engines are numbered 4 x cluster + engine (R444). -/
def clusterOf (e : EngineId) : Port := ⟨e.val / 4, by omega⟩

/-- The 32 engines. -/
def allEngines : List EngineId := (List.range 32).filterMap (fun i => if h : i < 32 then some ⟨i, h⟩ else none)

/-- An instance of a configuration block as one number, word 0 lowest (R358, R359). -/
def State.cfgNum (s : State) (b : BlockDesc) (inst : Nat) : Nat :=
  b.fields.foldl (fun n f => n + s.fld f inst * 2 ^ f.lo) 0

/-! ## Blocks (R201 to R205) -/

/-- First position of block m of column j. -/
def State.blockPos (s : State) (p : Port) (j m : Nat) : Int := (m * s.blockSamples p : Nat) - (s.stagger p j : Int)

/-- Number of the next block of a column. -/
def nextIndex (q : QueueSt) (j : Nat) : Nat := q.nextBlock.getD j 0

/-- Replace an element of a list. -/
def listSet {α : Type} : List α → Nat → α → List α
  | [], _, _ => []
  | _ :: xs, 0, a => a :: xs
  | x :: xs, n + 1, a => x :: listSet xs n a

/-- A sample of a block, or a GAP (R201, R205). -/
def sampleAt (xs : List Sample) (gauge : Nat) (pos : Int) : BitVec 16 × Byte :=
  match xs.find? (fun x => x.gauge = gauge ∧ (x.pos : Int) = pos) with
  | some x => (x.phase, x.quality)
  | none => (0, 0x80)

/-- The next block of a column as its samples make it, ready now (R204, R209). -/
def State.makeBlock (s : State) (p : Port) (j : Nat) : Block :=
  let q := (s.port p).queue
  let m := nextIndex q j
  let bg := s.blockGauges p
  let n := s.blockSamples p
  let pos := s.blockPos p j m
  let first := j * bg
  let gauges := s.columnGauges p j
  let xs := q.samples.filter (fun x => first ≤ x.gauge ∧ x.gauge < first + gauges ∧ pos ≤ x.pos ∧ (x.pos : Int) < pos + n)
  let cells := (List.range bg).flatMap (fun i => (List.range n).map (fun (k : Nat) =>
    if i < gauges then sampleAt xs (first + i) (pos + (k : Int)) else (0, (0x80 : Byte))))
  let used := (cells.take (gauges * n))
  let single := s.singleMode p
  let ready := s.tb
  let deadline := if single then ready + 10 * msNs
    else ready + divOpen (n * s.frame p * 10) (max 1 (slotCount (s.slotMask p)))
  { column := j, index := m, pos := pos, tFirst := toBits 64 (s.posTime p pos), tReady := ready,
    tCutoff := deadline + (if single then 10 * msNs else 20 * s.frame p), deadline := deadline, gauges := gauges,
    firstGauge := first, samples := n, rows := bg, hasGap := used.any (fun c => c.2 &&& 0x80 ≠ 0), first := m = 0,
    gridPs := s.gridPs p, phase := cells.map (·.1), quality := cells.map (·.2), mode := .ready, era := q.era,
    restart := false }

/-- Last grid position of a block. -/
def Block.last (b : Block) : Int := b.pos + b.samples - 1

/-- The order of the output sequencer: last grid position, then column (R210). -/
def Block.before (a b : Block) : Bool :=
  if a.era ≠ b.era then a.era < b.era else a.last < b.last || (a.last = b.last && a.column ≤ b.column)

/-- Put a block into its place. -/
def insertBlock (b : Block) : List Block → List Block
  | [] => [b]
  | x :: xs => if x.before b then x :: insertBlock b xs else b :: x :: xs

/-- A block that waits untaken. -/
def isReady (b : Block) : Bool :=
  match b.mode with
  | .ready => true
  | .taken _ | .committed _ | .gap _ => false

/-- A block that neither committed nor passed its cut-off. -/
def isOpen (b : Block) : Bool :=
  match b.mode with
  | .ready | .taken _ => true
  | .committed _ | .gap _ => false

/-- Change the blocks a test picks. -/
def mapBlocks (f : Block → Block) (q : QueueSt) : QueueSt := { q with blocks := q.blocks.map f }

/-- The counter of a cause of MK_GAP (R218). -/
def gapCtr : GapCause → Ctr
  | .late => Ctr.cloveStats_gapLate
  | .engineFault => Ctr.cloveStats_gapFault
  | .queueFull => Ctr.cloveStats_gapQueue
  | .noEngine => Ctr.cloveStats_gapNoeng

def gapCode : GapCause → Nat
  | .late => 1
  | .engineFault => 2
  | .queueFull => 3
  | .noEngine => 4

/-- Until when the blocks of a column of an era wait: the cut-offs of its blocks that ended as gaps before them (R206). -/
def QueueSt.waitOf (q : QueueSt) (era column : Nat) : Nat :=
  ((q.waitUntil.filter (fun w => w.1 = era && w.2.1 = column)).map (·.2.2)).foldl max 0

/-- Put MK_GAP in a block's place (R209); the next block of its column waits for the cut-off all the same (R206). -/
def State.gapBlock (s : State) (p : Port) (b : Block) (c : GapCause) : State :=
  let s1 := s.setQueue p (mapBlocks (fun x =>
    if x.era = b.era ∧ x.column = b.column ∧ x.index = b.index then { x with mode := .gap c } else x))
  (s1.setQueue p (fun q =>
    { q with waitUntil := q.waitUntil.filter (fun w => s.tb < w.2.2) ++ [(b.era, b.column, b.tCutoff)] })).count (gapCtr c) p.val 1

/-- The earliest cut-off among some blocks: lower column on ties. -/
def earliest : List Block → Option Block
  | [] => none
  | b :: bs =>
    match earliest bs with
    | none => some b
    | some c =>
      if b.tCutoff < c.tCutoff then some b
      else if c.tCutoff < b.tCutoff then some c
      else if b.column ≤ c.column then some b else some c

/-- Blocks in order leave the queue when no earlier one is open and none that is still filling comes before (R210). -/
def State.releasable (s : State) (p : Port) (b : Block) : Bool :=
  let q := (s.port p).queue
  !isOpen b && (!q.taking || b.era ≠ q.era ||
    (List.range (s.columns p)).all (fun j =>
      let last := s.blockPos p j (nextIndex q j) + s.blockSamples p - 1
      b.last < last || (b.last = last && b.column ≤ j)))

/-- The output sequencer moves what it can from the front of the queue. -/
def State.releaseBlocks (p : Port) : Nat → State → State
  | 0, s => s
  | fuel + 1, s =>
    match (s.port p).queue.blocks with
    | [] => s
    | b :: bs =>
      if s.releasable p b then
        State.releaseBlocks p fuel (s.setQueue p (fun q =>
          { q with blocks := bs, released := q.released ++ [b], recent := q.recent ++ [b] }))
      else s

def State.release (s : State) (p : Port) : State :=
  (State.releaseBlocks p (s.port p).queue.blocks.length s).forgetBlocks p

/-- A filling block of a column joins the ready blocks; with READY_BLOCKS waiting already the one with the earliest
cut-off is dropped (R211). -/
def State.blockJoins (s : State) (p : Port) (j : Nat) : State :=
  let b := s.makeBlock p j
  let waiting := (s.port p).queue.blocks.filter isReady
  let s1 :=
    if s.fld Fld.clovePort_readyBlocks p.val ≤ waiting.length then
      match earliest waiting with
      | some d => s.gapBlock p d .queueFull
      | none => s
    else s
  (s1.setQueue p (fun q =>
    { q with blocks := insertBlock b q.blocks, nextBlock := listSet q.nextBlock j (nextIndex q j + 1),
             samples := q.samples.filter (fun x =>
               !(b.firstGauge ≤ x.gauge && x.gauge < b.firstGauge + b.gauges && (x.pos : Int) ≤ b.last)) })).release p

/-- A port's queue starts: counting begins again (R201, R205). -/
def State.queueStart (s : State) (p : Port) : State :=
  let j := s.columns p
  s.setQueue p (fun q =>
    { q with samples := [], nextBlock := List.replicate j 0, era := q.era + 1, taking := true,
             state := (List.range j).map (fun i => (none, (q.state.getD i (none, [])).2)) })

/-- The blocks of a column that have begun join one after the other. -/
def State.closeColumn (p : Port) (j : Nat) : Nat → State → State
  | 0, s => s
  | fuel + 1, s =>
    if s.blockPos p j (nextIndex (s.port p).queue j) < (s.port p).seq.gridPos then State.closeColumn p j fuel (s.blockJoins p j)
    else s

/-- A port's output stops: every block that has begun and is not ready is closed (R205). (DEDUCED, log 48) -/
def State.queueStop (s : State) (p : Port) : State :=
  if !(s.port p).queue.taking then s
  else
    let s1 := s.setQueue p (fun q => { q with taking := false })
    (List.range (s.columns p)).foldl (fun t j =>
      let begun := ((t.port p).seq.gridPos - t.blockPos p j (nextIndex (t.port p).queue j)).toNat
      State.closeColumn p j (ceilDiv begun (s.blockSamples p)) t) s1

/-! ## Programs (R214 to R216) -/

/-- Program memory above the dispatch stub, programs in slot order: base address of a slot (DESIGN CHOICE, log 20). -/
def codeBase (ps : Tab Program) (slot : Nat) : Nat :=
  4096 + ((ps.filter (fun e => e.1 < slot)).map (fun e => e.2.code.length)).foldl (· + ·) 0

/-- Program memory that holds the programs of a table. (DESIGN CHOICE, log 20) -/
def programMemory (ps : Tab Program) : Memory :=
  ps.foldl (fun m e => memWriteAll blankByte m (codeBase ps e.1) e.2.code) []

/-- Code of all programs. (DESIGN CHOICE, log 20) -/
def codeTotal (ps : Tab Program) : Nat := (ps.map (fun e => e.2.code.length)).foldl (· + ·) 0

/-- The programs an engine finds at its block boundary: the table and the one being loaded. (DEDUCED, log 67) -/
def State.programsNow (s : State) : Tab Program :=
  match s.clove.load with
  | some (_, slot, prog, _) => Tab.put s.clove.programs slot prog
  | none => s.clove.programs

/-- A program is loaded into a slot: once every slot that bank 6 has lost is filled again, the bank serves (R431).
(DEDUCED, log 139) -/
def PowerSt.slotLoaded (w : PowerSt) (slot : Nat) : PowerSt :=
  let left := w.lostSlots.filter (· ≠ slot)
  { w with lostSlots := left, funcOff := if left = [] then w.funcOff &&& 0xBF else w.funcOff }

/-- LOAD_PROGRAM completes when every engine that is not OFFLINE holds its program (R216, R431). (DEDUCED, log 139) -/
def State.loadDone (s : State) : State :=
  match s.clove.load with
  | none => s
  | some (rq, slot, prog, held) =>
    if allEngines.all (fun x => held.contains x.val || (s.engine x).mode = .offline) then
      ((s.setClove (fun c => { c with load := none, programs := Tab.put c.programs slot prog })).setPower
        (fun w => w.slotLoaded slot)).complete rq .ok
    else s

/-- A program being loaded replaces that of an engine's slot: its constants are copied again. -/
def keptProgram (load : Option (Req × Nat × Program × List Nat)) (held : Option Nat) : Option Nat :=
  match load with
  | some (_, slot, _, _) => if held = some slot then none else held
  | none => held

/-- At an engine's block boundary the cluster copies the code into it (R216). (DEDUCED, log 67) -/
def State.engineBoundary (s : State) (e : EngineId) : State :=
  let ps := s.programsNow
  let s1 := s.setEngine e (fun x =>
    { x with pmem := programMemory ps, holds := ps.map (·.1),
             lastProgram := if (s.clove.load.map (fun l => l.2.2.2.contains e.val)) = some true then x.lastProgram
               else keptProgram s.clove.load x.lastProgram })
  (s1.setClove (fun c =>
    { c with load := c.load.map (fun l =>
        (l.1, l.2.1, l.2.2.1, if l.2.2.2.contains e.val then l.2.2.2 else l.2.2.2 ++ [e.val])) })).loadDone

/-- An engine that runs no block is at a block boundary. -/
def engineFree (x : EngineSt) : Bool :=
  match x.mode with
  | .idle | .offline => true
  | .copying .. | .running .. => false

/-- The programs have changed: engines that run no block take the code at once. (DEDUCED, log 67) -/
def State.relayEngines (s : State) : State :=
  allEngines.foldl (fun t e =>
    match (t.engine e).mode with
    | .idle => t.engineBoundary e
    | .offline | .copying .. | .running .. => t) s

/-- LOAD_PROGRAM begins: engines that run no block take the code at once. (DEDUCED, log 67) -/
def State.loadBegin (s : State) (rq : Req) (slot : Nat) (prog : Program) : State :=
  (s.setClove (fun c => { c with load := some (rq, slot, prog, []) })).relayEngines.loadDone

/-! ## Engines (R207, R208, R213) -/

/-- ENGINE_EN of an engine. -/
def State.engineEnabled (s : State) (e : EngineId) : Bool :=
  (s.fld Fld.cloveCluster_engineEn (clusterOf e).val).testBit (e.val % 4)

/-- An engine that would take a block: idle, enabled, its cluster not HOT. -/
def State.engineIdle (s : State) (e : EngineId) : Bool :=
  (s.engine e).mode = .idle && s.engineEnabled e && !(s.cluster (clusterOf e)).hot

/-- The eligible blocks of a queue: ready, and every earlier block of the column settled (R206). -/
def eligible : List Block → List Nat → List Block
  | [], _ => []
  | b :: bs, blocked =>
    if isOpen b then
      if isReady b && !blocked.contains b.column then b :: eligible bs (b.column :: blocked)
      else eligible bs (b.column :: blocked)
    else eligible bs blocked

/-- The eligible blocks of a port: a column whose last block ended as a gap waits for that block's cut-off (R206). -/
def State.eligibleOf (s : State) (p : Port) : List Block :=
  let q := (s.port p).queue
  (eligible q.blocks []).filter (fun b => decide (q.waitOf b.era b.column ≤ s.tb))

/-- The block of some queues with the earliest cut-off: lower port, then lower column on ties (R207). -/
def State.earliestOf (s : State) : List Port → Option (Port × Block)
  | [] => none
  | p :: ps =>
    match earliest (s.eligibleOf p), s.earliestOf ps with
    | some b, some (q, c) => if c.tCutoff < b.tCutoff then some (q, c) else some (p, b)
    | some b, none => some (p, b)
    | none, r => r

/-- An idle engine of a cluster asks other clusters for work: its own queue has none and TAKE_EN is 1. -/
def State.asksRemote (s : State) (c : Port) : Bool :=
  s.flag Fld.cloveCluster_takeEn c.val && (s.earliestOf [c]).isNone && allEngines.any (fun x => clusterOf x = c && s.engineIdle x)

/-- The cluster whose remote request is served next: the first that asks, after the one served last (R207).
(DEDUCED, log 181) -/
def State.remoteTurn (s : State) : Option Port :=
  ((List.range 8).map (fun i => (⟨(s.clove.lastRemote.val + 1 + i) % 8, by omega⟩ : Port))).find? s.asksRemote

/-- The block that an idle engine is granted. -/
def State.grantOf (s : State) (e : EngineId) : Option (Port × Block) :=
  let own := clusterOf e
  match s.earliestOf [own] with
  | some x => some x
  | none =>
    if s.remoteTurn = some own then
      s.earliestOf (allPorts.filter (fun c =>
        c ≠ own && s.flag Fld.cloveCluster_lendEn c.val && !allEngines.any (fun x => clusterOf x = c && s.engineIdle x)))
    else none

/-- The block an engine has taken. -/
def State.takenBy (s : State) (e : EngineId) (p : Port) (j m : Nat) : Option Block :=
  (s.port p).queue.blocks.find? (fun b => b.mode = .taken e && b.column = j && b.index = m)

/-- Spans within the last second, with a new one. (DEDUCED, log 65) -/
def busyAdd (now since : Nat) (xs : List (Nat × Nat)) : List (Nat × Nat) :=
  (xs.filter (fun x => now ≤ x.2 + secNs)) ++ [(since, now)]

/-- An engine's block ends: it is idle and at a block boundary. -/
def State.engineIdles (s : State) (e : EngineId) (dest : EngineMode) : State :=
  let since := (s.engine e).busySince
  let s1 := (s.setCluster (clusterOf e) (fun c => { c with busy := busyAdd s.clk since c.busy })).setEngine e
    (fun x => { x with mode := dest })
  s1.engineBoundary e

/-- Registers of an engine after a reset and at a program's start (R198; the others keep what they hold).
(DESIGN CHOICE, log 8) -/
def engineStart (x : EngineSt) : EngineSt :=
  { x with ar := ((x.ar.set 0 0x00000).set 1 0x10000).set 2 0x14000, of := Vector.replicate 8 0,
           cl := Vector.replicate 8 0, bexp := 0, rc := 0, beyond := false }

/-- Causes of an engine fault (R213). -/
def faultR197 : Nat := 0
def faultLength : Nat := 1
def faultWatchdog : Nat := 2

/-- An engine fault: the block is discarded, the engine reset, and after three within 10 s OFFLINE (R213).
(DESIGN CHOICE, log 17) -/
def State.engineFault (s : State) (e : EngineId) (cause : Nat) : State :=
  let x := s.engine e
  let c := clusterOf e
  let recent := (x.faults.filter (fun t => s.clk ≤ t + 10 * secNs)) ++ [s.clk]
  let off := 3 ≤ recent.length
  let s1 := match x.mode with
    | .running p j m | .copying p j m =>
      match s.takenBy e p j m with
      | some b => (s.gapBlock p b (if b.tCutoff ≤ s.tb then .late else .engineFault)).release p
      | none => s
    | .idle | .offline => s
  let s2 := s1.setEngine e (fun y =>
    { EngineSt.reset with pmem := y.pmem, holds := y.holds, dmem := y.dmem, lastProgram := none, cycles := y.cycles,
                          faults := if off then [] else recent, busySince := y.busySince, mode := y.mode })
  let s3 := s2.engineIdles e (if off then .offline else .idle)
  let s4 := (s3.count Ctr.cloveClusterStats_engineFaults c.val 1).countIf Ctr.cloveClusterStats_offlineEvents c.val off
  s4.event evEngineFault c.val (e.val % 4) [(Config.engineFaultCode cause).toNat, x.pc.toNat]

/-! ## What an engine runs (R219, R223) -/

/-- The word at the program counter. (DEDUCED, log 18) -/
def fetchWord (x : EngineSt) : Nat := leNat (memReadAll blankByte x.pmem x.pc.toNat 4)

/-- Before an instruction has its effect: where it does not branch, the next one lies beyond program memory after its last
word. (DEDUCED, log 18) -/
def ahead (x : EngineSt) : EngineSt := { x with beyond := decide (65536 ≤ x.pc.toNat + 4) }

/-- After an instruction: PC advances, or stands at the target where the instruction branched, cycles count, a repeat ends.
(DEDUCED, log 18) -/
def retire (x : EngineSt) (cycles : Nat) : EngineSt := { x with pc := x.pc + 4, cycles := x.cycles + cycles, rc := 0 }

/-- PC at or beyond the end of the loaded code, or not at a word: an engine fault when fetched (R197, R219, R228). -/
def offCode (x : EngineSt) : Bool := x.beyond || x.codeEnd ≤ x.pc.toNat || x.pc.toNat % 4 ≠ 0

def isRunning (x : EngineSt) : Bool :=
  match x.mode with
  | .running .. => true
  | .idle | .copying .. | .offline => false

/-- An engine runs a program, and its cluster has its clock (R425). -/
def State.engineRuns (s : State) (e : EngineId) : Bool := s.clocked && isRunning (s.engine e)

/-- The engine runs an instruction it fetches: the word carries the given fields. An instruction after REP runs RC times
if it may follow REP, and is an undefined opcode if not. `first` comes before the first time. -/
def State.cloveRun (s : State) (e : EngineId) (fs : List WordField) (mayRepeat : Bool) (cycles : Nat)
    (first : EngineSt → EngineSt) (f : EngineSt → Option EngineSt) : State :=
  let x := s.engine e
  if !s.engineRuns e then s
  else if offCode x then s.engineFault e faultR197
  else if !wordFits (fetchWord x) fs then s
  else if undefinedWord (fetchWord x) then s.engineFault e faultR197
  else if x.rc ≠ 0 ∧ mayRepeat = false then s.engineFault e faultR197
  else
    let n := max 1 x.rc.toNat
    match repeatOp f n (first (ahead x)) with
    | some y => s.setEngine e (fun _ => retire y (n * cycles))
    | none => s.engineFault e faultR197

/-- An instruction with nothing to do before its first time. -/
def State.cloveOp (s : State) (e : EngineId) (fs : List WordField) (mayRepeat : Bool) (cycles : Nat)
    (f : EngineSt → Option EngineSt) : State :=
  s.cloveRun e fs mayRepeat cycles id f

/-- An instruction that cannot fault and may not follow REP. -/
def State.clovePlain (s : State) (e : EngineId) (fs : List WordField) (cycles : Nat) (f : EngineSt → EngineSt) : State :=
  s.cloveOp e fs false cycles (fun x => some (f x))

/-- A branch target: the next instruction and a signed offset in words. -/
def branchTo (x : EngineSt) (off : BitVec 22) : Int := x.pc.toNat + 4 + 4 * off.toInt

/-- PC after a branch, less the 4 that `retire` adds. A target outside program memory faults when it is fetched (R228).
(DEDUCED, log 18) -/
def jump (x : EngineSt) (target : Int) : EngineSt :=
  { x with pc := BitVec.ofInt 16 (target - 4), beyond := target < 0 || 65536 ≤ target }

/-! ## Copy and commit (R198, R204, R206) -/

/-- The bytes of a block's header. -/
def blockHeader (p : Port) (b : Block) (zones : Nat) : List Byte :=
  leBytes 2 1 ++ leBytes 1 p.val
    ++ leBytes 1 (bitNat b.restart + 2 * bitNat (b.gauges < b.rows) + 4 * bitNat b.hasGap + 8 * bitNat b.first)
    ++ leBytes 2 b.column ++ leBytes 2 b.gauges ++ leBytes 4 b.firstGauge ++ leBytes 2 b.samples ++ leBytes 2 b.rows
    ++ leBytes 8 (toBits 64 b.pos) ++ leBytes 8 b.tFirst ++ leBytes 4 b.gridPs ++ leBytes 4 b.index ++ leBytes 8 b.tReady
    ++ leBytes 8 b.tCutoff ++ leBytes 2 zones ++ leBytes 1 p.val ++ zeros 5

/-- The enabled vibration zones of a port that have a gauge in a block. -/
def State.blockZones (s : State) (p : Port) (first n : Nat) : List ZoneId :=
  (s.zonesOf p).filter (fun z =>
    !s.zoneTemp z &&
    let x := s.zoneGeom z
    (s.zoneGauges z).any (fun g =>
      (List.range x.k).any (fun i => let y := g + i * x.g / max 1 x.p; first ≤ y && y < first + n)))

/-- Block, state, zone entries and constants in the engine, after the code that waits for its block boundary; its program
starts. -/
def State.copyBlock (s0 : State) (e : EngineId) (p : Port) (b : Block) : State :=
  let s := s0.engineBoundary e
  let slot := s.fld Fld.clovePort_program p.val
  match Tab.find? s.programsNow slot with
  | none => s.engineFault e faultR197
  | some prog =>
    let zs := s.blockZones p b.firstGauge b.gauges
    let entry (z : ZoneId) : List Byte := leBytes 64 (s.cfgNum zoneBlock z.val)
    let state := ((s.port p).queue.state.getD b.column (none, [])).2
    let x := s.engine e
    let m0 := if x.lastProgram = some slot then x.dmem else memWriteAll blankByte x.dmem 0x18000 prog.constants
    let m1 := memWriteAll blankByte m0 0 (blockHeader p b zs.length ++ b.phase.flatMap (fun h => leBytes 2 h.toNat) ++ b.quality)
    let m2 := memWriteAll blankByte m1 0x10000 (bytesAt state 0 prog.stateBytes)
    let m3 := memWriteAll blankByte m2 0x12000 ((zs.take 128).flatMap entry)
    let base := codeBase s.programsNow slot
    s.setEngine e (fun y =>
      { engineStart y with dmem := m3, mode := .running p b.column b.index, pc := BitVec.ofNat 16 (base + prog.entry),
                           codeEnd := base + prog.code.length, lastProgram := some slot, cutoff := b.tCutoff })

/-- DONE: results and state commit if the cut-off has not come (R198, R206, R209). (DEDUCED, log 66) -/
def State.commitBlock (s : State) (e : EngineId) (p : Port) (j m : Nat) : State :=
  let x := s.engine e
  let len := ((x.ar[2].toNat : Int) - 0x14000)
  if len < 0 ∨ 16384 < len then s.engineFault e faultLength
  else
    let done (t : State) : State := t.engineIdles e .idle
    match s.takenBy e p j m with
    | none => done (s.count Ctr.cloveStats_discarded p.val 1)
    | some b =>
      if b.tCutoff ≤ s.tb then done (s.count Ctr.cloveStats_discarded p.val 1)
      else
        let results := memReadAll blankByte x.dmem 0x14000 len.toNat
        let bytes := match Tab.find? s.programsNow (s.fld Fld.clovePort_program p.val) with
          | some prog => memReadAll blankByte x.dmem 0x10000 prog.stateBytes
          | none => []
        let s1 := s.setQueue p (fun q =>
          { (mapBlocks (fun y => if y.mode = .taken e ∧ y.column = j ∧ y.index = m then { y with mode := .committed results } else y) q)
            with state := listSet q.state j (some m, bytes) })
        let s2 := ((s1.count Ctr.cloveStats_blocks p.val 1).countIf Ctr.cloveStats_remote p.val (clusterOf e != p)).countIf
          Ctr.cloveStats_late p.val (b.deadline < s.tb)
        done (s2.release p)

/-! ## Records of released blocks (R265, R268) -/

/-- FLAGS of a block's header. -/
def blockFlags (b : Block) : Nat :=
  bitNat b.restart + 2 * bitNat (b.gauges < b.rows) + 4 * bitNat b.hasGap + 8 * bitNat b.first

/-- Sub-header of PHASE_DATA and BAND_DATA. -/
def dataHeader (b : Block) (bands plain : Nat) : List Byte :=
  leBytes 2 b.column ++ leBytes 2 b.gauges ++ leBytes 4 b.firstGauge ++ leBytes 8 (toBits 64 b.pos) ++ leBytes 8 b.tFirst
    ++ leBytes 2 b.samples ++ leBytes 1 (blockFlags b) ++ leBytes 1 bands ++ leBytes 4 plain

/-- The data of PHASE_DATA: the planes of the valid gauges. -/
def phaseData (b : Block) : List Byte :=
  (b.phase.take (b.gauges * b.samples)).flatMap (fun h => leBytes 2 h.toNat) ++ pad4 (b.quality.take (b.gauges * b.samples))

/-- The data of BAND_DATA: the level of each gauge and band (R268). -/
def bandData (levels : List Half) : List Byte := pad4 (levels.flatMap (fun h => leBytes 2 h.toNat))

/-- A data record for a stream: through the codec where CODEC is 1, else into its queue (R271, R311, R312). -/
def State.streamData (s : State) (i typ : Nat) (sub data : List Byte) (refDist : Nat) : State :=
  if s.flag Fld.stream_codec i then
    { s with sumac := { s.sumac with
        streamJobs := s.sumac.streamJobs ++ [(i, ⟨typ, s.sourceByte i, 1, 0, i, sub ++ data⟩, refDist, sub.length, false)] } }
  else s.pushData i typ 0 (sub ++ data)

/-- The records of a released block enter the streams and rings of its port: data, or MK_GAP in its place. -/
def State.enqueueBlock (s : State) (p : Port) (b : Block) : State :=
  let t1 := (s.posTime p b.last).toNat
  match b.mode with
  | .gap c =>
    let m : Mark := ⟨mkGap, b.pos, 0, 0xFFFF, gapCode c, 0, b.firstGauge, b.gauges + 65536 * b.samples⟩
    [RingKind.phase, .band].foldl (fun t k => t.pushRing p k mkGap (markPayload t.tb m) b.tFirst t1)
      (s.markStreams p [clsPhase, clsBand] m)
  | .ready | .taken _ => s
  | .committed _ =>
    let data := phaseData b
    let sub := dataHeader b 0 data.length
    let s1 := (s.streamsOf clsPhase p.val).foldl (fun t i => t.streamData i typPhase sub data b.samples) s
    let s2 := (s1.streamsOf clsBand p.val).foldl (fun t i =>
      let set := t.fld Fld.stream_bandSet i
      let bands := t.fld Fld.bandSet_bands set
      let d := bandData (t.bandLevels p set b)
      t.streamData i typBand (dataHeader b bands d.length) d bands) s1
    let s3 := s2.pushRingData p .phase typPhase (sub ++ data) b.tFirst t1
    let set := s.fld Fld.ring_bandSet p.val
    let bands := s.fld Fld.bandSet_bands set
    let d := bandData (s.bandLevels p set b)
    s3.pushRingData p .band typBand (dataHeader b bands d.length ++ d) b.tFirst t1

/-- RAW_DATA of a port: samples of both converters from a time on (R269). -/
def State.enqueueRaw (s : State) (p : Port) (tFirst : Nat) (xs ys : List Half) : State :=
  let sub := leBytes 8 tFirst ++ leBytes 4 xs.length ++ leBytes 1 (s.fld Fld.rxCfg_align p.val)
    ++ leBytes 1 (s.fld Fld.rxCfg_rawTag p.val) ++ zeros 18
  let data := xs.flatMap (fun h => leBytes 2 h.toNat) ++ (bytesAt (ys.flatMap (fun h => leBytes 2 h.toNat)) 0 (2 * xs.length))
  let s1 := (s.streamsOf clsRaw p.val).foldl (fun t i => t.streamData i typRaw sub data 0) s
  s1.pushRingData p .raw typRaw (sub ++ data) tFirst (tFirst + xs.length)

/-- The raw words of a port that wait fill RAW_DATA records, each up to the next multiple of 32,768 ns (R269). -/
def State.rawFill (p : Port) : Nat → State → State
  | 0, s => s
  | fuel + 1, s =>
    match (s.port p).rx.raw with
    | none => s
    | some (t, xs, ys) =>
      let n := 32768 - t % 32768
      if xs.length < n then s
      else
        State.rawFill p fuel ((s.enqueueRaw p t (xs.take n) (ys.take n)).setRx p (fun x =>
          { x with raw := some (t + n, xs.drop n, ys.drop n) }))

/-- A port begins to run: its raw words begin (R269). -/
def State.rawStart (s : State) (p : Port) : State := s.setRx p (fun x => { x with raw := some (s.tb, [], []) })

/-- A port stops running: its last record holds what waits (R269). -/
def State.rawEnd (s : State) (p : Port) : State :=
  match (s.port p).rx.raw with
  | none => s
  | some (t, xs, ys) => (if xs = [] then s else s.enqueueRaw p t xs ys).setRx p (fun x => { x with raw := none })

/-- Raw words of both converters join what waits: they follow it without a gap, those it has already left out. -/
def State.rawJoin (s : State) (p : Port) (tFirst : Nat) (xs ys : List Half) : State :=
  match (s.port p).rx.raw with
  | none => s
  | some (t, us, vs) =>
    let next := t + us.length
    if next < tFirst then s
    else
      let k := next - tFirst
      let s1 := s.setRx p (fun x => { x with raw := some (t, us ++ xs.drop k, vs ++ ys.drop k) })
      State.rawFill p (xs.length / 32768 + 1) s1

/-! ## The pool (R202) -/

/-- Rows of samples in whole groups of four. -/
def rowGroups (n : Nat) : Nat := 4 * ceilDiv n 4

/-- An engine that copies a block still needs its rows. -/
def holdsRows (b : Block) (engines : EngineId → EngineMode) : Bool :=
  match b.mode with
  | .ready => true
  | .taken e => (match engines e with | .copying .. => true | .idle | .running .. | .offline => false)
  | .committed _ | .gap _ => false

/-- Rows of the pool in use: the filling block of each column, and each block until its copy into an engine completes (R202). -/
def State.poolRows (s : State) (p : Port) : Nat :=
  let q := (s.port p).queue
  let filling := (List.range (s.columns p)).map (fun j =>
    rowGroups ((s.firstAbsent p : Int) - max 0 (s.blockPos p j (nextIndex q j))).toNat)
  let held := (q.blocks.filter (fun b => holdsRows b (fun e => (s.engine e).mode))).map (fun b => rowGroups b.samples)
  (if q.taking then filling.foldl (· + ·) 0 else 0) + held.foldl (· + ·) 0

/-! ## Thermal throttling (R212) -/

/-- The clock a cluster runs at: the slower of its sensor's step and CLOCK_MAX. -/
def State.clusterClock (s : State) (c : Port) : Nat := max (s.cluster c).step (s.fld Fld.cloveCluster_clockMax c.val)

/-- EV_CLOVE_THROTTLE where the clock differs from what it was. -/
def State.throttleNote (s : State) (c : Port) (old : Nat) : State :=
  if s.clusterClock c = old then s
  else (s.event evCloveThrottle c.val noUnit [s.clusterClock c]).count Ctr.cloveClusterStats_throttleChanges c.val 1

/-- A sample of a cluster's sensor, 0.1 °C. (DEDUCED, log 64) -/
def clusterSample (t : Int) (x : ClusterSt) : ClusterSt :=
  let a95 := if 950 < t then x.above95 + 1 else 0
  let a100 := if 1000 < t then x.above100 + 1 else 0
  let a105 := if 1050 < t then x.above105 + 1 else 0
  let up := max x.step (if 10 ≤ a100 ∨ 1 ≤ a105 then 2 else if 10 ≤ a95 then 1 else 0)
  let hot := x.hot || 1 ≤ a105
  let limit : Int := if hot then 1020 else if up = 2 then 970 else 920
  let below := if t ≤ limit ∧ up = x.step ∧ hot = x.hot then x.below + 1 else 0
  let drop := 100 ≤ below ∧ (hot ∨ up ≠ 0)
  { x with temp := t, above95 := a95, above100 := a100, above105 := a105, hot := if drop then false else hot,
           step := if drop ∧ ¬ hot then up - 1 else up, below := if drop then 0 else below }

/-! ## The commands of the queues and engines -/

/-- The last sample of a column's next block is usable in the cluster: its position has gone by, and 153 ns have passed since
the end of its last gauge's last bin at the balls (R167, R201). (DEDUCED, log 48) -/
def State.blockUsable (s : State) (p : Port) (j : Nat) : Bool :=
  let q := (s.port p).queue
  let last := s.blockPos p j (nextIndex q j) + s.blockSamples p - 1
  let bins := (j * s.blockGauges p + s.columnGauges p j) * s.fld Fld.gaugeCfg_pitch p.val
  let late := s.dRxNs p + 10 * bins + 153
  decide (last < s.firstAbsent p) && decide (s.posTime p last + late ≤ s.tb)
    && (s.port p).seq.frames.all (fun f => f.era ≠ q.era || (f.pos : Int) ≠ last || decide (f.start + late ≤ s.tb))

/-- BLOCK_READY (R201, R211). -/
def blockReady (dt : Nat) (p : Port) (j : Nat) (s0 : State) : State :=
  let s := s0.elapse dt
  if s.clocked && (s.port p).queue.taking && decide (j < s.columns p) && s.blockUsable p j then s.blockJoins p j else s

/-- ENGINE_REQUEST (R207). -/
def engineRequest (dt : Nat) (e : EngineId) (s0 : State) : State :=
  let s := s0.elapse dt
  if !s.clocked || !s.engineIdle e then s
  else
    match s.grantOf e with
    | none => s
    | some (p, b) =>
      let s1 := if p = clusterOf e then s else s.setClove (fun c => { c with lastRemote := clusterOf e })
      (s1.setQueue p (mapBlocks (fun x =>
        if x.era = b.era ∧ x.column = b.column ∧ x.index = b.index then { x with mode := .taken e } else x))).setEngine e
        (fun x => { x with mode := .copying p b.column b.index, busySince := s.clk })

/-- BLOCK_COPIED (R204, R208). -/
def blockCopied (dt : Nat) (e : EngineId) (s0 : State) : State :=
  let s := s0.elapse dt
  match (s.engine e).mode with
  | .copying p j m =>
    match (s.port p).queue.blocks.find? (fun b => s.clocked && b.column = j && b.index = m && (b.mode = .taken e)) with
    | some b =>
      let from_ := ((s.port p).queue.state.getD j (none, [])).1
      let restart := b.first || from_ ≠ some (m - 1)
      let b1 := { b with restart := restart }
      (s.setQueue p (mapBlocks (fun x => if x.mode = .taken e ∧ x.column = j ∧ x.index = m then b1 else x))).copyBlock e p b1
    | none => if s.clocked then s.engineIdles e .idle else s
  | .idle | .running .. | .offline => s

/-- BLOCK_CUTOFF: an open block of a column has passed its cut-off (R209). (DEDUCED, log 66) -/
def blockCutoff (dt : Nat) (p : Port) (j : Nat) (s0 : State) : State :=
  let s := s0.elapse dt
  match (s.port p).queue.blocks.find? (fun b => s.clocked && b.column = j && isOpen b && decide (b.tCutoff ≤ s.tb)) with
  | none => s
  | some b => (s.gapBlock p b (if isReady b then .noEngine else .late)).release p

/-- ENGINE_WATCHDOG: a block still runs WATCHDOG after its cut-off (R213); its place is settled already. -/
def engineWatchdog (dt : Nat) (e : EngineId) (s0 : State) : State :=
  let s := s0.elapse dt
  let x := s.engine e
  if s.engineRuns e && x.cutoff + s.fld Fld.cloveCfg_watchdog 0 * msNs ≤ s.tb then s.engineFault e faultWatchdog else s

/-- CLUSTER_TEMP_SAMPLE (R212). (DEDUCED, log 64) -/
def clusterTempSample (dt : Nat) (c : Port) (t : Int) (s0 : State) : State :=
  let s := s0.elapse dt
  (s.setCluster c (clusterSample t)).throttleNote c (s.clusterClock c)

/-- UNDEFINED_OPCODE: the engine fetches an undefined opcode, or beyond its code (R197, R223). -/
def undefinedOpcode (e : EngineId) (s : State) : State :=
  let x := s.engine e
  if s.engineRuns e && (offCode x || undefinedWord (fetchWord x) || (x.rc ≠ 0 && notAfterRep (fetchWord x))) then
    s.engineFault e faultR197
  else s

/-- DONE (R206, R228). -/
def cloveDone (e : EngineId) (s : State) : State :=
  let x := s.engine e
  match x.mode with
  | .running p j m =>
    if !s.clocked then s
    else if offCode x then s.engineFault e faultR197
    else if !wordFits (fetchWord x) (encC0 0x01) then s
    else if x.rc ≠ 0 then s.engineFault e faultR197
    else (s.setEngine e (fun y => { y with cycles := y.cycles + 1, pc := y.pc + 4 })).commitBlock e p j m
  | .idle | .copying .. | .offline => s

/-- REP (R199, R228). -/
def cloveRep (e : EngineId) (n : BitVec 16) (s : State) : State :=
  let x := s.engine e
  if !s.engineRuns e then s
  else if offCode x then s.engineFault e faultR197
  else if !wordFits (fetchWord x) [(26, 6, 0x02), (16, 10, 0), (0, 16, n.toNat)] then s
  else if x.rc ≠ 0 then s.engineFault e faultR197
  else s.setEngine e (fun y => { retire (ahead y) 1 with rc := BitVec.ofNat 17 (n.toNat + 1) })

end Sys2Proof.Machine
end

