-- ==== Sys2Proof/Machine/CalCore.lean ====
section
/-! DEFINITION. What the rest of the machine asks of calibration: steps in progress, holds, and how a step of a port is
aborted (R412 to R422). -/

namespace Sys2Proof.Machine

/-- EV_ codes of calibration (R424). -/
def evCalStart : Nat := 0x0191
def evCalDone : Nat := 0x0192
def evCalLimit : Nat := 0x0193

/-- Bit number of a step (R412). -/
def stepIx : CalStep → Fin 4
  | .ref => 0
  | .skew => 1
  | .conv => 2
  | .raman => 3

/-- Code of a step outcome (R413). -/
def outcomeCode : CalOutcome → Nat
  | .notRun => 0
  | .done => 1
  | .limits => 2
  | .aborted => 3
  | .notPossible => 4

def State.setCal (s : State) (f : CalSt → CalSt) : State := { s with cal := f s.cal }
def State.calPort (s : State) (p : Port) : CalPortSt := s.cal.ports[p]
def State.setCalPort (s : State) (p : Port) (f : CalPortSt → CalPortSt) : State :=
  s.setCal (fun c => { c with ports := vmod c.ports p f })

/-- Change the run in progress. -/
def State.setRun (s : State) (f : CalRun → CalRun) : State := s.setCal (fun c => { c with run := c.run.map f })

/-- A step runs on a port. -/
def State.calOn (s : State) (st : CalStep) (p : Port) : Bool :=
  match s.cal.run with
  | some r =>
    match r.now with
    | some n => n.step = st && maskHas n.ports p
    | none => false
  | none => false

/-- A SKEW step runs. -/
def State.skewRuns (s : State) : Bool := allPorts.any (fun p => s.calOn .skew p)

/-- A port's temperature profiles, or its loop outputs, are held by a step of the run in progress (R422). -/
def State.calHolds (s : State) (p : Port) : Bool :=
  match s.cal.run with
  | some r => maskHas r.holdPorts p
  | none => false

/-- Place of the outcome of a step and a port: 8 x step bit + port (R420). -/
def outcomeIx (st : CalStep) (p : Port) : Fin 32 := ⟨8 * (stepIx st).val + p.val, by omega⟩

/-- Record the outcome of a step on a port; any outcome of a RAMAN step clears BATH_PENDING (R416). (DEDUCED, log 146) -/
def State.calOutcome (s : State) (st : CalStep) (p : Port) (o : CalOutcome) : State :=
  let s0 := s.setRun (fun r => { r with outcomes := vmod r.outcomes (outcomeIx st p) (fun _ => o) })
  let s1 := match st with
    | .raman => s0.setCalPort p (fun c => { c with bath := none })
    | .ref | .skew | .conv => s0
  match o with
  | .aborted => s1.count Ctr.calStats_aborted 0 1
  | .notPossible => s1.count Ctr.calStats_notPossible 0 1
  | .limits =>
    (s1.count Ctr.calStats_limits 0 1).event evCalLimit (match st with | .ref => noUnit | .skew | .conv | .raman => p.val)
      noUnit [(stepIx st).val]
  | .done | .notRun => s1

/-- The step that runs on a port ends ABORTED there: the port stops, is shut or halted, or leaves its group (R421). -/
def State.calAbortPort (s : State) (p : Port) : State :=
  match s.cal.run with
  | some r =>
    match r.now with
    | some n =>
      if maskHas n.ports p ∧ n.step ≠ .ref then
        (s.setRun (fun x => { x with now := some { n with ports := n.ports &&& ~~~(1#8 <<< p.val) } })).calOutcome n.step p .aborted
      else s
    | none => s
  | none => s

end Sys2Proof.Machine
end

