-- ==== Sys2Proof/Machine/PortFlow.lean ====
section
/-! DEFINITION. How a port begins and ends its launches, and how shadowed fields take effect (R8, R119 to R122, R159,
R164, R205, R253, R273, R363). -/

namespace Sys2Proof.Machine

/-! ## Shadowed fields (R8, R12, R363) -/

/-- Block and instance of a place in the field tables. -/
def keyBlock (k : Nat) : Nat := k / 4194304
def keyInst (k : Nat) : Nat := k / 1024 % 4096
def keyLo (k : Nat) : Nat := k % 1024

/-- A parameter block by its number. -/
def blockOf (id : Nat) : Option BlockDesc := paramBlocks.find? (fun b => b.id = id)

/-- The field at a place of the field tables. -/
def fieldAt (k : Nat) : Option Fld :=
  match blockOf (keyBlock k) with
  | some b => b.fields.find? (fun f => f.lo = keyLo k)
  | none => none

/-- The port whose frame boundary applies a shadowed field. -/
def State.ownerOf (s : State) (k : Nat) : Port :=
  let i := keyInst k
  if keyBlock k = 0x1E then ⟨s.fld Fld.zone_port i % 8, by omega⟩
  else if keyBlock k = 0x0E then ⟨i / 4 % 8, by omega⟩
  else ⟨i % 8, by omega⟩

/-- Put the value of a field at a place into effect. -/
def State.setKey (s : State) (k v : Nat) : State :=
  match fieldAt k with
  | some f => { s with cfg := Tab.putNat s.cfg k v f.reset }
  | none => s

/-- Put shadowed values into effect, and note for each zone the judging fields that they replace (R253). -/
def State.applyFields (s : State) (es : Tab Nat) : State :=
  let zs := s.enabledZones.filter (fun z => es.any (fun e => keyBlock e.1 = 0x1E && keyInst e.1 = z.val))
  let s1 := es.foldl (fun t e => t.setKey e.1 e.2) s
  zs.foldl (fun t z =>
    if s.zoneJudge z = s1.zoneJudge z then t
    else t.setZone z (fun x => { x with reconfig := x.reconfig ++ [(s.tb, s.zoneJudge z)] })) s1

/-- The pending values of a port take effect, and with them corrections that calibration has refined, for codes from `t` on
(R140). -/
def State.applyPending (s : State) (p : Port) (t : Nat) : State :=
  let s1 := s.applyFields (s.pend.filter (fun e => s.ownerOf e.1 = p))
  { s1 with pend := s.pend.filter (fun e => s.ownerOf e.1 ≠ p) }.setRx p (fun x =>
    match x.corrNext with
    | some c => { x with trims := c.1, corr := some c.2, corrNext := none, coefBefore := some (t, x.trims, x.corr) }
    | none => x)

def ifFld (k : Fin 4) : Fld :=
  match k with
  | 0 => .seqPort_ifS0
  | 1 => .seqPort_ifS1
  | 2 => .seqPort_ifS2
  | 3 => .seqPort_ifS3

/-- What alignment restarts when shadowed values of a port take effect (R159): the slots newly enabled or with a new IF or
FILTER; all when the reference slot changes. -/
def restartSlots (oldMask newMask : Nat) (changed : Fin 4 → Bool) : List (Fin 4) :=
  if (maskSlots oldMask).head? ≠ (maskSlots newMask).head? then maskSlots newMask
  else (maskSlots newMask).filter (fun k => !oldMask.testBit k.val || changed k)

/-- Shadowed values take effect at `t` on a port whose launches go on: alignment restarts with the next launch of each slot that
they concern (R139, R159). -/
def State.takeShadow (s : State) (p : Port) (t : Nat) : State :=
  let s1 := s.applyPending p t
  let changed (k : Fin 4) : Bool :=
    s.fld (ifFld k) p.val ≠ s1.fld (ifFld k) p.val || s.fld Fld.rxCfg_filter p.val ≠ s1.fld Fld.rxCfg_filter p.val
  let ks := restartSlots (s.slotMask p) (s1.slotMask p) changed
  s1.setSeq p (fun q => { q with realign := ks.foldl (fun m k => m ||| (1#4 <<< k.val)) q.realign })

/-! ## Leaving (R121, R164, R205, R294, R421) -/

/-- A port's output stops: MK_STOP with its cause, its blocks close, its rings stop but where they are frozen, its zones
and a calibration step on it end. (DEDUCED, log 48) -/
def State.portLeaves (s : State) (p : Port) (mode : PortMode) (cause : Nat) : State :=
  let q := (s.port p).seq
  if !portEnabled q then (s.setSeq p (fun x => { x with mode := mode })).calAbortPort p
  else
    let launched := (s.port p).queue.taking
    let pos := s.firstAbsent p
    let s1 := s.setSeq p (fun x =>
      { x with mode := mode, gridPos := pos, window := none, windowUntil := 0, joined := false, resuming := false,
               gaps := x.gaps.filter (fun g => g.pos < pos || g.era != (s.port p).queue.era) })
    let s2 := (s1.setRx p (fun x => { x with checking := none })).setMask p (fun x => { x with taking := false, owed := false })
    let s3 := if launched then ((s2.rawEnd p).markStop p cause).queueStop p else s2
    let s4 := if mode = .halted then s3 else s3.ringsStop p
    (s4.zonesPortStop p).calAbortPort p

/-! ## Beginning (R121, R122, R159, R201, R273) -/

/-- The calibration a start brings with it: the D_rx that waited for it, and the run of a first start (R414, R418). -/
def State.calStart (s : State) (p : Port) : State :=
  let c := s.calPort p
  let first := c.firstStart && s.flag Fld.calCfg_autoEn 0
  let s1 := s.setCalPort p (fun x =>
    { x with dRx := match x.dRxNext with | some d => some d | none => x.dRx, dRxNext := none, firstStart := false })
  if first then s1.setCal (fun x => { x with waitFirst := x.waitFirst ||| (1#8 <<< p.val) }) else s1

/-- A port begins to launch: its positions count from 0 (R201), the gauge former starts afresh at a start or join and its
alignment restarts for all slots (R159, chapter 7), its mask test begins a trace, its rings and zones start and its streams
take MK_START with the given cause. Launches that MASK_REARM resumes are no start: frames in flight, busy slots and alignment
stay (R121, R295). -/
def State.portBegins (s0 : State) (p : Port) (mode : PortMode) (cause : Nat) : State :=
  let s := if cause = 3 then s0.takeShadow p s0.tb else s0.applyPending p s0.tb
  let mask := s.slotMask p
  let cyc := (s.grid p).cycle
  let s1 := s.setSeq p (fun x =>
    { x with mode := mode, draining := false, joined := true, gridPos := 0, window := none,
             windowUntil := if mode = .single then s.tb else 0,
             spans := if mode = .single then [] else [(0, cyc, mask)], slotMask := BitVec.ofNat 4 mask, resuming := false })
  let s2 := if cause = 3 then s1
    else (((s1.setSeq p (fun x =>
        { x with frames := [], gaps := [], busyUntil := Vector.replicate 4 0, started := false, realign := 0 })).setGauge p
        (fun g => { g with mem := [] })).count Ctr.gaugeStats_alignRestarts p.val (slotCount mask)).calStart p
  let s3 := s2.setMask p (fun x => { x with traces := [], taking := false, owed := false })
  let s4 := ((((s3.queueStart p).ringsStart p).zonesPortStart p).markStart p cause)
  if mode = .running then s4.rawStart p else s4

end Sys2Proof.Machine
end

