-- ==== Sys2Proof/Machine/Drive.lean ====
section
/-! DEFINITION. Source drive and optical safety: ramps, compensation, derating, faults, shutdown and recovery (R77 to
R105, R493, R494). -/

namespace Sys2Proof.Machine

/-! ## The identity record of a port (R64, R65) -/

/-- Number of an emitter: SEED, GATE, PUMP. -/
def emitterIx : Emitter → Fin 3
  | .seed => 0
  | .gate => 1
  | .pump => 2

def allEmitters : List Emitter := [.seed, .gate, .pump]

/-- Offset of an emitter block in the record. -/
def emitterBlock (e : Emitter) : Nat := 0x20 + 0x60 * (emitterIx e).val

/-- The COMP points of an emitter: temperature in 0.1 °C and factor. -/
def compPoints (r : List Byte) (e : Emitter) : List (Int × Nat) :=
  (List.range 16).map (fun i => (s16At r (emitterBlock e + 0x10 + 4 * i), u16At r (emitterBlock e + 0x12 + 4 * i)))

/-! ## Settings of an emitter -/

def setpointFld : Emitter → Fld
  | .seed => .emitCfg_setpointSeed
  | .gate => .emitCfg_setpointGate
  | .pump => .emitCfg_setpointPump
def rampShapeFld : Emitter → Fld
  | .seed => .emitCfg_rampShapeSeed
  | .gate => .emitCfg_rampShapeGate
  | .pump => .emitCfg_rampShapePump
def rampTimeFld : Emitter → Fld
  | .seed => .emitCfg_rampTimeSeed
  | .gate => .emitCfg_rampTimeGate
  | .pump => .emitCfg_rampTimePump
def compEnFld : Emitter → Fld
  | .seed => .emitCfg_compEnSeed
  | .gate => .emitCfg_compEnGate
  | .pump => .emitCfg_compEnPump

def State.emitter (s : State) (p : Port) (e : Emitter) : EmitterSt := (s.port p).drive.emitters[emitterIx e]
def State.setEmitter (s : State) (p : Port) (e : Emitter) (f : EmitterSt → EmitterSt) : State :=
  s.setDrive p (fun d => { d with emitters := vmod d.emitters (emitterIx e) f })

/-! ## Ramps (R83 to R86, R494) -/

/-- f(i / 1,023) of the curves 0 to 3 and 7, as numerator and denominator. -/
def romPoint (shape i : Nat) : Nat × Nat :=
  match shape with
  | 0 => (i, 1023)
  | 1 => (isqrt (i * i * i * 1023 * fxOne.toNat * fxOne.toNat), 1023 * 1023 * fxOne.toNat)
  | 2 => (i * i, 1023 * 1023)
  | 3 => (i * i * i, 1023 * 1023 * 1023)
  | _ => ((fxOne - fxCos (fxPi * i / 1023)).toNat, 2 * fxOne.toNat)

/-- f(t / dur) by linear interpolation between ROM points, as a fraction. -/
def romValue (shape t dur : Nat) : Nat × Nat :=
  let i := 1023 * t / dur
  let r := 1023 * t % dur
  let a := romPoint shape i
  if r = 0 then a else
    let b := romPoint shape (i + 1)
    (a.1 * (dur - r) + b.1 * r, a.2 * dur)

/-- Span in dB of the logarithmic curves 4 to 6. -/
def logSpan (shape : Nat) : Nat := 20 + 10 * (shape - 4)

/-- 10^(x/10) by linear interpolation in a ROM of span `d` dB, at a place `y` of 0 to 1,023 in fixed point. -/
def romPower (d : Nat) (y : Int) : Int :=
  let point (i : Int) : Int := fxPow10 ((i - 1023) * (d : Int) * fxOne / 10230)
  let i := y / fxOne
  let r := y % fxOne
  if r = 0 then point i else (point i * (fxOne - r) + point (i + 1) * r) / fxOne

/-- The value of a logarithmic ramp before its end, t / dur through it (R84). -/
def logRamp (a b shape t dur : Nat) : Nat :=
  let d := logSpan shape
  let k := 10 ^ (d / 10)
  -- ends of the straight line, times k
  let hi := max a b * k
  let lo := max (min a b * k) (max a b)
  if hi = 0 then 0
  else
    let v := if a < b then t else dur - t
    -- place in the ROM: 1,023 (1 - (L / d) (1 - v / dur)), with L / d = 10 log10 (hi / lo) / d
    let ld := fxLog10 hi lo * 10 / (d : Int)
    let y := 1023 * (fxOne - fxMul ld (((dur - v : Nat) : Int) * fxOne / (dur : Int)))
    (divHalfUp ((max a b : Nat) * romPower d y) fxOne.toNat).toNat

/-- The ramp value at t of a ramp (R83, R494). -/
def rampValue (r : Ramp) (t : Nat) : Nat :=
  if r.duration ≤ t ∨ r.start = r.stop then r.stop
  else if 4 ≤ r.shape ∧ r.shape ≤ 6 then logRamp r.start r.stop r.shape t r.duration
  else if r.start < r.stop then
    let f := romValue r.shape t r.duration
    (divHalfUp ((r.start * f.2 + (r.stop - r.start) * f.1 : Nat) : Int) f.2).toNat
  else
    let f := romValue r.shape (r.duration - t) r.duration
    (divHalfUp ((r.stop * f.2 + (r.start - r.stop) * f.1 : Nat) : Int) f.2).toNat

/-- A ramp begins from the value in effect, with the RAMP_SHAPE and RAMP_TIME in effect (R85, R86).
(DEDUCED, log 40) -/
def State.rampTo (s : State) (p : Port) (target : Nat) (e : Emitter) : State :=
  s.setEmitter p e (fun x =>
    { x with ramp := some ⟨x.ramped, target, s.fld (rampShapeFld e) p.val, s.fld (rampTimeFld e) p.val * 10 * msNs, s.clk⟩ })

/-- Some ramp of a port runs. -/
def State.ramping (s : State) (p : Port) : Bool := allEmitters.any (fun e => (s.emitter p e).ramp.isSome)

/-- A SETPOINT is written: on an enabled port a ramp begins, unless one already heads for that value (R85, R86, R98).
(DEDUCED, log 41) -/
def State.setpointWritten (s : State) (p : Port) (e : Emitter) : State :=
  let v := s.fld (setpointFld e) p.val
  let heading := match (s.emitter p e).ramp with
    | some r => r.stop
    | none => (s.emitter p e).ramped
  if portEnabled (s.port p).seq ∧ heading ≠ v then s.rampTo p v e else s

/-! ## Compensation and derating (R79 to R82) -/

/-- The factor of a table at a temperature: linear between points, the end factors beyond, rounded ties up (R80). -/
def compAt (t : Tenths) : List (Int × Nat) → Nat
  | [] => 32768
  | [(_, f)] => f
  | (a, f) :: (b, g) :: rest =>
    if t.num ≤ a * t.den then f
    else if t.num < b * t.den then
      (divHalfUp ((f : Int) * ((b - a) * t.den) + ((g : Int) - f) * (t.num - a * t.den)) ((b - a).toNat * t.den)).toNat
    else compAt t ((b, g) :: rest)

/-- One step of at most 64 units towards a factor (R80). -/
def stepFactor (now target : Nat) : Nat := if now < target then min target (now + 64) else max target (now - 64)

/-- The effective knee in 0.1 °C (R81). -/
def State.knee (s : State) (p : Port) : Int :=
  match s.record p with
  | some r => min (s.fld Fld.safetyPort_knee p.val : Int) (s16At r 0x140)
  | none => s.fld Fld.safetyPort_knee p.val

/-- D of R81 for a case temperature, in 1/32,768. -/
def derateAt (knee : Int) (t : Tenths) : Nat :=
  if t.num ≤ knee * t.den then 32768
  else if t.num ≤ 700 * t.den then
    -- 1 - 0.4 (T - knee) / (70 - knee)
    let den := 5 * (700 - knee).toNat * t.den
    (divHalfUp (32768 * ((den : Int) - 2 * (t.num - knee * t.den))) den).toNat
  else 19661

/-- V / Vref of a result word of a format, in 1/65,536; none where it carries FAULT or STALE (R400 to R402).
(DEDUCED, log 157) -/
def wordReading (f : Nat) (w : Word) : Option Int :=
  let flags : Byte := if f = 0 then w.extractLsb' 24 8 else w.extractLsb' 0 8
  if flags.getLsbD 4 ∨ flags.getLsbD 5 then none
  else if f = 0 then some (w.extractLsb' 0 16).toNat
  else if f = 1 then some (w.extractLsb' 16 16).toNat
  else some (2 * (w.extractLsb' 16 16).toInt)

/-- The same of a channel's latest result. -/
def State.hkReading (s : State) (n : Fin 32) : Option Int := wordReading s.house.formats[n] s.house.values[n]

/-- Case temperature of a port as the latest BALANCED result of HK.0n in HK-A's fixed part gives it, one every 10 ms: none without
a record, or where the result is no value (R79, R393, R400, R401, R402). -/
def State.caseReading (s : State) (p : Port) : Option Tenths :=
  let x := s.house.cases[p]
  match s.record p, wordReading 0 x.1 with
  | some r, some v =>
    let vref : Int := x.2
    let slope := max 1 (u16At r 0x16C)
    some ⟨10 * (v * vref - (u16At r 0x16E : Int) * 1000 * 65536), slope * 65536⟩
  | some _, none | none, some _ | none, none => none

/-- Inside -45.0 °C to +100.0 °C (R82). (DEDUCED, log 46) -/
def inRange (t : Tenths) : Bool := -450 * (t.den : Int) ≤ t.num && t.num ≤ 1000 * (t.den : Int)

/-- A new case temperature of a port: compensation and derating step (R79 to R82). (DEDUCED, log 46) -/
def State.caseDelivered (s0 : State) (p : Port) : State :=
  let s := s0.setDrive p (fun d => { d with caseUpdAt := some s0.clk })
  match s.caseReading p with
  | none => s.setDrive p (fun d => { d with goodSince := none })
  | some t =>
    if !inRange t then
      s.setDrive p (fun d => { d with caseAt := s.clk, goodSince := none, hotSince := none, rangeSince := some (d.rangeSince.getD s.clk) })
    else
      let d0 := (s.port p).drive
      let derate := stepFactor d0.derate (derateAt (s.knee p) t)
      let rec_ := (s.record p).getD []
      let s1 := s.setDrive p (fun d =>
        { d with caseTemp := some t, caseAt := s.clk, rangeSince := none, goodSince := some (d.goodSince.getD s.clk),
                 hotSince := if 750 * (t.den : Int) < t.num then some (d.hotSince.getD s.clk) else none,
                 derate := derate })
      let s2 := allEmitters.foldl (fun u e =>
        u.setEmitter p e (fun x => { x with comp := stepFactor x.comp (compAt t (compPoints rec_ e)) })) s1
      if d0.derate = 32768 ∧ derate < 32768 then
        (s2.event evDerateEnter p.val noUnit []).count Ctr.safetyStats_derateEnter p.val 1
      else if d0.derate < 32768 ∧ derate = 32768 then s2.event evDerateExit p.val noUnit []
      else s2

/-- The last case temperature was delivered at least 10 ms ago (R78, R79). -/
def State.caseDue (s : State) (p : Port) : Bool := (s.port p).drive.caseUpdAt.all (fun t => decide (t + 10 * msNs ≤ s.clk))

/-- CASE_TEMP_UPDATE: a new case temperature, every 10 ms (R78, R79). -/
def caseTempUpdate (dt : Nat) (p : Port) (s0 : State) : State :=
  let s := s0.elapse dt
  if s.caseDue p then s.caseDelivered p else s

/-- The case temperature has been stale for more than 10 s (R79). -/
def State.caseStale (s : State) (p : Port) : Bool := decide (10 * secNs < s.clk - (s.port p).drive.caseAt)

/-- The case reading has been out of range for 100 ms (R82). -/
def State.caseOut (s : State) (p : Port) : Bool := (s.port p).drive.rangeSince.any (fun t => 100 * msNs ≤ s.clk - t)

/-- The case temperature has been above 75.0 °C for 100 ms (R81). (DEDUCED, log 46) -/
def State.caseHot (s : State) (p : Port) : Bool := (s.port p).drive.hotSince.any (fun t => 100 * msNs ≤ s.clk - t)

/-! ## Command codes (R77, R78) -/

/-- COMP_EN applied: the factor of an emitter (R77). -/
def State.compFactor (s : State) (p : Port) (e : Emitter) : Nat :=
  if s.flag (compEnFld e) p.val then (s.emitter p e).comp else 32768

/-- Code of an emitter before saturation. -/
def codeOf (ramped comp derate : Nat) : Nat := ramped * comp / 32768 * derate / 32768

/-- One update of an emitter: its ramp advances and its code is computed. -/
def State.updateEmitter (p : Port) (e : Emitter) (s : State) : State :=
  let x := s.emitter p e
  let ramped := match x.ramp with
    | some r => rampValue r (s.clk - r.began)
    | none => x.ramped
  let ramp := match x.ramp with
    | some r => if r.duration ≤ s.clk - r.began then none else some r
    | none => none
  let code := codeOf ramped (s.compFactor p e) (s.port p).drive.derate
  (s.setEmitter p e (fun y => { y with ramp := ramp, ramped := ramped, code := min 65535 code })).countIf
    Ctr.safetyStats_cmdSat p.val (decide (65535 < code))

/-- Round up to a 10 ns boundary. -/
def up10 (t : Nat) : Nat := (t + 9) / 10 * 10

/-- A SKEW step has the port's emitters (R412). -/
def State.skewHas (s : State) (p : Port) : Bool := s.calOn .skew p

/-- The epoch of a lockstep group is set where it is none: START_TIME, or the first 10 ns boundary after the ramps of the first
enabled member; of members enabled by one command the lowest is the first, and where it stops before that the next takes its
place (R122; DESIGN CHOICE, log 193). -/
def State.groupEpoch (s : State) (g : Fin 4) : State :=
  let ix : Fin 12 := ⟨8 + g.val, by omega⟩
  let t := s.fld Fld.lockstep_startTime g.val
  let x := s.grids[ix]
  let on := (x.order ++ s.members g).filter (fun p => portEnabled (s.port p).seq)
  let start (e : Nat) : State := s.setGrid ix (fun y => { Grid.reset with epoch := some e, order := y.order })
  match x.epoch, on with
  | none, p :: _ =>
    if t ≠ 0 then (if on.any (fun m => (s.port m).seq.joined) then start t else s)
    else if (s.port p).seq.joined then start (up10 (s.port p).seq.rampsAt)
    else s
  | none, [] | some _, _ => s

/-- The three enable ramps of a port have completed: launches may begin (R121, R122). A group member waits for its grid's
next cycle boundary. A START_TIME of a group with SITE = 0 that is no multiple of 10 ns is its epoch as it stands
(DESIGN CHOICE, log 170). (DEDUCED, log 42) -/
def State.rampsDone (s0 : State) (p : Port) : State :=
  let s := s0.setSeq p (fun x => { x with rampsAt := s0.tb })
  if s.singleMode p then s.portBegins p .single 1
  else
    match s.groupOf p with
    | none =>
      let g := s.gridIx p
      (s.setGrid g (fun _ => { Grid.reset with epoch := some (up10 s.tb) })).portBegins p .running 1
    | some g => (s.setSeq p (fun x => { x with joined := true })).groupEpoch g

/-- A port's ramps after an update: enable ramps that have completed, and falling ramps that have (R85, R121).
(DEDUCED, log 42) -/
def State.afterUpdate (p : Port) (s : State) : State :=
  let q := (s.port p).seq
  if s.ramping p then s
  else
    match q.mode with
    | .starting => if s.skewHas p || q.joined then s else s.rampsDone p
    | .stopped =>
      if q.draining then s else s.setEmitter p .seed (fun x => { x with timing := false })
    | .running | .single | .halted | .shut => s

/-- The command codes of a port were updated at least 1.0 µs ago (R78). -/
def State.driveDue (s : State) (p : Port) : Bool := decide ((s.port p).drive.updatedAt + usNs ≤ s.clk)

/-- One update of a port's three command codes (R77, R78). (DEDUCED, log 42) -/
def State.portUpdate (p : Port) (s : State) : State :=
  if s.driveDue p then
    State.afterUpdate p (allEmitters.foldl (fun u e => State.updateEmitter p e u)
      (s.setDrive p (fun d => { d with updatedAt := s.clk })))
  else s

/-- DRIVE_UPDATE: every 1.0 µs (R77, R78). -/
def driveUpdate (dt : Nat) (s : State) : State := forPorts allPorts State.portUpdate (s.elapse dt)

/-! ## Faults (R88, R95 to R100, R493) -/

/-- Causes found on a port, and the emitter that shows them; none for a cause of the port. -/
structure FaultReport where
  port : Port
  causes : BitVec 10
  emitter : Option Emitter
deriving DecidableEq, Repr

/-- Codes of the fault causes (R88). -/
def causeOvertemp : Nat := 8
def causeInterlock : Nat := 5
def causeProofFail : Nat := 6
def causeCaseSensor : Nat := 9
def causePeer : Nat := 10
def causeNrgLow : Nat := 7
def causeEmOpen : Nat := 1
def causeEmShort : Nat := 2
def causeOver : Nat := 3
def causeMonLow : Nat := 4

/-- The mask of one cause. -/
def causeBit (code : Nat) : BitVec 10 := 1#10 <<< (code - 1)

/-- The lowest code in a mask; 0 for none. -/
def lowestCause (m : BitVec 10) : Nat :=
  match (List.range 10).find? (fun i => m.getLsbD i) with
  | some i => i + 1
  | none => 0

/-- The port accepts causes: it is enabled, its last frames or its falling ramps run, or it is SHUT (R493). -/
def State.accepts (s : State) (p : Port) : Bool :=
  let q := (s.port p).seq
  match q.mode with
  | .starting | .running | .single | .halted | .shut => true
  | .stopped => q.draining || s.ramping p

/-- Code of an emitter in SAFETY_STATUS and in the event; 3 and 0xFF for a cause of the port. (DEDUCED, log 44) -/
def emitterCode : Option Emitter → Nat
  | some e => (emitterIx e).val
  | none => 3
/-- (DEDUCED, log 44) -/
def emitterUnit : Option Emitter → Nat
  | some e => (emitterIx e).val
  | none => noUnit

/-- Causes of a port that was shut at this moment, in the same control-island cycle: the lowest code of all is FIRST_CAUSE, and a
port with a cause of its own is not PEER (R99). -/
def sameCycle (causes : BitVec 10) (emitter : Nat) (d : DriveSt) : DriveSt :=
  let old := d.causeMask &&& ~~~(causeBit causePeer)
  if old = 0 ∨ lowestCause causes < lowestCause old then
    { d with causeMask := old ||| causes, firstCause := lowestCause causes, emitter := emitter }
  else { d with causeMask := d.causeMask ||| causes }

/-- A port shuts down with causes (R95, R98, R99). Later causes of a port already shut join its mask; those of the same nanosecond
count as of one control-island cycle, though the event has gone out (DEDUCED, log 192). (DEDUCED, log 44) -/
def State.shutPort (s : State) (p : Port) (causes : BitVec 10) (e : Option Emitter) : State :=
  let first := lowestCause causes
  let em := if first = causeInterlock ∨ causeOvertemp ≤ first then none else e
  match (s.port p).seq.mode with
  | .shut => s.setDrive p (fun d => if d.shutAt = some s.clk then sameCycle causes (emitterCode em) d
      else { d with causeMask := d.causeMask ||| causes })
  | .stopped | .starting | .running | .single | .halted =>
    let s1 := allEmitters.foldl (fun u x =>
      u.setEmitter p x (fun y => { y with ramp := none, ramped := 0, code := 0, timing := false, pulse := none })) s
    let s2 := (s1.portLeaves p .shut 2).setSeq p (fun q =>
      { q with draining := false, joined := false,
               frames := q.frames.map (fun f => if f.cutAt.isNone then { f with cutAt := some s.tb } else f) })
    let s3 := s2.setDrive p (fun d =>
      { d with latched := true, firstCause := first, emitter := emitterCode em, causeMask := causes, proofDue := none,
               proofWaits := false, shutAt := some s.clk })
    ((s3.count Ctr.safetyStats_shutdowns p.val 1).event evEmitterFault p.val (emitterUnit em) [first]).applyPending p s.tb

/-- Causes accepted in one control-island cycle, with the spread of SAFETY.SCOPE = DEVICE (R97, R99). Where two emitters show the
same lowest cause, EMITTER names the one that the row lists first (DESIGN CHOICE, log 192). -/
def State.acceptFaults (s : State) (fs : List FaultReport) : State :=
  let own (p : Port) : BitVec 10 := (fs.filter (fun f => f.port = p)).foldl (fun m f => m ||| f.causes) 0
  let em (p : Port) : Option Emitter :=
    match fs.find? (fun f => f.port = p && lowestCause f.causes = lowestCause (own p)) with
    | some f => f.emitter
    | none => none
  let hit := allPorts.filter (fun p => own p ≠ 0 && s.accepts p)
  let downs := hit.filter (fun p => (s.port p).seq.mode ≠ .shut)
  let s1 := hit.foldl (fun t p => t.shutPort p (own p) (em p)) s
  if s.flag Fld.safety_scope 0 && !downs.isEmpty then
    (allPorts.filter (fun p => !hit.contains p && s.accepts p && (s.port p).seq.mode ≠ .shut)).foldl
      (fun t p => t.shutPort p (causeBit causePeer) none) s1
  else s1

/-- ramped x D of an emitter, in 1/32,768 of a code; the checks of R87 need 10 % of 65,535. -/
def State.driveLevel (s : State) (p : Port) (e : Emitter) : Nat := (s.emitter p e).ramped * (s.port p).drive.derate
def State.checkLevel (s : State) (p : Port) (e : Emitter) : Bool := 65535 * 32768 ≤ 10 * s.driveLevel p e

/-- The expected monitor current in nA of SEED or GATE, as numerator over 32,768 x 65,535 (R87). -/
def State.monExpected (s : State) (p : Port) (e : Emitter) (r : List Byte) : Nat :=
  1000 * u16At r (emitterBlock e + 6) * s.driveLevel p e
def monDen : Nat := 32768 * 65535

/-- The causes of some conditions. -/
def causesOf (cs : List (Nat × Bool)) : BitVec 10 := cs.foldl (fun m c => if c.2 then m ||| causeBit c.1 else m) 0

/-- OPEN and SHORT as the readbacks of an emitter show them (R88). -/
def State.voltageCauses (s : State) (p : Port) (e : Emitter) (r : List Byte) (x : EmitterReading) : List (Nat × Bool) :=
  [(causeEmOpen, x.cmp || decide (11 * u16At r (emitterBlock e + 0x0A) < 10 * x.vf)),
   (causeEmShort, decide (2 * x.vf < u16At r (emitterBlock e + 8)) && decide (65535 ≤ 10 * (s.emitter p e).code))]

/-- OVER_CURRENT and MON_LOW of SEED or GATE (R87, R88). -/
def State.monitorCauses (s : State) (p : Port) (e : Emitter) (r : List Byte) (x : EmitterReading) : List (Nat × Bool) :=
  [(causeOver, s.checkLevel p e && decide (5 * s.monExpected p e r < 4 * x.mon * monDen)),
   (causeMonLow, s.checkLevel p e && decide (2 * x.mon * monDen < s.monExpected p e r))]

/-- The causes that the readbacks of an emitter of a port show (R87, R88). SEED's monitor is judged once it has been on for
the 20 ns of R88 and the 2.0 µs of its mean. -/
def State.emitterCauses (s : State) (p : Port) (e : Emitter) (x : EmitterReading) : BitVec 10 :=
  match s.record p with
  | none => 0
  | some r =>
    let mon := match e with
      | .seed => if (s.emitter p .seed).onAt + 2020 ≤ s.clk then s.monitorCauses p e r x else []
      | .gate => s.monitorCauses p e r x
      | .pump => []
    causesOf (s.voltageCauses p e r x ++ mon)

/-- The pulse on GATE is the proof pulse of the open window. -/
def State.proofOn (s : State) (p : Port) (rise : Nat) : Bool :=
  (s.port p).seq.window.any (fun w => w.proofRan && rise = w.opened + 1000)

/-- An emitter is under check: SEED once it has been on for 40 ns; GATE and PUMP in a pulse of at least 40 ns, from 40 ns after its rise until the shutdown latency has passed (R88, R89, R96). (DEDUCED, log 176) -/
def State.underCheck (s : State) (p : Port) (e : Emitter) : Bool :=
  let x := s.emitter p e
  match e with
  | .seed => x.timing && decide (x.onAt + 40 ≤ s.clk)
  | .gate | .pump =>
    x.pulse.any (fun u => decide (u.1 + 40 ≤ u.2 ∧ u.1 + 40 ≤ s.tb ∧ s.tb ≤ u.2 + 10000))

/-- Causes found on GATE in its proof pulse come with PROOF_FAIL (R88). -/
def State.withProof (s : State) (p : Port) (e : Emitter) (found : BitVec 10) : BitVec 10 :=
  if e = .gate ∧ found ≠ 0 ∧ (s.emitter p .gate).pulse.any (fun u => s.proofOn p u.1) then found ||| causeBit causeProofFail
  else found

/-- EMITTER_FAULT_ACCEPT: readings of emitters under check, all of one control-island cycle (R88, R95, R99). -/
def emitterFaultAccept (dt : Nat) (rs : List FaultReading) (s0 : State) : State :=
  let s := s0.elapse dt
  s.acceptFaults ((rs.filter (fun r => s.underCheck r.port r.emitter)).map (fun r =>
    ⟨r.port, s.withProof r.port r.emitter (s.emitterCauses r.port r.emitter r.reading), some r.emitter⟩))

/-- One cause of the port itself. -/
def State.portFault (s : State) (p : Port) (cause : Nat) : State := s.acceptFaults [⟨p, causeBit cause, none⟩]

/-- CASE_STALE_TIMEOUT (R79). -/
def caseStaleTimeout (dt : Nat) (p : Port) (s0 : State) : State :=
  let s := s0.elapse dt
  if s.caseStale p then s.portFault p causeCaseSensor else s

/-- CASE_RANGE_TIMEOUT (R82). -/
def caseRangeTimeout (dt : Nat) (p : Port) (s0 : State) : State :=
  let s := s0.elapse dt
  if s.caseOut p then s.portFault p causeCaseSensor else s

/-- OVERTEMP_TIMEOUT (R81). -/
def overtempTimeout (dt : Nat) (p : Port) (s0 : State) : State :=
  let s := s0.elapse dt
  if s.caseHot p then s.portFault p causeOvertemp else s

/-! ## Proofs (R90 to R94) and pump energy (R87, R89) -/

/-- Proof pulses run on a port (R90). -/
def State.proofActive (s : State) (p : Port) : Bool :=
  s.fld Fld.seqPort_pulseWidth p.val < 40 || s.flag Fld.safetyPort_proofForce p.val

/-- The effective proof interval, ns (R92). -/
def State.proofInterval (s : State) (p : Port) : Nat :=
  let t := s.fld Fld.safetyPort_proofInterval p.val * 62500000
  if s.ramanM p = 0 ∨ s.singleMode p then max t secNs else t

/-- A proof that has fallen due on a HALTED port waits: its window has been removed, so it moves to a later one and is counted
(R94). -/
def State.proofOverdue (s : State) (p : Port) : State :=
  let d := (s.port p).drive
  if (s.port p).seq.mode = .halted && !d.proofWaits && s.proofActive p && d.proofDue.any (fun t => decide (t ≤ s.clk)) then
    (s.setDrive p (fun x => { x with proofWaits := true })).count Ctr.safetyStats_proofLate p.val 1
  else s

/-- PROOF_DUE (R90): the interval has passed since the first launch or the last proof. (DEDUCED, log 45) -/
def proofDue (dt : Nat) (p : Port) (s0 : State) : State :=
  let s := s0.elapse dt
  match (s.port p).drive.proofDue with
  | some t =>
    if s.proofActive p && decide (t ≤ s.clk) && portLaunches (s.port p).seq then
      s.setDrive p (fun d => { d with proofWaits := true })
    else s.proofOverdue p
  | none => s

/-- A proof runs in the open window at this moment: it is due since before the window began, and the window has neither run
one nor launched its PUMP (R90, R91, R94). (DEDUCED, log 43) -/
def State.proofRuns (s : State) (p : Port) (w : Window) : Bool :=
  (s.port p).drive.proofWaits && s.proofActive p && portLaunches (s.port p).seq && !w.proofRan && !w.pumped
    && decide (w.opened + 1000 ≤ s.tb ∧ s.tb ≤ w.opened + 1200)
    && (s.port p).drive.proofDue.any (fun t => decide (t + (s.tb - w.opened) ≤ s.clk))

/-- PROOF_PULSE (R90, R91): GATE is on for 200 ns from 1.000 µs into the window. What the check of its 40 ns window shows, once
that is over, is accepted together with PROOF_FAIL (R88). The next proof falls due an interval after this one began. (DEDUCED, log 43) -/
def proofPulse (dt : Nat) (p : Port) (x : EmitterReading) (s0 : State) : State :=
  let s := s0.elapse dt
  match (s.port p).seq.window with
  | none => s
  | some w =>
    if s.proofRuns p w then
      let start := w.opened + 1000
      let s1 := s.setSeq p (fun q => { q with window := some { w with proofRan := true } })
      let s2 := ((s1.setDrive p (fun d =>
        { d with proofWaits := false, proofDue := some (s.clk - (s.tb - start) + s.proofInterval p) })).setEmitter p .gate
        (fun y => { y with pulse := some (start, start + 200) })).count Ctr.safetyStats_proofRun p.val 1
      let found := if start + 40 ≤ s.tb then s.emitterCauses p .gate x else 0
      if found = 0 then s2 else s2.acceptFaults [⟨p, found ||| causeBit causeProofFail, some .gate⟩]
    else s

/-- A proof that was due moves to a later window (R94). (DEDUCED, log 45) -/
def State.proofMoved (s : State) (p : Port) : State :=
  s.countIf Ctr.safetyStats_proofLate p.val ((s.port p).drive.proofWaits)

/-- The cause that an energy reading in mV of a PUMP pulse shows against its expectation; 0 for none (R87, R88). -/
def State.energyCause (s : State) (p : Port) (width mv : Nat) : Nat :=
  match s.record p with
  | none => 0
  | some r =>
    -- expectation is NRG_FS x level / (32,768 x 65,535) x width / 100
    let num := u16At r (emitterBlock .pump + 0x0C) * s.driveLevel p .pump * width
    let den := monDen * 100
    if !s.checkLevel p .pump then 0
    else if 5 * num < 4 * mv * den then causeOver
    else if 2 * mv * den < num then causeNrgLow
    else 0

/-- PUMP_NRG_SAMPLE (R87, R89): the reading of the pulse that ended 1.0 µs before, while the head holds it valid. -/
def pumpNrgSample (dt : Nat) (p : Port) (mv : Nat) (s0 : State) : State :=
  let s := s0.elapse dt
  match (s.port p).drive.nrgDue with
  | none => s
  | some (t, width) =>
    if s.tb < t then s
    else
      let s1 := s.setDrive p (fun d => { d with nrgDue := none })
      let cause := s.energyCause p width mv
      if cause = 0 ∨ t + 1000 < s.tb then s1 else s1.acceptFaults [⟨p, causeBit cause, some .pump⟩]

/-- The timing pair of an emitter is high at a nanosecond of the time base: SEED's while the port is enabled and not shut,
GATE's and PUMP's in their pulses (R80, R107). -/
def State.timingHigh (s : State) (p : Port) (e : Emitter) (t : Nat) : Bool :=
  match e with
  | .seed => (s.emitter p .seed).timing
  | .gate | .pump => (s.emitter p e).pulse.any (fun u => decide (u.1 ≤ t ∧ t < u.2))

/-! ## Recovery (R101, R102, R493) -/

/-- Presence or interlock reads opened. -/
def State.ilkOpened (s : State) (p : Port) : Bool := !((s.port p).head.present && (s.port p).head.ilkClosed)

/-- A condition of R493 stands. -/
def State.standing (s : State) (p : Port) : Bool := s.ilkOpened p || s.caseHot p || s.caseOut p || s.caseStale p

/-- At or below 70.0 °C, by the temperature in use. -/
def State.cool (s : State) (p : Port) : Bool :=
  match (s.port p).drive.caseTemp with
  | some t => t.num ≤ 700 * (t.den : Int)
  | none => true

/-- The condition for clearing one cause of a port (R101). -/
def State.clearable (s : State) (p : Port) (cause : Nat) : Bool :=
  if cause = causeInterlock then !s.ilkOpened p && (s.record p).isSome
  else if cause = causeOvertemp then s.cool p
  else if cause = causeCaseSensor then
    (s.port p).drive.goodSince.any (fun t => secNs ≤ s.clk - t) && !s.caseStale p
  else if cause = causePeer then
    allPorts.all (fun q => q = p || !(s.port q).drive.latched || (s.port q).drive.causeMask &&& ~~~(causeBit causePeer) = 0)
  else true

/-- CLEAR_FAULT: the status, and the port stopped with its latch clear (R101, R102). -/
def State.clearFault (s : State) (p : Port) : Status × State :=
  let d := (s.port p).drive
  if !d.latched then (.ok, s)
  else if (List.range 10).all (fun i => !d.causeMask.getLsbD i || s.clearable p (i + 1)) then
    (.ok, (s.setDrive p (fun x => { x with latched := false, firstCause := 0, emitter := 0, causeMask := 0 })).setSeq p
      (fun q => { q with mode := .stopped }))
  else (.faultPresent, s)

/-! ## SAFETY_STATUS (R104) -/

/-- STATE of SAFETY_STATUS: RAMPING while any ramp of the port runs. A stopping port whose last frames still run, its falling
ramps to come, reads STOPPED; a HALTED port, whose emitters stay lit, reads RUNNING (DESIGN CHOICE, log 169). -/
def State.safetyState (s : State) (p : Port) : Nat :=
  match (s.port p).seq.mode with
  | .shut => 3
  | .starting => 1
  | .running | .single | .halted => if s.ramping p then 1 else 2
  | .stopped => if s.ramping p then 1 else 0

/-- SAFETY_STATUS (R104). PROOF_ACTIVE is read from the settings alone, whatever the mode of the port (DESIGN CHOICE,
log 168). -/
def State.safetyStatus (s : State) (p : Port) : Nat :=
  let d := (s.port p).drive
  let floor := d.derate = 19661 && d.caseTemp.any (fun t => 700 * (t.den : Int) < t.num)
  s.safetyState p + 4 * d.firstCause + 64 * d.emitter + 256 * d.causeMask.toNat
    + 262144 * bitNat (d.derate < 32768) + 524288 * bitNat floor + 1048576 * bitNat (s.proofActive p)

end Sys2Proof.Machine
end

