-- ==== Sys2Proof/Machine/Receive.lean ====
section
/-! DEFINITION. Coherent receive: the range controller, overload, pair checks (R130 to R152). -/

namespace Sys2Proof.Machine

/-! ## Gain profiles and the range controller (R133, R134) -/

/-- START, RANGE and END of breakpoint i of a slot's profile: instance 4 x port + slot. -/
def State.breakpoint (s : State) (inst i : Nat) : Nat × Nat × Nat :=
  let at0 (f g : Fld) : Nat := s.fld (if i = 0 then f else { g with lo := g.lo + 32 * (i - 1) }) inst
  (at0 Fld.rxProfile_start0 Fld.rxProfile_start1, at0 Fld.rxProfile_range0 Fld.rxProfile_range1,
   at0 Fld.rxProfile_end0 Fld.rxProfile_end1)

/-- The breakpoints of a profile up to its END word. -/
def takeProfile : List (Nat × Nat × Nat) → List (Nat × Nat)
  | [] => []
  | (b, r, e) :: rest => if e = 1 then [(b, r)] else (b, r) :: takeProfile rest

def State.profileOf (s : State) (p : Port) (k : Fin 4) : List (Nat × Nat) :=
  takeProfile ((List.range 32).map (s.breakpoint (4 * p.val + k.val)))

/-- The range a profile requests at a bin: that of the last breakpoint at or below it. -/
def profileRange (prof : List (Nat × Nat)) (b : Nat) : Nat :=
  prof.foldl (fun r x => if x.1 ≤ b then x.2 else r) 0

/-- A bin of a frame is blanked (R112). -/
def frameBlank (f : Frame) (b : Nat) : Bool := f.blanks.any (fun x => x.1 ≤ b && b < x.1 + x.2)

/-- The request of a frame at a receive bin boundary. -/
def frameRequest (drx len t : Nat) (f : Frame) : Option Nat :=
  if t < f.start + drx ∨ f.stop + drx ≤ t then none
  else
    let b := (t - (f.start + drx)) / 10
    if len ≤ b ∨ frameBlank f b then none else some (profileRange f.profile b)

/-- The least sensitive of some requests. -/
def leastRange (rs : List (Option Nat)) : Option Nat :=
  rs.foldl (fun m r =>
    match m, r with
    | some a, some b => some (min a b)
    | none, some b => some b
    | m, none => m) none

/-- The range that applies from a receive bin boundary on (R134). -/
def State.rangeRequest (s : State) (p : Port) (t : Nat) : Option Nat :=
  let q := (s.port p).seq
  let x := (s.port p).rx
  let req := leastRange (q.frames.map (frameRequest (s.dRxNs p) (s.fld Fld.seqPort_fibreLen p.val) t))
  match x.checking, q.window with
  | some w, some win => if w ≤ t ∧ t < win.closes then some x.runRange else req
  | some _, none | none, some _ | none, none => req

/-- How long switches and overloads are kept: longer than any frame and its delay, ns. -/
def rxKeepNs : Nat := 2000000

/-- Switches after a new one: those within `rxKeepNs` and the last before them. -/
def keepSwitches (t : Nat) : List (Nat × Nat) → List (Nat × Nat)
  | [] => []
  | x :: xs => if x.1 + rxKeepNs ≤ t then [x] else x :: keepSwitches t xs

/-- A switch at a boundary joins the switches; the first of all brings the range before it with it. -/
def addSwitch (t old new : Nat) (xs : List (Nat × Nat)) : List (Nat × Nat) :=
  (t, new) :: (if xs.isEmpty then [(0, old)] else keepSwitches t xs)

/-- Range in use at a nanosecond (R131). -/
def rangeAt (x : RxSt) (t : Nat) : Nat :=
  match x.switches.find? (fun e => e.1 ≤ t) with
  | some e => e.2
  | none => x.range

/-- The bin that begins at a boundary is a range-transit bin: a switch came at it or at the boundary before (R131). Bin 0 of a frame
whose bins begin one bin after the switch is one too (DESIGN CHOICE, log 187). -/
def transitBin (x : RxSt) (t : Nat) : Bool := x.switches.any (fun e => e.1 ≠ 0 && (e.1 = t || e.1 + 10 = t))

/-- The range controller at a boundary: a new range is counted and its two bins are range transit (R131).
(DEDUCED, log 54) -/
def State.rangeControl (s : State) (p : Port) (t : Nat) : State :=
  match s.rangeRequest p t with
  | none => s
  | some r =>
    if r = (s.port p).rx.range then s
    else
      (s.setRx p (fun x => { x with range := r, switches := addSwitch t x.range r x.switches })).count
        Ctr.rxStats_rangeSwitches p.val 1

/-- The last receive bin boundary of a port. -/
def State.rxBoundary (s : State) (p : Port) : Nat :=
  let d := s.dRxNs p % 10
  if s.tb < d then 0 else s.tb - (s.tb - d) % 10

/-- The first receive bin boundary of a port at or after a moment. -/
def State.nextBoundary (s : State) (p : Port) (t : Nat) : Nat := t + (s.dRxNs p % 10 + 10 - t % 10) % 10

/-- RANGE_SWITCH (R134). (DEDUCED, log 54) -/
def rangeSwitch (dt : Nat) (p : Port) (s0 : State) : State :=
  let s := s0.elapse dt
  s.rangeControl p (s.rxBoundary p)

/-! ## Overload (R132) -/

/-- Code of an input in events and in RX_STATUS: 1 X, 2 Y. (DEDUCED, log 52) -/
def inputCode (i : Fin 2) : Nat := 1 + i.val

/-- OVLD_ONSET: OVLD is raised now, for `held` ns; it is counted, flagged, and reported at most once per second. The overload
detector works on a stopped port too (DESIGN CHOICE, log 164). (DEDUCED, log 52) -/
def ovldOnset (dt : Nat) (p : Port) (i : Fin 2) (held : Nat) (s0 : State) : State :=
  if !s0.clocked then s0.elapse dt
  else
  let s := (s0.elapse dt).count Ctr.rxStats_ovld p.val 1
  let s1 := s.setRx p (fun x =>
    { x with ovldSeen := true,
             ovld := (i, s.tb, s.tb + held) :: x.ovld.filter (fun o => s.tb < o.2.2 + rxKeepNs) })
  let quiet := match (s.port p).rx.lastOvld with
    | some t => decide (s.clk - t < secNs)
    | none => false
  if s.flag Fld.rxCfg_ovldEvent p.val && !quiet then
    (s1.setRx p (fun x => { x with lastOvld := some s.clk })).event evRxOverload p.val (inputCode i) []
  else s1

/-! ## Pair checks (R148 to R150) -/

/-- A calibration step uses the windows of a port. -/
def State.calUsesWindows (s : State) (p : Port) : Bool := s.calOn .conv p || s.calOn .raman p

/-- A window opens at W: its pair check begins, at the range that is due, switched at the first receive bin boundary from W on,
unless calibration uses the window (R148). A window that a CONV step uses is counted as skipped whatever PAIR_CHECK says
(DEDUCED, log 188). (DEDUCED, log 53) -/
def State.pairBegin (s : State) (p : Port) (w : Nat) : State :=
  let on := s.flag Fld.rxCfg_pairCheck p.val
  if s.calUsesWindows p then
    (s.setRun (fun r => { r with now := r.now.map (fun n => { n with windows := vmod n.windows p (· + 1) }) })).countIf
      Ctr.rxStats_pairSkipped p.val (on || s.calOn .conv p)
  else if !on then s
  else
    (s.setRx p (fun x =>
      { x with checking := some w, runRange := x.dueRange, dueRange := (x.dueRange + 1) % 4 })).rangeControl p (s.nextBoundary p w)

/-- The pilot current of a port's X and Y inputs at a nanosecond, nA: a square wave of 12.5 MHz at 40 % of the full scale of
the range in use, from 0.100 to 2.400 µs of a window whose check runs, its positive half first (R130, R148; DESIGN CHOICE,
log 174). -/
def State.pilot (s : State) (p : Port) (t : Nat) : Int :=
  let x := (s.port p).rx
  match x.checking with
  | none => 0
  | some w =>
    if w + 100 ≤ t ∧ t < w + 2400 then
      let amp : Int := 200000 / 2 ^ rangeAt x t
      if (t - (w + 100)) / 40 % 2 = 0 then amp else -amp
    else 0

/-- Sum of some codes, and the sum of |n code - sum| over them: n x O and n^2 x A. -/
def codeSum (xs : List Int) : Int := xs.foldl (· + ·) 0
def codeSpread (xs : List Int) : Nat :=
  (xs.map (fun c => ((xs.length : Int) * c - codeSum xs).natAbs)).foldl (· + ·) 0

/-- A code at an end of the converter (R137). (DEDUCED, log 55) -/
def clipped (c : Int) : Bool := c ≤ -8192 || 8191 ≤ c

/-- A span joins the spans that have been looked at; those that it meets become one with it. -/
def joinSpan (a b : Nat) (xs : List (Nat × Nat)) : List (Nat × Nat) :=
  let meets (x : Nat × Nat) : Bool := decide (x.1 ≤ b ∧ a ≤ x.2)
  let touched := xs.filter meets
  ((touched.map (·.1)).foldl min a, (touched.map (·.2)).foldl max b) :: xs.filter (fun x => !meets x)

/-- Clipped codes from a nanosecond on at moments that have not been looked at. -/
def newClips (seen : List (Nat × Nat)) : Nat → List Code → Nat
  | _, [] => 0
  | t, c :: cs =>
    bitNat (clipped c.toInt && !seen.any (fun x => decide (x.1 ≤ t ∧ t < x.2))) + newClips seen (t + 1) cs

/-- Codes of both converters from a nanosecond on have been seen: those not seen before are counted where they are clipped,
once each (R137, R151, R152). (DEDUCED, log 55) -/
def State.takeCodes (s : State) (p : Port) (tFirst : Nat) (xs ys : List Code) : State :=
  let seen := (s.port p).rx.seen
  let nx := newClips seen tFirst xs
  let ny := newClips seen tFirst ys
  ((s.setRx p (fun x =>
    { x with seen := joinSpan tFirst (tFirst + xs.length) x.seen, clipSeen := x.clipSeen || decide (nx + ny ≠ 0) })).count
    Ctr.rxStats_clipX p.val nx).count Ctr.rxStats_clipY p.val ny

/-- The kinds that fail, of each input: OFFSET 1, GAIN 2, MISMATCH 3 (R149). (DEDUCED, log 52; DEDUCED, log 55) -/
def pairFails (xs ys : List Int) (rx ry : Nat) : List (Nat × Nat) :=
  let n := xs.length
  let off (c : List Int) : Bool := 64 * n < (codeSum c).natAbs
  let gain (c : List Int) (r : Nat) : Bool := r * n * n < 10 * ((codeSpread c : Int) - (r * n * n : Nat)).natAbs
  let mis := 3 * (rx + ry) * n * n < 200 * ((codeSpread xs : Int) - codeSpread ys).natAbs
  (if off xs || off ys then [(1, bitNat (off xs) + 2 * bitNat (off ys))] else [])
    ++ (if gain xs rx || gain ys ry then [(2, bitNat (gain xs rx) + 2 * bitNat (gain ys ry))] else [])
    ++ (if mis then [(3, 3)] else [])

/-- Mean offset and amplitude in codes; the rounding of a remainder is open (DESIGN CHOICE, log 15).
(DEDUCED, log 53) -/
def offsetOf (xs : List Int) : Int :=
  divNearest (Config.roundUp (codeSum xs).natAbs xs.length) (codeSum xs) (max 1 xs.length)
def amplOf (xs : List Int) : Nat :=
  (divNearest (Config.roundUp (codeSpread xs) (xs.length * xs.length)) (codeSpread xs : Int)
    (max 1 (xs.length * xs.length))).toNat

/-- The state of a range's check after a verdict (R150). (DEDUCED, log 53) -/
def pairJudge (r : Fin 4) (bad : Bool) (x : RxSt) : RxSt :=
  if bad then { x with fails := vmod x.fails r (fun n => n + 1), passes := 0 }
  else { x with fails := vmod x.fails r (fun _ => 0), passes := x.passes + 1 }

/-- PAIR_FAULT clears (R150); what it recorded reads 0 again, and the counts of consecutive failures stay (DESIGN CHOICE,
log 172). -/
def State.pairClear (s : State) (p : Port) : State :=
  if (s.port p).rx.pairFault then
    (s.setRx p (fun x => { x with pairFault := false, faultInput := 0, faultKind := 0, faultRange := 0 })).event
      evRxPairClear p.val noUnit []
  else s

/-- The measurement of a check that began at W has ended and its window is open (R148). -/
def State.pairDone (s : State) (p : Port) (w : Nat) : Bool :=
  decide (w + 2400 ≤ s.tb) && (s.port p).seq.window.any (fun x => decide (s.tb < x.closes))

/-- A check of a range is judged: its figures, its counts, and the fault that a third failure sets or an eighth pass clears
(R149, R150), against the reference amplitudes that a CONV step measured, or before one against the starting values with the
pilot current as REF measured it (R414; DESIGN CHOICE, log 199). A third failure at another range while PAIR_FAULT stands records nothing (DESIGN CHOICE, log 172).
(DEDUCED, log 52; DEDUCED, log 53) -/
def State.pairVerdict (s : State) (p : Port) (xs ys : List Int) : State :=
  let x := (s.port p).rx
  let r : Fin 4 := ⟨x.runRange % 4, by omega⟩
  let refOf (ampl : Nat) : Nat := if x.corr.isNone then ampl * (s.calPort p).pilot / 1000 else ampl
  let bad := pairFails xs ys (refOf x.refX[r]) (refOf x.refY[r])
  let s1 := s.setRx p (fun y =>
    pairJudge r (!bad.isEmpty)
      { y with checking := none, checkRange := r.val, offsetX := offsetOf xs, offsetY := offsetOf ys, amplX := amplOf xs, amplY := amplOf ys })
  let s2 := (s1.count Ctr.rxStats_pairChecks p.val 1).countIf Ctr.rxStats_pairFail p.val (!bad.isEmpty)
  let y := (s2.port p).rx
  match bad with
  | (kind, input) :: _ =>
    if 3 ≤ y.fails[r] ∧ ¬ y.pairFault then
      (s2.setRx p (fun z =>
        { z with pairFault := true, faultInput := input, faultKind := kind, faultRange := r.val })).event
        evRxPairFault p.val input [kind, r.val]
    else s2
  | [] => if 8 ≤ y.passes then s2.pairClear p else s2

/-- PAIR_CHECK_END: the 2,048 codes of each input from 0.300 µs into the window are judged once they are complete (R148 to
R150). -/
def pairCheckEnd (dt : Nat) (p : Port) (xs ys : List Code) (s0 : State) : State :=
  let s := s0.elapse dt
  match (s.port p).rx.checking with
  | none => s
  | some w =>
    if s.pairDone p w && xs.length == 2048 && ys.length == 2048 then
      (s.takeCodes p (w + 300) xs ys).pairVerdict p (xs.map (·.toInt)) (ys.map (·.toInt))
    else s

/-! ## Filter choice (R141) -/

/-- The response that FILTER names, or that AUTO takes for a pulse width: 0 5 ns, 1 10 ns, 2 20 ns (R141). -/
def filterResp (filter width : Nat) : Fin 3 :=
  match filter with
  | 1 => 0
  | 2 => 1
  | 3 => 2
  | _ => if width ≤ 7 then 0 else if width ≤ 14 then 1 else 2

/-! ## RX_STATUS (R151) -/

/-- (DEDUCED, log 55) -/
def State.rxStatus (s : State) (p : Port) : List Nat :=
  let x := (s.port p).rx
  [x.range + 4 * bitNat x.pairFault + 8 * x.faultInput + 32 * x.faultKind + 128 * x.faultRange + 512 * bitNat x.clipSeen
      + 1024 * bitNat x.ovldSeen,
   toBits 16 x.offsetX + 65536 * toBits 16 x.offsetY, x.amplX + 65536 * x.amplY, x.checkRange]

end Sys2Proof.Machine
end

