-- ==== Sys2Proof/Machine/Mace.lean ====
section
/-! DEFINITION. The Mace channeliser and the probe: oscillators, probe waveform, mixing and range correction, filtering, output
words and flags, raw words (R126, R137 to R146). -/

namespace Sys2Proof.Machine

/-! ## Oscillators (R138) -/

/-- The 48-bit frequency word of an IF in kHz: IF x 2^48 / 1.000 GHz to nearest, a tie as log 15 has it (R138). -/
def freqWord (khz : Nat) : Nat :=
  let n := khz * 2 ^ 48
  (divNearest (Config.roundUp n 1000000) (n : Int) 1000000).toNat

/-- Phase of an oscillator at a nanosecond of the time base, in 1/2^48 turn (R138). -/
def oscPhase (khz t : Nat) : Nat := freqWord khz * t % 2 ^ 48

/-! ## The probe (R126) -/

/-- Amplitude A of a probe in 1/256 mV: PROBE_AMPL x PROBE_LEVEL (R126). -/
def State.probeAmpl (s : State) (p : Port) : Nat :=
  match s.record p with
  | some r => u16At r 0x142 * s.fld Fld.seqPort_probeLevel p.val
  | none => 0

/-- E at a half nanosecond of the time base, for a pulse of `width` ns launched at `t` ns: edges of 2.0 ns as raised cosines,
within 5 ns on either side (R126). -/
def probeEnvelope (t width h : Nat) : Int :=
  let first : Int := 2 * (t : Int) - 10
  let last : Int := 2 * ((t + width : Nat) : Int) + 10
  let x : Int := h
  let edge (u : Int) : Int := (fxOne - fxCos (fxPi * u / 4)) / 2
  if x < first ∨ last < x then 0
  else if x < first + 4 then edge (x - first)
  else if last - 4 < x then edge (last - x)
  else fxOne

/-- The outputs I and Q of a port's probe DACs at a half nanosecond of the time base, in 1/256 mV with 64 fraction bits; zero
outside the launches (R126). The accumulator has the phase of the slot's oscillator (R138). -/
def State.probeOut (s : State) (p : Port) (h : Nat) : Int × Int :=
  match (s.port p).seq.frames.find? (fun f => probeEnvelope f.start f.pulse h ≠ 0) with
  | none => (0, 0)
  | some f =>
    let a := (f.ampl : Int) * probeEnvelope f.start f.pulse h
    let ph := freqWord f.ifKhz * h
    (fxMul a (turnCos (2 ^ 49) ph), fxMul a (turnSin (2 ^ 49) ph))

/-! ## Mixing and range correction (R140) -/

/-- Number of an input and range in the tables of TIA_GAIN, trims and corrections of the state: X and Y of each range in turn. -/
def corrIx (pol : Fin 2) (r : Nat) : Nat := 2 * r + pol.val

/-- Offset trims and corrections in effect at a nanosecond of the time base (R140). -/
def RxSt.coefAt (x : RxSt) (t : Nat) : List Int × Option (List (Int × Int)) :=
  match x.coefBefore with
  | some (t0, trims, corr) => if t < t0 then (trims, corr) else (x.trims, x.corr)
  | none => (x.trims, x.corr)

/-- Magnitude of C_r with 64 fraction bits and its phase in 1/65,536 turn: 32,768 / TIA_GAIN and 0 until calibration refines
them (R140). -/
def State.correction (s : State) (p : Port) (corr : Option (List (Int × Int))) (pol : Fin 2) (r : Nat) : Int × Int :=
  let gain := match s.record p with
    | some b => u16At b (0x148 + 8 * pol.val + 2 * r)
    | none => 32768
  let c := match corr with
    | some cs => cs.getD (corrIx pol r) (1000, 0)
    | none => (1000, 0)
  (32768 * c.1 * fxOne / ((1000 * gain : Nat) : Int), c.2)

/-- The constants of z for one input and one range: magnitude of C_r x 2^(3 - r), phase of C_r in 1/2^48 turn, offset trim. -/
structure MixCoef where
  mag : Int
  phase : Int
  trim : Int
deriving DecidableEq, Repr

/-- The constants of an input for a range and a nanosecond of the time base: refined values count from the cycle boundary at which
they took effect (R140). -/
def State.mixCoef (s : State) (p : Port) (pol : Fin 2) (r t : Nat) : MixCoef :=
  let k := (s.port p).rx.coefAt t
  let c := s.correction p k.2 pol r
  ⟨c.1 * 2 ^ (3 - r), c.2 * 2 ^ 32, k.1.getD (corrIx pol r) 0⟩

/-- 8 z(t), with 64 fraction bits, of a code in a range: (x - trim) e^(-j phi) C_r 2^(-r) (R140, R412). -/
def mixCode (m : MixCoef) (phi : Nat) (x : Int) : Cpx :=
  let a := toBits 48 ((phi : Int) - m.phase)
  let v := (x - m.trim) * m.mag
  ⟨fxMul v (turnCos (2 ^ 48) a), -(fxMul v (turnSin (2 ^ 48) a))⟩

/-! ## Filter, decimation and scale (R141, R143, R145) -/

/-- Divide, the rounding of a remainder left open (DESIGN CHOICE, log 15). -/
def divOpenInt (a : Int) (b : Nat) : Int := a / (b : Int) + (if a % (b : Int) = 0 then 0 else (bitNat (Config.roundUp a.natAbs b) : Int))

/-- One output word: 4 x 2^r of the filtered value, saturated, and whether it saturated (R145). `sum` is that of 8 z times the
response's coefficients, `gain` the sum of those. -/
def outWord (r : Nat) (sum gain : Int) : BitVec 16 × Bool :=
  let n := 4 * 2 ^ r * (if gain < 0 then -sum else sum)
  let v := divOpenInt n (8 * fxOne.toNat * gain.natAbs)
  (BitVec.ofInt 16 (clampInt (-32768) 32767 v), decide (v < -32768 ∨ 32767 < v))

/-- The 150 codes of bins b - 7 to b + 7, each with its nanosecond and the sum of its products so far. -/
def filterSum (resp : Nat) (coef : Nat → Nat → MixCoef) (phi : Nat → Nat) (range : Nat → Nat) :
    Nat → Nat → List Code → Cpx → Cpx
  | _, _, [], acc => acc
  | i, t, x :: xs, acc =>
    let z := mixCode (coef (range t) t) (phi t) x.toInt
    let h := Config.maceTap resp i
    filterSum resp coef phi range (i + 1) (t + 1) xs ⟨acc.re + h * z.re, acc.im + h * z.im⟩

/-- Sum of the coefficients of a response. -/
def filterGain (resp : Nat) : Int := ((List.range 150).map (Config.maceTap resp)).foldl (· + ·) 0

/-- A complex output per bin and polarisation, with its flags (R145, R146). -/
structure BinOut where
  xi : BitVec 16
  xq : BitVec 16
  yi : BitVec 16
  yq : BitVec 16
  range : Fin 4
  clip : Bool
  transit : Bool
  blank : Bool
  satX : Bool
  satY : Bool
deriving DecidableEq, Repr

/-- Codes from a nanosecond on, `n` of them. -/
def codesAt (tFirst : Nat) (cs : List Code) (t n : Nat) : List Code := (cs.drop (t - tFirst)).take n

/-- OVLD was raised on either input at some moment of a span (R132). -/
def ovldIn (x : RxSt) (t n : Nat) : Bool := x.ovld.any (fun o => decide (o.2.1 < t + n ∧ t < o.2.2))

/-- The output of bin b of a frame, from codes that reach from bin b - 7 to bin b + 7 (R143 to R146). -/
def State.binOut (s : State) (p : Port) (f : Frame) (tFirst : Nat) (xs ys : List Code) (b : Nat) : BinOut :=
  let x := (s.port p).rx
  -- the bin begins here
  let t := f.start + s.dRxNs p + 10 * b
  let r := rangeAt x t
  let gain := filterGain f.resp.val
  let one (pol : Fin 2) (cs : List Code) : Cpx :=
    filterSum f.resp.val (s.mixCoef p pol) (oscPhase f.ifKhz) (rangeAt x) 0 (t - 70) (codesAt tFirst cs (t - 70) 150) ⟨0, 0⟩
  let zx := one 0 xs
  let zy := one 1 ys
  let xi := outWord r zx.re gain
  let xq := outWord r zx.im gain
  let yi := outWord r zy.re gain
  let yq := outWord r zy.im gain
  { xi := xi.1, xq := xq.1, yi := yi.1, yq := yq.1, range := ⟨r % 4, by omega⟩,
    clip := ((codesAt tFirst xs (t - 10) 30) ++ (codesAt tFirst ys (t - 10) 30)).any (fun c => clipped c.toInt)
      || ovldIn x (t - 10) 30,
    transit := transitBin x t, blank := frameBlank f b, satX := xi.2 || xq.2, satY := yi.2 || yq.2 }

/-! ## Delivery (R144) and the sums of the mask test (R293) -/

/-- Bins that a frame delivers: 0 to F - d - 1, the whole frame of R108 (R144). -/
def frameBins (f : Frame) : Nat := (f.stop - f.start) / 10

/-- The first bin that some codes give whole, and the last, plus 1: bin b needs bins b - 7 to b + 7 (R143). -/
def State.coveredFrom (s : State) (p : Port) (f : Frame) (tFirst : Nat) : Nat := ceilDiv (tFirst + 70 - (f.start + s.dRxNs p)) 10
def State.coveredTo (s : State) (p : Port) (f : Frame) (tFirst n : Nat) : Nat :=
  min (frameBins f) ((tFirst + n - (f.start + s.dRxNs p + 70)) / 10)

/-- What a frame adds for one bin: |X|² + |Y|² at range 0 in 1/64, and whether the bin counts (R293).
(DEDUCED, log 101) -/
def binPower (b : BinOut) : Nat × Nat :=
  if b.blank || b.transit || b.clip then (0, 0)
  else
    let sq (x : BitVec 16) : Nat := x.toInt.natAbs * x.toInt.natAbs
    ((sq b.xi + sq b.xq + sq b.yi + sq b.yq) * 4 ^ (3 - b.range.val), 1)

/-- Sums and counts of two lists of bins, bin by bin. (DEDUCED, log 101) -/
def addSums : List (Nat × Nat) → List (Nat × Nat) → List (Nat × Nat)
  | [], ys => ys
  | xs, [] => xs
  | x :: xs, y :: ys => (x.1 + y.1, x.2 + y.2) :: addSums xs ys

/-- How far the smoothing reaches each way: h (R293). -/
def State.maskReach (s : State) (p : Port) : Nat := 2 ^ s.fld Fld.mask_smooth p.val / 2

/-- Bins below FIRST_BIN that the sums hold. -/
def State.maskLead (s : State) (p : Port) : Nat := min (s.maskReach p) (s.fld Fld.mask_firstBin p.val)

/-- The first bin that the sums hold, and how many they hold: the tested span and what the smoothing reaches (R293). -/
def State.maskFirst (s : State) (p : Port) : Nat := s.fld Fld.mask_firstBin p.val - s.maskLead p
def State.maskSpan (s : State) (p : Port) : Nat := s.fld Fld.mask_lastBin p.val + 1 + s.maskReach p - s.maskFirst p

/-- What a frame of cycle c adds enters the sums of its trace: the latest that begins by that cycle (R293). -/
def addTrace (c : Nat) (adds : List (Nat × Nat)) : List MaskTrace → List MaskTrace
  | [] => []
  | x :: rest =>
    if rest.any (fun y => decide (y.first ≤ c)) || decide (c < x.first) then x :: addTrace c adds rest
    else { x with sums := addSums x.sums adds } :: rest

/-- Bins of a taken frame of cycle c, from `first` on, enter the sums (R293). (DEDUCED, log 101) -/
def State.maskAdd (s : State) (p : Port) (c first : Nat) (bins : List BinOut) : State :=
  let base := s.maskFirst p
  let adds := (List.replicate (first - base) (0, 0)) ++ (bins.drop (base - first)).map binPower
  s.setMask p (fun x => { x with traces := addTrace c (adds.take (s.maskSpan p)) x.traces })

/-- The channeliser delivers what some codes complete of a frame: its next bins, each once. Saturated outputs are counted, and
a taken frame adds to the mask test (R144, R145, R152, R293). (DEDUCED, log 56) -/
def State.maceDeliver (s : State) (p : Port) (f : Frame) (tFirst : Nat) (xs ys : List Code) : State :=
  let first := max f.formed (s.coveredFrom p f tFirst)
  let upTo := s.coveredTo p f tFirst xs.length
  if upTo ≤ first then s
  else
    let bins := (List.range (upTo - first)).map (fun i => s.binOut p f tFirst xs ys (first + i))
    let s1 := (s.setSeq p (fun q => { q with frames := q.frames.map (fun g =>
        if g.start = f.start ∧ g.slot = f.slot then { g with formed := upTo } else g) })).count Ctr.rxStats_maceSat p.val
        ((bins.filter (·.satX)).length + (bins.filter (·.satY)).length)
    if f.taken && s.flag Fld.mask_en p.val && !(s.mask p).stopped && f.era == (s.port p).queue.era then
      s1.maskAdd p f.cycle first bins
    else s1

/-! ## Raw words (R137) -/

/-- The 16-bit word of a code at a nanosecond, by ALIGN and RAW_TAG (R137). -/
def State.rawWord (s : State) (p : Port) (t : Nat) (c : Code) : Half :=
  let x := (s.port p).rx
  if s.flag Fld.rxCfg_align p.val then c.signExtend 16
  else
    let inTransit := x.switches.any (fun e => decide (e.1 ≠ 0 ∧ e.1 ≤ t ∧ t < e.1 + 20))
    let tag : Nat := match s.fld Fld.rxCfg_rawTag p.val with
      | 1 => 2 * bitNat (clipped c.toInt) + bitNat inTransit
      | 2 => rangeAt x t
      | _ => 0
    (c.setWidth 16 <<< 2) ||| BitVec.ofNat 16 tag

/-- The words of codes from a nanosecond on. -/
def State.rawWords (s : State) (p : Port) : Nat → List Code → List Half
  | _, [] => []
  | t, c :: cs => s.rawWord p t c :: s.rawWords p (t + 1) cs

end Sys2Proof.Machine
end

