-- ==== Sys2Proof/Machine/Sequencer.lean ====
section
/-! DEFINITION. The shot sequencer: cycle boundaries, launches, the arbiter, blanking, windows, stops (R106 to R129). -/

namespace Sys2Proof.Machine

/-! ## Blanking (R111, R112) -/

/-- Blanking length of a launch of the given width, bins. -/
def blankBins (width : Nat) : Nat := (width + 199) / 10

/-- What a launch at t blanks in a frame in flight. -/
def blankBy (t b : Nat) (f : Frame) : Frame :=
  if f.start < t ∧ t < f.stop then { f with blanks := f.blanks ++ [((t - f.start) / 10, min b ((f.stop - t) / 10))] } else f

/-! ## Launches (R107 to R109) -/

/-- A launch at t of TRIG_PORT's GATE or PUMP counts towards the trigger of HK-B, which falls due DELAY_US after the rising edge of
every TRIG_DIV-th (R395). -/
def State.hkLaunch (s : State) (p : Port) (trig t : Nat) : State :=
  if s.fld Fld.hkCfg_trig 1 = trig ∧ s.fld Fld.hkCfg_trigPort 1 = p.val ∧ s.flag Fld.hkCfg_en 1 then
    let at_ := s.clk + t + s.fld Fld.hkCfg_delayUs 1 * usNs - s.tb
    s.setHouse (fun h => { h with hk := vmod h.hk 1 (fun x =>
      if s.fld Fld.hkCfg_trigDiv 1 ≤ x.launches + 1 then { x with launches := 0, due := x.due ++ [at_] }
      else { x with launches := x.launches + 1 }) })
  else s

/-- A frame and what returns after its end are still to be formed: to the latency of R167 after its end at the balls.
(DEDUCED, log 178) -/
def frameLive (drx t : Nat) (f : Frame) : Bool := decide (t ≤ f.stop + drx + 175)

/-- The frame of a launch with the values in effect (R108, R120, R126, R133, R139). -/
def State.newFrame (s : State) (p : Port) (k : Fin 4) (t stop cycle pos rank : Nat) : Frame :=
  let width := s.fld Fld.seqPort_pulseWidth p.val
  { slot := k, start := t, stop := stop, cycle := cycle, pos := pos, pulse := width, blanks := [(0, blankBins width)],
    profile := s.profileOf p k, rank := rank, era := (s.port p).queue.era, ifKhz := s.fld (ifFld k) p.val,
    resp := filterResp (s.fld Fld.rxCfg_filter p.val) width, shift := s.fld Fld.gaugeCfg_alignShift p.val,
    ampl := s.probeAmpl p, restart := (s.port p).seq.realign.getLsbD k.val, taken := (s.mask p).taking, cutAt := none,
    formed := 0, gauges := 0 }

/-- A slot's alignment vectors of the gauges from `n` on are none. -/
def dropAlign (k : Fin 4) (n : Nat) (mem : Tab GaugeMem) : Tab GaugeMem :=
  mem.map (fun e => if n ≤ e.1 then (e.1, { e.2 with align := vmod e.2.align k (fun _ => none) }) else e)

/-- Frames that leave the list with an alignment restart take the vectors of the gauges they have not formed with them (R159). -/
def dropFrames (gone : List Frame) (mem : Tab GaugeMem) : Tab GaugeMem :=
  gone.foldl (fun m f => if f.restart then dropAlign f.slot f.gauges m else m) mem

/-- A DAS launch of a slot at t, whose frame ends at `stop`: GATE's pulse, what it blanks, the window it closes, its busy slot,
the alignment that restarts with it (R159), the strobe to the time-interval unit and, as the first since an enable, the first
proof (R90, R385). (DEDUCED, log 43) -/
def State.launch (s : State) (p : Port) (k : Fin 4) (t stop cycle pos rank : Nat) : State :=
  let f := s.newFrame p k t stop cycle pos rank
  let first := !(s.port p).seq.started
  let drx := s.dRxNs p
  let s1 := (s.setSeq p (fun q =>
    { q with frames := (q.frames.filter (frameLive drx t)).map (blankBy t (blankBins f.pulse)) ++ [f],
             busyUntil := vmod q.busyUntil k (fun _ => stop), lastLaunch := t, window := none, started := true,
             realign := q.realign &&& ~~~(1#4 <<< k.val) })).setRx p (fun x => { x with checking := none })
  let gone := (s.port p).seq.frames.filter (fun x => !frameLive drx t x)
  let s2 := ((s1.setGauge p (fun g => { g with mem := dropFrames gone g.mem })).setEmitter p .gate (fun x =>
    { x with pulse := some (t, t + f.pulse) })).countIf Ctr.gaugeStats_alignRestarts p.val f.restart
  let s3 := if first then s2.setDrive p (fun d => { d with proofDue := some (s.clk + s.proofInterval p - (s.tb - t)) }) else s2
  ((s3.count Ctr.portStats_launches p.val 1).hkLaunch p 1 t).tiLaunch p k t

/-- The scheduled launch of a slot in the cycle in progress (R106). -/
def State.scheduled (s : State) (p : Port) (k : Fin 4) : Nat :=
  let m := s.slotMask p
  let r := slotRank m k
  s.cycleStart p (s.grid p).cycle + 10 * (slotOffset (s.frame p) (max 1 (slotCount m)) r + (s.grid p).dither.getD r 0)

/-- GRID_LAUNCH: the arbiter passes a grid request whose time has come (R106, R109). -/
def gridLaunch (dt : Nat) (p : Port) (k : Fin 4) (s0 : State) : State :=
  let s := s0.elapse dt
  let q := (s.port p).seq
  let g := s.grid p
  let m := s.slotMask p
  let t := s.scheduled p k
  if onGrid q && g.launched && m.testBit k.val && !s.windowCycle p g.cycle && decide (t ≤ s.tb)
      && decide (q.busyUntil[k] ≤ t) then
    let r := slotRank m k
    let stop := s.cycleStart p (g.cycle + 1) + 10 * slotOffset (s.frame p) (max 1 (slotCount m)) r
    s.launch p k t stop g.cycle (q.gridPos + r) r
  else s

/-! ## Host launches (R109, R110) -/

/-- LAUNCH_SHOT is accepted: the request falls due at the first bin boundary at least 1.000 µs after its acceptance `ago` ns
before this moment. (DEDUCED, log 47) -/
def State.requestShot (s : State) (rq : Req) (p : Port) (k : Fin 4) (ago : Nat) : State :=
  s.setSeq p (fun q => { q with requests := q.requests ++ [⟨rq, k, up10 (s.tb - ago + 1000), false⟩] })

/-- A host shot in SINGLE mode at t: its own stretch of positions (R164, R165); its cycle is the whole number of frame periods in
the launch time (DESIGN CHOICE, log 190). -/
def State.singleShot (s : State) (p : Port) (k : Fin 4) (t : Nat) : State :=
  let pos := (s.port p).seq.gridPos
  let s1 := s.launch p k t (t + 10 * s.frame p) (t / (10 * max 1 (s.frame p))) pos (slotRank (s.slotMask p) k)
  s1.setSeq p (fun x => { x with gridPos := pos + 1, spans := (pos, t, 0) :: x.spans })

/-- The arbiter decides a host request at its due time. In SINGLE mode the frame boundary at which shadowed values apply is the
launch: they take effect for it, and it is judged with them (R8, R12, R135; DESIGN CHOICE, log 171). (DEDUCED, log 47) -/
def State.arbitrate (s : State) (p : Port) (r : LaunchReq) : State :=
  let q := (s.port p).seq
  let t := r.due
  let s1 := s.setSeq p (fun x => { x with requests := x.requests.filter (fun y => y.req.tag ≠ r.req.tag) })
  match q.mode with
  | .stopped | .starting | .halted | .shut => s1.complete r.req .notRunning
  | .running =>
    if !(s.slotMask p).testBit r.slot.val then s1.complete r.req .badParam
    else (s1.count Ctr.portStats_launchRefused p.val 1).complete r.req .slotBusy
  | .single =>
    let s2 := s1.takeShadow p t
    if !(s2.slotMask p).testBit r.slot.val then s1.complete r.req .badParam
    else if t < q.busyUntil[r.slot] ∨ t < q.windowUntil then
      (s1.count Ctr.portStats_launchRefused p.val 1).complete r.req .slotBusy
    else if q.lastLaunch ≠ 0 ∧ t < q.lastLaunch + 1000 then
      (s.setSeq p (fun x =>
        { x with requests := x.requests.map (fun y =>
            if y.req.tag = r.req.tag then { y with due := q.lastLaunch + 1000, deferred := true } else y) })).count
        Ctr.portStats_launchDeferred p.val 1
    else (s2.singleShot p r.slot t).completeResult r.req .ok (leBytes 8 t)

/-- The first host request of a port that is due, deferred or not. -/
def State.dueRequest (s : State) (p : Port) (deferred : Bool) : Option LaunchReq :=
  (s.port p).seq.requests.find? (fun r => decide (r.due ≤ s.tb) && r.deferred == deferred)

/-- HOST_LAUNCH_REQUEST (R110). (DEDUCED, log 47) -/
def hostLaunchRequest (dt : Nat) (p : Port) (s0 : State) : State :=
  let s := s0.elapse dt
  match s.dueRequest p false with
  | some r => s.arbitrate p r
  | none => s

/-- LAUNCH_DEFERRED_RETRY: a deferred request reaches its new due time (R109). -/
def launchDeferredRetry (dt : Nat) (p : Port) (s0 : State) : State :=
  let s := s0.elapse dt
  match s.dueRequest p true with
  | some r => s.arbitrate p r
  | none => s

/-! ## Cycle boundaries (R8, R113, R119, R120, R122) -/

/-- The ports of a grid. -/
def State.gridPorts (s : State) (g : Fin 12) : List Port := allPorts.filter (fun p => s.gridIx p = g)

/-- Mask whose positions the cycle in progress has: the old one in an empty cycle (R119). (DEDUCED, log 51) -/
def State.cycleMask (s : State) (p : Port) : Nat :=
  match (s.grid p).oldMask with
  | some m => m.toNat
  | none => s.slotMask p

/-- The dither register run through `n` cycles. -/
def ditherSkip (span k : Nat) : Nat → BitVec 16 → BitVec 16
  | 0, x => x
  | n + 1, x => ditherSkip span k n (ditherCycle span k x).1

/-- The next cycle from c on that brings a window to the grid of a port: for a Raman window of RAMAN_M, or for a check window
after a whole second (R115). -/
def State.nextWindow (s : State) (p : Port) (c : Nat) : Nat :=
  let m := s.ramanM p
  if m ≠ 0 then c + (m - 1 - c % m)
  else
    let second := (s.cycleStart p (c - 1) / secNs + 1) * secNs
    max c (ceilDiv (second - s.cycleStart p 0) (max 1 (10 * s.frame p)))

/-- A boundary on a port that runs: shadowed values apply, and a changed SLOT_MASK of a free-running port makes the cycle
`c` empty, so that it carries a window (R119). A proof that waits and whose window goes moves to a later one (R94). -/
def State.boundaryPort (c : Nat) (p : Port) (s : State) : State :=
  let ended := slotCount (s.cycleMask p)
  let wasEmpty := (s.grid p).oldMask.isSome
  let pos := (s.port p).seq.gridPos + ended
  let before := s.slotMask p
  let s1 := s.setSeq p (fun q =>
    { q with gridPos := pos, spans := if wasEmpty then (pos, c, before) :: q.spans else q.spans })
  let s2 := s1.takeShadow p (s.cycleStart p c)
  let after := s2.slotMask p
  let changes := decide (before ≠ after) && (s.groupOf p).isNone
  let s3 := if !changes && decide (s.nextWindow p c < s2.nextWindow p c) then s2.proofMoved p else s2
  let s4 := s3.setGrid (s.gridIx p) (fun g => { g with oldMask := if changes then some (BitVec.ofNat 4 before) else none })
  if changes then
    ((s4.setSeq p (fun q => { q with slotMask := BitVec.ofNat 4 after })).count Ctr.portStats_schedChanges p.val 1).markSchedule p
  else s4

/-- A port that waits for a boundary joins its group's grid, at the first boundary after its ramps, or resumes after a mask
stop (R122, R123, R295). -/
def State.boundaryJoin (fresh : Bool) (p : Port) (s : State) : State :=
  let q := (s.port p).seq
  match q.mode with
  | .starting =>
    if q.joined && !s.ramping p && (s.groupOf p).isSome && decide (q.rampsAt ≤ s.cycleStart p (s.grid p).cycle) then s.portBegins p .running (if fresh then 1 else 2) else s
  | .halted => if q.resuming then (s.proofOverdue p).portBegins p .running 3 else s
  | .stopped | .running | .single | .shut => s

/-- The grid as the Raman accounts of a port last saw it, while it runs or is HALTED on it (R179). (DEDUCED, log 45) -/
def State.noteSched (p : Port) (s : State) : State :=
  if onGrid (s.port p).seq ∨ (s.port p).seq.mode = .halted then
    let n := max 1 (slotCount (s.slotMask p))
    let pump := (s.grid p).epoch.getD 0 + 10 * slotOffset (s.frame p) n (n - 1) + 2000
    s.setPort p (fun x => { x with raman := { x.raman with sched := some (pump, s.frame p, s.ramanM p) } })
  else s

/-- A taken cycle c, whose last frame ends at `stop`, joins the trace that still lacks cycles, or begins the next one (R293). -/
def takeCycle (whole c stop : Nat) : List MaskTrace → List MaskTrace
  | [] => [⟨c, 1, stop, []⟩]
  | [x] => if x.taken < whole then [{ x with taken := x.taken + 1, lastEnd := stop }] else [x, ⟨c, 1, stop, []⟩]
  | x :: y :: rest => x :: takeCycle whole c stop (y :: rest)

/-- The mask test and the gap positions of a port that runs, as cycle c is entered. A cycle is taken when its number is a
multiple of STRIDE, or in the turn of a window cycle (R293; DEDUCED, log 175). A window cycle's positions carry GAP (R115, R164). -/
def State.noteCycle (c : Nat) (p : Port) (s : State) : State :=
  let q := (s.port p).seq
  if !onGrid q then s
  else
    let mask := s.cycleMask p
    let n := max 1 (slotCount mask)
    if s.windowCycle p c then
      let era := (s.port p).queue.era
      let new := (maskSlots mask).map (fun k =>
        let r := slotRank mask k
        let off := 10 * slotOffset (s.frame p) n r
        ({ slot := k, start := s.cycleStart p c + off, stop := s.cycleStart p (c + 1) + off, cycle := c, pos := q.gridPos + r,
           rank := r, era := era, gauges := 0 } : GapPos))
      (s.setSeq p (fun x => { x with gaps := (new.reverse ++ x.gaps).take 64 })).setMask p (fun x =>
        { x with taking := false, owed := x.owed || decide (c % s.fld Fld.mask_stride p.val = 0) })
    else
      let turn := decide (c % s.fld Fld.mask_stride p.val = 0) || (s.mask p).owed
      let takes := turn && s.flag Fld.mask_en p.val && !(s.mask p).stopped
      let stop := s.cycleStart p (c + 1) + 10 * slotOffset (s.frame p) n (n - 1)
      s.setMask p (fun x =>
        { x with taking := takes, owed := false,
                 traces := if takes then takeCycle (2 ^ s.fld Fld.mask_avg p.val) c stop x.traces else x.traces })

/-- Dither of the cycle in progress: the register has run through the cycles before it. (DEDUCED, log 51) -/
def State.gridDither (s : State) (g : Fin 12) (p : Port) (skip : Nat) : State :=
  let n := slotCount (s.cycleMask p)
  let span := ditherSpan (s.ditherBits p)
  let x := s.grids[g]
  let d := ditherCycle span n (ditherSkip span n skip x.lfsr)
  s.setGrid g (fun y => { y with lfsr := d.1, dither := d.2 })

/-- A grid with a port enters cycle c, having left out `skip` cycles before it: at its epoch, or with an epoch in the past at
some moment of a cycle (`fresh`; R122, R123). (DEDUCED, log 50) -/
def State.enterCycle (s : State) (g : Fin 12) (p : Port) (c skip : Nat) (fresh : Bool) : State :=
  let ports := s.gridPorts g
  let runners := ports.filter (fun q => onGrid (s.port q).seq)
  let halted := ports.filter (fun q => (s.port q).seq.mode = .halted)
  let s1 := if fresh then s else runners.foldl (fun t q => State.boundaryPort c q t) s
  let s2 := (halted.foldl (fun t q => t.takeShadow q (s.cycleStart q c)) s1).setGrid g (fun x =>
    { x with cycle := c, launched := true, oldMask := if runners = [] then none else x.oldMask })
  let s3 := s2.gridDither g p skip
  let s4 := ports.foldl (fun t q => State.boundaryJoin (fresh && c = 0) q t) s3
  ports.foldl (fun t q => State.noteCycle c q (State.noteSched q t)) s4

/-- CYCLE_BOUNDARY of a grid: of a free-running port (0 to 7) or a lockstep group (8 to 11). (DEDUCED, log 50) -/
def cycleBoundary (dt : Nat) (g : Fin 12) (s0 : State) : State :=
  let u := s0.elapse dt
  let s := if h : 8 ≤ g.val then u.groupEpoch ⟨g.val - 8, by omega⟩ else u
  match s.gridPorts g, s.grids[g].epoch with
  | p :: _, some e =>
    let x := s.grids[g]
    let f := 10 * s.frame p
    if f = 0 then s
    else if !x.launched then
      if s.tb < e then s
      else
        let c := (s.tb - e) / f
        (s.setGrid g (fun y => { y with lfsr := BitVec.ofNat 16 (s.ditherSeed p) })).enterCycle g p c c true
    else if e + (x.cycle + 1) * f ≤ s.tb then s.enterCycle g p (x.cycle + 1) 0 false
    else s
  | _, _ => s

/-! ## Windows (R115 to R117, R148) -/

/-- W of the cycle in progress: the end of its last frame (R116). -/
def State.windowStart (s : State) (p : Port) : Nat :=
  let n := max 1 (slotCount (s.cycleMask p))
  s.cycleStart p (s.grid p).cycle + 10 * slotOffset (s.frame p) n (n - 1)

/-- The first DAS launch of the next cycle. -/
def State.windowClose (s : State) (p : Port) : Nat :=
  let d := ditherCycle (ditherSpan (s.ditherBits p)) 1 (s.grid p).lfsr
  s.cycleStart p ((s.grid p).cycle + 1) + 10 * d.2.headD 0

/-- A window of a port opens at W and closes at the given moment: it is counted where it is a check window, and its pair
check begins (R116, R117, R148). -/
def State.openWindow (s : State) (p : Port) (raman : Bool) (w close : Nat) : State :=
  ((s.setSeq p (fun x => { x with window := some ⟨raman, w, close, false, false⟩, windowUntil := close })).countIf
    Ctr.portStats_checkWindows p.val (!raman)).pairBegin p w

/-- WINDOW_OPEN: once in each window cycle, from the end of its last frame on (R115, R116). A window that is still open from
the cycle before ends there (R119, R120). -/
def windowOpen (dt : Nat) (p : Port) (s0 : State) : State :=
  let s := s0.elapse dt
  let q := (s.port p).seq
  let c := (s.grid p).cycle
  let w := s.windowStart p
  let close := s.windowClose p
  if onGrid q && (s.grid p).launched && s.windowCycle p c && q.window.all (fun x => decide (x.opened ≠ w))
      && decide (w ≤ s.tb ∧ s.tb < close) then
    s.openWindow p (s.ramanCycle p c) w close
  else s

/-- SINGLE_CHECK_WINDOW (R117). -/
def singleCheckWindow (dt : Nat) (p : Port) (s0 : State) : State :=
  let s := s0.elapse dt
  let q := (s.port p).seq
  if q.mode = .single ∧ q.windowUntil / secNs < s.tb / secNs then
    let second := s.tb / secNs * secNs
    let w := max second ((q.frames.map (·.stop)).foldl max 0)
    if w ≤ s.tb then s.openWindow p false w (w + 3000) else s
  else s

/-! ## Stops (R85, R121) -/

/-- Falling ramps of a port begin. (DEDUCED, log 40) -/
def State.fall (s : State) (p : Port) : State :=
  allEmitters.foldl (fun t e => t.rampTo p 0 e) (s.setSeq p (fun q => { q with draining := false }))

/-- Enable ramps of a port begin from 0, with SEED's timing pair high (R80, R85, R121); a site slave that had left FAULT stays
out of it (R381). (DEDUCED, log 40; DEDUCED, log 154) -/
def State.rise (s : State) (p : Port) : State :=
  let s1 := (s.setTime (fun t => { t with site := s.siteNow })).setSeq p (fun q =>
    { q with mode := .starting, draining := false, joined := false })
  allEmitters.foldl (fun t e =>
    (t.setEmitter p e (fun x => { x with ramped := 0 })).rampTo p (t.fld (setpointFld e) p.val) e)
    (s1.setEmitter p .seed (fun x => { x with timing := true, onAt := s.clk }))

/-- PORT_STOP of one port: launches end, blocks close, pending values apply (R363), and falling ramps follow the last frame
in flight. (DEDUCED, log 48) -/
def State.portStop (p : Port) (s : State) : State :=
  let q := (s.port p).seq
  if !portEnabled q then s
  else
    let s1 := ((s.portLeaves p .stopped 1).applyPending p s.tb).setDrive p (fun d => { d with proofDue := none, proofWaits := false })
    if q.frames.any (fun f => s.tb < f.stop) then s1.setSeq p (fun x => { x with draining := true }) else s1.fall p

/-- STOP_FRAMES_DRAINED: the last frame in flight of a stopping port has ended. -/
def stopFramesDrained (dt : Nat) (p : Port) (s0 : State) : State :=
  let s := s0.elapse dt
  let q := (s.port p).seq
  if q.draining && q.frames.all (fun f => f.stop ≤ s.tb) then s.fall p else s

/-- Launches of a port stop under MASK.ACTION = HALT_PORT (R294). (DEDUCED, log 49) -/
def State.portHalt (s : State) (p : Port) : State :=
  if portLaunches (s.port p).seq then ((s.proofMoved p).portLeaves p .halted 3) else s

/-! ## SEQ_STATUS (R128) -/

def modeCode : PortMode → Nat
  | .stopped => 0
  | .starting => 1
  | .running => 2
  | .single => 3
  | .halted => 4
  | .shut => 5

def State.seqStatus (s : State) (p : Port) : List Nat :=
  let g := s.groupOf p
  [modeCode (s.port p).seq.mode + 8 * (match g with | some x => x.val | none => 0) + 32 * bitNat g.isSome
      + 128 * (s.frame p % 131072),
   s.windowMin p % 131072]

end Sys2Proof.Machine
end

