-- ==== Sys2Proof/Machine/Head.lean ====
section
/-! DEFINITION. Optical head ports: presence, interlock, identity reads and the checks of the identity record (R58 to
R76). -/

namespace Sys2Proof.Machine

/-! ## HEAD_STATUS (R69) -/

def idCode : IdState → Nat
  | .absent => 0
  | .reading => 1
  | .accepted => 2
  | .rejected => 3
  | .busFault => 4

def headWord (h : HeadSt) : Nat :=
  idCode h.idState + 16 * h.rejectCause + 256 * h.badOffset + 131072 * bitNat h.present + 262144 * bitNat h.ilkClosed
    + 524288 * bitNat h.headChanged

def State.headStatus (s : State) (p : Port) : Nat := headWord (s.port p).head

/-- HEAD_RESCAN completes with HEAD_STATUS as its result. -/
def State.rescanEnds (s : State) (p : Port) (rq : Option Req) (st : Status) : State :=
  match rq with
  | some r => s.completeResult r st (leBytes 4 (s.headStatus p))
  | none => s

/-! ## The record (R64 to R68) -/

/-- The reserved bytes of layout minor 2. -/
def reservedSpans : List (Nat × Nat) := [(0x70, 16), (0xD0, 16), (0x130, 16), (0x174, 136)]

/-- The first reserved byte with a bit set that the layout leaves zero (R67 check 6). (DEDUCED, log 37) -/
def reservedBad (r : List Byte) : Option Nat :=
  let caps := (if 16 ≤ u8At r 0x1C then [0x1C] else []) ++ ([0x1D, 0x1E, 0x1F].filter (fun a => u8At r a ≠ 0))
  let rest := reservedSpans.flatMap (fun x => ((List.range x.2).map (fun i => x.1 + i)).filter (fun a => u8At r a ≠ 0))
  (caps ++ rest).head?

/-- A serial: at least one printable character, printable up to the first zero, zeros after it. -/
def serialOk (bs : List Byte) : Bool :=
  let n := (bs.takeWhile (fun b => b ≠ 0)).length
  1 ≤ n && (bs.take n).all (fun b => 0x20 ≤ b.toNat && b.toNat ≤ 0x7E) && (bs.drop n).all (fun b => b = 0)

def within (lo hi x : Int) : Bool := lo ≤ x && x ≤ hi

/-- The checks of one emitter block, in order of offset: each an offset and whether the field passes. -/
def emitterChecks (r : List Byte) (e : Emitter) : List (Nat × Bool) :=
  let b := emitterBlock e
  let wave : Int := u32At r b
  let seed : Int := u32At r (emitterBlock .seed)
  let fs : Int := u16At r (b + 4)
  let vmin := u16At r (b + 8)
  let vmax := u16At r (b + 0x0A)
  let nrg := u16At r (b + 0x0C)
  let pw := u16At r (b + 0x0E)
  let temp (i : Nat) : Int := s16At r (b + 0x10 + 4 * i)
  let comp := (List.range 16).flatMap (fun i =>
    [(b + 0x10 + 4 * i, within (-400) 850 (temp i) && (i = 0 || decide (temp (i - 1) < temp i))),
     (b + 0x12 + 4 * i, within 0x4000 0xC000 (u16At r (b + 0x12 + 4 * i)))])
  let own := match e with
    | .seed => [(b, within 1525000 1565000 wave), (b + 4, within 100 5000 fs)]
    | .gate => [(b, decide ((wave - seed).natAbs ≤ 100)), (b + 4, within 100 10000 fs)]
    | .pump => [(b, within 1450000 1570000 wave && decide (5000 ≤ (wave - seed).natAbs)), (b + 4, within 1000 60000 fs)]
  let pulse := match e with
    | .seed => [(b + 0x0C, decide (nrg = 0)), (b + 0x0E, decide (pw = 0))]
    | .gate => [(b + 0x0C, decide (nrg = 0)), (b + 0x0E, decide (200 ≤ pw))]
    | .pump => [(b + 0x0C, within 1 2000 nrg), (b + 0x0E, within 10 1000 pw)]
  own ++ [(b + 6, within 1 5000 (u16At r (b + 6))), (b + 8, decide (vmin < vmax)), (b + 0x0A, decide (vmax ≤ 3000))]
    ++ pulse ++ comp

/-- The range checks of R67, in order of offset. (DEDUCED, log 37) -/
def rangeChecks (r : List Byte) : List (Nat × Bool) :=
  let caps := u32At r 0x1C
  let u16 (a : Nat) : Int := u16At r a
  let rtd : Int := u32At r 0x168
  let delay := s32At r 0x170
  [(0x08, serialOk (bytesAt r 0x08 16)), (0x1C, caps.testBit 1 && caps.testBit 3)]
    ++ emitterChecks r .seed ++ emitterChecks r .gate ++ emitterChecks r .pump
    ++ [(0x140, within 300 650 (s16At r 0x140)), (0x142, within 100 1000 (u16 0x142)), (0x144, within 500 1200 (u16 0x144)),
        (0x146, within 500 1200 (u16 0x146))]
    ++ (List.range 8).map (fun i => (0x148 + 2 * i, within 0x6000 0xA000 (u16 (0x148 + 2 * i))))
    ++ [(0x158, within 0x4000 0xC000 (u16 0x158)), (0x15A, within 0x4000 0xC000 (u16 0x15A)),
        (0x15C, within 100000 5000000 (u32At r 0x15C)), (0x160, within 0 50000 (u32At r 0x160)),
        (0x164, within (-100) 500 (s16At r 0x164)), (0x166, within 12000 14500 (u16 0x166)),
        (0x168, if caps.testBit 2 then within 995000 1005000 rtd else within 99500 100500 rtd),
        (0x16C, within 1000 20000 (u16 0x16C)), (0x16E, within 0 1500 (u16 0x16E)),
        (0x170, if caps.testBit 0 then within (-50000) 50000 delay else decide (delay = 0))]

/-- Offset of the first field out of range. (DEDUCED, log 37) -/
def rangeBad (r : List Byte) : Option Nat := (rangeChecks r).find? (fun c => !c.2) |>.map (·.1)

/-- The checks of R67 after check 1: none where the record is accepted, else REJECT_CAUSE and BAD_OFFSET.
(DEDUCED, log 37) -/
def recordVerdict (r : List Byte) : Option (Nat × Nat) :=
  if u32At r 0 ≠ 0x484F4E55 then some (2, 0)
  else if u8At r 5 ≠ 1 then some (3, 0)
  else if u16At r 6 ≠ 0x0200 then some (4, 0)
  else if crc32 (r.take 0x1FC) ≠ u32At r 0x1FC then some (5, 0)
  else
    match (if u8At r 4 ≤ 2 then reservedBad r else none) with
    | some a => some (6, a)
    | none =>
      match rangeBad r with
      | some a => some (7, a)
      | none => none

/-! ## How a read ends (R67, R71, R76) -/

/-- A different head is accepted: the trims and what was measured with the old one return to their start, and
HEAD_CHANGED is set (R417). (DEDUCED, log 38) -/
def State.newHead (s : State) (p : Port) (serial : List Byte) : State :=
  if (s.calPort p).lastSerial = serial then s
  else
    let s1 := ((s.setFld Fld.calTrim_attenTrim p.val 0).setFld Fld.calTrim_rtdOffset p.val 0).setCalPort p (fun c =>
      { c with dRx := none, dRxNext := none, connDelay := 0, attenCoil := 0, bath := none, coefSerial := [],
               lastSerial := serial, firstStart := true })
    (s1.setPort p (fun x => { x with raman := { x.raman with coef := none, nextWindow := none } })).setHead p
      (fun h => { h with headChanged := true })

/-- The read ends in BUS_FAULT with a cause. -/
def State.readFaults (s : State) (p : Port) (cause : Nat) (rq : Option Req) : State :=
  let s1 := (s.setHead p (fun h =>
    { h with idState := .busFault, rejectCause := cause, badOffset := 0, record := [], read := none })).count
    Ctr.headStats_idFail p.val 1
  (s1.event evHeadBusFault p.val noUnit [s1.headStatus p]).rescanEnds p rq .ok

/-- The eight transactions are done: the record is judged. (DEDUCED, log 38) -/
def State.readDone (s : State) (p : Port) (r : List Byte) (rq : Option Req) : State :=
  match recordVerdict r with
  | some (cause, off) =>
    let s1 := (s.setHead p (fun h =>
      { h with idState := .rejected, rejectCause := cause, badOffset := off, record := [], read := none })).count
      Ctr.headStats_idFail p.val 1
    (s1.event evHeadRejected p.val noUnit [s1.headStatus p]).rescanEnds p rq .ok
  | none =>
    let s1 := (s.setHead p (fun h =>
      { h with idState := .accepted, rejectCause := 0, badOffset := 0, record := r, read := none })).newHead p
      (bytesAt r 8 16)
    let s2 := (s1.setDrive p (fun d => { d with caseAt := s.clk })).setPort p (fun x =>
      { x with raman := { x.raman with lastGood := none, lastRecord := r } })
    (s2.event evHeadAccepted p.val noUnit [s2.headStatus p]).rescanEnds p rq .ok

/-- An attempt of a transaction has failed: a retry, or after the fourth the read ends (R62). -/
def State.attemptFails (s : State) (p : Port) (x : IdRead) (cause : Nat) : State :=
  if x.attempt < 3 then
    (s.setHead p (fun h => { h with read := some { x with attempt := x.attempt + 1, attemptAt := s.clk } })).count
      Ctr.headStats_idRetry p.val 1
  else s.readFaults p cause x.rescan

/-- A read that a presence loss abandoned ends at its transaction boundary: its HEAD_RESCAN completes with a HEAD_STATUS that
shows no head, whatever has arrived since (R74); the bus keeps what its last attempt put on it. -/
def State.lostEnds (s : State) (p : Port) (x : IdRead) (bus : List BusOp) : State :=
  let h := (s.port p).head
  let word := headWord { h with present := false, idState := .absent, rejectCause := 0, badOffset := 0 }
  let s1 := s.setHead p (fun y => { y with lost := none, bus := bus })
  match x.rescan with
  | some r => s1.completeResult r .noResource (leBytes 4 word)
  | none => s1

/-! ## The identity bus (R61 to R63) -/

/-- One bit of the identity bus, ns, by ID_SPEED. -/
def State.idBit (s : State) (p : Port) : Nat := if s.fld Fld.headCfg_idSpeed p.val = 0 then 10000 else 2500

/-- When the START of an attempt came: after its recovery pulses and their STOP (R63). -/
def State.idStart (s : State) (p : Port) (x : IdRead) (pulses : Nat) : Nat :=
  x.attemptAt + (if pulses = 0 then 0 else (pulses + 1) * s.idBit p)

/-- The recovery before an attempt: SCL pulses until SDA is released, then STOP (R63). -/
def busRecovery (pulses : Nat) : List BusOp := if pulses = 0 then [] else List.replicate pulses .pulse ++ [.stop]

/-- A transaction that reads some bytes from a word address: the address with write, the word address, the address with read,
the bytes, of which the last is not acknowledged (R61). -/
def busRead (word len : Nat) : List BusOp :=
  [.start, .write 0xA0, .write (BitVec.ofNat 8 (word / 256)), .write (BitVec.ofNat 8 word), .restart, .write 0xA1]
    ++ List.replicate (len - 1) (.read true) ++ [.read false, .stop]

/-- Transaction n of an identity read: 64 bytes (R61). -/
def busTransaction (n : Nat) : List BusOp := busRead (64 * n) 64

/-- What the UX8640 puts on the bus in an attempt of a transaction, by how it ended: nothing after a bus that stays held; of a
transaction that is not acknowledged, its address (R62, R63). (DEDUCED, log 179) -/
def busAttempt (whole : List BusOp) (pulses : Nat) : IdResult → List BusOp
  | .data _ => busRecovery pulses ++ whole
  | .nack => busRecovery pulses ++ [.start, .write 0xA0, .stop]
  | .busHeld => List.replicate 9 .pulse

/-- What the UX8640 has put on the bus in an attempt that ran into the guard of 25 ms: its recovery and START alone, no STOP;
the spec does not say how far it came (R62). (DEDUCED, log 179) -/
def busTimedOut (pulses : Nat) : List BusOp := busRecovery pulses ++ [.start]

/-! ## Events of a head port -/

/-- Presence and interlock are filtered while the bank of the port is in a mode (R58). -/
def State.bankOk (s : State) (p : Port) : Bool := s.bankUp (.hb p)

/-- A read to come, 100 ms after presence or at once. (DEDUCED, log 39) -/
def newRead (due : Nat) (rq : Option Req) : IdRead := ⟨due, false, 0, 0, 0, [], rq, false⟩

/-- The filters of PRES_N and ILK of a port begin, at the level of an open wire (R58). -/
def State.filtersBegin (s : State) (p : Port) : State :=
  s.setHead p (fun h => { h with present := false, ilkClosed := false, presAt := s.clk, ilkAt := s.clk })

/-- The filters of every head port whose bank is in a mode begin: at a cold start and at a wake (R58). -/
def State.headFilters (s : State) : State := forPorts (allPorts.filter s.bankOk) (fun p t => t.filtersBegin p) s

/-- PRES_N has had time to hold low for PRES_DEGLITCH since its filter began or took its last change (R58). -/
def State.presHeld (s : State) (p : Port) : Bool :=
  decide ((s.port p).head.presAt + s.fld Fld.headCfg_presDeglitch p.val * msNs ≤ s.clk)
/-- ILK_DEGLITCH has passed since a filter began or took its last change (R58, R59). -/
def State.ilkHeld (s : State) (p : Port) (since : Nat) : Bool :=
  decide (since + s.fld Fld.headCfg_ilkDeglitch p.val * 100 ≤ s.clk)

/-- A port whose SERIAL alone is to be read in this wake (R440). -/
def State.serialOnly (s : State) (p : Port) : Bool := s.power.retain.any (fun r => maskHas r.serialChecks p)

/-- PRES_ACCEPT_LOW (R58, R72); at a wake a port whose SERIAL alone is to be read is not read afresh (R440). -/
def presAcceptLow (dt : Nat) (p : Port) (s0 : State) : State :=
  let s := s0.elapse dt
  if (s.port p).head.present || !s.bankOk p || !s.presHeld p then s
  else
    let only := s.serialOnly p
    let s1 := s.setHead p (fun x =>
      { x with present := true, presAt := s.clk, idState := .reading, rejectCause := 0, badOffset := 0, record := [],
               read := if only then none else some (newRead (s.clk + 100 * msNs) none) })
    if only then s1
    else s1.setPower (fun w => { w with retain := w.retain.map (fun r =>
      { r with report := { r.report with rescanned := r.report.rescanned ||| (1#8 <<< p.val) } }) })

/-- A presence loss invalidates the record at once (R60), that kept for a wake with it (R72); a read in progress is abandoned at
its next boundary, or at once where no transaction has begun (R74). (DEDUCED, log 36) -/
def State.loseHead (s : State) (p : Port) : State :=
  let h := (s.port p).head
  let begun := h.read.any (·.begun)
  let s1 := (s.setHead p (fun x =>
    { x with present := false, presAt := s.clk, idState := .absent, rejectCause := 0, badOffset := 0, record := [],
             read := none, lost := if begun then h.read else x.lost })).setPower (fun w =>
    { w with retain := w.retain.map (fun r =>
        { r with serialChecks := r.serialChecks &&& ~~~(1#8 <<< p.val), serialGood := r.serialGood &&& ~~~(1#8 <<< p.val) }) })
  let s2 := s1.event evHeadRemoved p.val noUnit [s1.headStatus p]
  if begun then s2 else s2.rescanEnds p (h.read.bind (·.rescan)) .noResource

/-- PRES_LOSS: an opened interlock as well (R59). (DEDUCED, log 36) -/
def presLoss (dt : Nat) (p : Port) (s0 : State) : State :=
  let s := s0.elapse dt
  if !(s.port p).head.present || !s.ilkHeld p (s.port p).head.presAt then s
  else ((s.loseHead p).count Ctr.headStats_presLoss p.val 1).portFault p causeInterlock

/-- ILK_CHANGE (R58, R59): `closed` is the level that has held for ILK_DEGLITCH. (DEDUCED, log 36) -/
def ilkChange (dt : Nat) (p : Port) (closed : Bool) (s0 : State) : State :=
  let s := s0.elapse dt
  let h := (s.port p).head
  if h.ilkClosed = closed ∨ !s.bankOk p ∨ !s.ilkHeld p h.ilkAt then s
  else
    let s1 := s.setHead p (fun x => { x with ilkClosed := closed, ilkAt := s.clk })
    if closed then s1 else (s1.count Ctr.headStats_ilkOpen p.val 1).portFault p causeInterlock

/-- ID_READ_START (R72). -/
def idReadStart (dt : Nat) (p : Port) (s0 : State) : State :=
  let s := s0.elapse dt
  match (s.port p).head.read with
  | some x =>
    if !x.begun && decide (x.dueAt ≤ s.clk) then
      s.setHead p (fun h => { h with read := some { x with begun := true, attemptAt := s.clk } })
    else s
  | none => s

/-- A transaction of a read has ended: the next, the end of the read, or a failure. What comes later than 25 ms after START is a
timeout, whatever it is (R62). -/
def State.transactionEnds (s : State) (p : Port) (x : IdRead) (pulses : Nat) (r : IdResult) : State :=
  let s1 := s.setHead p (fun h => { h with bus := busAttempt (busTransaction x.transaction) pulses r })
  if x.abandonTimeout then s1.readFaults p 8 x.rescan
  else
    match r with
    | .busHeld => s1.attemptFails p x 9
    | .nack => s1.attemptFails p x (if s.idStart p x pulses + 25 * msNs < s.clk then 8 else 1)
    | .data bytes =>
      if s.idStart p x pulses + 25 * msNs < s.clk then s1.attemptFails p x 8
      else
        let got := x.bytes ++ bytesAt bytes 0 64
        if x.transaction < 7 then
          s1.setHead p (fun h => { h with read := some { x with transaction := x.transaction + 1, attempt := 0,
                                                                attemptAt := s.clk, bytes := got } })
        else s1.readDone p got x.rescan

/-- ID_TRANSACTION_END (R61, R62, R63): `pulses` recovery pulses came before its START. -/
def idTransactionEnd (dt : Nat) (p : Port) (pulses : Fin 10) (r : IdResult) (s0 : State) : State :=
  let s := s0.elapse dt
  match (s.port p).head.lost, (s.port p).head.read with
  | some x, _ => s.lostEnds p x (busAttempt (busTransaction x.transaction) pulses.val r)
  | none, none => s
  | none, some x => if x.begun then s.transactionEnds p x pulses.val r else s

/-- ID_TRANSACTION_TIMEOUT: 25 ms after START (R62); what it has put on the bus by then is open (DEDUCED, log 179). -/
def idTransactionTimeout (dt : Nat) (p : Port) (pulses : Fin 10) (s0 : State) : State :=
  let s := s0.elapse dt
  let late (x : IdRead) : Bool := decide (s.idStart p x pulses.val + 25 * msNs ≤ s.clk)
  match (s.port p).head.lost, (s.port p).head.read with
  | some x, _ => if late x then s.lostEnds p x (busTimedOut pulses.val) else s
  | none, none => s
  | none, some x =>
    if !x.begun || !late x then s
    else
      let s1 := s.setHead p (fun h => { h with bus := busTimedOut pulses.val })
      if x.abandonTimeout then s1.readFaults p 8 x.rescan else s1.attemptFails p x 8

/-! ## HEAD_RESCAN (R73) -/

/-- What HEAD_RESCAN does at once: a status to complete with, or a read that starts. (DEDUCED, log 39) -/
def State.headRescan (s : State) (rq : Req) (p : Port) : State :=
  let h := (s.port p).head
  let now (st : Status) : State := s.rescanEnds p (some rq) st
  if !h.present then now .noResource
  else if h.idState = .reading then now .busy
  else
    match (s.port p).seq.mode with
    | .running | .single | .starting | .halted => now .locked
    | .stopped | .shut =>
      s.setHead p (fun x => { x with idState := .reading, rejectCause := 0, badOffset := 0, read := some (newRead s.clk (some rq)) })

/-- The timeout of HEAD_RESCAN: the read is abandoned at the next transaction boundary (R356). -/
def State.rescanTimeout (s : State) (p : Port) : State :=
  let s1 := s.setHead p (fun h => { h with lost := h.lost.map (fun x => { x with rescan := none }) })
  match (s.port p).head.read with
  | none => s1
  | some x =>
    if x.rescan.isNone then s1
    else if x.begun then s1.setHead p (fun h => { h with read := some { x with rescan := none, abandonTimeout := true } })
    else s1.readFaults p 8 none

end Sys2Proof.Machine
end

