-- ==== Sys2Proof/Machine/Gauge.lean ====
section
/-! DEFINITION. The gauge former: gauge vectors, slot alignment, phase increments and quality codes (R153 to R169). -/

namespace Sys2Proof.Machine

/-! ## Gauge vectors (R155 to R157) -/

def cadd (a b : Cpx) : Cpx := ⟨a.re + b.re, a.im + b.im⟩
/-- a x conj b. -/
def cmulConj (a b : Cpx) : Cpx := ⟨a.re * b.re + a.im * b.im, a.im * b.re - a.re * b.im⟩
def cnorm (a : Cpx) : Nat := (a.re * a.re + a.im * a.im).toNat

/-- ref0 of the X and the Y output of a bin, with 8 fraction bits. -/
def ref0X (b : BinOut) : Cpx := ⟨b.xi.toInt * 2 ^ (8 - b.range.val), b.xq.toInt * 2 ^ (8 - b.range.val)⟩
def ref0Y (b : BinOut) : Cpx := ⟨b.yi.toInt * 2 ^ (8 - b.range.val), b.yq.toInt * 2 ^ (8 - b.range.val)⟩

/-- V and W over pairs of partner and bin. -/
def gaugeVector : List (BinOut × BinOut) → Cpx × Nat
  | [] => (⟨0, 0⟩, 0)
  | (a, b) :: rest =>
    let r := gaugeVector rest
    if a.blank || b.blank then r
    else (cadd r.1 (cadd (cmulConj (ref0X b) (ref0X a)) (cmulConj (ref0Y b) (ref0Y a))), r.2 + 2)

/-- What the bins of a gauge give: V, W, LOGAMP, TRANSIT, BLANK. -/
structure GaugeView where
  v : Cpx
  w : Nat
  logamp : Nat
  transit : Bool
  blank : Bool
deriving DecidableEq, Repr

/-- LOGAMP of a vector of W products: k - 14 for the largest k with A^2 ≥ 2^k, from 0 to 14 (R157).
(DEDUCED, log 58) -/
def logampOf (v : Cpx) (w : Nat) : Nat :=
  let q := cnorm v / (2 ^ 32 * w * w)
  if w = 0 ∨ q = 0 then 0 else min 14 (q.log2 / 2 - 14)

/-- A gauge of length G and pitch P from the outputs of its span; `missing` bins lie below 0. -/
def gaugeView (len pitch missing : Nat) (bins : List BinOut) : GaugeView :=
  let pairs := (List.range pitch).filterMap (fun i =>
    if i < missing then none
    else
      match bins[i - missing]?, bins[i + len - missing]? with
      | some a, some b => some (a, b)
      | some _, none | none, some _ | none, none => none)
  let r := gaugeVector pairs
  { v := r.1, w := r.2,
    logamp := if bins.any (fun b => b.clip || b.satX || b.satY) then 15 else logampOf r.1 r.2,
    transit := bins.any (fun b => b.transit), blank := missing ≠ 0 || bins.any (fun b => b.blank) }

/-! ## Alignment and increments (R158, R161) -/

def freshGauge : GaugeMem := ⟨Vector.replicate 4 none, none, none⟩

/-- Component of a unit vector with 24 fraction bits, to nearest: x / sqrt n. -/
def unitPart (x : Int) (n : Nat) : Int :=
  let q := 4 * x.natAbs * x.natAbs * 2 ^ 48
  let twice := isqrt (q / max 1 n)
  let tie := q % max 1 n = 0 && twice * twice = q / max 1 n && twice % 2 = 1
  let m : Nat := if tie then twice / 2 + bitNat (Config.roundUp x.natAbs n) else (twice + 1) / 2
  if x < 0 then -(m : Int) else m

def unitVector (z : Cpx) : Cpx := ⟨unitPart z.re (cnorm z), unitPart z.im (cnorm z)⟩

/-- One averaging step of a component: a + (u - a) / 2^shift, to nearest. (DEDUCED, log 57) -/
def alignPart (shift : Nat) (a u : Int) : Int :=
  a + divNearest (Config.roundUp (u - a).natAbs shift) (u - a) (2 ^ shift)

/-- The alignment of a slot after a good sample in cycle c: rank 0 sets V_ref, others average towards their offset from it. A
product of 0 has no unit vector and leaves A_k as it is (DESIGN CHOICE, log 189). (DEDUCED, log 57) -/
def alignStep (rank : Nat) (k : Fin 4) (c shift : Nat) (v : Cpx) (m : GaugeMem) : GaugeMem :=
  if rank = 0 then { m with vref := some (v, c) }
  else
    match m.vref with
    | none => m
    | some (r, c0) =>
      let z := cmulConj v r
      if (c0 = c ∨ c0 + 1 = c) ∧ cnorm z ≠ 0 then
        let u := unitVector z
        let a := match m.align[k] with
          | none => u
          | some a => ⟨alignPart shift a.re u.re, alignPart shift a.im u.im⟩
        { m with align := vmod m.align k (fun _ => some a) }
      else m

/-- The aligned vector of a slot, up to a positive factor; none while its A_k is none (R158). -/
def alignedVector (rank : Nat) (k : Fin 4) (v : Cpx) (m : GaugeMem) : Option Cpx :=
  if rank = 0 then some v else (m.align[k]).map (fun a => cmulConj v a)

/-- The increment from one aligned vector to the next, with the error the arctangent may have (R161).
(DESIGN CHOICE, log 16) -/
def phaseStep (w last : Cpx) (err : Fin 3) : BitVec 16 :=
  let z := cmulConj w last
  BitVec.ofInt 16 (divAway (fxAtan2 z.im z.re * 32768) fxPi.toNat + (err.val : Int) - 1)

/-- A sample formed: increment, quality code, whether it is held, the gauge's memory after it. -/
structure Formed where
  inc : BitVec 16
  quality : Byte
  held : Bool
  mem : GaugeMem
deriving DecidableEq, Repr

/-- A sample with GAP (R162, R164). -/
def gapSample (m : GaugeMem) : Formed := ⟨0, 0x80, true, m⟩

/-- A normal launch's sample (R158 to R162). (DEDUCED, log 57; DEDUCED, log 58) -/
def formSample (view : GaugeView) (rank : Nat) (k : Fin 4) (c shift fade : Nat) (fadeHold : Bool) (err : Fin 3)
    (m : GaugeMem) : Formed :=
  let faded := view.logamp < fade
  let poor := view.w = 0 || (faded && fadeHold)
  let m1 := if poor then m else alignStep rank k c shift view.v m
  let wk := alignedVector rank k view.v m1
  let none_ := wk.isNone
  let fadeBit := view.logamp ≠ 15 && (faded || view.w = 0 || none_)
  let quality : Byte := BitVec.ofNat 8 (view.logamp + 16 * bitNat fadeBit + 32 * bitNat view.transit + 64 * bitNat view.blank)
  if poor then ⟨0, quality, true, m1⟩
  else
    match wk with
    | none => ⟨0, quality, true, m1⟩
    | some w =>
      match m1.wlast with
      | none => ⟨0, quality, false, { m1 with wlast := some w }⟩
      | some l => ⟨phaseStep w l err, quality, false, { m1 with wlast := some w }⟩

/-! ## Statistics (R168, R169) -/

/-- Samples of the last second: a new whole second of the time base closes the one before; 0 where that had no sample (DESIGN
CHOICE, log 191). -/
def gaugeSecond (sec : Nat) (g : GaugeSt) : GaugeSt :=
  if g.second = sec then g
  else
    let full := g.second + 1 = sec && g.nSamples ≠ 0
    { g with second := sec, nSamples := 0, nFaded := 0, nHeld := 0,
             fadedPermille := if full then divOpen (1000 * g.nFaded) g.nSamples else 0,
             heldPermille := if full then divOpen (1000 * g.nHeld) g.nSamples else 0 }

/-- Counters of a sample. -/
def State.gaugeCount (s : State) (p : Port) (f : Formed) : State :=
  let bit (i : Nat) : Bool := f.quality.toNat.testBit i
  let s1 := s.setGauge p (fun g0 =>
    let g := gaugeSecond (s.tb / secNs) g0
    { g with nSamples := g.nSamples + 1, nFaded := g.nFaded + bitNat (bit 4), nHeld := g.nHeld + bitNat f.held })
  ((((((s1.count Ctr.gaugeStats_samples p.val 1).countIf Ctr.gaugeStats_held p.val f.held).countIf Ctr.gaugeStats_faded p.val
    (bit 4)).countIf Ctr.gaugeStats_blanked p.val (bit 6)).countIf Ctr.gaugeStats_transit p.val (bit 5)).countIf
    Ctr.gaugeStats_clipped p.val (f.quality.toNat % 16 = 15)).countIf Ctr.gaugeStats_gap p.val (bit 7)

/-! ## The command -/

/-- A sample leaves the gauge former: the gauge's memory, the counters, and the cluster work queue where it still takes samples
of that start (R163, R201). -/
def State.sampleOut (s : State) (p : Port) (gauge pos era : Nat) (f : Formed) : State :=
  let s1 := (s.setGauge p (fun y => { y with mem := Tab.put y.mem gauge f.mem })).gaugeCount p f
  if (s.port p).queue.taking && (s.port p).queue.era == era then
    s1.setQueue p (fun q => { q with samples := q.samples ++ [⟨gauge, pos, f.inc, f.quality⟩] })
  else s1

/-- First bin of a gauge's span that lies on the fibre, bins of the span below 0, and the bin after its last (R153, R155). -/
def State.gaugeSpan (s : State) (p : Port) (g : Nat) : Nat × Nat × Nat :=
  let len := s.fld Fld.gaugeCfg_gaugeLen p.val
  let pitch := s.fld Fld.gaugeCfg_pitch p.val
  (g * pitch - len, len - g * pitch, (g + 1) * pitch)

/-- The codes of a sample have all been converted, and give every bin of its gauge whole; its frame is not yet over
(R143, R167). -/
def State.sampleReady (s : State) (p : Port) (f : Frame) (x : GaugeIn) : Bool :=
  let sp := s.gaugeSpan p x.gauge
  f.gauges == x.gauge && x.xs.length == x.ys.length && decide (x.tFirst + x.xs.length ≤ s.tb)
    && decide (s.coveredFrom p f x.tFirst ≤ sp.1 ∧ sp.2.2 ≤ s.coveredTo p f x.tFirst x.xs.length) && frameLive (s.dRxNs p) s.tb f

/-- What a frame gives a gauge: GAP where the port shut with the frame in flight and a bin of its span returns at or after that,
also once the fault has been cleared (R164), else the sample formed from its outputs (R156 to R162). A gauge's alignment for a slot restarts with the first frame that brings new
values (R159). (DEDUCED, log 56) -/
def State.frameSample (s : State) (p : Port) (f : Frame) (x : GaugeIn) : Formed :=
  let sp := s.gaugeSpan p x.gauge
  let m0 := (Tab.find? (s.port p).gauge.mem x.gauge).getD freshGauge
  let m := if f.restart then { m0 with align := vmod m0.align f.slot (fun _ => none) } else m0
  let ends := f.start + s.dRxNs p + 10 * sp.2.2
  if f.cutAt.any (fun t => decide (t < ends)) then gapSample m
  else
    let bins := (List.range (sp.2.2 - sp.1)).map (fun i => s.binOut p f x.tFirst x.xs x.ys (sp.1 + i))
    formSample (gaugeView (s.fld Fld.gaugeCfg_gaugeLen p.val) (s.fld Fld.gaugeCfg_pitch p.val) sp.2.1 bins) f.rank f.slot f.cycle
      f.shift (s.fld Fld.gaugeCfg_fadeLogamp p.val) (s.flag Fld.gaugeCfg_fadeHold p.val) (Config.arctanError s.free) m

/-- The gauge of a frame is formed, and the channeliser's outputs that its codes complete are delivered. -/
def State.formFrom (s : State) (p : Port) (f : Frame) (x : GaugeIn) : State :=
  let formed := s.frameSample p f x
  let s1 := ((s.takeCodes p x.tFirst x.xs x.ys).maceDeliver p f x.tFirst x.xs x.ys).setSeq p (fun q =>
    { q with frames := q.frames.map (fun g => if g.start = f.start ∧ g.slot = f.slot then { g with gauges := x.gauge + 1 } else g) })
  { s1 with free := s1.free + 1 }.sampleOut p x.gauge f.pos f.era formed

/-- A position of a window cycle gives a gauge its GAP sample (R24, R164). -/
def State.formGap (s : State) (p : Port) (g : GapPos) (gauge : Nat) : State :=
  let m := (Tab.find? (s.port p).gauge.mem gauge).getD freshGauge
  (s.setSeq p (fun q =>
    { q with gaps := q.gaps.map (fun y => if y.pos = g.pos ∧ y.era = g.era then { y with gauges := gauge + 1 } else y) })).sampleOut p
    gauge g.pos g.era (gapSample m)

/-- The frame of a sample: by slot and cycle, in SINGLE mode by its position. -/
def State.frameOf (s : State) (p : Port) (x : GaugeIn) : Option Frame :=
  (s.port p).seq.frames.find? (fun f => f.slot = x.slot && (if s.singleMode p then f.pos else f.cycle) = x.cycle)

/-- The window position of a sample: its last bin would have returned, and its frame would not yet be over, so that a port disabled
since then forms none (R18, R164, R167). (DEDUCED, log 178) -/
def State.gapOf (s : State) (p : Port) (x : GaugeIn) : Option GapPos :=
  let d := s.dRxNs p
  let end_ := 10 * (s.gaugeSpan p x.gauge).2.2
  (s.port p).seq.gaps.find? (fun g => g.slot = x.slot && g.cycle = x.cycle && g.gauges == x.gauge
    && decide (g.start + d + end_ ≤ s.tb ∧ s.tb ≤ g.stop + d + 175))

/-- GAUGE_SAMPLE: the last bin of a gauge has arrived, or would have in a window cycle (R156 to R164). A position that was not
launched, and no window's, gives none. -/
def gaugeSample (dt : Nat) (p : Port) (x : GaugeIn) (s0 : State) : State :=
  let s := s0.elapse dt
  if s.gauges p ≤ x.gauge then s
  else
    match s.frameOf p x, s.gapOf p x with
    | some f, _ => if s.sampleReady p f x then s.formFrom p f x else s
    | none, some g => s.formGap p g x.gauge
    | none, none => s

/-! ## GAUGE_STATUS (R168) -/

/-- Gauges whose span lies outside the dead zone of a launch. -/
def State.liveGauges (s : State) (p : Port) : Nat :=
  let b := blankBins (s.fld Fld.seqPort_pulseWidth p.val)
  let len := s.fld Fld.gaugeCfg_gaugeLen p.val
  let pitch := max 1 (s.fld Fld.gaugeCfg_pitch p.val)
  s.gauges p - ceilDiv (b + len) pitch

/-- A slot other than the reference aligns on an enabled port: A_k is none at more than 1 % of the gauges outside the dead zone. It
is none where a frame restarts the alignment and has not yet formed the gauge (R159). (DEDUCED, log 59) -/
def State.aligning (s : State) (p : Port) (k : Fin 4) : Bool :=
  let m := s.slotMask p
  let live := s.liveGauges p
  let first := s.gauges p - live
  let restarts (g : Nat) : Bool := (s.port p).seq.frames.any (fun f => f.restart && f.slot = k && decide (f.gauges ≤ g))
  let set := ((s.port p).gauge.mem.filter (fun e => first ≤ e.1 && (e.2.align[k]).isSome && !restarts e.1)).length
  portEnabled (s.port p).seq && m.testBit k.val && slotRank m k ≠ 0 && live < 100 * (live - set)

def State.gaugeStatus (s : State) (p : Port) : List Nat :=
  let g := gaugeSecond (s.tb / secNs) (s.port p).gauge
  [s.gauges p % 131072 + 131072 * (([0, 1, 2, 3] : List (Fin 4)).map (fun k => if s.aligning p k then 2 ^ k.val else 0)).foldl (· + ·) 0,
   min 1000 g.fadedPermille + 1024 * min 1000 g.heldPermille]

end Sys2Proof.Machine
end

