-- ==== Sys2Proof/Machine/Raman.lean ====
section
/-! DEFINITION. Raman temperature: recordings, accumulation periods, the conversion to temperature, profile records, and
the reference-coil RTD (R170 to R194). -/

namespace Sys2Proof.Machine

def State.raman (s : State) (p : Port) : RamanSt := (s.port p).raman
def State.setRaman (s : State) (p : Port) (f : RamanSt → RamanSt) : State :=
  s.setPort p (fun x => { x with raman := f x.raman })

/-! ## Positions (R127, R171) -/

/-- The positions in effect: as calibration measured them, or the starting values from the record accepted last.
(DEDUCED, log 148) -/
def State.ramanCoef (s : State) (p : Port) : RamanCoef :=
  match (s.raman p).coef with
  | some c => c
  | none =>
    let r := (s.raman p).lastRecord
    let last : Int := (u32At r 0x15C * s.fld Fld.seqPort_groupIndex p.val / 1498962300 : Nat) - 1
    ⟨0, 0, last, last + 1, s16At r 0x164⟩

/-- The checks of R172 on a recording of a port with the given settings. -/
def ramanOk (single : Bool) (fibre0 : Int) (len m frame acc : Nat) : Bool :=
  fibre0 + len ≤ 107008
  && (single || m = 0
      || (decide (fibre0 + len + 400 ≤ (m * frame : Nat)) && decide (acc * 100000000 ≤ 16777216 * m * frame)))

/-- Length of a recording, trace bins (R172). -/
def State.recLen (s : State) (p : Port) : Nat :=
  ((s.ramanCoef p).fibre0 + s.fld Fld.seqPort_fibreLen p.val).toNat

/-! ## Recordings (R116, R173 to R178) -/

/-- ACC_TIME, ns. -/
def State.accNs (s : State) (p : Port) : Nat := max 1 (s.fld Fld.ramanCfg_accTime p.val) * secNs

/-- Start of the period that a time lies in (R177). -/
def State.periodOf (s : State) (p : Port) (t : Nat) : Nat := t / s.accNs p * s.accNs p

/-- What waited for the first window of the next period takes effect (R181). -/
def State.takeNextWindow (s : State) (p : Port) (t : Nat) : State :=
  match (s.raman p).nextWindow with
  | some (start, d, gs, ga) =>
    if s.periodOf p t = start then s
    else
      s.setRaman p (fun r =>
        { r with nextWindow := none, gainStk := gs, gainAst := ga, coef := r.coef.map (fun c => { c with dRam := d }) })
  | none => s

/-- The PUMP of a window is launched at t: its pulse, the energy sample that follows it 1.0 µs after its end (R89), and the
recording, with the BIAS faults that stood since its baseline began (R171, R175, R176). Every second window of a RAMAN step
swaps the integrators. -/
def State.pumpFires (s : State) (p : Port) (w : Window) (t : Nat) : State :=
  let width := s.fld Fld.seqPort_pumpWidth p.val
  let s1 := (s.setSeq p (fun q => { q with window := some { w with pumped := true }, lastLaunch := t })).takeNextWindow p t
  let r := s1.raman p
  let late := r.biasEnd.any (fun c => w.opened + 1300 + s.clk ≤ c + s.tb)
  let steps := s1.calOn .raman p
  let s2 := s1.setRaman p (fun x =>
    { x with recording := some ⟨t, r.biasStk || r.biasAst || late, s1.calUsesWindows p,
               if steps then some (r.calSums.taken % 2 = 1 : Bool) else none⟩,
             calSums := if steps then { x.calSums with taken := x.calSums.taken + 1 } else x.calSums })
  let s3 := (s2.setEmitter p .pump (fun x => { x with pulse := some (t, t + width) })).setDrive p (fun d =>
    { d with nrgDue := some (t + width + 1000, width) })
  (s3.count Ctr.portStats_pumpLaunches p.val 1).hkLaunch p 2 t

/-- PUMP_LAUNCH (R116): at W + 2.000 µs of a Raman window. -/
def pumpLaunch (dt : Nat) (p : Port) (s0 : State) : State :=
  let s := s0.elapse dt
  match (s.port p).seq.window with
  | some w =>
    if w.raman && !w.pumped && decide (w.opened + 2000 ≤ s.tb ∧ s.tb < w.closes) then s.pumpFires p w (w.opened + 2000) else s
  | none => s

/-- Both reset switches of both inputs stay closed: outside a recording and its dark baseline, 100 ns before which they open
(R173, R175). -/
def State.integratorsClosed (s : State) (p : Port) (t : Nat) : Bool :=
  let dark := (s.port p).seq.window.any (fun w => w.raman && decide (w.opened + 1200 ≤ t ∧ t < w.opened + 2000))
  let rec_ := (s.raman p).recording.any (fun x =>
    decide (x.pumpAt ≤ t + 800 ∧ t < x.pumpAt + (s.ramanCoef p).dRam + 10 * s.recLen p))
  !(dark || rec_)

/-- The common mode lies inside its window of 0.700 V to 1.100 V (R176). -/
def biasInside (x : BiasReading) : Bool := decide (700000 ≤ x.common ∧ x.common ≤ 1100000)

/-- BIAS_FAULT_SET (R176): the common mode of an input has lain outside its window for 10 µs. (DEDUCED, log 74) -/
def biasFaultSet (dt : Nat) (p : Port) (x : BiasReading) (s0 : State) : State :=
  let s := s0.elapse dt
  let r := s.raman p
  let i := x.input
  if !portEnabled (s.port p).seq || (if i = 0 then r.biasStk else r.biasAst) || biasInside x || decide (x.held < 10 * usNs)
      || decide (s.clk < r.biasAt[i] + 10 * usNs) then s
  else
    (s.setRaman p (fun x =>
      { x with biasStk := x.biasStk || i = 0, biasAst := x.biasAst || i = 1, biasAt := vmod x.biasAt i (fun _ => s.clk),
               recording := x.recording.map (fun y => { y with bias := true }) })).event evRamanBias p.val i.val []

/-- BIAS_FAULT_CLEAR (R176): the common mode of an input has lain inside its window for 100 ms. (DEDUCED, log 74) -/
def biasFaultClear (dt : Nat) (p : Port) (x : BiasReading) (s0 : State) : State :=
  let s := s0.elapse dt
  let r := s.raman p
  let i := x.input
  if !portEnabled (s.port p).seq || !(if i = 0 then r.biasStk else r.biasAst) || !biasInside x || decide (x.held < 100 * msNs)
      || decide (s.clk < r.biasAt[i] + 100 * msNs) then s
  else
    (s.setRaman p (fun x =>
      { x with biasAt := vmod x.biasAt i (fun _ => s.clk), biasStk := x.biasStk && i ≠ 0, biasAst := x.biasAst && i ≠ 1, biasEnd := some s.clk })).event
      evRamanBiasClear p.val i.val []

/-- A saturated converter code (R174). -/
def codeSat (c : Int) : Bool := c ≤ -32768 || 32767 ≤ c

/-- Corrected codes of a recording of `n` bins from bin `i`: pair gain on odd bins, less the mean of the baseline (R174,
R175). The rounding to the integer sums is open (DESIGN CHOICE, log 15). (DEDUCED, log 75) -/
def correctCodes (gain nb : Nat) (baseSum : Int) : Nat → Nat → List Int → List Int
  | 0, _, _ => []
  | n + 1, i, cs =>
    let num := cs.headD 0 * (if i % 2 = 1 then gain else 32768 : Nat) * (nb : Int) - 32768 * baseSum
    let den := 32768 * nb
    divNearest (Config.roundUp num.natAbs den) num den :: correctCodes gain nb baseSum n (i + 1) (cs.drop 1)

/-- Add lists bin by bin; the longer one's rest stays. -/
def addBins : List Int → List Int → List Int
  | [], ys => ys
  | xs, [] => xs
  | x :: xs, y :: ys => (x + y) :: addBins xs ys

def orBins : List Bool → List Bool → List Bool
  | [], ys => ys
  | xs, [] => xs
  | x :: xs, y :: ys => (x || y) :: orBins xs ys

def freshAcc (start stop : Nat) : RamanAcc := ⟨start, stop, 0, 0, false, [], [], []⟩

/-- Two sets of sums as one: the earlier period's start, the later one's end (R192). -/
def mergeAcc (a b : RamanAcc) : RamanAcc :=
  { start := a.start, stop := b.stop, windows := a.windows + b.windows, expected := a.expected + b.expected,
    biasDrop := a.biasDrop || b.biasDrop, stk := addBins a.stk b.stk, ast := addBins a.ast b.ast, sat := orBins a.sat b.sat }

/-! ## Closing a period (R177, R179, R188, R192) -/

/-- Windows that the grid last in effect places in a span: PUMP launches at a, a + m F, … (R179).
(DEDUCED, log 71; DEDUCED, log 72) -/
def State.expectedIn (s : State) (p : Port) (t0 t1 : Nat) : Nat :=
  match (s.raman p).sched with
  | some (pump, f, m) =>
    if m = 0 ∨ f = 0 then 0
    else
      let step : Int := (10 * m * f : Nat)
      let first : Int := (pump + 10 * (m - 1) * f : Nat)
      (((t1 : Int) - 1 - first) / step - ((t0 : Int) - 1 - first) / step).toNat
  | none => 0

/-- T_COIL of a period and its flags: sum and number of readings, REF_HELD, NO_REF (R188). -/
def State.coilOf (s : State) (p : Port) (t0 t1 : Nat) : Int × Nat × Bool × Bool :=
  let r := s.raman p
  let good := r.readings.filter (fun x => t0 ≤ x.1 ∧ x.1 < t1)
  if good ≠ [] then ((good.map (·.2)).foldl (· + ·) 0, good.length, false, false)
  else
    let old := r.fault.isSome && decide (60 * secNs ≤ s.clk - r.faultAt)
    match r.lastGood with
    | some (sum, n, stop) => if !old && decide (t1 ≤ stop + 60 * secNs) then (sum, n, true, false) else (0, 1, false, true)
    | none => (0, 1, false, true)

/-- The most windows a combined period may hold (R192). -/
def carryLimit : Nat := 16777216

/-- Carried sums join a closed period, or are discarded with their windows counted (R192). -/
def State.joinCarried (s : State) (p : Port) (a : RamanAcc) : RamanAcc × State :=
  match (s.raman p).carried with
  | none => (a, s)
  | some c =>
    let s1 := s.setRaman p (fun r => { r with carried := none })
    if carryLimit < c.windows + a.windows then (a, s1.count Ctr.ramanStats_dropped p.val c.windows) else (mergeAcc c a, s1)

/-- A recording of the period still runs. -/
def State.recPending (s : State) (p : Port) (stop : Nat) : Bool := (s.raman p).recording.any (fun x => x.pumpAt < stop)

/-- The span of the period that ends next at or before the present time. A period keeps the span that ACC_TIME gave it as it
opened (DESIGN CHOICE, log 194). -/
def State.closing (s : State) (p : Port) : Option (Nat × Nat) :=
  match (s.raman p).period with
  | some a => if a.stop ≤ s.tb then some (a.start, a.stop) else none
  | none =>
    let t1 := s.periodOf p s.tb
    if (s.raman p).closedAt < t1 then some (t1 - s.accNs p, t1) else none

/-! ## The conversion (R180) -/

/-- Sum of the bins `k` to `k + n - 1` of a trace. (DESIGN CHOICE, log 15) -/
def binSum (xs : List Int) (k : Int) (n : Nat) : Int :=
  ((xs.drop k.toNat).take (n - (-k).toNat)).foldl (· + ·) 0

/-- The invalid temperature word. -/
def noTemp : Half := 0x8000

/-- One temperature word in 64-bit floating point: ln ((a / s) / R_ref), 1 / T_ref, gamma and alpha x dz as such numbers
(R180). -/
def tempWord (ratio invRef gamma att : Int × Int) : Half :=
  let invT := dblSub invRef (dblDiv (dblAdd ratio att) gamma)
  if invT.1 ≤ 0 then noTemp
  else
    let t := dblSub (dblDiv (1, 0) invT) (dblOf 27315 100 0)
    if dblLt t (-200, 0) || dblLt (327, 0) t then noTemp else BitVec.ofInt 16 (dblRound (dblMul t (100, 0)))

/-- Reported bins of a port and their step. -/
def State.binStep (s : State) (p : Port) : Nat := 2 ^ s.fld Fld.ramanCfg_binStep p.val
def State.tempCount (s : State) (p : Port) : Nat := s.fld Fld.seqPort_fibreLen p.val / s.binStep p

/-- The temperature words of a converted period, each step of R180 rounded as the formula is written (DESIGN CHOICE, log 12). -/
def State.tempWords (s : State) (p : Port) (c : RamanConv) : List Half :=
  let step := s.binStep p
  let n := s.tempCount p
  let k := c.coef
  let lo : Int := k.coilFirst + 8
  let len := (k.coilLast - 8 - lo + 1).toNat
  let sRef := binSum c.acc.stk lo len
  let aRef := binSum c.acc.ast lo len
  let shift := u16At (s.raman p).lastRecord 0x166
  let gamma := dblMul (dblOf 4799243 100000000 0) (shift, 0)
  let alpha := dblMul (dblMul (k.atten, 0) (dblOf 1 1000 0)) (dblOf 2302585 10000000 0)
  let invRef := dblDiv (1, 0) (dblAdd (dblOf c.coilSum (1000 * c.coilN) 0) (dblOf 27315 100 0))
  let rRef := dblDiv (dblOf aRef 1 0) (dblOf sRef 1 0)
  (List.range n).map (fun j =>
    let k0 : Int := k.fibre0 + (j * step : Nat)
    let sb := binSum c.acc.stk k0 step
    let ab := binSum c.acc.ast k0 step
    let sat := ((c.acc.sat.drop k0.toNat).take step).any id
    if len = 0 ∨ sRef ≤ 0 ∨ aRef ≤ 0 ∨ sb ≤ 0 ∨ ab ≤ 0 ∨ sat ∨ c.noRef ∨ shift = 0 then noTemp
    else
      let dz := dblDiv (dblMul (2 * k0 + step - 1 - k.coilFirst - k.coilLast, -1) (dblOf 14989623 10000000000 0))
        (dblOf (max 1 c.index : Nat) 1000000 0)
      let ratio := dblLn (dblDiv (dblDiv (dblOf ab 1 0) (dblOf sb 1 0)) rRef)
      tempWord ratio invRef gamma (dblMul alpha dz))

/-! ## Profile records (R190, R191) -/

/-- One entry of the appended sums: scaled by QSCALE / 32,768 and saturated to 40 bits. -/
def sumEntry (qscale : Nat) (x : Int) : List Byte :=
  let v := divNearest (Config.roundUp x.natAbs qscale) (x * qscale) 32768
  leBytes 5 (toBits 40 (clampInt (-549755813888) 549755813887 v))

/-- T_COIL in 0.01 °C from the sum and number of readings in 0.001 °C. -/
def coilCenti (sum : Int) (n : Nat) : Int :=
  divNearest (Config.roundUp sum.natAbs (10 * n)) sum (10 * max 1 n)

/-- The profile record of a converted period. (DEDUCED, log 22; DEDUCED, log 70) -/
def State.profileRecord (s : State) (p : Port) (c : RamanConv) (words : List Half) : List Byte :=
  let k := c.coef
  let a := c.acc
  let len := s.fld Fld.seqPort_fibreLen p.val
  let sat := (a.sat.drop k.fibre0.toNat).take len
  let sums := s.flag Fld.ramanCfg_sums p.val && !c.stale
  let flags := bitNat c.stale + 2 * bitNat c.refHeld + 4 * bitNat c.noRef
    + 8 * bitNat (!c.stale && 2 * a.windows < a.expected) + 16 * bitNat a.biasDrop + 32 * bitNat (a.sat.any id)
    + 64 * bitNat sums + 128 * bitNat (s.port p).head.headChanged
  let offset := divHalfUp (128 * ((k.dRam : Int) + 10 * k.fibre0 - s.dRxNs p)) 5
  let step := s.binStep p
  let n := s.tempCount p
  let rec_ := (s.raman p).lastRecord
  let head := leBytes 2 1 ++ leBytes 1 p.val ++ leBytes 1 flags ++ leBytes 4 (s.raman p).seq ++ leBytes 8 a.start
    ++ leBytes 8 a.stop ++ leBytes 4 (if c.stale then 0 else a.windows) ++ leBytes 4 a.expected ++ leBytes 4 n
    ++ leBytes 1 step ++ zeros 1
    ++ leBytes 2 (if c.noRef then 0x8000 else toBits 16 (coilCenti c.coilSum c.coilN)) ++ leBytes 2 (toBits 16 k.atten)
    ++ leBytes 2 (u16At rec_ 0x166) ++ leBytes 4 (sat.filter id).length ++ leBytes 2 (toBits 16 k.fibre0)
    ++ leBytes 2 k.coilFirst ++ leBytes 2 (toBits 16 k.coilLast) ++ leBytes 2 (toBits 16 (clampInt (-32768) 32767 offset))
    ++ zeros 8
  let body := pad4 (words.flatMap (fun w => leBytes 2 w.toNat))
  let arrays :=
    if sums then
      let entries (xs : List Int) (q : Nat) : List Byte :=
        (List.range n).flatMap (fun j => sumEntry q (binSum xs (k.fibre0 + (j * step : Nat)) step))
      pad4 (entries a.stk (u16At rec_ 0x158) ++ entries a.ast (u16At rec_ 0x15A))
    else []
  head ++ body ++ arrays

/-- PROFILE_READY (R180, R190, R192): the conversion of a closed period ends. A period without a window is marked LOW_COUNT too
where windows were expected (R179). -/
def State.convert (s : State) (p : Port) (c : RamanConv) : State :=
  let low := !c.stale && 2 * c.acc.windows < c.acc.expected
  let s1 := (s.setRaman p (fun r => { r with conv := none })).countIf Ctr.ramanStats_lowCount p.val low
  if !c.stale && c.acc.windows = 0 then s1.count Ctr.ramanStats_empty p.val 1
  else
    let n := s.tempCount p
    let words := if c.stale then (List.range n).map (fun j => ((s.raman p).lastWords.getD []).getD j noTemp)
      else s.tempWords p c
    let record := s.profileRecord p c words
    let s2 := s1.setRaman p (fun r =>
      { r with seq := (r.seq + 1) % 4294967296, profile := some record, refHeld := c.refHeld, noRef := c.noRef,
               lastWords := if c.stale then r.lastWords else some words })
    let s3 := s2.count Ctr.ramanStats_profiles p.val 1
    (s3.streamsOf clsTemp p.val).foldl (fun t i => t.pushStream i typTemp 0 record) s3

def profileReady (dt : Nat) (p : Port) (s0 : State) : State :=
  let s := s0.elapse dt
  match (s.raman p).conv with
  | some c => if s.recPending p c.acc.stop then s else s.convert p c
  | none => s

/-- The grid of a port goes on: it runs or is HALTED, or it is shut and another member of its group runs (R97, R179, R294).
(DEDUCED, log 45) -/
def State.gridGoesOn (s : State) (p : Port) : Bool :=
  match (s.port p).seq.mode with
  | .running | .halted => true
  | .shut => (s.groupOf p).isSome && (s.gridPorts (s.gridIx p)).any (fun q => onGrid (s.port q).seq)
  | .stopped | .starting | .single => false

/-- A closed period waits for its conversion with the values in effect as it closed (R127, R180, R181, R188). -/
def State.convOf (s : State) (p : Port) (a : RamanAcc) (coil : Int × Nat × Bool × Bool) (stale : Bool) : RamanConv :=
  ⟨a, s.ramanCoef p, coil.1, coil.2.1, s.fld Fld.seqPort_groupIndex p.val, stale, coil.2.2.1, coil.2.2.2⟩

/-- The Raman windows of a port yield profiles (R179): its schedule places some, or sums wait. -/
def State.profiles (s : State) (p : Port) (a : RamanAcc) : Bool :=
  ((s.record p).isSome && s.ramanM p ≠ 0 && !s.singleMode p) || decide (0 < a.expected + a.windows) || (s.raman p).carried.isSome

/-- A period of the given span closes (R177, R179, R192). While a step of calibration holds the port's profiles every such period
yields a STALE record; otherwise a period in which no window was placed, and to which no sums were carried, yields none. A
period before it that still waits for its conversion is converted first. (DEDUCED, log 70; DEDUCED, log 71) -/
def State.closePeriod (s0 : State) (p : Port) (t0 t1 : Nat) : State :=
  let s : State := match (s0.raman p).conv with
    | some c => s0.convert p c
    | none => s0
  let r := s.raman p
  let acc0 := { (r.period.getD (freshAcc t0 t1)) with expected := s.expectedIn p t0 t1 }
  let coil := s.coilOf p t0 t1
  let good := r.readings.any (fun x => t0 ≤ x.1 && x.1 < t1)
  let s1 := s.setRaman p (fun x =>
    { x with period := none, closedAt := t1, lastGood := if good then some (coil.1, coil.2.1, t1) else x.lastGood,
             sched := if s.gridGoesOn p then x.sched else none })
  let j := s1.joinCarried p acc0
  if s.calHolds p && s.profiles p acc0 then
    j.2.setRaman p (fun x => { x with carried := some j.1, conv := some (s.convOf p acc0 coil true) })
  else if acc0.expected = 0 ∧ acc0.windows = 0 ∧ r.carried.isNone then s1.setRaman p (fun x => { x with readings := [] })
  else
    let c := s.convOf p j.1 (s.coilOf p j.1.start t1) false
    let s2 := j.2.setRaman p (fun x => { x with readings := x.readings.filter (fun y => t1 ≤ y.1), conv := some c })
    if j.1.windows = 0 && !s.recPending p t1 then s2.convert p c else s2

/-- RAMAN_PERIOD_CLOSE (R177, R179, R192). -/
def ramanPeriodClose (dt : Nat) (p : Port) (s0 : State) : State :=
  let s := s0.elapse dt
  match s.closing p with
  | none => s
  | some (t0, t1) => s.closePeriod p t0 t1

/-- The open period of a port closes unless a time lies in it: a window launched past its end, or a load of the time base, ends
it (DESIGN CHOICE, log 194). -/
def State.leavePeriod (s : State) (p : Port) (t : Nat) : State :=
  match (s.raman p).period with
  | some a => if a.start ≤ t ∧ t < a.stop then s else s.closePeriod p a.start a.stop
  | none => s

/-! ## The end of a recording (R174 to R179) -/

/-- Change the sums that a window with its PUMP launch at `t` belongs to: of the closed period that still waits for its last
recording, those carried from it, or of the period that `t` lies in, which keeps its span (DESIGN CHOICE, log 194). -/
def State.accAt (s : State) (p : Port) (t : Nat) (f : RamanAcc → RamanAcc) : State :=
  let start := s.periodOf p t
  match (s.raman p).conv.filter (fun c => c.acc.start ≤ t ∧ t < c.acc.stop) with
  | some c =>
    if c.stale then s.setRaman p (fun r => { r with carried := r.carried.map f })
    else s.setRaman p (fun r => { r with conv := some { c with acc := f c.acc } })
  | none =>
    (s.leavePeriod p t).setRaman p (fun r =>
      { r with period := some (f (r.period.getD (freshAcc start (start + s.accNs p)))) })

/-- A window that a RAMAN step takes joins one of its two accumulations, baseline-corrected, without the pair gain, which is what
it measures (R412; DESIGN CHOICE, log 195). -/
def State.calWindow (s : State) (p : Port) (swap : Bool) (cs ca : List Int) : State :=
  s.setRaman p (fun r =>
    { r with calSums :=
        if swap then { r.calSums with swapStk := addBins r.calSums.swapStk cs, swapAst := addBins r.calSums.swapAst ca }
        else { r.calSums with stk := addBins r.calSums.stk cs, ast := addBins r.calSums.ast ca } })

/-- RAMAN_RECORDING_END (R174 to R179): the 64 baseline codes and the codes of each input. A recording whose port has stopped
since its PUMP launch is accumulated all the same (DESIGN CHOICE, log 165). (DEDUCED, log 75) -/
def ramanRecordingEnd (dt : Nat) (p : Port) (baseS baseA codesS codesA : List Half) (s0 : State) : State :=
  let s := s0.elapse dt
  match (s.raman p).recording with
  | none => s
  | some x =>
    let n := s.recLen p
    let baseStk := baseS.map BitVec.toInt
    let baseAst := baseA.map BitVec.toInt
    let stk := (codesS.take n).map BitVec.toInt
    let ast := (codesA.take n).map BitVec.toInt
    if s.tb < x.pumpAt + (s.ramanCoef p).dRam + 10 * n ∨ baseStk.length ≠ 64 ∨ baseAst.length ≠ 64 ∨ stk.length < n
        ∨ ast.length < n then s
    else
      let r := s.raman p
      let sats := ((baseStk ++ baseAst ++ stk ++ ast).filter codeSat).length
      let s1 := (s.setRaman p (fun y => { y with recording := none })).count Ctr.ramanStats_satSamples p.val sats
      let bias := x.bias || r.biasStk || r.biasAst
      let corrected (gain : Nat) (base codes : List Int) : List Int := correctCodes gain 64 (codeSum base) n 0 codes
      if bias || x.cal then
        let s2 := (s1.accAt p x.pumpAt (fun a => { a with biasDrop := a.biasDrop || bias })).count Ctr.ramanStats_dropped p.val 1
        match x.swap with
        | some swap =>
          if bias || !s.calOn .raman p then s2
          else s2.calWindow p swap (corrected 32768 baseStk stk) (corrected 32768 baseAst ast)
        | none => s2
      else
        let sat := (List.range n).map (fun k => codeSat (stk.getD k 0) || codeSat (ast.getD k 0))
        (s1.accAt p x.pumpAt (fun a =>
          { a with windows := a.windows + 1, stk := addBins a.stk (corrected r.gainStk baseStk stk),
                   ast := addBins a.ast (corrected r.gainAst baseAst ast), sat := orBins a.sat sat })).count
          Ctr.ramanStats_windows p.val 1

/-! ## The reference-coil RTD (R183 to R188) -/

/-- RTD pulses run on a port: its record is accepted and its RTD_CFG.EN is 1, in ACTIVE (R183). (DEDUCED, log 126) -/
def State.rtdOn (s : State) (p : Port) : Bool :=
  (s.record p).isSome && s.flag Fld.rtdCfg_en p.val && decide (s.power.mode = .active)

/-- PULSE and PERIOD of a port, ns. -/
def State.rtdPulseNs (s : State) (p : Port) : Nat := s.fld Fld.rtdCfg_pulse p.val * msNs
def State.rtdPeriodNs (s : State) (p : Port) : Nat := s.fld Fld.rtdCfg_period p.val * 10 * msNs

/-- The RTD-enabled ports: RTD_CFG.EN is 1 (R184). (DEDUCED, log 125) -/
def State.rtdEnabled (s : State) : List Port := allPorts.filter (fun p => s.flag Fld.rtdCfg_en p.val)

/-- The ports with RTD pulses. (DEDUCED, log 125) -/
def State.rtdPorts (s : State) : List Port := allPorts.filter s.rtdOn

/-- P_min, ns (R184). -/
def State.rtdRound (s : State) : Nat :=
  (s.rtdEnabled.map s.rtdPeriodNs).foldl (fun m x => if m = 0 then x else min m x) 0

/-- k_n: rounds between a port's pulses, round (PERIOD / P_min), ties up (R184). -/
def State.rtdEvery (s : State) (p : Port) : Nat := max 1 (divHalfUp (s.rtdPeriodNs p) (max 1 s.rtdRound)).toNat

/-- A port is due in round m (R184). -/
def State.rtdDue (s : State) (m : Nat) (p : Port) : Bool := m % s.rtdEvery p = 0

/-- Start of a port's pulse in the round in progress; none where it is not due. -/
def State.rtdStart (s : State) (p : Port) : Option Nat :=
  let round := max 1 s.rtdRound
  let m := s.tb / round
  if s.rtdOn p && s.rtdDue m p then
    let before := allPorts.filter (fun q => q < p && s.rtdOn q && s.rtdDue m q)
    some (m * round + (before.map (fun q => s.rtdPulseNs q + 2 * msNs)).foldl (· + ·) 0)
  else none

/-- Excitation current in units of 20 nA (R186, R416). (DEDUCED, log 76) -/
def State.rtdCurrent (s : State) (p : Port) (high : Bool) : Nat :=
  if high then (s.calPort p).iHi else (s.calPort p).iLo

/-! ## RAMAN_STATUS (R193) -/

def rtdCode : Option RtdCause → Nat
  | none => 0
  | some .open_ => 1
  | some .short => 2
  | some .ground => 3
  | some .unsettled => 4

def State.ramanStatus (s : State) (p : Port) : List Nat :=
  let r := s.raman p
  let c := s.ramanCoef p
  [bitNat r.biasStk + 2 * bitNat r.biasAst + 4 * bitNat r.fault.isSome + 8 * rtdCode r.fault + 64 * bitNat r.refHeld
      + 128 * bitNat r.noRef + 256 * bitNat (s.calHolds p),
   toBits 16 (coilCenti r.tRtd 1) + 65536 * toBits 16 c.atten, toBits 16 c.fibre0 + 65536 * (r.gainStk % 65536),
   r.gainAst % 65536 + 65536 * (c.dRam % 65536)]

end Sys2Proof.Machine
end

