-- ==== Sys2Proof/Machine/House.lean ====
section
/-! DEFINITION. The housekeeping converters HK-A and HK-B: sequences, jobs, triggers, checks, results (R391 to
R402, R410), and the pulses of the reference-coil RTDs (R184 to R188). -/

namespace Sys2Proof.Machine

def State.hk (s : State) (i : Fin 2) : HkSt := s.house.hk[i]
def State.setHk (s : State) (i : Fin 2) (f : HkSt → HkSt) : State :=
  s.setHouse (fun h => { h with hk := vmod h.hk i f })

/-! ## References and trims (R399, R414) -/

/-- The reference of a converter, µV (R399). The spec gives VANA 1.8 V; its value at an instant is taken as nominal (DESIGN CHOICE,
log 196). -/
def State.hkVref (s : State) (i : Fin 2) : Nat :=
  match s.fld Fld.hkCfg_refSel i.val with
  | 0 => (2500000 + s.cal.refUv).toNat
  | 2 => 1800000
  | _ => 2500000

/-- The gain of a converter in 1/32,768, by which its codes are multiplied (R412; DESIGN CHOICE, log 196). -/
def State.hkGain (s : State) (i : Fin 2) : Nat := if i = 0 then s.cal.gainA else s.cal.gainB

/-! ## Entries (R391, R392, R397) -/

/-- Settle time and samples per output of a preset, µs. -/
def settleUs (preset : Nat) : Nat := [32, 500, 8000, 125000].getD preset 0
def outputUs (preset : Nat) : Nat := [16, 250, 4000, 62500].getD preset 0

/-- Dwell of an entry, µs (R392). -/
def dwellUs (preset n : Nat) : Nat := 2 + settleUs preset + n * outputUs preset

/-- CHANNEL, PRESET, N and FORMAT of the valid words of HK_SEQ, from given words of 32 bits. -/
def seqEntries (words : List Nat) : List (Nat × Nat × Nat × Nat) :=
  (words.filter (fun w => w.testBit 7)).map (fun w => (w % 32, w / 32 % 4, w / 256 % 256, w / 65536 % 4))

/-- The eight words of HK_SEQ of a converter. -/
def State.seqWords (s : State) (i : Fin 2) : List Nat :=
  let n := s.cfgNum hkSeqBlock i.val
  (List.range 8).map (fun k => n / 2 ^ (32 * k) % 4294967296)

/-- Dwell of all valid entries, µs. -/
def seqDwell (es : List (Nat × Nat × Nat × Nat)) : Nat := (es.map (fun e => dwellUs e.2.1 e.2.2.1)).foldl (· + ·) 0

/-- A channel that a converter may convert in HK_SEQ (R391, R394). -/
def hkOwns (i : Fin 2) (ch : Nat) : Bool :=
  if i = 0 then ch ≤ 15 || ch = 31 else 16 ≤ ch && ch ≠ 24 && ch ≠ 25

/-- The user entries of a converter. -/
def State.userEntries (s : State) (i : Fin 2) (late : Bool) : List HkEntry :=
  (seqEntries (s.seqWords i)).map (fun e =>
    { channel := e.1, preset := e.2.1, n := e.2.2.1, format := e.2.2.2, late := late, settling := false, check := false,
      user := true, gain := 32768, vref := 2500000 })

/-- An entry of a converter's own: BALANCED, N = 1, RIGHT (R393, R394). -/
def ownEntry (channel : Nat) (late check : Bool) : HkEntry :=
  { channel := channel, preset := 1, n := 1, format := 0, late := late, settling := false, check := check, user := false,
    gain := 32768, vref := 2500000 }

def checkEntry (late : Bool) : HkEntry := ownEntry 31 late true

/-! ## RTD pulses ahead (R184, R394) -/

/-- The longest interval between RTD pulses, ns: of ports given by PULSE and by the number of rounds k between their pulses, in
rounds of P_min (R184); none without a port. It follows a round in which only the ports that pulse most often do.
(DEDUCED, log 125) -/
def longestGap (round : Nat) (ports : List (Nat × Nat)) : Option Nat :=
  match ports with
  | [] => none
  | _ =>
    let k := (ports.map (·.2)).foldl (fun m x => if m = 0 then x else min m x) 0
    let often := ports.filter (fun x => x.2 = k)
    some (k * round + 2 * msNs - (often.map (fun x => x.1 + 2 * msNs)).foldl (· + ·) 0)

/-- The longest interval between the RTD pulses of the ports with an accepted record. -/
def State.rtdGap (s : State) : Option Nat :=
  longestGap s.rtdRound ((s.rtdEnabled.filter (fun p => (s.record p).isSome)).map (fun p => (s.rtdPulseNs p, s.rtdEvery p)))

/-- The first of `n` rounds from round m on in which a port pulses. -/
def State.pulseRound (s : State) : Nat → Nat → Nat
  | 0, m => m
  | n + 1, m => if s.rtdPorts.any (s.rtdDue m) then m else s.pulseRound n (m + 1)

/-- The pulse of the round in progress that a port has still to run. -/
def State.rtdWaits (s : State) (p : Port) : Option Nat :=
  (s.rtdStart p).filter (fun t => decide (s.tb < t + s.rtdPulseNs p) && (s.raman p).lastPulse.all (fun x => decide (x < t)))

/-- The next scheduled RTD pulse, ns of the time base; one that is due and has not begun lies at or before the present time. -/
def State.nextRtd (s : State) : Option Nat :=
  if s.rtdPorts = [] then none
  else
    let round := max 1 s.rtdRound
    let ahead := s.rtdPorts.filterMap s.rtdWaits
    some (ahead.foldl min (s.pulseRound 100 (s.tb / round + 1) * round))

/-- HK-B is free for work of a dwell: no pulse runs, and the work ends at least 4 µs before the next one. -/
def State.hkbFits (s : State) (us : Nat) : Bool :=
  allPorts.all (fun p => (s.raman p).pulse.isNone)
  && (match s.nextRtd with
      | some t => s.tb + (us + 4) * 1000 ≤ t
      | none => true)

/-! ## Starting work (R393 to R396) -/

/-- The entry in front starts: its filter is empty, and it notes a reference that settles, and the gain and reference it is read
with (R397, R399, R414). -/
def State.startFront (s : State) (i : Fin 2) : State :=
  s.setHk i (fun x =>
    { x with frontAt := s.clk, restarts := 0, work := match x.work with
        | [] => []
        | e :: es => { e with settling := x.refSettling, gain := s.hkGain i, vref := s.hkVref i } :: es })

/-- HK-A starts its sequence. -/
def State.hkaStart (s : State) (late : Bool) : State :=
  let fixed := (List.range 8).map (fun n => ownEntry n late false)
  let check := if (s.hk 0).checkDue then [checkEntry late] else []
  let user := if s.flag Fld.hkCfg_en 0 then s.userEntries 0 late else []
  (s.setHk 0 (fun x => { x with work := fixed ++ check ++ user, jobRuns := true, pending := false, checkDue := false })).startFront 0

/-- HK-B starts what it may: a check that is due, else the user job that is pending; each is late where its trigger came before
(R396). -/
def State.hkbStart (s : State) (lateCheck lateJob : Bool) : State :=
  let x := s.hk 1
  if x.calHold || x.work ≠ [] then s
  else if x.checkDue && s.hkbFits 752 then
    (s.setHk 1 (fun y => { y with work := [checkEntry lateCheck], jobRuns := false, checkDue := false })).startFront 1
  else if x.pending && s.flag Fld.hkCfg_en 1 && s.hkbFits (seqDwell (seqEntries (s.seqWords 1))) then
    (s.setHk 1 (fun y => { y with work := s.userEntries 1 lateJob, jobRuns := true, pending := false })).startFront 1
  else s

/-- A converter that is free starts what waits (R394, R396). -/
def State.hkWaiting (s : State) (i : Fin 2) : State :=
  if i = 0 then (if (s.hk 0).pending && decide ((s.hk 0).work = []) then s.hkaStart true else s) else s.hkbStart true true

/-! ## Calibration hold (R402, R422) -/

/-- The step releases a converter, and what was pending before the hold starts (R396, R402). -/
def State.hkRelease (s : State) (i : Fin 2) : State := (s.setHk i (fun x => { x with calHold := false })).hkWaiting i

/-- A REF step holds HK-A for 100 ms and HK-B for 600 ms (R422). (DESIGN CHOICE, log 197) -/
def State.refHoldsEnd (s : State) : State :=
  match s.cal.run with
  | none => s
  | some r =>
    match r.now with
    | none => s
    | some n =>
      let a := decide (n.step = .ref) && r.holdA && decide (n.began + 100 * msNs ≤ s.clk)
      let b := decide (n.step = .ref) && r.holdB && decide (n.began + 600 * msNs ≤ s.clk)
      let s1 : State := { s with cal := { s.cal with run := some { r with holdA := r.holdA && !a, holdB := r.holdB && !b } } }
      let s2 := if a then s1.hkRelease 0 else s1
      if b then s2.hkRelease 1 else s2

/-! ## Triggers (R393 to R396, R401) -/

/-- A trigger of a job: it starts, is held pending, or is dropped as an overrun (R396). -/
def State.hkTrigger (s : State) (i : Fin 2) : State :=
  let x := s.hk i
  if x.calHold then s
  else if x.pending then (s.setHk i (fun y => { y with overrunDue := true })).count Ctr.hkStats_overrun i.val 1
  else
    let s1 := s.setHk i (fun y => { y with pending := true })
    if i = 0 then (if x.work = [] then s1.hkaStart false else s1) else s1.hkbStart true false

/-- A converter's clock has passed a multiple of `ms` of the time base since its last trigger: the trigger is taken, once. -/
def State.hkTick (s : State) (i : Fin 2) (ms : Nat) : State :=
  let n := s.tb / (max 1 ms * msNs)
  if n = (s.hk i).tickAt then s else (s.setHk i (fun x => { x with tickAt := n })).hkTrigger i

/-- HK-B's timer counts multiples of PERIOD_MS from here on: its EN or PERIOD_MS is written (R395). -/
def State.hkRetick (s : State) : State :=
  s.setHk 1 (fun x => { x with tickAt := s.tb / (max 1 (s.fld Fld.hkCfg_periodMs 1) * msNs) })

/-- HKA_SEQUENCE: a 10 ms boundary (R393). -/
def hkaSequence (dt : Nat) (s0 : State) : State :=
  let s := (s0.elapse dt).refHoldsEnd
  if s.timeRuns then s.hkTick 0 10 else s

/-- HKB_JOB_TRIGGER (R395): a multiple of PERIOD_MS, or DELAY_US after every TRIG_DIV-th launch of TRIG_PORT while it runs. -/
def hkbJobTrigger (dt : Nat) (s0 : State) : State :=
  let s := (s0.elapse dt).refHoldsEnd
  if !s.timeRuns || !s.flag Fld.hkCfg_en 1 then s
  else if s.fld Fld.hkCfg_trig 1 = 0 then s.hkTick 1 (s.fld Fld.hkCfg_periodMs 1)
  else
    match (s.hk 1).due with
    | [] => s
    | t :: rest => if s.clk < t then s else (s.setHk 1 (fun x => { x with due := rest })).hkTrigger 1

/-- A check trigger at one converter: HK-A takes it with its next sequence; HK-B holds it pending, and drops a second one as an
overrun (R393, R394, R396). -/
def State.checkTrigger (s : State) (i : Fin 2) : State :=
  let x := s.hk i
  if x.calHold then s
  else if i = 1 && x.checkDue then (s.setHk i (fun y => { y with checkExcess := true })).count Ctr.hkStats_overrun i.val 1
  else s.setHk i (fun y => { y with checkDue := true })

/-- HK_CHECK_TRIGGER: a whole second (R401); a converter that calibration holds discards it (R402). (DEDUCED, log 78) -/
def hkCheckTrigger (dt : Nat) (s0 : State) : State :=
  let s := (s0.elapse dt).refHoldsEnd
  let second := s.tb / secNs
  if !s.timeRuns || second == (s.hk 0).checkAt then s
  else
    let waited := (s.hk 1).checkDue
    let s1 := s.setHouse (fun h =>
      { h with checkStep := (h.checkStep + 1) % 3, hk := h.hk.map (fun x => { x with lastCheck := none, checkAt := second }) })
    ((s1.checkTrigger 0).checkTrigger 1).hkbStart waited true

/-! ## Results (R398 to R401) -/

/-- A number divided by n, rounded to nearest, ties up, and limited. -/
def hkCode (lo hi x : Int) (n : Nat) : Int := clampInt lo hi (divHalfUp x n)

/-- A result word: the mean of n outputs of a sum, V / Vref in units of 2^-24 (R400). (DEDUCED, log 77) -/
def resultWord (format : Nat) (sum : Int) (n : Nat) (flags : Nat) : Word :=
  let code : Nat := (hkCode 0 65535 sum (256 * n)).toNat
  let signed : Nat := toBits 16 (hkCode (-32768) 32767 sum (512 * n))
  if format = 0 then BitVec.ofNat 32 (code + 16777216 * flags)
  else if format = 1 then BitVec.ofNat 32 (65536 * code + 256 * (sum / n % 256).toNat + flags)
  else BitVec.ofNat 32 (65536 * signed + 256 * (sum / (2 * n) % 256).toNat + flags)

/-- The code that a check expects of the step in use. -/
def State.checkExpect (s : State) : Int := 16384 * (s.house.checkStep + 1 : Nat)

/-- Judge a check of a converter (R401). (DEDUCED, log 78; DEDUCED, log 79) -/
def State.judgeCheck (s : State) (i : Fin 2) (code : Int) : State :=
  let x := s.hk i
  let good := (code - s.checkExpect).natAbs ≤ 32
  let fails := if good then 0 else x.checkFails + 1
  let passes := if good then x.checkPasses + 1 else 0
  let s1 := (s.setHk i (fun y => { y with checkFails := fails, checkPasses := passes, lastCheck := some code.toNat })).countIf
    Ctr.hkStats_checkFail i.val (!good)
  if !x.fault && 3 ≤ fails then (s1.setHk i (fun y => { y with fault := true })).event evHkFault noUnit i.val []
  else if x.fault && 3 ≤ passes then (s1.setHk i (fun y => { y with fault := false })).event evHkClear noUnit i.val []
  else s1

/-- Judge the agreement of the two converters once both have read the step (R401). (DEDUCED, log 79) -/
def State.judgeAgreement (s : State) : State :=
  match (s.hk 0).lastCheck, (s.hk 1).lastCheck with
  | some a, some b =>
    let good := ((a : Int) - b).natAbs ≤ 20
    let fails := if good then 0 else s.house.agreeFails + 1
    let passes := if good then s.house.agreePasses + 1 else 0
    let was := (s.hk 0).mismatch
    let s1 := s.setHouse (fun h =>
      { h with agreeFails := fails, agreePasses := passes,
               hk := h.hk.map (fun x =>
                 { x with lastCheck := none, mismatch := if 3 ≤ fails then true else if 3 ≤ passes then false else x.mismatch }) })
    if 3 ≤ fails ∧ ¬ was then s1.event evHkFault noUnit noUnit [] else s1
  | some _, none | none, some _ | none, none => s

/-- The entry in front ends; with the last one its work ends, and what waits may start. -/
def State.hkAdvance (s : State) (i : Fin 2) (es : List HkEntry) : State :=
  let s1 := s.setHk i (fun y => { y with work := es })
  if es ≠ [] then s1.startFront i
  else
    ((s1.countIf Ctr.hkStats_sequences i.val (s1.hk i).jobRuns).setHk i (fun y => { y with jobRuns := false })).hkWaiting i

/-- Channels have never settled (R398). -/
def State.neverSettles (s : State) (i : Fin 2) (channels : List Nat) : State :=
  ((s.setHk i (fun y => { y with neverSettled := channels.foldl (fun w c => w ||| (1#32 <<< c)) y.neverSettled })).count
    Ctr.hkStats_neverSettled i.val 1).event evHkNeverSettled noUnit i.val []

/-- The entry in front of a converter's work ends without a result (R398). (DEDUCED, log 79) -/
def State.hkNeverSettles (s : State) (i : Fin 2) : State :=
  match (s.hk i).work with
  | [] => s
  | e :: es => (s.neverSettles i [e.channel]).hkAdvance i es

/-- The front entry has dwelt its time since its settle count last began (R392, R397). -/
def dwelt (now : Nat) (x : HkSt) (e : HkEntry) : Bool := decide (x.frontAt + dwellUs e.preset e.n * usNs ≤ now)

/-- A result of an entry is stored: its word, format and reference; of HK-A's fixed part as a case reading too (R79, R400). -/
def State.hkStore (s : State) (i : Fin 2) (e : HkEntry) (w : Word) : State :=
  let fixed := decide (i = 0) && !e.user && !e.check
  s.setHouse (fun h =>
    { h with values := h.values.setIfInBounds e.channel w, formats := h.formats.setIfInBounds e.channel e.format,
             vrefs := h.vrefs.setIfInBounds e.channel e.vref,
             cases := if fixed then h.cases.setIfInBounds e.channel (w, e.vref) else h.cases })

/-- HK_ENTRY_RESULT: the entry in front of a converter's work gives its N settled outputs, each V / Vref in units of 2^-24, and
whether an input sample stood at an end code (R400). An entry that ends without a result ends at its eighth restart, by itself
(R398). (DEDUCED, log 77; DEDUCED, log 79) -/
def hkEntryResult (dt : Nat) (i : Fin 2) (result : Option (List Int × Bool)) (s0 : State) : State :=
  let s := (s0.elapse dt).refHoldsEnd
  let x := s.hk i
  match x.work, result with
  | e :: es, some (outs, clip) =>
    if x.calHold || !dwelt s.clk x e || outs.length ≠ e.n || e.n = 0 then s
    else
      let sum : Int := (e.gain : Int) * outs.foldl (· + ·) 0
      let n := 32768 * e.n
      let excess := if e.check then x.checkExcess else x.overrunDue
      let flags := bitNat excess + 2 * bitNat e.late + 4 * bitNat e.settling + 8 * bitNat clip + 16 * bitNat x.fault
      let s1 := s.hkStore i e (resultWord e.format sum n flags)
      let s2 := s1.setHk i (fun y =>
        { y with overrunDue := y.overrunDue && e.check, checkExcess := y.checkExcess && !e.check,
                 neverSettled := y.neverSettled &&& ~~~(1#32 <<< e.channel) })
      let s3 := (s2.countIf Ctr.hkStats_late i.val e.late).countIf Ctr.hkStats_clipped i.val clip
      let s4 := if e.check then (s3.judgeCheck i (hkCode 0 65535 sum (256 * n))).judgeAgreement else s3
      s4.hkAdvance i es
  | [], _ | _ :: _, none => s

/-- A change of HK-B's reference within an RTD pulse: its settle count begins again, and with the eighth time before a settled
output the pair ends without one (R397, R398; DESIGN CHOICE, log 198). -/
def State.pulseRefChanged (s : State) (p : Port) : State :=
  match (s.raman p).pulse with
  | none => s
  | some x =>
    let settles := decide (s.clk < max (s.hk 1).settlingSince (s.clk - (s.tb - x.start)) + 64 * usNs)
    let y := { x with gain := s.hkGain 1, vref := s.hkVref 1, restarts := if settles then x.restarts + 1 else 0 }
    let s1 := s.setRaman p (fun r => { r with pulse := some y })
    if y.restarts = 8 then s1.neverSettles 1 [24, 25] else s1

/-- A new reference: every filter restarts and REF_SETTLING stands for 2.0 ms (R397, R399). The settle time of the entry in front
runs again; in its settle count it counts a restart, and with the eighth it ends (R392, R398). -/
def State.refChanged (s : State) (i : Fin 2) : State :=
  let x := s.hk i
  let settles := x.work ≠ [] ∧ s.clk < x.frontAt + ((x.work.map (fun e => settleUs e.preset)).headD 0 + 2) * usNs
  let s1 := if i = 1 then forPorts allPorts (fun p t => t.pulseRefChanged p) s else s
  let s2 := s1.setHk i (fun x =>
    { x with refSettling := true, settlingSince := s.clk, frontAt := max x.frontAt (s.clk - 2 * usNs),
             restarts := if settles then x.restarts + 1 else 0,
             work := x.work.mapIdx (fun k e => if k = 0 then { e with vref := s.hkVref i } else e) })
  if settles ∧ x.restarts = 7 then s2.hkNeverSettles i else s2

/-- REF_SETTLING_END (R399). -/
def refSettlingEnd (dt : Nat) (i : Fin 2) (s0 : State) : State :=
  let s := s0.elapse dt
  if (s.hk i).refSettling && 2 * msNs ≤ s.clk - (s.hk i).settlingSince then s.setHk i (fun x => { x with refSettling := false }) else s

/-- HK_CFG.EN is written 0: a user job is abandoned without a result; where it was under way, what waits may start. -/
def State.hkDisabled (s : State) (i : Fin 2) : State :=
  let runs := ((s.hk i).work.head?).any (fun e => e.user)
  let s1 := s.setHk i (fun x =>
    { x with work := x.work.filter (fun e => !e.user), pending := if i = 1 then false else x.pending, launches := 0, due := [],
             jobRuns := if i = 1 then false else x.jobRuns })
  if runs then s1.hkAdvance i [] else s1

/-! ## A converter is held (R402) -/

/-- STALE set in a result word. (DEDUCED, log 77) -/
def staleWord (format : Nat) (w : Word) : Word := if format = 0 then w ||| 0x20000000 else w ||| 0x00000020

/-- The converter that a channel's word belongs to; HK.31 to both. -/
def hkConverts (i : Fin 2) (ch : Nat) : Bool := if i = 0 then ch ≤ 15 || ch = 31 else 16 ≤ ch

/-- A calibration step holds a converter: its work ends, its words turn STALE; a trigger that was pending stays so. -/
def State.hkHold (s : State) (i : Fin 2) : State :=
  let values := (List.range 32).foldl (fun (v : Vector Word 32) n =>
    if hkConverts i n then v.setIfInBounds n (staleWord (s.house.formats.toList.getD n 0) (v.toList.getD n 0)) else v) s.house.values
  let s1 := s.setHouse (fun h =>
    { h with values := values, cases := if i = 0 then h.cases.map (fun x => (staleWord 0 x.1, x.2)) else h.cases,
             hk := vmod h.hk i (fun x => { x with calHold := true, work := [], jobRuns := false }) })
  if i = 1 then forPorts allPorts (fun p t => t.setRaman p (fun r => { r with pulse := r.pulse.map (fun x => { x with held := true }) })) s1
  else s1

/-! ## RTD pulses (R184 to R188) -/

/-- RTD_PULSE_START (R184). Work of HK-B that a changed schedule has left in its way settles again after it (DESIGN CHOICE,
log 198). -/
def rtdPulseStart (dt : Nat) (p : Port) (s0 : State) : State :=
  let s := s0.elapse dt
  let r := s.raman p
  match s.rtdStart p with
  | none => s
  | some t =>
    if s.tb < t || r.pulse.isSome || r.lastPulse.any (fun x => decide (t ≤ x)) || allPorts.any (fun q => (s.raman q).pulse.isSome) then s
    else
      let x : RtdPulse :=
        { start := t, pulseMs := s.fld Fld.rtdCfg_pulse p.val, current := s.rtdCurrent p (s.flag Fld.rtdCfg_current p.val),
          delay := s.fld Fld.rtdCfg_delay p.val, held := (s.hk 1).calHold, gain := s.hkGain 1, vref := s.hkVref 1,
          settling := (s.hk 1).refSettling, restarts := 0 }
      ((s.setRaman p (fun y => { y with lastPulse := some t, pulse := some x })).setHk 1 (fun y =>
        { y with frontAt := if y.work = [] then y.frontAt else s.clk + x.pulseMs * msNs })).count Ctr.ramanStats_rtdPulses p.val 1

/-- R / R0 of R186 at n / 1,000 °C, times 10^27. -/
def rtdCurve (n : Int) : Int :=
  10 ^ 27 + 39083 * 10 ^ 17 * n - 5775 * 10 ^ 11 * n * n + (if n < 0 then -4183 * (n - 100000) * n * n * n else 0)

/-- The largest n from lo up with the curve at or below num / den, `fuel` halvings. -/
def rtdBisect (num : Int) (den : Nat) : Nat → Int → Int → Int
  | 0, lo, _ => lo
  | fuel + 1, lo, hi =>
    let mid := (lo + hi) / 2
    if rtdCurve mid * den ≤ num * 10 ^ 27 then rtdBisect num den fuel mid hi else rtdBisect num den fuel lo mid

/-- Temperature in 0.001 °C of R / R0 = num / den; between two values either, the iteration ending within 0.001 °C
(DESIGN CHOICE, log 15). -/
def rtdTemp (num den : Nat) : Int :=
  let n := rtdBisect num den 20 (-100000) 250000
  if rtdCurve n * den = (num : Int) * 10 ^ 27 then n else n + bitNat (Config.roundUp num den)

/-- The outputs of a pulse that are settled: one every 32 µs, the pair sharing the converter, from 64 µs after the start of the pulse,
the settle time of a FAST pair, and from as long after a change of reference within it (R185, R394, R397). -/
def State.rtdSettled (s : State) (x : RtdPulse) (outs : List RtdOutput) : List RtdOutput :=
  -- model time of the pulse start
  let start := s.clk - (s.tb - x.start)
  let from_ := 64000 + ((s.hk 1).settlingSince - start)
  if 8 ≤ x.restarts then []
  else outs.filter (fun o => from_ < o.at_ && (o.at_ - from_) % 32000 = 0 && o.at_ ≤ x.pulseMs * msNs)

/-- The settled outputs of a pulse's reading: from DELAY to 0.5 ms before its end (R185). -/
def readingOf (x : RtdPulse) (outs : List RtdOutput) : List RtdOutput :=
  outs.filter (fun o => x.delay * 500000 ≤ o.at_ && o.at_ + 500000 ≤ x.pulseMs * msNs)

/-- Sums of the HK.24 and of the HK.25 readings of a pulse, in µV x 2^39: output, gain and reference multiplied (R400, R414). -/
def sumVolts (x : RtdPulse) (os : List RtdOutput) : Int := ((os.map (·.diff)).foldl (· + ·) 0) * (x.gain * x.vref : Nat)
def sumCommon (x : RtdPulse) (os : List RtdOutput) : Int := ((os.map (·.common)).foldl (· + ·) 0) * (x.gain * x.vref : Nat)

/-- One µV in that unit. -/
def rtdUnit : Int := 549755813888

/-- The cause for which a reading of at least one output is discarded (R187): R / R0 is V / (I R0), V in µV x 2^39, I in 20 nA, R0
in mΩ; both voltages are means over the reading. (DEDUCED, log 73) -/
def rtdJudge (x : RtdPulse) (os : List RtdOutput) (r0 : Nat) : Option RtdCause :=
  let n := os.length
  let full : Int := (r0 * x.current * n : Nat) * rtdUnit
  if os.any (·.compliance) ∨ 1200000 * n * rtdUnit < sumCommon x os then some .open_
  else if sumCommon x os < 300000 * n * rtdUnit then some .ground
  else if 250000 * sumVolts x os < 4 * full then some .short
  else if 145 * full < 5000000 * sumVolts x os then some .open_
  else none

/-- A discarded pulse (R187). (DEDUCED, log 73) -/
def State.rtdBad (s : State) (p : Port) (c : RtdCause) : State :=
  let s1 := s.count (match c with | .unsettled => Ctr.ramanStats_rtdUnsettled | .open_ | .short | .ground => Ctr.ramanStats_rtdBad) p.val 1
  let r := s.raman p
  let s2 := s1.setRaman p (fun x => { x with bads := x.bads + 1, goods := 0 })
  if 2 ≤ r.bads ∧ r.fault = none then
    (s2.setRaman p (fun x => { x with fault := some c, faultAt := s.clk })).event evRtdFault p.val noUnit []
  else s2

/-- A good pulse (R187). (DEDUCED, log 73) -/
def State.rtdGood (s : State) (p : Port) (start : Nat) (t : Int) : State :=
  let r := s.raman p
  let s1 := s.setRaman p (fun x =>
    { x with goods := x.goods + 1, bads := 0, tRtd := t, readings := x.readings ++ [(start, t)] })
  if 2 ≤ r.goods ∧ r.fault.isSome then
    (s1.setRaman p (fun x => { x with fault := none })).event evRtdClear p.val noUnit []
  else s1

/-- A result word of HK.24 or HK.25, of one settled output (R400). The spec gives no FORMAT for the pair: HK.24, which has a sign, is
SIGNED, and HK.25 RIGHT (DESIGN CHOICE, log 198). -/
def rtdWord (x : RtdPulse) (fault : Bool) (format : Nat) (out : Int) (clip : Bool) : Word :=
  resultWord format (x.gain * out) 32768 (4 * bitNat x.settling + 8 * bitNat clip + 16 * bitNat fault)

/-- HK.24 and HK.25 hold the last settled output of a pulse (R398, R400). -/
def State.rtdStore (s : State) (x : RtdPulse) (o : RtdOutput) : State :=
  let fault := (s.hk 1).fault
  let s1 := (s.setHouse (fun h =>
    { h with values := (h.values.set 24 (rtdWord x fault 2 o.diff o.clip24)).set 25 (rtdWord x fault 0 o.common o.clip25),
             formats := (h.formats.set 24 2).set 25 0, vrefs := (h.vrefs.set 24 x.vref).set 25 x.vref })).setHk 1 (fun y =>
      { y with neverSettled := y.neverSettled &&& ~~~0x03000000#32 })
  (s1.countIf Ctr.hkStats_clipped 1 o.clip24).countIf Ctr.hkStats_clipped 1 o.clip25

/-- A pulse that calibration does not hold is read and judged: the mean of its settled outputs (R185 to R187). While HK-B carries
FAULT its outputs are no value to the RTD, and the pulse has no settled reading (R401; DESIGN CHOICE, log 198).
(DEDUCED, log 76) -/
def State.rtdRead (s : State) (p : Port) (x : RtdPulse) (outs : List RtdOutput) : State :=
  let settled := s.rtdSettled x outs
  let s1 := match settled.getLast? with
    | some o => s.rtdStore x o
    | none => s
  let os := readingOf x settled
  if os.isEmpty || (s.hk 1).fault then s1.rtdBad p .unsettled
  else
    let r0 := u32At (s.raman p).lastRecord 0x168
    match rtdJudge x os r0 with
    | some c => s1.rtdBad p c
    | none =>
      s1.rtdGood p x.start (rtdTemp (50000 * sumVolts x os).toNat (x.current * r0 * os.length * rtdUnit.toNat)
        + 10 * s.sfld Fld.calTrim_rtdOffset p.val)

/-- RTD_PULSE_END (R185 to R187): the outputs of its filters in order. -/
def rtdPulseEnd (dt : Nat) (p : Port) (outs : List RtdOutput) (s0 : State) : State :=
  let s := (s0.elapse dt).refHoldsEnd
  match (s.raman p).pulse with
  | none => s
  | some x =>
    if s.tb < x.start + x.pulseMs * msNs then s
    else
      let s1 := s.setRaman p (fun r => { r with pulse := none })
      if x.held || s.house.hk[1].calHold then s1 else s1.rtdRead p x outs

/-! ## Status words (R410) -/

def State.hkStatus (s : State) (i : Fin 2) : List Nat :=
  let x := s.hk i
  [bitNat x.fault + 2 * bitNat x.mismatch + 4 * bitNat x.refSettling + 8 * bitNat x.calHold
      + 16 * bitNat (x.pending || (i = 1 && x.checkDue)),
   x.neverSettled.toNat]

/-- OUT_STATUS of a loop output and of an alarm output. -/
def State.loopStatus (s : State) (n : Fin 8) : List Nat :=
  let l := s.loop n
  let cause := if l.overCurrent then causeOverCurrent else if l.compliance then causeCompliance
    else if l.openC then causeOpen else 0
  let stale := match l.staleSince with
    | some t => min 65535 ((s.clk - t) / secNs)
    | none => 0
  [l.row + 8 * cause + 65536 * stale, l.commandUa + 65536 * (min 65535 l.measuredUa)]

def State.alarmStatus (s : State) (n : Fin 8) : List Nat :=
  let a := s.alarm n
  [64 * bitNat a.active + 128 * bitNat a.conducting + 256 * bitNat a.overload, 0]

end Sys2Proof.Machine
end

