-- ==== Sys2Proof/Machine/TimeBase.lean ====
section
/-! DEFINITION. References, 1 PPS, loads of the time base and site synchronisation (R372 to R383, R389). -/

namespace Sys2Proof.Machine

/-! ## Reference (R373 to R375) -/

/-- Capture memory trains at a start or wake once the reference has qualified, for a CAPMEM_RETRAIN that waits too (R20, R280). -/
def State.trainStart (s : State) : State :=
  s.setMem (fun m => if m.due then { m with training := some (m.training.getD none), due := false } else m)

/-- The reference in use has edges: REF10M reads none while its bank is in no mode (R37, R52, R373). -/
def State.refPresent (s : State) : Bool := s.bankUp .tb || decide (s.fld Fld.timeCfg_refSrc 0 ≠ 0)

/-- The reference has had the 100 ms of continuous edges that qualify it (R373). -/
def State.refTimed (s : State) : Bool := decide (s.time.refSince + 100 * msNs ≤ s.clk)

/-- REF_QUALIFIED: 100 ms of continuous edges within 10 MHz ± 200 ppm, measured against the crystal, while which is at fault the
edges alone count; the synthesisers lock (R373, R474). (DEDUCED, log 150) -/
def refQualified (dt : Nat) (ppm : Int) (s0 : State) : State :=
  let s := s0.elapse dt
  if !s.refPresent || !s.refTimed || (!s.start.xtalFault && decide (200 < ppm.natAbs)) then s else match s.time.refState with
  | .locked => s
  | .free | .acquiring => s.trainStart.setTime (fun t => { t with refState := .locked })
  | .holdover =>
    (s.trainStart.setTime (fun t => { t with refState := .locked, holdoverS := (s.clk - t.holdoverAt) / secNs })).event evRefLocked noUnit
      noUnit []

/-- REF_LOST: no edge for 500 ns; a reference that is still to qualify starts its 100 ms again (R373). (DEDUCED, log 150) -/
def refLost (dt : Nat) (s0 : State) : State :=
  let s := s0.elapse dt
  match s.time.refState with
  | .locked =>
    ((s.setTime (fun t => { t with refState := .holdover, refSince := s.clk, holdoverAt := s.clk, holdoverS := 0 })).event evRefHoldover noUnit
      noUnit []).count Ctr.timeStats_refLosses 0 1
  | .free | .acquiring | .holdover => s.setTime (fun t => { t with refSince := s.clk })

/-- HOLDOVER_S (R375, R389). -/
def State.holdoverSeconds (s : State) : Nat :=
  match s.time.refState with
  | .holdover => (s.clk - s.time.holdoverAt) / secNs
  | .free | .acquiring | .locked => s.time.holdoverS

/-- A change of REF_SRC: the new reference has to qualify (R373). (DEDUCED, log 150) -/
def State.refSrcChanged (s : State) : State :=
  s.setTime (fun t => { t with refState := .acquiring, refSince := s.clk, holdoverS := s.holdoverSeconds })

/-- OCXO_RDY has this level (R374). -/
def State.ocxoLevel (s : State) (level : Bool) : State :=
  if s.time.ocxoReady = level then s
  else
    let s1 := s.setTime (fun t => { t with ocxoReady := level, ocxoSince := s.clk })
    if s.flag Fld.timeCfg_ocxoUse 0 then s1.event evOcxoChange noUnit noUnit [] else s1

/-- OCXO_RDY_CHANGE: the level that has held for 10 ms (R374); its pull-down holds it low while its bank is in no mode (R37,
R52). (DEDUCED, log 149) -/
def ocxoRdyChange (dt : Nat) (level : Bool) (s0 : State) : State :=
  let s := s0.elapse dt
  if s.clk < s.time.ocxoSince + 10 * msNs then s else s.ocxoLevel (level && s.bankUp .tb)

/-! ## Loads (R377) -/

/-- A moment of the old count, in the new one. -/
def moved (old new t : Nat) : Nat := (((t : Int) + new) - old).toNat

/-- What a port's sequencer, receive chain and emitters date by the time base keeps its distance from the present. -/
def SeqSt.moved (m : Nat → Nat) (q : SeqSt) : SeqSt :=
  { q with
    busyUntil := q.busyUntil.map m, windowUntil := m q.windowUntil, lastLaunch := m q.lastLaunch,
    window := q.window.map (fun w => { w with opened := m w.opened, closes := m w.closes }),
    frames := q.frames.map (fun f => { f with start := m f.start, stop := m f.stop, cutAt := f.cutAt.map m }),
    gaps := q.gaps.map (fun g => { g with start := m g.start, stop := m g.stop }) }

def RxSt.moved (m : Nat → Nat) (x : RxSt) : RxSt :=
  { x with switches := x.switches.map (fun w => (m w.1, w.2)), ovld := x.ovld.map (fun o => (o.1, m o.2.1, m o.2.2)), seen := [],
           coefBefore := x.coefBefore.map (fun c => (m c.1, c.2)), checking := x.checking.map m }

def DriveSt.moved (m : Nat → Nat) (d : DriveSt) : DriveSt :=
  { d with nrgDue := d.nrgDue.map (fun x => (m x.1, x.2)),
           emitters := d.emitters.map (fun e => { e with pulse := e.pulse.map (fun x => (m x.1, m x.2)) }) }

/-- The Raman and RTD sides of a port: recording, pulse, readings; the rounds of pulses and the periods before `ns` are over. -/
def RamanSt.moved (m : Nat → Nat) (ns : Nat) (r : RamanSt) : RamanSt :=
  { r with recording := r.recording.map (fun x => { x with pumpAt := m x.pumpAt }),
           pulse := r.pulse.map (fun x => { x with start := m x.start }), lastPulse := if ns = 0 then none else some (ns - 1),
           readings := r.readings.map (fun x => (m x.1, x.2)), lastGood := r.lastGood.map (fun x => (x.1, x.2.1, m x.2.2)), closedAt := ns }

def Block.moved (m : Nat → Nat) (b : Block) : Block :=
  { b with tReady := m b.tReady, tCutoff := m b.tCutoff, deadline := m b.deadline }

def QueueSt.moved (m : Nat → Nat) (q : QueueSt) : QueueSt :=
  { q with blocks := q.blocks.map (Block.moved m), waitUntil := q.waitUntil.map (fun w => (w.1, w.2.1, m w.2.2)) }

/-- Timing of a port follows a load of the time base: what is in flight as ports stop runs out at its own pace, and a Raman period
that the new count does not lie in closes. (DESIGN CHOICE, log 194) -/
def State.portMoved (s : State) (p : Port) (ns : Nat) : State :=
  let m := moved s.tb ns
  (s.leavePeriod p ns).setPort p (fun x =>
    { x with seq := x.seq.moved m, rx := x.rx.moved m, drive := x.drive.moved m, raman := x.raman.moved m ns, queue := x.queue.moved m })

/-- Timing of the whole device follows a load: triggers at multiples of the time base count from the new one, PPS_OUT waits for its
next whole second (R378), a measurement keeps its window. (DESIGN CHOICE, log 194) -/
def State.allMoved (s : State) (ns : Nat) : State :=
  let m := moved s.tb ns
  let mf (t : Nat) : Nat := 256 * m (t / 256) + t % 256
  let second := ns / secNs
  let s1 := forPorts allPorts (fun p t => t.portMoved p ns) s
  let s2 := s1.setHouse (fun h =>
    { h with hk := vmod (h.hk.map (fun x => { x with checkAt := second })) 0 (fun x => { x with tickAt := ns / (10 * msNs) }) })
  let s3 := (s2.setDetect (fun d => { d with periodicAt := second })).setClove (fun c =>
    { c with engines := c.engines.map (fun e => { e with cutoff := m e.cutoff }) })
  let meas (x : TiMeas) : TiMeas :=
    { x with ns := m x.ns, last := x.last.map (fun y => (y.1, mf y.2)), taken := x.taken.map (fun y => (mf y.1, y.2)) }
  s3.setTime (fun t =>
    { t with ppsOutAt := none, ppsOutFrom := (second + 1) * secNs, ti := { t.ti with meas := t.ti.meas.map meas, excess := none } })

/-- The time base takes a value; SET becomes 1 and COARSE clears. -/
def State.loadTime (s : State) (n : Nat) : State :=
  let ns := n % 18446744073709551616
  let s1 := if ns = s.tb then s else s.allMoved ns
  (({ s1 with tb := ns, tbFrac := 0 }).setTime (fun t => { t with set := true, coarse := false })).hkRetick

/-- The interrogator is a site slave. -/
def State.slave (s : State) : Bool := s.fld Fld.siteCfg_role 0 = 2

/-- LOAD_ARM is written 1 with PPS_EN 0: the load happens at the completion of the write. -/
def State.loadNow (s : State) : State :=
  if s.flag Fld.timeCfg_loadArm 0 && !s.flag Fld.timeCfg_ppsEn 0 && !s.slave then
    (s.loadTime (s.fld Fld.timeCfg_loadSec 0 * secNs)).setFld Fld.timeCfg_loadArm 0 0
  else s

/-- An accepted PPS_IN edge loads or aligns the time base where that is set, no port is enabled and this is no site slave.
(DEDUCED, log 155) -/
def State.ppsLoad (s : State) (x : Stamp) : State :=
  if s.anyEnabled || s.slave then s
  else if s.flag Fld.timeCfg_loadArm 0 then
    (s.loadTime (s.fld Fld.timeCfg_loadSec 0 * secNs + x.ago)).setFld Fld.timeCfg_loadArm 0 0
  else if s.flag Fld.timeCfg_ppsAlign 0 then
    let ns := s.stampNs x
    let second := (divNearest (Config.roundUp ns secNs) ns secNs).toNat
    (s.loadTime (second * secNs + x.ago)).setFld Fld.timeCfg_ppsAlign 0 0
  else s

/-! ## 1 PPS (R376, R378) -/

/-- A stamp less the nearest whole second, 1/256 ns. -/
def ppsOffsetOf (t : Nat) : Int :=
  let sec := 256 * secNs
  let r : Int := t % sec
  if 2 * r < sec then r else r - sec

/-- PPS_IN falls 1 s ± 100 µs after the edge before it. (DEDUCED, log 155) -/
def secondApart (before now : Nat) : Bool :=
  256 * (secNs - 100 * usNs) + before ≤ now && now ≤ before + 256 * (secNs + 100 * usNs)

/-- PPS_EDGE (R376, R377): a rising edge and whether PPS_IN stayed high for 100 ns after it. (DEDUCED, log 155) -/
def ppsEdge (dt : Nat) (x : Stamp) (high : Bool) (s0 : State) : State :=
  let s := s0.elapse dt
  if !s.flag Fld.timeCfg_ppsEn 0 || !s.timeRuns || !s.bankUp .tb then s
  else
    let now := fine (s.clk - x.ago) x.frac.toNat
    let near := s.time.ppsFresh || s.time.ppsLast.all (fun x => secondApart x.2 now)
    if !high || !near then s.count Ctr.timeStats_ppsRejected 0 1
    else
      let s1 := s.ppsLoad x
      let stamp := fine (s1.stampNs x) x.frac.toNat
      let off := ppsOffsetOf stamp
      let excess := decide (256 * s.fld Fld.timeCfg_ppsTol 0 < off.natAbs)
      let n := if excess then s.time.ppsOver + 1 else 0
      let drift := if excess then s.time.ppsDrift || decide (3 ≤ n) else false
      let s2 := s1.setTime (fun t =>
        { t with ppsPresent := true, ppsFresh := false, ppsLast := some (stamp, now), ppsOver := n, ppsOffset := off, ppsDrift := drift })
      if drift && !s.time.ppsDrift then s2.event evPpsDrift noUnit noUnit [] else s2

/-- PPS_TIMEOUT: no edge accepted for 1.5 s (R376). -/
def ppsTimeout (dt : Nat) (s0 : State) : State :=
  let s := s0.elapse dt
  let late := match s.time.ppsLast with
    | some (_, t) => decide (t + 384 * secNs ≤ 256 * s.clk)
    | none => true
  if s.time.ppsPresent && late then
    ((s.setTime (fun t => { t with ppsPresent := false })).event evPpsLost noUnit noUnit []).count Ctr.timeStats_ppsMissing 0 1
  else s

/-- PPS_EN is written 1: the next edge is the first (R376). -/
def State.ppsFirst (s : State) : State := s.setTime (fun t => { t with ppsFresh := true, ppsOver := 0 })

/-- PPS_OUT_SECOND (R378): a whole second of the time base, within the 1.000 ms for which PPS_OUT is high after it; after a load,
from the next whole second on. -/
def ppsOutSecond (dt : Nat) (s0 : State) : State :=
  let s := s0.elapse dt
  let past := s.tb % secNs
  if s.flag Fld.timeCfg_ppsOutEn 0 && s.timeRuns && decide (past < msNs) && decide (s.time.ppsOutFrom ≤ s.tb) then
    s.setTime (fun t => { t with ppsOutAt := some (s.clk - past) })
  else s

/-- Level of PPS_OUT (R378). -/
def State.ppsOut (s : State) : Bool :=
  s.flag Fld.timeCfg_ppsOutEn 0 && s.time.ppsOutAt.any (fun t => s.clk < t + msNs)

/-! ## Site synchronisation (R379 to R381) -/

/-- ROLE is written (R380). -/
def State.roleChanged (s : State) : State :=
  let r := s.fld Fld.siteCfg_role 0
  s.setTime (fun t =>
    { t with site := if r = 1 then .master else if r = 2 then .seeking else .none, lastMarker := none, syncGood := 0 })

/-- SYNC_OUT carries the time (R379). -/
def State.syncOut (s : State) : Bool :=
  s.flag Fld.siteCfg_syncOutEn 0
  && (match s.siteNow with
      | .master => (match s.time.refState with
        | .locked | .holdover => true
        | .free | .acquiring => false)
      | .locked | .holdover => true
      | .none | .seeking | .aligning | .fault => false)

/-- The number that data periods spell, least significant first. -/
def periodNat : List SyncPeriod → Nat
  | [] => 0
  | .one :: ps => 1 + 2 * periodNat ps
  | .zero :: ps => 2 * periodNat ps
  | .idle :: ps => 2 * periodNat ps
  | .marker :: ps => 2 * periodNat ps

/-- How a receiver classes a period of SYNC_IN by its falling edge, 1/256 ns after the rising edge; at 40 ns, which two rows of
R379 name, it is a bit 0. (DEDUCED, log 183) -/
def periodClass (fall : Nat) : SyncPeriod :=
  if fall < 256 * 20 then .marker else if fall ≤ 256 * 40 then .zero else if fall ≤ 256 * 60 then .idle else .one

/-- A data period. -/
def isData : SyncPeriod → Bool
  | .zero | .one => true
  | .idle | .marker => false

/-- The second count of the 72 periods after a marker; none where the CRC fails or an idle or a marker stands among them
(R379). -/
def markerCount (ps : List SyncPeriod) : Option Nat :=
  if ps.length = 72 ∧ ps.all isData then
    let n := periodNat (ps.take 64)
    if crc8 (leBytes 8 n) = periodNat (ps.drop 64) then some n else none
  else none

/-- IN_DELAY in 1/25,600 ns, of which a stamp of 1/256 ns is 100. -/
def State.inDelay (s : State) : Int := 256 * s.fld Fld.siteCfg_inDelay 0

/-- One second in 1/25,600 ns. -/
def siteSecond : Int := 25600 * 1000000000

/-- A time in 1/25,600 ns as 1/256 ns, to nearest (DESIGN CHOICE, log 15). -/
def to256 (x : Int) : Int := divNearest (Config.roundUp x.natAbs 100) x 100

/-- The slave loads the time base so that a marker's edge falls at count x 10^9 + IN_DELAY; whole nanoseconds move the
count, the rest is SYNC_OFFSET (R380). (DEDUCED, log 154) -/
def State.siteLoad (s : State) (x : Stamp) (count : Nat) : State :=
  let e : Int := 100 * (fine (s.stampNs x) x.frac.toNat : Nat)
  let target := siteSecond * count + s.inDelay
  let shift := divHalfUp (target - e) 25600
  (s.loadTime ((s.tb : Int) + shift).toNat).setTime (fun t =>
    { t with site := .aligning, syncGood := 0, stepAt := s.clk, syncOffset := to256 (e + 25600 * shift - target) })

/-- Site FAULT (R381). (DEDUCED, log 154) -/
def State.siteFault (s : State) : State :=
  (s.setTime (fun t => { t with site := .fault, syncGood := 0 })).event evSiteFault noUnit noUnit []

def State.siteLock (s : State) : State :=
  (s.setTime (fun t => { t with site := .locked })).event evSiteLocked noUnit noUnit []

/-- A good marker at an aligned slave: its offset and what follows from it (R380, R381). (DEDUCED, log 154) -/
def State.goodMarker (s : State) (site : SiteState) (x : Stamp) (count : Nat) : State :=
  let e : Int := 100 * (fine (s.stampNs x) x.frac.toNat : Nat) - s.inDelay
  let own := divHalfUp e siteSecond.toNat
  let off := to256 (e - siteSecond * own)
  let s1 := s.setTime (fun t => { t with syncOffset := off })
  if own ≠ count ∨ 512 < off.natAbs then s1.siteFault
  else
    match site with
    | .aligning =>
      let n := if off.natAbs ≤ 64 then s.time.syncGood + 1 else 0
      let s2 := s1.setTime (fun t => { t with syncGood := n })
      if 3 ≤ n then s2.siteLock else s2
    | .holdover => s1.siteLock
    | .none | .master | .seeking | .locked | .fault => s1

/-- SYNC_MARKER (R379 to R381): a marker's rising edge, and the falling edges of the 72 periods after it. -/
def syncMarker (dt : Nat) (x : Stamp) (falls : List Nat) (s0 : State) : State :=
  let s := s0.elapse dt
  if !s.slave || !s.timeRuns then s
  else
    match markerCount (falls.map periodClass) with
    | none => s.count Ctr.timeStats_syncCrcErr 0 1
    | some n =>
      let now := fine (s.clk - x.ago) x.frac.toNat
      let site := s.siteNow
      let s1 := s.setTime (fun t => { t with site := site })
      let note (t : State) : State := t.setTime (fun u => { u with lastMarker := some (fine (t.stampNs x) x.frac.toNat, now) })
      match site with
      | .seeking =>
        let second := match s.time.lastMarker with
          | some (_, t) => secondApart t now
          | none => false
        note (if second && !s.anyEnabled then s1.siteLoad x n else s1)
      | .aligning | .locked | .holdover => note (s1.goodMarker site x n)
      | .fault | .none | .master => note s1

/-- SYNC_TIMEOUT: no good marker for 1.5 s while LOCKED (R380). -/
def syncTimeout (dt : Nat) (s0 : State) : State :=
  let s := s0.elapse dt
  let late := match s.time.lastMarker with
    | some (_, t) => decide (t + 384 * secNs ≤ 256 * s.clk)
    | none => true
  match s.time.site with
  | .locked =>
    if late then (s.setTime (fun t => { t with site := .holdover })).count Ctr.timeStats_syncLosses 0 1 else s
  | .none | .master | .seeking | .aligning | .holdover | .fault => s

/-- SYNC_PHASE_STEP: 1/256 ns off SYNC_OFFSET, no sooner than 1 ms after the step before it (R380). -/
def syncPhaseStep (dt : Nat) (s0 : State) : State :=
  let s := s0.elapse dt
  let step : Int := if s.time.syncOffset < 0 then 1 else if 0 < s.time.syncOffset then -1 else 0
  let moved : State :=
    let t := (((s.tb * 256 + s.tbFrac : Nat) : Int) + step).toNat
    ({ s with tb := t / 256 % 18446744073709551616, tbFrac := t % 256 }).setTime (fun u =>
      { u with syncOffset := u.syncOffset + step, stepAt := s.clk })
  match s.time.site with
  | .aligning | .locked => if s.timeRuns && decide (s.time.stepAt + msNs ≤ s.clk) then moved else s
  | .none | .master | .seeking | .holdover | .fault => s

/-! ## Wake (R383) and status words (R389) -/

def refCode : RefState → Nat
  | .free => 0
  | .acquiring => 1
  | .locked => 2
  | .holdover => 3

def siteCode : SiteState → Nat
  | .none => 0
  | .master => 1
  | .seeking => 2
  | .aligning => 3
  | .locked => 4
  | .holdover => 5
  | .fault => 6

/-- A signed 32-bit word of an offset; beyond its range the word is open (DESIGN CHOICE, log 23). -/
def offsetWord (x : Int) : Nat :=
  if -2147483648 ≤ x ∧ x ≤ 2147483647 then toBits 32 x else (Config.offsetOverflow x).toNat

def State.timeStatus (s : State) : List Nat :=
  let t := s.time
  [refCode t.refState + 4 * bitNat t.ocxoReady + 8 * bitNat t.ppsPresent + 16 * bitNat t.ppsDrift
      + 32 * siteCode s.siteNow + 256 * bitNat t.set + 512 * bitNat t.coarse,
   offsetWord t.ppsOffset, offsetWord t.syncOffset, s.holdoverSeconds % 4294967296]

def State.tiStatus (s : State) : List Nat :=
  [tiState s.time.ti, s.time.ti.next.toNat + 65536 * (tiOldest s.time.ti).toNat]

end Sys2Proof.Machine
end

