-- ==== Sys2Proof/Machine/Calib.lean ====
section
/-! DEFINITION. Calibration: runs and steps, acceptance, results and holds, the bath reading, automatic runs (R412 to
R424). -/

namespace Sys2Proof.Machine

/-! ## What a step needs (R412, R421) -/

/-- CAPS of the accepted record (R64). -/
def State.caps (s : State) (p : Port) : Nat := u32At ((s.record p).getD []) 0x1C

/-- A per-block test runs on a memory (R455). -/
def State.testOn (s : State) (memId inst : Nat) : Bool :=
  match s.life.test with
  | .block _ m i _ _ => m = memId && i = inst
  | .none | .shutdown _ => false

/-- A per-block test runs on a block of a port: its cluster SRAM or its Mace ROM (R444, R456). -/
def State.portTested (s : State) (p : Port) : Bool := s.testOn 0x03 p.val || s.testOn 0x09 p.val

/-- A step is possible on a port now; SKEW and CONV need the sample clock (R470). -/
def State.stepPossible (s : State) (st : CalStep) (p : Port) : Bool :=
  let q := (s.port p).seq
  let windows : Bool := match q.mode with
    | .running | .single => true
    | .stopped | .starting | .halted | .shut => false
  let clock : Bool := match s.time.refState with
    | .locked | .holdover => true
    | .free | .acquiring => false
  match st with
  | .ref => !s.testOn 0x0A 0
  | .skew => clock && q.mode = .stopped && !q.draining && (s.caps p).testBit 0 && tiState s.time.ti = 0 && !s.portTested p
  | .conv => clock && (windows || q.mode = .stopped) && !s.portTested p
  | .raman => q.mode = .running && s.ramanM p ≠ 0 && !s.singleMode p && !s.portTested p

/-! ## Holds (R422) -/

/-- The loops whose group has a temperature zone on a port of a mask. -/
def State.loopsOf (s : State) (ports : BitVec 8) : BitVec 8 :=
  portMask (fun n =>
    match s.loopGroup n with
    | some g => (s.groupZones g).any (fun z => s.zoneTemp z && maskHas ports (s.zonePort z))
    | none => false)

/-- A step begins to hold. -/
def State.stepHolds (s : State) (st : CalStep) (ports : BitVec 8) : State :=
  match st with
  | .ref =>
    let s1 := (s.hkHold 0).hkHold 1
    (s1.setRun (fun r => { r with holdA := true, holdB := true, holdPorts := 0xFF, holdLoops := r.holdLoops ||| s.loopsOf 0xFF })).outputsEval
  | .skew | .conv => s.setRun (fun r => { r with holdPorts := r.holdPorts ||| ports })
  | .raman =>
    (s.setRun (fun r => { r with holdPorts := r.holdPorts ||| ports, holdLoops := r.holdLoops ||| s.loopsOf ports })).outputsEval

/-! ## Running through the steps -/

/-- Ports of a mask. -/
def maskPorts (m : BitVec 8) : List Port := allPorts.filter (maskHas m)

/-- Outcome of REF under every named port, counted and reported once (R413, R420). (DEDUCED, log 147) -/
def State.refOutcome (s : State) (ports : BitVec 8) (o : CalOutcome) : State :=
  let s1 := s.setRun (fun r =>
    { r with outcomes := (maskPorts ports).foldl (fun v p => vmod v (outcomeIx .ref p) (fun _ => o)) r.outcomes })
  match o with
  | .aborted => s1.count Ctr.calStats_aborted 0 1
  | .notPossible => s1.count Ctr.calStats_notPossible 0 1
  | .limits => (s1.count Ctr.calStats_limits 0 1).event evCalLimit noUnit noUnit [0]
  | .done | .notRun => s1

/-- Outcome of a step on some ports. -/
def State.stepOutcome (s : State) (st : CalStep) (ports : BitVec 8) (o : CalOutcome) : State :=
  match st with
  | .ref => s.refOutcome ports o
  | .skew | .conv | .raman => (maskPorts ports).foldl (fun t p => t.calOutcome st p o) s

/-- The next step that is possible begins; where none is left the run waits for its end (R412, R413, R421). -/
def State.nextStep : Nat → State → State
  | 0, s => s
  | fuel + 1, s =>
    match s.cal.run with
    | none => s
    | some r =>
      match r.todo with
      | [] => s.setRun (fun x => { x with now := none })
      | (st, ports) :: rest =>
        let s0 := s.setRun (fun x => { x with now := none, todo := rest })
        let able := match st with
          | .ref => if s.testOn 0x0A 0 then 0 else ports
          | .skew | .conv | .raman => portMask (fun p => maskHas ports p && s.stepPossible st p)
        let s1 := s0.stepOutcome st (ports &&& ~~~able) .notPossible
        let runs := match st with
          | .ref => !s.testOn 0x0A 0
          | .skew | .conv | .raman => able ≠ 0
        if !runs then State.nextStep fuel s1
        else
          let s2 := (s1.setRun (fun x =>
            { x with now := some { step := st, ports := able, began := s.clk, windows := Vector.replicate 8 0 } })).stepHolds st able
          match st with
          | .skew => (maskPorts able).foldl (fun t p => t.rise p) s2
          | .raman => (maskPorts able).foldl (fun t p =>
              (t.setCalPort p (fun c => { c with index := t.fld Fld.seqPort_groupIndex p.val })).setRaman p (fun r =>
                { r with calSums := ⟨0, [], [], [], []⟩ })) s2
          | .ref | .conv => s2

/-- The steps of a mask in order: REF once, SKEW port by port, CONV and RAMAN on all ports at once. -/
def stepsOf (ports : BitVec 8) (steps : BitVec 4) : List (CalStep × BitVec 8) :=
  (if steps.getLsbD 0 then [(CalStep.ref, ports)] else [])
    ++ (if steps.getLsbD 1 then (maskPorts ports).map (fun p => (CalStep.skew, 1#8 <<< p.val)) else [])
    ++ (if steps.getLsbD 2 then [(CalStep.conv, ports)] else []) ++ (if steps.getLsbD 3 then [(CalStep.raman, ports)] else [])

/-- A run starts (R412, R418, R424). A temperature-triggered run does not run SKEW on ports that run. -/
def State.runStart (s : State) (ports : BitVec 8) (steps : BitVec 4) (req : Option Req) (auto noSkew startUp : Bool) : State :=
  let idle := portMask (fun p => maskHas ports p && (s.port p).seq.mode = .stopped)
  let skip := if noSkew then ports &&& ~~~idle else 0
  let todo := (stepsOf ports steps).filter (fun x => match x.1 with
    | .skew => x.2 &&& skip = 0
    | .ref | .conv | .raman => true)
  let id := s.cal.nextRun
  let run : CalRun :=
    { id := id, ports := ports, steps := steps, req := req, now := none, todo := todo,
      startUp := startUp, outcomes := Vector.replicate 32 .notRun, results := [], holdA := false, holdB := false, holdLoops := 0,
      holdPorts := 0, began := s.clk }
  let s1 := s.setCal (fun c => { c with nextRun := c.nextRun + 1, run := some run })
  State.nextStep 12 (((s1.event evCalStart noUnit noUnit [id.toNat]).count Ctr.calStats_runs 0 1).countIf
    Ctr.calStats_autoRuns 0 auto)

/-! ## Acceptance (Step rules) -/

/-- Excitation current in 20 nA units from nV over REFRES in mΩ. -/
def currentOf (nv refres : Nat) : Nat := (divNearest (Config.roundUp (50 * nv) refres) (50 * nv : Nat) (max 1 refres)).toNat

/-- REF: its result, where every value is accepted: the internal reference within 10 mV of 2.500 V, excitation currents within
± 2 % and pilots within ± 5 % of nominal, as exact fractions over REFRES. (DEDUCED, log 147) -/
def State.refResult (s : State) (refUv : Int) (gainA gainB : Nat) (ms : List RefMeasure) : Option CalResult :=
  let r := s.fld Fld.calCfg_refresMohm 0
  let within (lo hi x : Nat) : Bool := decide (lo * r ≤ x ∧ x ≤ hi * r)
  let good := -10000 ≤ refUv && refUv ≤ 10000
    && ms.all (fun m => within 24500 25500 (50 * m.lo) && within 49000 51000 (50 * m.hi) && within 950 1050 (100000 * m.pilot))
  let pilot (m : RefMeasure) : Nat := (divHalfUp (100000 * m.pilot : Nat) (max 1 r)).toNat
  if good then some (.ref refUv gainA gainB (ms.map (fun m => (m.port, currentOf m.lo r, currentOf m.hi r, pilot m)))) else none

/-- A residual in 1/256 bin of 10 ns, from a mean time in ps (R412). -/
def residual (x mean : Int) : Int := divHalfUp (256 * (x - mean)) 10000

def slotSkewFld (k : Fin 4) : Fld :=
  match k with
  | 0 => .skew_slotSkewS0
  | 1 => .skew_slotSkewS1
  | 2 => .skew_slotSkewS2
  | 3 => .skew_slotSkewS3

/-- SKEW: D_rx is the mean launch-to-echo time less LOOP_DELAY; PORT_SKEW its part below 0.5 ns; the residuals of slots and
polarisations from the mean. A slot that is not enabled launches no shot and keeps its entry (R412; DESIGN CHOICE, log 200). -/
def State.skewResult (s : State) (p : Port) (echoPs : Nat) (slots pols : List Nat) (connDelay : Nat) : Option CalResult :=
  let d : Int := echoPs - s32At ((s.record p).getD []) 0x170
  let rest := d - 1000 * divHalfUp d 1000
  let portSkew := divHalfUp (256 * rest) 10000
  let slotSkew := ([0, 1, 2, 3] : List (Fin 4)).map (fun k =>
    if (s.slotMask p).testBit k.val then residual (slots.getD k.val 0 : Nat) echoPs else s.sfld (slotSkewFld k) p.val)
  let polSkew := pols.map (fun x => residual (x : Nat) echoPs)
  let good := 0 ≤ d && (portSkew :: (slotSkew ++ polSkew)).all (fun x => x.natAbs ≤ 512)
  if good then some (.skew p d.toNat portSkew slotSkew polSkew connDelay) else none

/-- CONV: offsets within ± 256 codes, magnitudes within 0.75 to 1.25 of the starting value. -/
def convResult (m : ConvMeasure) : Option CalResult :=
  if m.offsets.all (fun x => x.natAbs ≤ 256) && m.magnitudes.all (fun x => 750 ≤ x && x ≤ 1250) then
    some (.conv m.port m.offsets ((m.magnitudes.zip (m.phases.flatMap (fun x => [0, x]))).map (fun x => ((x.1 : Int), x.2)))
      m.amplitudes)
  else none

/-- CONN_DELAY for a RAMAN step: the run's own SKEW result, or the port's. -/
def State.connDelayFor (s : State) (p : Port) : Nat :=
  let own := match s.cal.run with
    | some r => r.results.findSome? (fun x : CalResult => match x with
      | .skew q _ _ _ _ d => if q = p then some d else none
      | .ref .. | .conv .. | .raman .. => none)
    | none => none
  own.getD (s.calPort p).connDelay

/-- Mean coil temperature in 0.001 °C over the step: sum and number of its readings, or the latest reading. -/
def State.stepCoil (s : State) (p : Port) : Int × Nat :=
  let since := match s.cal.run with
    | some r => (match r.now with | some n => s.tb - (s.clk - n.began) | none => s.tb)
    | none => s.tb
  let xs := (s.raman p).readings.filter (fun x => since ≤ x.1)
  if xs = [] then ((s.raman p).tRtd, 1) else ((xs.map (·.2)).foldl (· + ·) 0, xs.length)

/-- Twice the distance of a span's centre from the coil's, trace bins. -/
def twiceFromCoil (c : RamanCoef) (first last : Nat) : Int := 2 * c.fibre0 + first + last - c.coilFirst - c.coilLast

/-- Sums of the bins `k` to `k + n - 1` whose index is odd. -/
def oddSum (xs : List Int) (k : Int) (n : Nat) : Int :=
  ((List.range n).map (fun (j : Nat) => if (k + (j : Int)) % 2 = 1 then binSum xs (k + (j : Int)) 1 else 0)).foldl (· + ·) 0

/-- RAMAN_PAIR_GAIN in 1/32,768: the odd-bin sum of the normal windows, where integrator B takes the odd bins, over that of the
swapped ones; none where either is not above 0 or the ratio lies outside 0x6000 to 0xA000 (R174, R412; DESIGN CHOICE, log 195). -/
def pairGain (normal swapped : Int) : Option Nat :=
  if 0 < normal ∧ 0 < swapped ∧ 0x6000 * swapped ≤ 32768 * normal ∧ 32768 * normal ≤ 0xA000 * swapped then
    some (divNearest (Config.roundUp (32768 * normal).toNat swapped.toNat) (32768 * normal) swapped.toNat).toNat
  else none

/-- The alpha of R180, in 0.001 dB/km, at which a section's summed sums read a temperature at its centre (R416): Stokes and
anti-Stokes sums of the section and of the reference region. -/
def State.bathAlpha (s : State) (p : Port) (bathS bathA refS refA : Nat) (c : RamanCoef) (bath : Int) : Int :=
  let coil := s.stepCoil p
  let gamma := fxFrac (4799243 * u16At (s.raman p).lastRecord 0x166 : Nat) 100000000
  let tRef := fxFrac (100 * coil.1 + 27315000 * coil.2) (100000 * coil.2)
  let tBath := fxFrac (bath + 273150) 1000
  let ln := fxLn (bathA * refS) (max 1 (bathS * refA))
  let att := fxMul gamma (fxDiv fxOne tRef - fxDiv fxOne tBath) - ln
  -- alpha x dz = value x 0.0002302585 x dz2 / 2 x 1.4989623e-3 / n_g
  let dz := twiceFromCoil c (s.fld Fld.calPort_bathFirst p.val) (s.fld Fld.calPort_bathLast p.val)
  let perUnit := fxFrac (2302585 * dz * 14989623) (200000000000000 * max 1 (s.calPort p).index)
  if perUnit ≤ 0 then 0 else divHalfUp att perUnit.toNat

/-- Trace bins by which the positions that a step has measured lie later in the traces it was measured from, which run on the
D_ram before it (DESIGN CHOICE, log 195). -/
def State.binShift (s : State) (p : Port) (c : RamanCoef) : Int := divHalfUp ((c.dRam : Int) - (s.ramanCoef p).dRam) 10

/-- ATTEN_TRIM by a bath reading that is pending: none where a sum is not above 0. -/
def State.bathTrim (s : State) (p : Port) (c : RamanCoef) (attenCoil bath : Int) : Option Int :=
  let x := (s.raman p).calSums
  let stk := addBins x.stk x.swapStk
  let ast := addBins x.ast x.swapAst
  let shift := s.binShift p c
  let lo : Int := c.coilFirst + 8 + shift
  let len := (c.coilLast - 8 - (c.coilFirst + 8) + 1).toNat
  let first := c.fibre0 + s.fld Fld.calPort_bathFirst p.val + shift
  let n := s.fld Fld.calPort_bathLast p.val + 1 - s.fld Fld.calPort_bathFirst p.val
  let sums := [binSum stk first n, binSum ast first n, binSum stk lo len, binSum ast lo len]
  match sums with
  | [a, b, d, e] =>
    if sums.all (fun y => 0 < y) then some (s.bathAlpha p a.toNat b.toNat d.toNat e.toNat c bath - attenCoil) else none
  | _ => none

/-- The length of the coil by its crossings lies within ± 5 % of COIL_LEN. (DEDUCED, log 69) -/
def State.coilFits (s : State) (p : Port) (m : RamanMeasure) : Bool :=
  let len : Int := u32At (s.raman p).lastRecord 0x15C * 100 * (s.calPort p).index
  let got : Int := ((m.tTrail : Int) - m.tLead) * 14989623
  20 * (got - len).natAbs ≤ len.natAbs

/-- RAMAN: its result, where every value is accepted: the pair gains from the two accumulations of the step, the positions from the
crossings (R412, R415, R416, R172). (DEDUCED, log 69) -/
def State.ramanResult (s : State) (m : RamanMeasure) : Option CalResult :=
  let p := m.port
  let x := (s.raman p).calSums
  let tConn := (divHalfUp (m.tTrail + 200 * s.connDelayFor p : Nat) 1000).toNat
  let dRam := 30 + tConn % 10
  let fibre0 : Int := ((tConn : Int) - dRam) / 10
  let ps : Int := 1000 * dRam
  let first := (-((ps - (m.tLead : Int)) / 10000)).toNat
  let last := ((m.tTrail : Int) - ps) / 10000 - 1
  let trim0 := s.sfld Fld.calTrim_attenTrim p.val
  let c0 : RamanCoef := ⟨dRam, first, last, fibre0, 0⟩
  let lo : Int := first + 8 + s.binShift p c0
  let len := (last - 8 - (first + 8) + 1).toNat
  let bath := (s.calPort p).bath
  let trim := bath.bind (fun b => s.bathTrim p c0 m.attenCoil b)
  let use := m.attenCoil + trim.getD trim0
  let inRange (lo hi x : Int) : Bool := lo ≤ x && x ≤ hi
  let good := s.coilFits p m
    && ramanOk (s.singleMode p) fibre0 (s.fld Fld.seqPort_fibreLen p.val) (s.ramanM p) (s.frame p) (s.fld Fld.ramanCfg_accTime p.val)
    && inRange (-100) 500 m.attenCoil && inRange (-100) 500 use && trim.all (fun t => t.natAbs ≤ 200) && bath.isSome == trim.isSome
  match pairGain (oddSum x.stk lo len) (oddSum x.swapStk lo len), pairGain (oddSum x.ast lo len) (oddSum x.swapAst lo len) with
  | some gs, some ga => if good then some (.raman p { c0 with atten := use } gs ga m.attenCoil trim) else none
  | some _, none | none, some _ | none, none => none

/-! ## CAL_STEP_END (R413) -/

/-- A port's part of the step ends. -/
def State.portStepEnds (s : State) (st : CalStep) (p : Port) (r : Option CalResult) : State :=
  match r with
  | some x => (s.setRun (fun y => { y with results := y.results ++ [x] })).calOutcome st p .done
  | none => s.calOutcome st p .limits

/-- Ramp time of a port's slowest emitter, ns (R85). -/
def State.longestRamp (s : State) (p : Port) : Nat := (allEmitters.map (fun e => s.fld (rampTimeFld e) p.val * 10 * msNs)).foldl max 0

/-- The step has run as long as R412 says it takes: SKEW its shots after the rising ramps, CONV 16 windows of each port, or 40 ms
where it is stopped, RAMAN its RAMAN_TIME and 0.2 s; REF ends when it has measured. (DEDUCED, log 146) -/
def State.stepLasted (s : State) (n : CalNow) : Bool :=
  let lasted := s.clk - n.began
  match n.step with
  | .ref => true
  | .skew => (maskPorts n.ports).all (fun p => decide (200 * msNs + s.longestRamp p ≤ lasted))
  | .conv => (maskPorts n.ports).all (fun p =>
      if portLaunches (s.port p).seq then decide (16 ≤ n.windows[p]) else decide (40 * msNs ≤ lasted))
  | .raman => decide (s.fld Fld.calCfg_ramanTime 0 * secNs + 200 * msNs ≤ lasted)

/-- What a step has measured is whole: every quantity of R412 for every port it serves. -/
def measureWhole (n : CalNow) (m : CalMeasure) : Bool :=
  match n.step, m with
  | .ref, .noRefin => true
  | .ref, .ref _ _ _ ms => ms.length = 8 && allPorts.all (fun p => ms.any (fun x => x.port = p))
  | .skew, .skew _ slots pols _ => slots.length = 4 && pols.length = 2
  | .conv, .conv ms => (maskPorts n.ports).all (fun p => ms.any (fun x =>
      x.port = p && x.offsets.length = 8 && x.magnitudes.length = 8 && x.phases.length = 4 && x.amplitudes.length = 8))
  | .raman, .raman ms => (maskPorts n.ports).all (fun p => ms.any (fun x => x.port = p))
  | .ref, .skew .. | .ref, .conv .. | .ref, .raman .. | .skew, .noRefin | .skew, .ref .. | .skew, .conv .. | .skew, .raman ..
  | .conv, .noRefin | .conv, .ref .. | .conv, .skew .. | .conv, .raman .. | .raman, .noRefin | .raman, .ref .. | .raman, .skew ..
  | .raman, .conv .. => false

/-- REF's holds end; where REFIN is absent the step was not possible, and what it held of profiles and loops is free again too
(R422; DESIGN CHOICE, log 197). -/
def State.refFree (s : State) (measured : Bool) : State :=
  let s1 := s.setRun (fun x =>
    { x with holdA := false, holdB := false, holdPorts := if measured then x.holdPorts else 0,
             holdLoops := if measured then x.holdLoops else 0 })
  ((s1.hkRelease 0).hkRelease 1).outputsEval

/-- The port of a SKEW step stops, and what was written for it meanwhile takes effect (R85, R363). -/
def State.skewStops (s : State) (p : Port) : State := ((s.setSeq p (fun q => { q with mode := .stopped })).fall p).applyPending p s.tb

/-- The step that runs ends with what it measured; the next one begins. (DEDUCED, log 146) -/
def calStepEnd (dt : Nat) (m : CalMeasure) (s0 : State) : State :=
  let s := (s0.elapse dt).refHoldsEnd
  match s.cal.run with
  | none => s
  | some r =>
    match r.now with
    | none => s
    | some n =>
      let go (t : State) : State := State.nextStep 12 t
      if n.ports = 0 ∧ n.step ≠ .ref then go s
      else if !s.stepLasted n || !measureWhole n m then s
      else match m with
      | .noRefin => go ((s.refOutcome r.ports .notPossible).refFree false)
      | .ref uv ga gb ms =>
        match s.refResult uv ga gb ms with
        | some x => go (((s.refFree true).setRun (fun y => { y with results := y.results ++ [x] })).refOutcome r.ports .done)
        | none => go ((s.refFree true).refOutcome r.ports .limits)
      | .skew echo slots pols conn =>
        go ((maskPorts n.ports).foldl (fun t p =>
          (t.portStepEnds .skew p (s.skewResult p echo slots pols conn)).skewStops p) s)
      | .conv ms =>
        go ((maskPorts n.ports).foldl (fun t p =>
          t.portStepEnds .conv p ((ms.find? (fun x => x.port = p)).bind convResult)) s)
      | .raman ms =>
        go ((maskPorts n.ports).foldl (fun t p =>
          t.portStepEnds .raman p ((ms.find? (fun x => x.port = p)).bind s.ramanResult)) s)

/-! ## The end of a run (R414, R418, R419) -/

/-- Values of X and Y of the four ranges, as two lists of four. -/
def evens (xs : List Nat) : Vector Nat 4 := #v[xs.getD 0 0, xs.getD 2 0, xs.getD 4 0, xs.getD 6 0]
def odds (xs : List Nat) : Vector Nat 4 := #v[xs.getD 1 0, xs.getD 3 0, xs.getD 5 0, xs.getD 7 0]

/-- One result takes effect, or begins to wait for its point of effect. -/
def State.applyResult (s : State) (x : CalResult) : State :=
  match x with
  | .ref uv ga gb ports =>
    ports.foldl (fun t y => t.setCalPort y.1 (fun c => { c with iLo := y.2.1, iHi := y.2.2.1, pilot := y.2.2.2 }))
      (s.setCal (fun c => { c with refUv := uv, gainA := ga, gainB := gb }))
  | .skew p d portSkew slots pols conn =>
    let w (t : State) (f : Fld) (v : Int) : State := t.setFld f p.val (toBits 16 v)
    let s1 := s.setCalPort p (fun c => { c with dRxNext := some d, connDelay := conn })
    let s2 := w (w (w s1 Fld.skew_portSkew portSkew) Fld.skew_polSkewX (pols.getD 0 0)) Fld.skew_polSkewY (pols.getD 1 0)
    w (w (w (w s2 Fld.skew_slotSkewS0 (slots.getD 0 0)) Fld.skew_slotSkewS1 (slots.getD 1 0)) Fld.skew_slotSkewS2
      (slots.getD 2 0)) Fld.skew_slotSkewS3 (slots.getD 3 0)
  | .conv p trims corr amps =>
    let s1 := s.setRx p (fun y => { y with corrNext := some (trims, corr), refX := evens amps, refY := odds amps })
    (if portEnabled (s.port p).seq then s1 else s1.applyPending p s.tb).pairClear p
  | .raman p c gs ga coil trim =>
    let old := s.ramanCoef p
    let s1 := s.setRaman p (fun r =>
      { r with coef := some { c with dRam := old.dRam }, nextWindow := some (s.periodOf p s.tb, c.dRam, gs, ga) })
    let s2 := s1.setCalPort p (fun y => { y with attenCoil := coil })
    match trim with
    | some t => s2.setFld Fld.calTrim_attenTrim p.val (toBits 16 t)
    | none => s2

/-- Die temperature from HK.27, 0.1 °C (R391): 25.0 °C + (0.7000 V - V) / 2.000 mV, with the reference that its entry used (R399).
(DEDUCED, log 157) -/
def State.dieReading (s : State) : Option Int :=
  match s.hkReading 27 with
  | some v =>
    let vref : Int := s.house.vrefs[27]
    some (250 + divHalfUp (700000 * 65536 - v * vref) (200 * 65536))
  | none => none

/-- Case temperature in use of a port in 0.1 °C, where it is neither held nor stale nor out of range (R82, R419). -/
def State.caseNow (s : State) (p : Port) : Option Int :=
  match (s.port p).drive.caseTemp, s.caseReading p with
  | some t, some _ => if s.caseStale p || (s.port p).drive.rangeSince.isSome then none else some (divHalfUp t.num t.den)
  | some _, none | none, some _ | none, none => none

/-- The 36 bytes that CAL_RUN returns: RUN_ID and OUTCOME (R420). -/
def runReport (r : CalRun) : List Byte :=
  leBytes 4 r.id.toNat ++ r.outcomes.toList.flatMap (fun o => leBytes 1 (outcomeCode o))

/-- Quotient to nearest, ties up: a time in whole ms (R477). (DEDUCED, log 93) -/
def divRound (a b : Nat) : Nat := (2 * a + b) / (2 * max 1 b)

/-- A run is over: holds end, references are taken, EV_CAL_DONE goes out. -/
def State.runOver (s : State) (r : CalRun) : State :=
  let s1 := s.setCal (fun c =>
    { c with run := none, dieRef := if r.steps.getLsbD 0 then (match s.dieReading with | some t => some t | none => c.dieRef) else c.dieRef })
  let s2 := (maskPorts r.ports).foldl (fun t p =>
    t.setCalPort p (fun c => { c with lastRun := some s.clk,
                                      caseRef := match s.caseNow p with | some x => some x | none => c.caseRef })) s1
  let s3 := if r.holdA || r.holdB then (s2.hkRelease 0).hkRelease 1 else s2
  let s4 := if r.startUp then s3.setStart (fun x => { x with calMs := divRound (s.clk - x.readyAt.getD s.clk) msNs }) else s3
  (s4.event evCalDone noUnit noUnit [r.id.toNat]).outputsEval

/-- CAL_RUN_END (R414). (DEDUCED, log 146) -/
def calRunEnd (dt : Nat) (s0 : State) : State :=
  let s := s0.elapse dt
  match s.cal.run with
  | none => s
  | some r =>
    if r.now.isSome || r.todo ≠ [] then s
    else
      let s1 := (r.results.foldl (fun t x => t.applyResult x) s).runOver r
      match r.req with
      | some rq => s1.completeWith rq .ok noFlags [] (runReport r)
      | none => s1

/-- The step in progress ends ABORTED on its ports, and a SKEW step's emitters fall (R421). (DEDUCED, log 146) -/
def State.stepAbort (s : State) : State :=
  match s.cal.run with
  | none => s
  | some r =>
    match r.now with
    | none => s
    | some n =>
      let s1 := match n.step with
        | .ref => s.refOutcome r.ports .aborted
        | .skew => (maskPorts n.ports).foldl (fun t p =>
            (t.calOutcome .skew p .aborted).skewStops p) s
        | .conv | .raman => s.stepOutcome n.step n.ports .aborted
      s1.setRun (fun x => { x with now := none, todo := [] })

/-- A POWER_STATE entry from ACTIVE: the step ends, no other begins, and the run comes to its end (R421).
(DEDUCED, log 146) -/
def State.calLeaveActive (s : State) : State := s.stepAbort

/-- The timeout of CAL_RUN: nothing of the run is applied (R356, R420). (DEDUCED, log 146) -/
def State.calTimeout (s : State) : State :=
  match s.stepAbort.cal.run with
  | some r => s.stepAbort.runOver r
  | none => s

/-! ## The commands of calibration -/

/-- The window interval of a port, ns: of its Raman windows, of the seconds, or 2.5 ms for a stopped port, which takes
16 in 40 ms (R412, R420). (DEDUCED, log 68) -/
def State.windowInterval (s : State) (p : Port) : Nat :=
  if !portLaunches (s.port p).seq then 2500000
  else if s.singleMode p ∨ s.ramanM p = 0 then secNs
  else s.ramanM p * s.frame p * 10

/-- The estimate of R420, ns. (DEDUCED, log 68) -/
def State.calEstimate (s : State) (ports : BitVec 8) (steps : BitVec 4) : Nat :=
  (if steps.getLsbD 0 then 700 * msNs else 0)
    + (if steps.getLsbD 1 then ((maskPorts ports).map (fun p => 200 * msNs + 2 * s.longestRamp p)).foldl (· + ·) 0 else 0)
    + (if steps.getLsbD 2 then 16 * ((maskPorts ports).map s.windowInterval).foldl max 0 else 0)
    + (if steps.getLsbD 3 then s.fld Fld.calCfg_ramanTime 0 * secNs + 200 * msNs else 0)

/-- CAL_RUN: a status to complete with at once, or a run that starts. -/
def State.calRunCmd (s : State) (rq : Req) (ports steps : Nat) : State :=
  let t := if rq.timeout = 0 then 10000 else rq.timeout.toNat
  let pm := BitVec.ofNat 8 ports
  let sm := BitVec.ofNat 4 steps
  if s.cal.run.isSome then s.complete rq .busy
  else if !s.inActive then s.complete rq .badState
  else if ports = 0 ∨ 256 ≤ ports ∨ steps = 0 ∨ 16 ≤ steps then s.complete rq .badParam
  else if (maskPorts pm).any (fun p => (s.record p).isNone) then s.complete rq .noResource
  else if t * msNs < s.calEstimate pm sm then s.complete rq .badParam
  else s.runStart pm sm (some rq) false false false

/-- CAL_SET_REFRES. (DEDUCED, log 128) -/
def State.setRefres (s : State) (v : Nat) : Status × State :=
  if s.cal.run.isSome then (.busy, s)
  else if v < 95000 ∨ 105000 < v then (.badParam, s)
  else (.ok, s.setFld Fld.calCfg_refresMohm 0 v)

/-- CAL_SET_BATH (R415). -/
def State.setBath (s : State) (port : Nat) (t : Int) : Status × State :=
  if h : port < 8 then
    let p : Port := ⟨port, h⟩
    let first := s.fld Fld.calPort_bathFirst port
    let last := s.fld Fld.calPort_bathLast port
    let far := (twiceFromCoil (s.ramanCoef p) first last).natAbs * 14989623
    match s.record p with
    | none => (.noResource, s)
    | some r =>
      if t < -40000 ∨ 85000 < t then (.badParam, s)
      else if last < first + 15 ∨ s.fld Fld.seqPort_fibreLen port ≤ last then (.badParam, s)
      else if far < 10000 * s.fld Fld.seqPort_groupIndex port then (.badParam, s)
      else if s.calOn .raman p then (.busy, s)
      else
        (.ok, (s.setCalPort p (fun c => { c with bath := some t, coefSerial := bytesAt r 8 16 })).setHead p
          (fun h => { h with headChanged := false }))
  else (.badParam, s)

/-- ATTEN_TRIM is written: HEAD_CHANGED clears and COEF_SERIAL is the accepted serial; DIFF_ATTEN_USE follows (R417).
(DEDUCED, log 148) -/
def State.attenWritten (s : State) (p : Port) : State :=
  let s1 := match s.record p with
    | some r => (s.setCalPort p (fun c => { c with coefSerial := bytesAt r 8 16 })).setHead p (fun h => { h with headChanged := false })
    | none => s
  s1.setRaman p (fun r =>
    { r with coef := r.coef.map (fun c => { c with atten := (s.calPort p).attenCoil + s.sfld Fld.calTrim_attenTrim p.val }) })

/-- The temperature trigger of one port after a check (R419). -/
def triggerPort (now : Nat) (die case_ : Bool) (c : CalPortSt) : CalPortSt :=
  { c with dieOver := if die then c.dieOver + 1 else 0, caseOver := if case_ then c.caseOver + 1 else 0,
           lastRun := if c.lastRun.any (fun t => t + 60 * secNs ≤ now) then none else c.lastRun }

/-- A port's counts of consecutive checks start again: it is not enabled, or AUTO_EN is 0 (R419). -/
def State.checksBegin (s : State) (ps : List Port) : State :=
  forPorts ps (fun p t => t.setCalPort p (fun c => { c with dieOver := 0, caseOver := 0 })) s

/-- The RAMAN run of a port's first start begins as soon as no run is in progress, one port at a time (R418). (DEDUCED, log 146) -/
def State.firstRuns (s : State) : State :=
  match s.cal.run, maskPorts s.cal.waitFirst with
  | none, p :: _ =>
    (s.setCal (fun c => { c with waitFirst := c.waitFirst &&& ~~~(1#8 <<< p.val) })).runStart (1#8 <<< p.val) 8 none true false false
  | none, [] | some _, _ => s

/-- CAL_AUTO_CHECK: once per second (R419). Before any run the first reading is the reference. (DEDUCED, log 146) -/
def calAutoCheck (dt : Nat) (s0 : State) : State :=
  let s := s0.elapse dt
  if s.power.mode ≠ .active || s.cal.lastCheck.any (fun t => decide (s.clk < t + secNs)) then s
  else if !s.flag Fld.calCfg_autoEn 0 then s.checksBegin allPorts
  else
    let delta := s.fld Fld.calCfg_delta 0
    let die := s.dieReading
    let s1 := (s.setCal (fun c => { c with dieRef := match c.dieRef with | some r => some r | none => die, lastCheck := some s.clk })).checksBegin
      (allPorts.filter (fun p => !portEnabled (s.port p).seq))
    let dieOver := match die, s1.cal.dieRef with
      | some t, some r => decide (delta < (t - r).natAbs)
      | some _, none | none, some _ | none, none => false
    let s2 := (allPorts.filter (fun p => portEnabled (s.port p).seq)).foldl (fun t p =>
      let case_ := t.caseNow p
      let excess := match case_, (t.calPort p).caseRef with
        | some x, some r => decide (delta < (x - r).natAbs)
        | some _, none | none, some _ | none, none => false
      t.setCalPort p (fun c =>
        triggerPort t.clk dieOver excess { c with caseRef := match c.caseRef with | some r => some r | none => case_ })) s1
    let hot := portMask (fun p =>
      let c := s2.calPort p
      portEnabled (s2.port p).seq && (3 ≤ c.dieOver || 3 ≤ c.caseOver) && c.lastRun.isNone)
    let steps := BitVec.ofNat 4 (s2.fld Fld.calCfg_autoSteps 0)
    if s2.cal.run.isNone ∧ hot ≠ 0 ∧ steps ≠ 0 then s2.runStart hot steps none true true false else s2

/-! ## CAL_STATUS (R423) -/

def State.calStatusPort (s : State) (p : Port) : List Nat :=
  let c := s.calPort p
  let running := ([.ref, .skew, .conv, .raman] : List CalStep).map (fun st => if s.calOn st p then 2 ^ (stepIx st).val else 0)
  [running.foldl (· + ·) 0 + 16 * bitNat c.bath.isSome + 32 * bitNat (s.calHolds p), s.dRxNs p % 65536 + 65536 * (c.connDelay % 65536),
   toBits 16 c.attenCoil + 65536 * toBits 16 (c.caseRef.getD 0), c.iLo % 65536 + 65536 * (c.iHi % 65536)]

def State.calStatusChip (s : State) : List Nat :=
  let running := match s.cal.run with
    | some r => (match r.now with | some n => 2 ^ (stepIx n.step).val | none => 0)
    | none => 0
  [running, toBits 16 (s.cal.dieRef.getD 0), toBits 16 s.cal.refUv, 0]

end Sys2Proof.Machine
end

