-- ==== Sys2Proof/Machine/Sumac.lean ====
section
/-! DEFINITION. The Sumac codec: parts, blocks, prediction, Rice groups, the encoder's choices, decoding, jobs (R298 to
R313). -/

namespace Sys2Proof.Machine

/-! ## Samples and bits -/

/-- Little-endian 16-bit words of some bytes; an odd last byte stands alone. -/
def samplesOf : List Byte → List Nat
  | [] => []
  | [a] => [a.toNat]
  | a :: b :: rest => (a.toNat + 256 * b.toNat) :: samplesOf rest

/-- Bytes of samples. -/
def sampleBytes (xs : List Nat) : List Byte := xs.flatMap (leBytes 2)

/-- Bits of bytes, most significant first (R303). -/
def bitsOf (bs : List Byte) : List Bool := bs.flatMap (fun b => (List.range 8).map (fun i => b.getLsbD (7 - i)))

/-- `n` bits of a number, most significant first. -/
def numBits (n v : Nat) : List Bool := (List.range n).map (fun i => v.testBit (n - 1 - i))

/-- The number that bits spell, most significant first. -/
def bitsNat (bs : List Bool) : Nat := bs.foldl (fun v b => 2 * v + bitNat b) 0

/-- Bits as `n` bytes, zero-padded. -/
def packBits : Nat → List Bool → List Byte
  | 0, _ => []
  | n + 1, bs => BitVec.ofNat 8 (bitsNat ((bs.take 8) ++ List.replicate (8 - (bs.take 8).length) false)) :: packBits n (bs.drop 8)

/-- Split a list into pieces of `k`, `n` pieces at most. -/
def pieces {α : Type} (k : Nat) : Nat → List α → List (List α)
  | 0, _ => []
  | n + 1, xs => if xs.isEmpty then [] else xs.take k :: pieces k n (xs.drop k)

/-! ## Prediction (R301, R302) -/

/-- p[i] of sample i of a block, given the object's samples before it, newest first. -/
def predict (pred ref i : Nat) (rev : List Nat) : Nat :=
  let x1 := if 1 ≤ i then rev.getD 0 0 else 0
  let x2 := if 2 ≤ i then rev.getD 1 0 else 0
  match pred with
  | 0 => 0
  | 1 => x1
  | 2 => (2 * x1 + 65536 - x2) % 65536
  | _ => if ref ≤ rev.length ∧ ref ≠ 0 then rev.getD (ref - 1) 0 else 0

/-- Residual modulo 2^16 to its mapped value (R302). -/
def mapResidual (e : Nat) : Nat := if e < 32768 then 2 * e else 2 * (65536 - e) - 1

/-- Mapped value to its residual modulo 2^16. (DEDUCED, log 88) -/
def unmapResidual (u : Nat) : Nat := if u % 2 = 0 then u / 2 % 65536 else (65536 - (u + 1) / 2 % 65536) % 65536

/-- Mapped residuals of a block, from sample i on. -/
def residuals (pred ref : Nat) : Nat → List Nat → List Nat → List Nat
  | _, _, [] => []
  | i, rev, x :: xs =>
    mapResidual ((x + 65536 - predict pred ref i rev) % 65536) :: residuals pred ref (i + 1) (x :: rev) xs

/-- Samples of a block from its mapped residuals, put before the samples so far. -/
def rebuild (pred ref : Nat) : Nat → List Nat → List Nat → List Nat
  | _, rev, [] => rev
  | i, rev, u :: us => rebuild pred ref (i + 1) ((unmapResidual u + predict pred ref i rev) % 65536 :: rev) us

/-! ## Encoding (R303, R304) -/

/-- Bits of a sample under Rice parameter k. -/
def sampleCost (k u : Nat) : Nat := if u >>> k < 16 then (u >>> k) + 1 + k else 32

/-- The best K field of a group and its bits: 15 for a group of zeros, else the parameter of fewest bits, the lower on
ties. -/
def groupChoice (us : List Nat) : Nat × Nat :=
  if us.all (· == 0) then (15, 4)
  else
    (List.range 15).foldl (fun best k =>
      let c := 4 + (us.map (sampleCost k)).foldl (· + ·) 0
      if c < best.2 then (k, c) else best) (0, 4 + (us.map (sampleCost 0)).foldl (· + ·) 0)

/-- The bits of a group. -/
def groupBits (us : List Nat) : List Bool :=
  let k := (groupChoice us).1
  numBits 4 k ++ (if k = 15 then [] else us.flatMap (fun u =>
    let q := u >>> k
    if q < 16 then List.replicate q true ++ (false :: numBits k (u % 2 ^ k)) else List.replicate 16 true ++ numBits 16 u))

def groupsOf (us : List Nat) : List (List Nat) := pieces 16 16 us

/-- WORDS of a coded block (R300, R304). -/
def blockWords (c : Nat) (us : List Nat) : Nat :=
  max (ceilDiv (((groupsOf us).map (fun g => (groupChoice g).2)).foldl (· + ·) 0) 32) (max (ceilDiv c 32 - 1) 1)

/-- Header of a block (R299). -/
def blockHead (pred : Nat) (stored : Bool) (xs : List Nat) (words : Nat) : List Byte :=
  leBytes 4 (pred + 4 * bitNat stored + 16 * (xs.length - 1) + 4096 * (words - 1)
    + 1048576 * (xs.foldl (· + ·) 0 % 4096))

/-- A block of an object: its bytes, and whether it is stored. -/
def encodeBlock (ref : Nat) (rev xs : List Nat) : List Byte × Bool :=
  let c := xs.length
  let cands := (if ref = 0 then [0, 1, 2] else [0, 1, 2, 3]).map (fun p =>
    let us := residuals p ref 0 rev xs
    (p, us, blockWords c us))
  let best := cands.foldl (fun b x => if x.2.2 < b.2.2 then x else b) (cands.headD (0, [], 0))
  let stored := ceilDiv (2 * c) 4
  if stored ≤ best.2.2 then (blockHead 0 true xs stored ++ pad4 (sampleBytes xs), true)
  else (blockHead best.1 false xs best.2.2 ++ packBits (4 * best.2.2) ((groupsOf best.2.1).flatMap groupBits), false)

/-- The blocks of an object from a sample on. -/
def encodeBlocks (ref : Nat) : List (List Nat) → List Nat → List (List Byte × Bool × Nat)
  | [], _ => []
  | xs :: rest, rev =>
    let b := encodeBlock ref rev xs
    (b.1, b.2, 2 * xs.length) :: encodeBlocks ref rest (xs.reverse ++ rev)

/-- Job header (R298). -/
def jobHead (flags plain off ref : Nat) : List Byte :=
  leBytes 2 1 ++ leBytes 1 flags ++ zeros 1 ++ leBytes 4 plain ++ leBytes 4 off ++ leBytes 2 ref ++ zeros 2

/-- The output of a STREAM job on some data, and its stored blocks (R271, R308). -/
def encodeStream (ref : Nat) (data : List Byte) : List Byte × Nat :=
  let xs := samplesOf data
  let bs := encodeBlocks ref (pieces 256 (xs.length + 1) xs) []
  (jobHead 1 data.length 0 ref ++ bs.flatMap (·.1), (bs.filter (·.2.1)).length)

/-! ## Decoding (R305, R309) -/

/-- The first `n` bits as a number. -/
def readBits (n : Nat) (bs : List Bool) : Option (Nat × List Bool) :=
  if bs.length < n then none else some (bitsNat (bs.take n), bs.drop n)

/-- Count ones up to a limit; the zero that ends a shorter run is taken. (DEDUCED, log 88) -/
def readUnary : Nat → List Bool → Option (Nat × List Bool)
  | 0, bs => some (0, bs)
  | n + 1, b :: bs => if b then (readUnary n bs).map (fun x => (x.1 + 1, x.2)) else some (0, bs)
  | _ + 1, [] => none

/-- `n` mapped values under Rice parameter k. -/
def readValues (k : Nat) : Nat → List Bool → Option (List Nat × List Bool)
  | 0, bs => some ([], bs)
  | n + 1, bs =>
    match readUnary 16 bs with
    | none => none
    | some (q, r1) =>
      match if q < 16 then (readBits k r1).map (fun x => (q * 2 ^ k + x.1, x.2)) else readBits 16 r1 with
      | none => none
      | some (u, r2) => (readValues k n r2).map (fun x => (u :: x.1, x.2))

/-- The groups of a block of `c` samples. -/
def readGroups : Nat → Nat → List Bool → Option (List Nat × List Bool)
  | 0, _, bs => some ([], bs)
  | fuel + 1, c, bs =>
    if c = 0 then some ([], bs)
    else
      let n := min 16 c
      match readBits 4 bs with
      | none => none
      | some (k, r1) =>
        match if k = 15 then some (List.replicate n 0, r1) else readValues k n r1 with
        | none => none
        | some (us, r2) => (readGroups fuel (c - n) r2).map (fun x => (us ++ x.1, x.2))

/-- A block that must hold `c` samples, from the samples so far, newest first: the samples after it and the bytes it
took; none where it is malformed. (DEDUCED, log 88) -/
def decodeBlock (ref c : Nat) (bs : List Byte) (rev : List Nat) : Option (List Nat × Nat) :=
  if bs.length < 4 then none
  else
    let h := u32At bs 0
    let pred := h % 4
    let stored := h.testBit 2
    let words := h / 4096 % 256 + 1
    let payload := (bs.drop 4).take (4 * words)
    if h.testBit 3 ∨ h / 16 % 256 + 1 ≠ c ∨ words + 1 < max 2 (ceilDiv c 32) ∨ payload.length < 4 * words then none
    else if stored ∧ pred ≠ 0 ∨ pred = 3 ∧ ref = 0 then none
    else
      let out : Option (List Nat) :=
        if stored then
          if 4 * words < 2 * c ∨ (payload.drop (2 * c)).any (fun b => b ≠ 0) then none
          else some ((samplesOf (payload.take (2 * c))).reverse ++ rev)
        else
          match readGroups 16 c (bitsOf payload) with
          | some (us, rest) => if rest.any id then none else some (rebuild pred ref 0 rev us)
          | none => none
      match out with
      | some r => if (r.take c).foldl (· + ·) 0 % 4096 = h / 1048576 then some (r, 4 + 4 * words) else none
      | none => none

/-- What a decompression has done so far: its status, the samples decoded, newest first, and the coded bytes consumed. -/
structure Decoded where
  status : Status
  rev : List Nat
  pos : Nat
deriving DecidableEq, Repr

def Decoded.bytes (d : Decoded) : List Byte := sampleBytes d.rev.reverse

/-- The blocks of a part with `left` samples to come; the bytes that follow them. -/
def decodeBlocks (ref : Nat) : Nat → Nat → List Byte → Decoded → Decoded × List Byte
  | 0, _, bs, d => (d, bs)
  | fuel + 1, left, bs, d =>
    if left = 0 then (d, bs)
    else
      let c := min 256 left
      match decodeBlock ref c bs d.rev with
      | none => ({ d with status := .badData }, bs)
      | some (rev, n) => decodeBlocks ref fuel (left - c) (bs.drop n) ⟨.ok, rev, d.pos + n⟩

/-- The parts of an object. A part that fits its limit never passes it within, so the limit is checked per part (R309).
(DEDUCED, log 88) -/
def decodeParts (limit : Nat) : Nat → Bool → List Byte → Decoded → Decoded
  | 0, _, _, d => { d with status := .badData }
  | fuel + 1, first, bs, d =>
    let flags := u8At bs 2
    let plain := u32At bs 4
    let off := u32At bs 8
    if bs.length < 16 ∨ u16At bs 0 ≠ 1 ∨ 8 ≤ flags ∨ u8At bs 3 ≠ 0 ∨ u16At bs 14 ≠ 0 ∨ plain % 2 = 1 ∨ plain = 0
        ∨ off % 512 ≠ 0 ∨ off ≠ 2 * d.rev.length ∨ (flags.testBit 1) = first then { d with status := .badData }
    else if limit < off + plain then { d with status := .expansionLimit }
    else
      let x := decodeBlocks (u16At bs 12) (plain / 512 + 1) (plain / 2) (bs.drop 16) { d with pos := d.pos + 16 }
      match x.1.status with
      | .ok => if flags.testBit 2 then decodeParts limit fuel false x.2 x.1 else x.1
      | _ => x.1

/-- Decompress an object with an output limit. -/
def decompress (limit : Nat) (bs : List Byte) : Decoded := decodeParts limit (bs.length / 16 + 1) true bs ⟨.ok, [], 0⟩

/-! ## Device addresses (R342) -/

def stagingBase : Nat := 0x10700000
def captureBase : Nat := 0x1000000000

/-- Bytes of the staging window that are mapped under firmware. -/
def stagingMapped : Nat := 0x100000

/-- First byte of capture memory above every ring and share, from its start (R281). -/
def State.captureUsed (s : State) : Nat :=
  let rings := (allPorts.map (fun p => (allRings.map (s.ringMib p)).foldl (· + ·) 0)).foldl (· + ·) 0
  let shares := (s.enabledStreams.map (fun i => s.fld Fld.stream_share i)).foldl (· + ·) 0
  (64 + rings + shares) * 1048576

/-- A range that SUMAC_JOB may name. (DEDUCED, log 90) -/
def State.jobRange (s : State) (addr n : Nat) : Bool :=
  (stagingBase ≤ addr && addr + n ≤ stagingBase + stagingMapped)
    || (s.capture.mem.trained && captureBase + s.captureUsed ≤ addr && addr + n ≤ captureBase + s.capture.mem.gib * 1073741824)

def State.devRead (s : State) (addr n : Nat) : List Byte :=
  if captureBase ≤ addr then memReadAll blankByte s.capture.mem.content (addr - captureBase) n
  else memReadAll blankByte s.mbox.staging (addr - stagingBase) n

def State.devWrite (s : State) (addr : Nat) (bs : List Byte) : State :=
  if captureBase ≤ addr then
    s.setCapture (fun c => { c with mem := { c.mem with content := memWriteAll blankByte c.mem.content (addr - captureBase) bs } })
  else s.setMbox (fun m => { m with staging := memWriteAll blankByte m.staging (addr - stagingBase) bs })

/-- Staged bytes from an offset of the staging window. -/
def State.staged (s : State) (off n : Nat) : List Byte := memReadAll blankByte s.mbox.staging off n

/-- The next `n` free bytes. -/
def freeBytes : Nat → Nat → List Byte
  | 0, _ => []
  | n + 1, i => Config.freeValue 8 i :: freeBytes n (i + 1)

/-! ## Jobs (R306 to R312) -/

/-- The output links of a descriptor: address and length. -/
def jobLinks (d : List Byte) : List (Nat × Nat) :=
  (List.range (u8At d 0x18)).map (fun i => (u64At d (0x20 + 12 * i), u32At d (0x28 + 12 * i)))

def chainBytes (d : List Byte) : Nat := ((jobLinks d).map (·.2)).foldl (· + ·) 0

/-- Write bytes across a chain. -/
def State.chainWrite (s : State) (links : List (Nat × Nat)) (bs : List Byte) : State :=
  (links.foldl (fun (x : State × List Byte) l => (x.1.devWrite l.1 (x.2.take l.2), x.2.drop l.2)) (s, bs)).1

/-- The first `n` bytes of a chain take free values: an output that a rule leaves unspecified (R307, R356).
(DEDUCED, log 91) -/
def State.chainOpen (s : State) (links : List (Nat × Nat)) (n : Nat) : State :=
  { s.chainWrite links (freeBytes n s.free) with free := s.free + n }

/-- A descriptor is within its ranges (R306, R309, R342). (DEDUCED, log 86) -/
def State.jobOk (s : State) (d : List Byte) : Bool :=
  let op := u8At d 0
  let flags := u8At d 1
  let n := u32At d 4
  let start := u32At d 0x10
  let limit := u32At d 0x14
  let links := u8At d 0x18
  (op = 1 || op = 2) && flags ≤ (if op = 1 then 1 else 0) && n % 2 = 0 && (op = 2 || (n ≠ 0 && n ≤ 65536 && limit = 0))
    && (if flags = 1 then start % 512 = 0 && start < n else start = 0) && 1 ≤ links && links ≤ 16
    && (bytesAt d 0x19 7).all (· == 0) && (bytesAt d (0x20 + 12 * links) (12 * (16 - links))).all (· == 0)
    && (jobLinks d).all (fun l => l.2 ≠ 0 && s.jobRange l.1 l.2) && s.jobRange (u64At d 8) n
    && (op = 1 || limit ≤ chainBytes d)

def State.setSumac (s : State) (f : SumacSt → SumacSt) : State := { s with sumac := f s.sumac }

/-- The lanes of the encoder (R311). -/
def laneCount : Nat := 8

/-- The streams of the STREAM jobs that run: the first ones, each on a lane that no COMPRESS_BLOCK job holds (R311, R312). -/
def SumacSt.laneStreams (x : SumacSt) : List Nat :=
  ((x.streamJobs.filter (fun j => codedType j.2.1.typ)).take (laneCount - x.laneBlocks.length)).map (·.1)

/-- COMPRESS_BLOCK jobs that wait take, in order, the lanes that no STREAM job needs (R312). -/
def SumacSt.fillLanes (x : SumacSt) : SumacSt :=
  let streams := (x.streamJobs.filter (fun j => codedType j.2.1.typ)).length
  let waiting := (x.blockJobs.map (fun j => j.1.tag)).filter (fun t => !x.laneBlocks.contains t)
  { x with laneBlocks := x.laneBlocks ++ waiting.take (laneCount - (x.laneBlocks.length + streams)) }

/-- A COMPRESS_BLOCK job leaves the codec and its lane; it counts, whatever its status (R312, R313). -/
def State.blockLeaves (s : State) (tag : BitVec 6) : State :=
  (s.setSumac (fun x => SumacSt.fillLanes
    { x with blockJobs := x.blockJobs.filter (fun j => j.1.tag ≠ tag), laneBlocks := x.laneBlocks.filter (fun t => t ≠ tag) })).count
    Ctr.codecStats_blockJobs 0 1

/-- SUMAC_JOB: a status to complete with, or a job that waits; it takes its input as it is accepted.
(DEDUCED, log 86; DEDUCED, log 87) -/
def State.sumacJob (s : State) (rq : Req) (d : List Byte) : State :=
  if d.length ≠ 224 ∨ !s.jobOk d then s.complete rq .badParam
  else
    let input := s.devRead (u64At d 8) (u32At d 4)
    let s := if captureBase ≤ u64At d 8 || (jobLinks d).any (fun l => captureBase ≤ l.1) then s.memAccess else s
    if u8At d 0 = 1 then s.setSumac (fun x => SumacSt.fillLanes { x with blockJobs := x.blockJobs ++ [(rq, d, input)] })
    else s.setSumac (fun x => { x with decJobs := x.decJobs ++ [⟨rq, .job d, input⟩] })

/-- Blocks that fit in `room` bytes, in order. -/
def takeBlocks : Nat → List (List Byte × Bool × Nat) → List (List Byte × Bool × Nat)
  | _, [] => []
  | room, b :: rest => if b.1.length ≤ room then b :: takeBlocks (room - b.1.length) rest else []

/-- COMPRESS_BLOCK_DONE (R307, R311, R312): the job of a tag, which runs on a lane, ends. (DEDUCED, log 91) -/
def compressBlockDone (dt : Nat) (tag : BitVec 6) (s0 : State) : State :=
  let s := s0.elapse dt
  match s.sumac.blockJobs.find? (fun j => j.1.tag = tag && s.sumac.laneBlocks.contains tag) with
  | none => s
  | some (rq, d, input) =>
    let s1 := s.blockLeaves tag
    let start := u32At d 0x10
    let ref := u16At d 2
    let xs := samplesOf input
    let rest := xs.drop (start / 2)
    let blocks := encodeBlocks ref (pieces 256 (rest.length + 1) rest) (xs.take (start / 2)).reverse
    let fit := takeBlocks (chainBytes d - 16) blocks
    let coded := fit.flatMap (·.1)
    let plain := (fit.map (·.2.2)).foldl (· + ·) 0
    let whole := decide (fit.length = blocks.length)
    let flags := 2 * u8At d 1 + (if whole then 0 else 4)
    let out := jobHead flags plain start ref ++ coded
    let answer (pos n : Nat) : List Byte := leBytes 4 pos ++ leBytes 4 n
    if chainBytes d < 16 ∨ fit = [] then
      (s1.count Ctr.codecStats_chainExhausted 0 1).completeResult rq .chainExhausted (answer start 0)
    else
      let s2 := s1.count Ctr.codecStats_storedBlocks 0 (fit.filter (·.2.1)).length
      if !whole then
        ((s2.count Ctr.codecStats_chainExhausted 0 1).chainWrite (jobLinks d) out).completeResult rq .chainExhausted
          (answer (start + plain) out.length)
      else if plain ≤ out.length then
        ((s2.count Ctr.codecStats_notSmaller 0 1).chainOpen (jobLinks d) out.length).completeResult rq .notSmaller
          (answer (start + plain) out.length)
      else (s2.chainWrite (jobLinks d) out).completeResult rq .ok (answer (start + plain) out.length)

/-- A decompression's status is counted (R313). -/
def State.decCount (s : State) (st : Status) : State :=
  (s.countIf Ctr.codecStats_expansionLimit 0 (st = .expansionLimit)).countIf Ctr.codecStats_badData 0 (st = .badData)

/-- A DECOMPRESS job of the host ends (R309). (DEDUCED, log 89) -/
def State.decJobDone (s : State) (rq : Req) (d coded : List Byte) : State :=
  let x := decompress (u32At d 0x14) coded
  let out := x.bytes
  ((s.decCount x.status).chainWrite (jobLinks d) out).completeResult rq x.status (leBytes 4 x.pos ++ leBytes 4 out.length)

/-- STREAM_JOB_DONE (R308, R311, R312): the first job of a stream, where it runs on a lane, ends, and the marks that waited behind it follow (R274). -/
def streamJobDone (dt i : Nat) (s0 : State) : State :=
  let s := s0.elapse dt
  match s.sumac.streamJobs.find? (fun j => j.1 = i && s.sumac.laneStreams.contains i) with
  | none => s
  | some (_, r, ref, n, gone) =>
    let out := encodeStream ref (r.payload.drop n)
    let s1 := ((s.dropJob i).count Ctr.codecStats_streamJobs 0 1).count Ctr.codecStats_storedBlocks 0 out.2
    let s2 := if gone then s1 else s1.pushData i r.typ r.flags (r.payload.take n ++ out.1)
    (State.marksPass i s2.sumac.streamJobs.length s2).setSumac SumacSt.fillLanes

/-- The timeout of SUMAC_JOB: the job ends and its output is unspecified (R356). (DEDUCED, log 91) -/
def State.sumacTimeout (s : State) (tag : BitVec 6) : State :=
  match s.sumac.blockJobs.find? (fun j => j.1.tag = tag), s.sumac.decJobs.find? (fun j => j.req.tag = tag) with
  | some (_, d, _), _ => (s.chainOpen (jobLinks d) (chainBytes d)).blockLeaves tag
  | none, some j =>
    let s1 := match j.use with
      | .job d => s.chainOpen (jobLinks d) (chainBytes d)
      | .zonePack | .baselines | .mask _ => s
    s1.setSumac (fun x => { x with decJobs := x.decJobs.filter (fun y => y.req.tag ≠ tag) })
  | none, none => s

end Sys2Proof.Machine
end

