-- ==== Sys2Proof/Machine/Checks.lean ====
section
/-! DEFINITION. The checks of enables and writes, each a question about a state: the one in effect, or the one a write
would leave (R118, R125, R154, R172, R203, R237, R264, R281, R282, R285, R292, R495). -/

namespace Sys2Proof.Machine

/-! ## The grid of a port (R114, R118, R125) -/

/-- PW_MAX of an emitter of the accepted head, ns (R65). -/
def State.pwMax (s : State) (p : Port) (e : Emitter) : Option Nat :=
  (s.record p).map (fun r => u16At r (emitterBlock e + 0x0E))

/-- R125 on the enabled slots of a port. -/
def State.slotsOk (s : State) (p : Port) : Bool :=
  let fs := (maskSlots (s.slotMask p)).map (fun k => s.fld (ifFld k) p.val)
  let w := s.fld Fld.seqPort_pulseWidth p.val
  -- 1 / tau in kHz is 1,000,000 / w
  let apart (a b : Nat) : Bool :=
    let d := max a b - min a b
    decide (1000000 ≤ d * w ∧ 50000 ≤ d)
  let rec pairs : List Nat → Bool
    | [] => true
    | a :: rest => rest.all (apart a) && pairs rest
  fs.all (fun f => 25000 ≤ f && f ≤ 475000) && pairs fs

/-- The grid checks of a port, its own or its group's grid (R118). (DEDUCED, log 85) -/
def State.gridOk (s : State) (p : Port) : Bool :=
  let f := s.frame p
  let n := max 1 (slotCount (s.slotMask p))
  let span := ditherSpan (s.ditherBits p)
  let own := match s.groupOf p with
    | some g => s.members g
    | none => [p]
  let longest := (own.map (fun q => s.fld Fld.seqPort_fibreLen q.val)).foldl max 0
  let width (e : Emitter) (w : Nat) : Bool := match s.pwMax p e with
    | some m => w ≤ m
    | none => true
  f ≤ 102400 && own.all (fun q => s.ownFrame q ≤ f) && span + longest + 16 ≤ f && 100 + span ≤ f / n + 1
    && 300 ≤ s.windowMin p && width .gate (s.fld Fld.seqPort_pulseWidth p.val)
    && width .pump (s.fld Fld.seqPort_pumpWidth p.val) && s.slotsOk p

/-- The checks of R172 on a port's recording. -/
def State.recordingOk (s : State) (p : Port) : Bool :=
  ramanOk (s.singleMode p) (s.ramanCoef p).fibre0 (s.fld Fld.seqPort_fibreLen p.val) (s.ramanM p) (s.frame p)
    (s.fld Fld.ramanCfg_accTime p.val)

/-- The output-rate check of R154; the field ranges make the other two. -/
def State.gaugesOk (s : State) (p : Port) : Bool := slotCount (s.slotMask p) ≤ 2 * s.fld Fld.gaugeCfg_pitch p.val

/-- The settings of a group with SITE = 1 that enabling its first member needs (R123). -/
def State.siteGridOk (s : State) (p : Port) : Bool :=
  match s.groupOf p with
  | some g =>
    !s.flag Fld.lockstep_site g.val
      || (s.fld Fld.lockstep_frame g.val ≠ 0 && s.fld Fld.lockstep_startTime g.val ≠ 0 && s.fld Fld.lockstep_startTime g.val % 10 = 0)
  | none => true

/-- Bytes of a block of a port: header and both planes (R204). -/
def State.blockBytes (s : State) (p : Port) : Nat := 64 + 3 * s.blockGauges p * s.blockSamples p

/-- The cluster SRAM budget of a port (R202, R203, R178). -/
def State.sramOk (s : State) (p : Port) : Bool :=
  let j := s.columns p
  let n := s.blockSamples p
  let rows := j * (n / 2 + 4) + s.fld Fld.clovePort_readyBlocks p.val * n
  let stateBytes := match Tab.find? s.clove.programs (s.fld Fld.clovePort_program p.val) with
    | some x => x.stateBytes
    | none => 0
  rows * s.blockGauges p * 3 + 20 * s.recLen p + 262144 ≤ 4194304 && j * stateBytes ≤ 262144

/-! ## Zones (R236, R237) -/

/-- The port gauges of each zone gauge of a zone. -/
def State.zonePortGauges (s : State) (z : ZoneId) : List Nat :=
  let x := s.zoneGeom z
  (s.zoneGauges z).flatMap (fun g => (List.range x.k).map (fun i => g + i * x.g / max 1 x.p))

/-- The enabled vibration zones of a port. -/
def State.vibZones (s : State) (p : Port) : List ZoneId := (s.zonesOf p).filter (fun z => !s.zoneTemp z)

def countIn (x : Nat) (ls : List (List Nat)) : Nat := (ls.filter (fun l => l.contains x)).length

/-- Bytes that BAND_LONG needs in a column's state (R244). -/
def State.columnNeed (s : State) (p : Port) (j : Nat) : Nat :=
  ((s.vibZones p).map (fun z =>
    let n := s.bandN (s.fld Fld.zone_bandSet z.val)
    2 * (n - s.blockSamples p) * ((s.zoneGauges z).filter (fun g => g / s.blockGauges p = j)).length)).foldl (· + ·) 0

/-- Zone samples per second of a zone, as a fraction (R249). -/
def State.zoneRate (s : State) (z : ZoneId) : Nat × Nat :=
  let p := s.zonePort z
  if s.zoneTemp z then (1, max 1 (s.fld Fld.ramanCfg_accTime p.val))
  else if s.singleMode p then (10000, 201)
  else
    let r := s.effRate p
    (r.1, max 1 (r.2 * s.blockSamples p))

/-- The zone evaluator can take every enabled zone (R249). -/
def State.evaluatorOk (s : State) : Bool :=
  let total := (s.enabledZones.map s.zoneRate).foldl (fun a x => (a.1 * x.2 + x.1 * a.2, a.2 * x.2)) (0, 1)
  total.1 ≤ 4000000 * total.2

/-- The checks of R237 on an enabled zone, in their order; none where it passes. (DEDUCED, log 84) -/
def State.zoneFails (s : State) (z : ZoneId) : Option Status :=
  let p := s.zonePort z
  let first := s.fld Fld.zone_firstBin z.val
  let last := s.fld Fld.zone_lastBin z.val
  let b := s.fld Fld.zone_bandSet z.val
  let template := decide (s.fld Fld.zone_detector z.val = 3)
  let program := s.fld Fld.clovePort_program p.val
  if last < first ∨ s.fld Fld.seqPort_fibreLen p.val ≤ last then some .badParam
  else if !s.zoneTemp z && (!(s.zoneGeom z).valid || (s.zoneGauges z).isEmpty) then some .badParam
  else if !s.bandsOk p b || 2 ^ s.fld Fld.bandSet_bands b ≤ s.fld Fld.zone_statBands z.val
      || (program = 0 && s.blockSamples p < s.bandN b) then some .badParam
  else if template && s.cfgNum templateBlock (s.fld Fld.zone_template z.val) = 0 then some .badParam
  else if s.zoneTemp z then (if template then some .badParam else if s.evaluatorOk then none else some .noResource)
  else
    let zones := s.vibZones p
    let mine := s.zonePortGauges z
    if mine.any (fun g => 4 < countIn g (zones.map s.zonePortGauges)) then some .noResource
    else if (s.zoneColumns z).any (fun j => 128 < countIn j (zones.map s.zoneColumns)) then some .noResource
    else if program = 1 ∧ (s.zoneColumns z).any (fun j => 8128 < s.columnNeed p j) then some .noResource
    else if s.evaluatorOk then none
    else some .noResource

/-- Rules that every zone entry keeps, enabled or not (R236, R247). -/
def State.zoneEntryOk (s : State) (z : ZoneId) : Bool :=
  !(s.zoneTemp z && s.fld Fld.zone_detector z.val = 3) && s.sfld Fld.zone_off z.val ≤ s.sfld Fld.zone_on z.val && s.fld Fld.zone_persistK z.val ≤ s.fld Fld.zone_persistW z.val

/-- The first enabled zone of a port that fails, and its status. -/
def State.portZoneFails (s : State) (p : Port) : Option (Status × Nat) :=
  (s.zonesOf p).findSome? (fun z => (s.zoneFails z).map (fun st => (st, z.val)))

/-! ## Streams, rings, snapshots, masks (R264, R281, R282, R285, R292) -/

/-- Input of the codec from a stream, bits per second, as a fraction (R25, R27). -/
def State.codecRate (s : State) (i : Nat) : Nat × Nat :=
  let p : Port := ⟨s.streamSource i % 8, by omega⟩
  let r := s.effRate p
  let c := s.streamClass i
  if !s.flag Fld.stream_codec i then (0, 1)
  else if c = clsRaw then (32000000000, 1)
  else if c = clsPhase then (s.gauges p * 24 * r.1, max 1 r.2)
  else if c = clsBand then
    (s.gauges p * 16 * s.fld Fld.bandSet_bands (s.fld Fld.stream_bandSet i) * r.1, max 1 (r.2 * s.blockSamples p))
  else (0, 1)

/-- The codec streams fit 64 Gb/s (R27). -/
def State.codecOk (s : State) : Bool :=
  let total := (s.enabledStreams.map s.codecRate).foldl (fun a x => (a.1 * x.2 + x.1 * a.2, a.2 * x.2)) (0, 1)
  total.1 ≤ 64000000000 * total.2

/-- Rings and shares fit capture memory (R281). (DEDUCED, log 130) -/
def State.layoutOk (s : State) : Bool := s.captureUsed ≤ s.capture.mem.gib * 1073741824

/-- A band set serves a BAND stream or ring of a port (R264). -/
def State.bandServes (s : State) (p : Port) (b : Nat) : Bool := s.bandsOk p b && s.bandN b ≤ s.blockSamples p

/-- What SOURCE may hold for a class (R262). -/
def sourceOk (cls src : Nat) : Bool :=
  if cls ≤ 4 then src < 8 else if cls = clsSummary then src < 64 else src = 0

/-- The checks of R264 on a stream that is enabled; none where it passes. -/
def State.streamFails (s : State) (i : Nat) : Option Status :=
  let c := s.streamClass i
  let src := s.streamSource i
  let p : Port := ⟨src % 8, by omega⟩
  if c = 0 ∨ !sourceOk c src then some .badParam
  else if c ≠ clsSnapshot ∧ (s.streamsOf c src).any (fun j => j ≠ i) then some .badParam
  else if c = clsBand ∧ !s.bandServes p (s.fld Fld.stream_bandSet i) then some .badParam
  else if s.flag Fld.stream_codec i ∧ !s.codecOk then some .noResource
  else if s.fld Fld.stream_share i ≠ 0 ∧ !(s.capture.mem.trained && s.layoutOk) then some .noResource
  else none

/-- Ring write rates together keep to 45 % of the bandwidth in effect (R281). -/
def State.ringRateOk (s : State) : Bool :=
  let limit := if s.capture.mem.rate = 2 then 23040 else if s.capture.mem.rate = 1 then 19800 else 17280
  let rings := allPorts.flatMap (fun p => (allRings.filter (fun k => s.ringMib p k ≠ 0)).map (fun k => (p, k)))
  let total := rings.foldl (fun (a : Nat × Nat) x =>
    let n := s.ringSpanBytes x.1 x.2 * 1000000
    let d := max 1 (s.ringSpanPs x.1 x.2)
    (a.1 * d + n * a.2, a.2 * d)) (0, 1)
  -- bytes per µs against MB/s
  total.1 ≤ limit * total.2

/-- A write enables a ring of a port, or enlarges one; `old` is the state before it. -/
def State.ringGrows (s old : State) (p : Port) : Bool :=
  allRings.any (fun k => decide (old.ringMib p k < s.ringMib p k))
    || (decide (s.ringMib p .band ≠ 0) && decide (old.fld Fld.ring_bandSet p.val ≠ s.fld Fld.ring_bandSet p.val))

/-- The checks on the rings of a port after a write (R280 to R282); none where they pass. (DEDUCED, log 130) -/
def State.ringFails (s old : State) (p : Port) : Option Status :=
  let sizes := allRings.map (s.ringMib p)
  if sizes.any (fun n => 1 ≤ n && n ≤ 7) then some .badParam
  else if s.ringMib p .band ≠ 0 ∧ !s.bandServes p (s.fld Fld.ring_bandSet p.val) then some .badParam
  else if 4 < (allPorts.filter (fun q => s.ringMib q .raw ≠ 0)).length then some .noResource
  else if s.ringGrows old p ∧ !(s.capture.mem.trained && s.layoutOk && s.ringRateOk) then some .noResource
  else none

/-- The condition for setting SNAP or SNAP_SPEC of a group (R285). -/
def State.snapReadyOk (s : State) (g : GroupId) : Bool :=
  let ms := s.fld Fld.snapCfg_preMs g.val + s.fld Fld.snapCfg_postMs g.val + 100
  s.fld Fld.snapCfg_content g.val ≠ 0
    && (s.snapRings g).all (fun x =>
      s.ringMib x.1 x.2 ≠ 0 && s.ringBytesIn x.1 x.2 ms + 2 * segBytes ≤ s.ringMib x.1 x.2 * segBytes)

/-- Bins that a mask tests. -/
def State.maskBins (s : State) (p : Port) : Nat := s.fld Fld.mask_lastBin p.val + 1 - s.fld Fld.mask_firstBin p.val

/-- Mask memory of a port, bytes. -/
def State.maskBytes (s : State) (p : Port) : Nat := 6 * (s.maskBins p + 2 ^ s.fld Fld.mask_smooth p.val) + 4 * s.maskBins p

/-- The checks of R292 on a mask that is enabled; none where it passes. -/
def State.maskFails (s : State) (p : Port) : Option Status :=
  if s.singleMode p ∨ s.fld Fld.mask_lastBin p.val < s.fld Fld.mask_firstBin p.val
      ∨ s.fld Fld.seqPort_fibreLen p.val ≤ s.fld Fld.mask_lastBin p.val
      ∨ (s.capture.masks[p]).envelope.length ≠ s.maskBins p then some .badParam
  else if 6291456 < ((allPorts.filter (fun q => s.flag Fld.mask_en q.val)).map s.maskBytes).foldl (· + ·) 0 then some .noResource
  else none

/-! ## Enabling a port (R495) -/

/-- A memory of a port cannot be repaired: its cluster SRAM or its Mace ROM (R444). -/
def State.unrepairable (s : State) (memId inst : Nat) : Bool := s.life.unrepaired.contains (memId, inst)

/-- Check 11: the site conditions on the first member of a group with SITE = 1 (R381). -/
def State.siteOk (s : State) (p : Port) : Bool :=
  match s.groupOf p with
  | some g =>
    !s.flag Fld.lockstep_site g.val || (s.members g).any (fun q => portEnabled (s.port q).seq)
      || (s.fld Fld.siteCfg_role 0 ≠ 0 && (!s.slave || s.siteNow = .locked))
  | none => true

/-- The checks of R495 in order: the status of the first that fails and the zone it names; none where the port may
start. (DEDUCED, log 85; DEDUCED, log 92) -/
def State.enableFails (s : State) (p : Port) : Option (Status × Nat) :=
  let q := (s.port p).seq
  let first := match s.groupOf p with
    | some g => !(s.members g).any (fun x => portEnabled (s.port x).seq)
    | none => true
  let fails (c : Bool) (st : Status) : Option (Status × Nat) := if c then some (st, 0) else none
  if portEnabled q && !s.calOn .skew p then none
  else
    (fails (!s.inActive) .badState)
    |>.or (fails (s.calOn .skew p) .busy)
    |>.or (fails (s.portTested p) .busySelftest)
    |>.or (fails s.start.dieHot .noResource)
    |>.or (fails (!s.bankOk p) .noResource)
    |>.or (fails (s.record p).isNone .noResource)
    |>.or (fails (s.unrepairable 0x03 p.val || s.unrepairable 0x09 p.val) .noResource)
    |>.or (fails (s.standing p || q.mode = .shut) .faultPresent)
    |>.or (fails (s.time.refState ≠ .locked || (s.flag Fld.timeCfg_ocxoUse 0 && !s.time.ocxoReady)) .noResource)
    |>.or (fails (s.flag Fld.timeCfg_loadArm 0) .busy)
    |>.or (fails (!s.siteOk p) .noResource)
    |>.or (fails (!s.gridOk p || (first && !s.siteGridOk p)) .badParam)
    |>.or (fails (!s.gaugesOk p) .badParam)
    |>.or (fails (!s.recordingOk p) .badParam)
    |>.or (fails (Tab.find? s.clove.programs (s.fld Fld.clovePort_program p.val)).isNone .badParam)
    |>.or (fails (!s.sramOk p) .noResource)
    |>.or (s.portZoneFails p)

/-- A port is started: its ramps rise, with a grid of its own that begins with it (R121, R122). (DEDUCED, log 40) -/
def State.portEnable (s : State) (p : Port) : State :=
  let q := (s.port p).seq
  if portEnabled q then s
  else
    let alone := (s.gridPorts (s.gridIx p)).all (fun x => !portEnabled (s.port x).seq)
    let s1 := s.setGrid (s.gridIx p) (fun x => if alone then { Grid.reset with order := [p] } else { x with order := x.order ++ [p] })
    s1.rise p

/-- The end of a shutdown self-test at the bound of step 7, with the number of entries new to the one-time store, which is open
until its step 5 (R447, R448). (DESIGN CHOICE, log 24) -/
def State.testBound (s : State) (since : Nat) : Nat :=
  since + (100 + 2 * min (Config.newRepairs since) (512 - s.life.otpMap.length)) * msNs

/-- ST_BUSY_SELFTEST with the time left, ms: for a shutdown test up to its bound (R448); a per-block test has no stated length,
so a free value stands for it (R354, R456). (DESIGN CHOICE, log 24) -/
def State.busyTest (s : State) (rq : Req) : State :=
  match s.life.test with
  | .shutdown since => s.completeResult rq .busySelftest (leBytes 4 (ceilDiv (s.testBound since - s.clk) msNs))
  | .none | .block .. =>
    let x := s.takeFree 32
    x.2.completeResult rq .busySelftest (leBytes 4 x.1.toNat)

/-- PORT_START: the ports of a mask start together, or the first that fails decides (R495); of a mask of one port whose block is under
test the remaining time stands in RESULT (R354, R456).
(DEDUCED, log 92; DEDUCED, log 144) -/
def State.portStartCmd (s : State) (rq : Req) (ports : BitVec 8) : State :=
  match (maskPorts ports).findSome? (fun p => (s.enableFails p).map (fun x => (p, x.1, x.2))) with
  | some (p, st, z) =>
    if st = .busySelftest ∧ (maskPorts ports).length = 1 then s.busyTest rq
    else s.completeResult rq st (leBytes 4 p.val ++ leBytes 4 z)
  | none => ((maskPorts ports).foldl (fun t p => t.portEnable p) s).complete rq .ok

end Sys2Proof.Machine
end

