-- ==== Sys2Proof/Machine/Snapshots.lean ====
section
/-! DEFINITION. The commands and events of capture: publication, hold-off, automatic snapshots, records that enter queues
and rings, readout, mask tests and capture memory (R269, R277, R280, R286 to R296, R356, R427). -/

namespace Sys2Proof.Machine

/-! ## Snapshots (R286, R288, R290) -/

/-- SNAPSHOT_PUBLISH (R290): the open snapshot of an ID is published once every part of it has ended. -/
def snapshotPublish (dt id : Nat) (s0 : State) : State :=
  let s := s0.elapse dt
  match s.capture.snapshots.find? (fun n => n.id = id) with
  | some n => if snapReady n then s.publish n else s
  | none => s

/-- Snapshots of a group are on. -/
def State.snapOn (s : State) (g : GroupId) : Bool := s.flag Fld.group_snap g.val || s.flag Fld.group_snapSpec g.val

/-- AUTO_TIMEOUT (R288): the timer of auto mode runs from the moment the group entered ARMED. -/
def autoTimeout (dt : Nat) (g : GroupId) (s0 : State) : State :=
  let s := s0.elapse dt
  let x := s.group g
  if s.snapOn g && s.flag Fld.snapCfg_autoEn g.val && x.snapMode = .armed && !x.autoDone
      && s.autoEnd g ≤ s.clk then
    (s.setGroup g (fun y => { y with autoDone := true })).takeSnap g s.tb 0 0 (-1) none true
  else s

/-- HOLDOFF_END (R286): the hold-off of HOLDOFF_MODE TIME ends. -/
def holdoffEnd (dt : Nat) (g : GroupId) (s0 : State) : State :=
  let s := s0.elapse dt
  let x := s.group g
  if x.snapMode = .holdoff ∧ s.fld Fld.snapCfg_holdoffMode g.val = 1
      ∧ x.since + s.fld Fld.snapCfg_holdoff g.val * msNs ≤ s.clk then
    s.setGroup g (GroupSt.arm s.clk)
  else s

/-! ## Records (R268, R269, R275, R277) -/

/-- Codes of both converters of a port that runs follow those before them, up to the present at most (R269). -/
def State.rawFollows (s : State) (p : Port) (tFirst n : Nat) : Bool :=
  (match (s.port p).rx.raw with
   | some (t, us, _) => decide (tFirst ≤ t + us.length)
   | none => false) && decide (tFirst + n ≤ s.tb)

/-- RECORD_ENQUEUE (R269, R275): the oldest released block of a port goes to its streams and rings; or codes of its converters
become raw words, which go there in RAW_DATA records, and clipped codes count (R137, R152). -/
def recordEnqueue (dt : Nat) (item : EnqueueItem) (s0 : State) : State :=
  let s := s0.elapse dt
  match item with
  | .block p =>
    match (s.port p).queue.released with
    | [] => s
    | b :: rest => ((s.setQueue p (fun q => { q with released := rest })).enqueueBlock p b).forgetBlocks p
  | .raw p tFirst xs ys =>
    if !s.rawFollows p tFirst xs.length then s
    else (s.takeCodes p tFirst xs ys).rawJoin p tFirst (s.rawWords p tFirst xs) (s.rawWords p tFirst ys)

/-- SPILL_WRITE_TIMEOUT (R277): the share of a stream that holds more than its quota counts as full. -/
def spillWriteTimeout (dt i : Nat) (s0 : State) : State :=
  let s := s0.elapse dt
  if s.flag Fld.stream_en i && s.shareBytes i ≠ 0 && s.quota < recsBytes (s.stream i).queue then
    s.setStream i (fun x => { x with shareFull := true })
  else s

/-! ## Capture memory (R280, R427) -/

/-- A ring or a share is enabled. -/
def State.captureInUse (s : State) : Bool :=
  allPorts.any (fun p => allRings.any (fun k => s.ringMib p k ≠ 0))
    || s.enabledStreams.any (fun i => s.fld Fld.stream_share i ≠ 0)

/-- CAPMEM_RETRAIN (R280). Where the reference has not qualified since the start or wake, its training waits with the device's
own (R20). -/
def State.capmemRetrainCmd (s : State) (rq : Req) : State :=
  if s.captureInUse then s.complete rq .locked
  else if s.capture.mem.training.isSome then s.complete rq .busy
  else s.setMem (fun m => { m with trained := false, training := some (some rq) })

/-- The command that waits for a training completes. (PRESUMED, log 102) -/
def State.trainAnswer (s : State) (rq : Option Req) (result : List Byte) : State :=
  match rq with
  | some r => s.completeResult r .ok result
  | none => s

/-- A device is one of the supported table, by its mode registers (R278, R279). -/
def deviceOk (d : CapDevice) : Bool :=
  d.lpddr5 && d.x16 && !d.ecc && !d.dvfsc && [8, 16, 32].contains d.densityGb && [1, 2].contains d.ranks

/-- The channel (0 A, 1 B) of the first subchannel whose devices are not supported, or are not as those of the first one (R279).
(DESIGN CHOICE, log 206) -/
def deviceFails (ds : List CapDevice) : Option Nat :=
  (ds.findIdx? (fun d => !deviceOk d || ds.head? != some d)).map (· / 2)

/-- Capacity in GiB of the devices of the four subchannels (R278). -/
def capacity (ds : List CapDevice) : Nat := (ds.map (fun d => d.densityGb * d.ranks)).foldl (· + ·) 0 / 8

/-- Channel and step at which a training fails; none where it succeeds (R279, R280). -/
def trainFails (r : CapTrain) : Option (Nat × Nat) :=
  match deviceFails r.devices with
  | some c => some (c, 1)
  | none => r.failed

/-- CAPMEM_TRAIN_DONE (R279, R280): trained at the RATE configured, the rings of ports that run begin; or failed.
(PRESUMED, log 102) -/
def capmemTrainDone (dt : Nat) (r : CapTrain) (s0 : State) : State :=
  let s := s0.elapse dt
  match (if s.capture.mem.due then none else s.capture.mem.training) with
  | none => s
  | some rq =>
    match trainFails r with
    | none =>
      let s1 := s.setMem (fun m =>
        { m with trained := true, gib := capacity r.devices, training := none, rate := s.fld Fld.capmemCfg_rate 0, lastAccess := s.clk,
                 lastCal := s.clk, content := [] })
      (forPorts (allPorts.filter (fun p => portLaunches (s.port p).seq)) (fun p t => t.ringsStart p) s1).trainAnswer rq
        (zeros 4)
    | some (channel, step) =>
      ((s.setMem (fun m => { m with trained := false, training := none })).event evCapmemFail noUnit noUnit
        [channel, step]).trainAnswer rq (leBytes 1 channel ++ leBytes 1 step ++ zeros 2)

/-- The timeout of CAPMEM_RETRAIN: the training stops and capture memory stays unavailable (R356). -/
def State.retrainTimeout (s : State) : State :=
  match s.capture.mem.training with
  | some (some _) => s.setMem (fun m => { m with training := none })
  | some none | none => s

/-- CAPMEM_PERIODIC_CAL (R280): every 64 ms, inside refresh time. -/
def capmemPeriodicCal (dt : Nat) (s0 : State) : State :=
  let s := s0.elapse dt
  if s.capture.mem.trained && s.capture.mem.lastCal + 64 * msNs ≤ s.clk then s.setMem (fun m => { m with lastCal := s.clk })
  else s

/-- CAPMEM_SELF_REFRESH (R427): 1 ms after the last access in STANDBY. -/
def capmemSelfRefresh (dt : Nat) (s0 : State) : State :=
  let s := s0.elapse dt
  if s.power.mode = .standby && s.capture.mem.trained && s.capture.mem.lastAccess + msNs ≤ s.clk then
    s.setMem (fun m => { m with selfRefresh := true })
  else s

/-! ## Readout (R291) -/

/-- Put a record at the end of a stream with its own source byte and flags, no other dropped for it. -/
def State.appendRec (s : State) (i typ src flags : Nat) (payload : List Byte) : State :=
  (s.setStream i (fun x =>
    { x with queue := x.queue ++ [⟨typ, src, flags, x.seq, i, payload⟩], seq := (x.seq + 1) % 4294967296 })).spillNote i

def State.setReadout (s : State) (i : Nat) (f : Readout → Readout) : State :=
  s.setCapture (fun c => { c with readouts := c.readouts.map (fun r => if r.stream = i then f r else r) })

/-- SNAP_END with the records and bytes that the readout has put into its stream. (DEDUCED, log 98) -/
def State.snapEndRec (s : State) (r : Readout) : State :=
  (s.pushStream r.stream typSnapEnd 0 (leBytes 4 r.snapId ++ leBytes 4 r.records ++ leBytes 8 r.bytes)).setReadout
    r.stream (fun x => { x with ended := true, todo := [] })

/-- Bytes of SNAP_END with its frame (R266). -/
def snapEndBytes : Nat := 32

/-- A stream has room for a record of some bytes besides what it holds. -/
def State.hasRoom (s : State) (i bytes : Nat) : Bool := recsBytes (s.stream i).queue + bytes ≤ s.streamRoom i

/-- A readout puts SNAP_HEADER and the ring records, which it reads from capture memory, into its stream while they fit, then
SNAP_END. A record larger than the stream's whole memory is dropped alone (R276, R427). (DEDUCED, log 98) -/
def State.readoutFill (i : Nat) : Nat → State → State
  | 0, s => s
  | fuel + 1, s =>
    match s.capture.readouts.find? (fun r => r.stream = i) with
    | none => s
    | some r =>
      if r.ended || !s.flag Fld.stream_en i then s
      else
        match r.todo with
        | [] => if s.hasRoom i snapEndBytes then s.snapEndRec r else s
        | x :: rest =>
          if s.streamWhole i < recBytes x then
            State.readoutFill i fuel ((s.memAccess.pushStream i x.typ x.flags x.payload).setReadout i
              (fun y => { y with todo := rest }))
          else if s.hasRoom i (recBytes x) then
            let counts := decide (x.typ ≠ typSnapHeader)
            State.readoutFill i fuel ((s.memAccess.appendRec i x.typ x.source x.flags x.payload).setReadout i
              (fun y => { y with todo := rest, records := y.records + bitNat counts,
                                 bytes := y.bytes + (if counts then recBytes x else 0) }))
          else s

/-- A readout goes on: it fills its stream, and once SNAP_END has been sent SNAP_READ completes with the bytes sent.
(DEDUCED, log 131) -/
def State.readoutStep (s : State) (i : Nat) : State :=
  match s.capture.readouts.find? (fun r => r.stream = i) with
  | none => s
  | some r =>
    if r.ended then
      if (s.stream i).queue = [] then
        let s1 := s.setCapture (fun c => { c with readouts := c.readouts.filter (fun x => x.stream ≠ i) })
        let s2 := if r.release then s1.freeSnap r.snapId else s1
        s2.completeResult r.req .ok (leBytes 8 r.bytes)
      else s
    else State.readoutFill i (r.todo.length + 1) s

/-- SNAP_READ (R291). -/
def State.snapReadCmd (s : State) (rq : Req) (id i : Nat) (release : Bool) : State :=
  match s.capture.snapshots.find? (fun n => n.id = id) with
  | none => s.complete rq .badParam
  | some n =>
    if !s.flag Fld.stream_en i || s.streamClass i ≠ clsSnapshot then s.complete rq .badParam
    else if !n.published || s.capture.readouts.any (fun r => r.stream = i) then s.complete rq .busy
    else
      let recs := s.snapRecords n
      let head : Rec := ⟨typSnapHeader, 0xFF, 0, 0, i, snapHeader n (recsBytes recs)⟩
      (s.setCapture (fun c =>
        { c with readouts := c.readouts ++ [⟨rq, id, i, release, head :: recs, 0, 0, false⟩] })).readoutStep i

/-- The timeout of SNAP_READ: SNAP_END with the records sent so far; the snapshot stays (R356). -/
def State.snapReadTimeout (s : State) (tag : BitVec 6) : State :=
  match s.capture.readouts.find? (fun r => r.req.tag = tag) with
  | none => s
  | some r =>
    let s1 := if r.ended || !s.flag Fld.stream_en r.stream then s else s.snapEndRec r
    s1.setCapture (fun c => { c with readouts := c.readouts.filter (fun x => x.req.tag ≠ tag) })

/-- SNAP_RELEASE (R291). -/
def State.snapReleaseCmd (s : State) (rq : Req) (id : Nat) : State :=
  match s.capture.snapshots.find? (fun n => n.id = id) with
  | none => s.complete rq .badParam
  | some n =>
    if !n.published || s.capture.readouts.any (fun r => r.snapId = id) then s.complete rq .busy
    else (s.freeSnap id).complete rq .ok

/-! ## Mask tests (R292 to R295) -/

/-- Sum and count behind the trace value of the i-th tested bin. (DEDUCED, log 101) -/
def State.maskPoint (s : State) (p : Port) (sums : List (Nat × Nat)) (i : Nat) : Nat × Nat :=
  let h := s.maskReach p
  let c := s.maskLead p + i
  ((sums.drop (c - h)).take (if h = 0 then 1 else c + h - (c - h))).foldl (fun a x => (a.1 + x.1, a.2 + x.2)) (0, 0)

/-- Trace value T of the i-th tested bin; none where the bin is not tested. The logarithm of a power of 0 is a free
value (DESIGN CHOICE, log 25). -/
def State.maskTrace (s : State) (p : Port) (sums : List (Nat × Nat)) (i : Nat) : Option Int :=
  let x := s.maskPoint p sums i
  if x.2 = 0 then none
  else if x.1 = 0 then some (Config.freeValue 16 (s.free + i)).toInt
  else some (centibels x.1 (64 * x.2))

/-- How a bin violates its envelope: 0 not, 1 above, 2 below (R294). -/
def violation (env : Int × Int) (t : Option Int) : Nat :=
  match t with
  | none => 0
  | some x => if env.1 ≠ 32767 ∧ env.1 < x then 1 else if env.2 ≠ -32768 ∧ x < env.2 then 2 else 0

/-- Runs of at least `least` violating bins: first, last, whether one is above and one below. (DEDUCED, log 95) -/
def maskRuns (least : Nat) : List Nat → Nat → Option (Nat × Bool × Bool) → List (Nat × Nat × Bool × Bool)
  | [], i, run =>
    match run with
    | some r => if least ≤ i - r.1 then [(r.1, i - 1, r.2.1, r.2.2)] else []
    | none => []
  | v :: vs, i, run =>
    if v = 0 then
      match run with
      | some r => (if least ≤ i - r.1 then [(r.1, i - 1, r.2.1, r.2.2)] else []) ++ maskRuns least vs (i + 1) none
      | none => maskRuns least vs (i + 1) none
    else
      match run with
      | some r => maskRuns least vs (i + 1) (some (r.1, r.2.1 || v = 1, r.2.2 || v = 2))
      | none => maskRuns least vs (i + 1) (some (i, v = 1, v = 2))

/-- Freeze a ring that runs or has stopped. -/
def State.freezeRing (s : State) (p : Port) (k : RingKind) : State :=
  match (s.ring p k).mode with
  | .running | .stopped => (s.setRing p k (fun r => { r with mode := .frozen })).cutParts p k
  | .off | .frozen => s

/-- A mask stop (R294): the rings freeze, MK_MASK_STOP, EV_MASK_STOP, the mask snapshot, and the halt of HALT_PORT.
(DEDUCED, log 95; DEDUCED, log 99; DEDUCED, log 100) -/
def State.maskStop (s : State) (p : Port) (run : Nat × Nat × Bool × Bool) (tTrig : Nat) : State :=
  let s1 := allRings.foldl (fun t k => t.freezeRing p k) s
  let cause := if run.2.2.1 && run.2.2.2 then 3 else if run.2.2.1 then 1 else 2
  let m := plainMark mkMaskStop (-1) cause (s.fld Fld.mask_firstBin p.val + run.1) (run.2.1 + 1 - run.1)
  let s2 := ((s1.markStreams p [clsPhase, clsBand, clsRaw, clsTemp] m).event evMaskStop p.val noUnit []).count
    Ctr.captureStats_maskStops 0 1
  let s3 := if s2.capture.mem.trained && s2.capture.snapshots.length < 1024 then s2.maskSnap p tTrig else s2
  let s4 := s3.setMask p (fun x => { x with stopped := true, lastRuns := [] })
  if s.flag Fld.mask_action p.val then s4.portHalt p else s4

/-- The oldest trace, of `cycles` taken cycles, whose last frame ended at the balls `ago` ns before, waits for its evaluation: they
are 2^AVG cycles. (DEDUCED, log 175) -/
def State.traceWhole (s : State) (p : Port) (x : MaskTrace) (ago cycles : Nat) : Bool :=
  decide (2 ^ s.fld Fld.mask_avg p.val ≤ x.taken) && cycles == x.taken && x.lastEnd + s.dRxNs p + ago == s.tb

/-- MASK_TRACE_EVAL (R293, R294): a whole trace is evaluated, and its sums are cleared. -/
def maskTraceEval (dt : Nat) (p : Port) (ago cycles : Nat) (s0 : State) : State :=
  let s := s0.elapse dt
  let x := s.mask p
  match x.traces with
  | [] => s
  | trace :: later =>
    if !s.flag Fld.mask_en p.val || x.stopped || (s.port p).seq.mode ≠ .running || !s.traceWhole p trace ago cycles then s
    else
      let n := s.maskBins p
      let vs := (List.range n).map (fun i => violation (x.envelope.getD i (32767, -32768)) (s.maskTrace p trace.sums i))
      let runs := maskRuns (s.fld Fld.mask_minBins p.val) vs 0 none
      let hit := runs.find? (fun r => x.lastRuns.any (fun q => q.1 ≤ r.2.1 && r.1 ≤ q.2))
      let s2 := { s with free := s.free + n }
      let s3 := s2.setMask p (fun y => { y with traces := later, lastRuns := runs.map (fun r => (r.1, r.2.1)) })
      match hit with
      | some r => s3.maskStop p r trace.lastEnd
      | none => s3

/-- MASK_REARM (R295). -/
def State.maskRearmCmd (s : State) (rq : Req) (port : Nat) : State :=
  if h : port < 8 then
    let p : Port := ⟨port, h⟩
    if (s.mask p).snapId.isSome then s.complete rq .busy
    else
      let runs := portEnabled (s.port p).seq
      let s1 := allRings.foldl (fun t k =>
        if (t.ring p k).mode = .frozen then
          let u := t.setRing p k (fun r => { r with mode := if runs then .stopped else .off })
          if runs then u.ringResume p k else u
        else t) s
      let s2 := s1.setMask p (fun x =>
        { x with stopped := false, traces := [], taking := false, owed := false, lastRuns := [] })
      let s3 := if (s.port p).seq.mode = .halted then s2.setSeq p (fun x => { x with resuming := true }) else s2
      s3.complete rq .ok
  else s.complete rq .badParam

/-- LOAD_MASK (R292): its image is taken and decompressed; DECOMPRESS_DONE applies it.
(DEDUCED, log 87; DEDUCED, log 136) -/
def State.loadMaskCmd (s : State) (rq : Req) (port off bytes : Nat) : State :=
  if h : port < 8 then
    let p : Port := ⟨port, h⟩
    if s.flag Fld.mask_en port then s.complete rq .locked
    else if stagingMapped < off + bytes then s.complete rq .badParam
    else s.setSumac (fun x => { x with decJobs := x.decJobs ++ [⟨rq, .mask p, s.staged off bytes⟩] })
  else s.complete rq .badParam

/-- CAP_STATUS of a port (R296). -/
def State.capStatus (s : State) (p : Port) : List Nat :=
  let code (k : RingKind) : Nat := match (s.ring p k).mode with
    | .off => 0
    | .running => 1
    | .stopped => 2
    | .frozen => 3
  let history := match (s.ring p .phase).since, (s.ring p .phase).recs.getLast? with
    | some t, some r => (r.tLast - t) / msNs
    | some _, none | none, _ => 0
  [code .raw + 4 * code .phase + 16 * code .band + 64 * bitNat (s.mask p).stopped + 128 * bitNat s.capture.mem.trained,
   history]

end Sys2Proof.Machine
end

