-- ==== Sys2Proof/Machine/Link.lean ====
section
/-! DEFINITION. The Cherex link: bring-up, frames and credits, low-power idle, test loops (R314 to R340, R353, R475). -/

namespace Sys2Proof.Machine

def State.setLink (s : State) (f : LinkSt → LinkSt) : State := { s with link := f s.link }

/-- Change a lane. -/
def State.setLane (s : State) (k : Fin 8) (f : LaneSt → LaneSt) : State :=
  s.setLink (fun l => { l with lanes := vmod l.lanes k f })

def allLanes : List (Fin 8) := [0, 1, 2, 3, 4, 5, 6, 7]

/-- The lanes in use: L0 to L(W - 1). -/
def State.linkLanes (s : State) : List (Fin 8) := allLanes.filter (fun k => k.val < s.link.width)

/-- STATE of LINK_STATUS (R339). -/
def linkCode : LinkStage → Nat
  | .disabled => 0
  | .detect => 1
  | .train => 2
  | .lock => 3
  | .exchange => 4
  | .active => 5
  | .down => 6
  | .loop => 7

def causeNoPartner : Nat := 1
def causeTrainTimeout : Nat := 2
def causeBlockLock : Nat := 3
def causeLaneOrder : Nat := 4
def causeSkew : Nat := 5
def causeNoCapability : Nat := 6
def causeMismatch : Nat := 7
def causeMarkerLoss : Nat := 8
def causeIdleLoss : Nat := 9

/-! ## Blocks and frames (R318, R321) -/

/-- A control block: type, six bytes, CRC-8 (not for IDLE). -/
def controlBlock (typ : Nat) (body : List Byte) : WireBlock :=
  let b := leBytes 1 typ ++ bytesAt body 0 6
  ⟨true, b ++ (if typ = 0x1E then zeros 1 else leBytes 1 (crc8 b))⟩

/-- The data blocks of a payload. -/
def dataBlocks (payload : List Byte) : List WireBlock :=
  (List.range (ceilDiv payload.length 8)).map (fun i => ⟨false, bytesAt payload (8 * i) 8⟩)

/-- A frame: SOF, data blocks, EOF. -/
def frameBlocks (stream fseq rstart : Nat) (payload : List Byte) : List WireBlock :=
  let sof := leBytes 2 stream ++ leBytes 1 (payload.length / 4) ++ leBytes 1 fseq ++ leBytes 1 rstart ++ zeros 1
  controlBlock 0x55 sof :: dataBlocks payload
    ++ [controlBlock 0x66 (leBytes 4 (crc32 (sof ++ payload)) ++ leBytes 1 fseq ++ zeros 1)]

/-- A CREDIT block. -/
def creditBlock (stream total : Nat) : WireBlock := controlBlock 0x78 (leBytes 2 stream ++ leBytes 3 total ++ zeros 1)

/-- Eight PM blocks. -/
def pmBlocks (target : Nat) : List WireBlock := List.replicate 8 (controlBlock 0x2D (leBytes 1 target))

/-- Bytes that are zero in a block of each type (R318). -/
def zeroBytes (typ : Nat) : Option (List Nat) :=
  if typ = 0x1E then some [1, 2, 3, 4, 5, 6, 7]
  else if typ = 0x33 then some [6]
  else if typ = 0x55 then some [6]
  else if typ = 0x66 then some [6]
  else if typ = 0x78 then some [6]
  else if typ = 0x2D then some [2, 3, 4, 5, 6]
  else none

/-- A control block is good: known type, CRC-8, and zero where zero is required (R318, R319). -/
def blockGood (bytes : List Byte) : Bool :=
  let typ := u8At bytes 0
  match zeroBytes typ with
  | none => false
  | some zs =>
    zs.all (fun i => u8At bytes i = 0) && (typ = 0x1E || u8At bytes 7 = crc8 (bytesAt bytes 0 7))
      && (typ ≠ 0x55 || u8At bytes 2 < 16)

/-- BAD_SYNC of a lane, and the other counters kept per lane. -/
def laneCtr (c : Ctr) (k : Fin 8) : Ctr := { c with word := c.word + k.val }

/-- BLOCK_DISCARD (R319): a received block is discarded and counted where its sync header or its content is bad. -/
def blockDiscard (dt : Nat) (k : Fin 8) (sync : BitVec 2) (bytes : List Byte) (s0 : State) : State :=
  let s := s0.elapse dt
  let receives := match s.link.stage with
    | .lock | .exchange | .active => decide (k.val < s.link.width)
    | .loop => true
    | .disabled | .detect | .train | .down => false
  if !receives then s
  else if sync = 0 ∨ sync = 3 then s.count (laneCtr Ctr.linkStats_badSync0 k) 0 1
  else if sync = 2 ∧ !blockGood bytes then s.count Ctr.linkStats_badBlock 0 1
  else s

/-! ## Leaving ACTIVE (R326, R333, R353) -/

/-- A record of which only part has been sent is dropped; MK_GAP and the repeated HEADER take its place (R333). -/
def State.dropPartial (s : State) (i : Nat) : State :=
  let st := s.stream i
  match st.queue with
  | [] => s
  | r :: rest =>
    if st.sent = 0 then s
    else
      match joinRun none r with
      | none => s
      | some run =>
        let front := s.dropFront i run st.seq
        ((s.setStream i (fun x =>
          { x with queue := front ++ rest, sent := 0, seq := (x.seq + front.length) % 4294967296 })).countIf
          Ctr.streamStats_dropped i (!isDropGap r)).count Ctr.streamStats_gapMarks i 1

/-- The event that an entry holds. -/
def entryEvent (e : List Byte) : EventRec :=
  ⟨u16At e 2, u8At e 4, u8At e 5, u64At e 8, [u32At e 20, u32At e 24, u32At e 28]⟩

/-- A message that stream 0 could not carry goes to the control port: a completion with its result, or an event that has
not gone there already (R353). -/
def State.reroute (s : State) (m : List Byte) : State :=
  let entry := bytesAt m 8 32
  if u8At m 0 = 2 then
    let tag : BitVec 6 := BitVec.ofNat 6 (u8At entry 1)
    (s.setMbox (fun x => { x with window := memWriteAll blankByte x.window (slotBase tag + slotHeader) (m.drop 40) })).cqPush
      entry
  else if u8At m 0 = 3 ∧ s.mbox.eventRoute = 1 then s.eventToQueue (entryEvent entry)
  else s

/-- The completion of a tag waits to be sent on stream 0. -/
def State.completionWaits (s : State) (tag : BitVec 6) : Bool :=
  s.mbox.toHost.any (fun m => u8At m 0 = 2 && u8At m 9 = tag.toNat)

/-- A loop whose completion has gone starts 100 µs later (R337). -/
def State.loopSent (s : State) : State :=
  match s.link.loop with
  | none => s
  | some r =>
    match r.awaits with
    | none => s
    | some tag =>
      if s.completionWaits tag then s
      else s.setLink (fun l => { l with loop := some { r with awaits := none, startAt := s.clk + 100 * usNs } })

/-- The frame of PATTERN 1 that was out has come back good (R338, R340). -/
def State.loopReturns (s : State) : State :=
  match s.link.loop with
  | some r =>
    if r.out then (s.setLink (fun l => { l with loop := some { r with out := false } })).count Ctr.linkStats_framesRx 0 1 else s
  | none => s

/-- The link is no longer ACTIVE: partly sent records and messages go, EV_LINK_DOWN. -/
def State.linkLeaves (s : State) (dest : LinkStage) : State :=
  let msgs := s.mbox.toHost
  let s1 := (s.setLink (fun l => { l with stage := dest, since := s.clk, txPm := .awake, rxPm := .awake, sent0 := 0,
                                          creditDue := false })).setMbox (fun m => { m with toHost := [] })
  let s2 := (s1.capture.streams.map (·.1)).foldl (fun t i => t.dropPartial i) s1
  ((msgs.foldl (fun t m => t.reroute m) s2).event evLinkDown noUnit noUnit []).loopSent

/-- Begin a bring-up at DETECT (R323); it ends a loop that runs, and keeps one that waits for its start (R337). -/
def State.bringUp (s : State) (fromDown : Bool) : State :=
  let looped := decide (s.link.stage = .loop)
  let s1 := if s.link.stage = .active then s.linkLeaves .detect else if looped then s.loopReturns else s
  s1.setLink (fun l =>
    { l with stage := .detect, since := s.clk, goodChecks := 0, lanesSeen := 0, framesSince := none, idleSince := none,
             fromDown := fromDown, lockCause := causeBlockLock, peerCap := none, acked := false, seenSent := false,
             txPm := .awake, rxPm := .awake, loop := if looped then none else l.loop,
             lanes := l.lanes.map (fun x => { x with prbsLock := false }) })

/-- An exit from ACTIVE with a cause: back to DETECT with FAIL_COUNT 0 (R326). -/
def State.leaveActive (s : State) (cause : Nat) : State :=
  ((s.count Ctr.linkStats_failures 0 1).bringUp false).setLink (fun l =>
    { l with failStage := 5, failCause := cause, failCount := 0 })

/-- A stage fails (R325). (DEDUCED, log 107) -/
def State.stageFail (s : State) (cause : Nat) : State :=
  let n := min 15 (s.link.failCount + 1)
  let down := s.link.fromDown || s.fld Fld.linkCfg_retries 0 ≤ n
  let s1 := s.count Ctr.linkStats_failures 0 1
  let code := linkCode s.link.stage
  if down then
    s1.setLink (fun l => { l with stage := .down, since := s.clk, failStage := code, failCause := cause, failCount := n,
                                  fromDown := false })
  else
    (s1.bringUp false).setLink (fun l =>
      { l with failStage := code, failCause := cause, failCount := n, idleSince := some s.clk })

/-! ## DETECT and DOWN (R323, R325) -/

/-- Lanes L0 to L(W - 1) are all in a mask. -/
def lanesFrom (m : BitVec 8) (w : Nat) : Bool := m.toNat % 2 ^ w = 2 ^ w - 1

/-- The allowed widths, largest first (R323). -/
def State.allowedWidths (s : State) : List Nat :=
  [3, 2, 1, 0].filterMap (fun c =>
    if s.fld Fld.linkCfg_minWidth 0 ≤ c ∧ c ≤ s.fld Fld.linkCfg_width 0 then some (2 ^ c) else none)

/-- DETECT_CHECK (R323): every 100 µs, the lanes with far-end termination and receive activity; ten good checks pass. -/
def detectCheck (dt : Nat) (found : BitVec 8) (s0 : State) : State :=
  let s := s0.elapse dt
  if s.link.stage ≠ .detect ∨ s.link.idleSince.isSome ∨ s.clk < max s.link.since s.link.checkAt + 100 * usNs then s
  else
    let ok (m : BitVec 8) : Bool := s.allowedWidths.any (lanesFrom m)
    let both := if s.link.goodChecks = 0 then found else s.link.lanesSeen &&& found
    let n := if ok both then s.link.goodChecks + 1 else if ok found then 1 else 0
    let seen := if ok both then both else found
    if 10 ≤ n then
      let w := (s.allowedWidths.find? (lanesFrom seen)).getD 1
      s.setLink (fun l =>
        { l with stage := .train, since := s.clk, goodChecks := 0, lanesSeen := seen, width := w,
                 rate := s.fld Fld.linkCfg_rate 0, framesSince := none, polarity := 0,
                 lanes := l.lanes.map (fun x =>
                   { x with peerReady := false, ownReady := false, readyFrames := 0, tapStatus := Vector.replicate 3 0,
                            blockLock := false, goodMarks := 0, badMarks := 0, prbsLock := false }) })
    else s.setLink (fun l => { l with goodChecks := n, checkAt := s.clk, lanesSeen := seen })

/-- DOWN_CHECK (R325): one detection check a second. -/
def downCheck (dt : Nat) (found : BitVec 8) (s0 : State) : State :=
  let s := s0.elapse dt
  if s.link.stage ≠ .down ∨ s.clk < s.link.since + secNs then s
  else if lanesFrom found (2 ^ s.fld Fld.linkCfg_minWidth 0) then s.bringUp true
  else s.setLink (fun l => { l with since := s.clk })

/-- LINK_FAIL_IDLE_END (R325): 1 ms of electrical idle after a failure. -/
def linkFailIdleEnd (dt : Nat) (s0 : State) : State :=
  let s := s0.elapse dt
  match s.link.idleSince with
  | some t =>
    if s.link.stage = .detect ∧ t + msNs ≤ s.clk then
      s.setLink (fun l => { l with idleSince := none, since := s.clk, goodChecks := 0 })
    else s
  | none => s

/-- BRINGUP_STAGE_TIMEOUT (R323). -/
def bringupStageTimeout (dt : Nat) (s0 : State) : State :=
  let s := s0.elapse dt
  let l := s.link
  let passed (t ms : Nat) : Bool := decide (t + ms * msNs ≤ s.clk)
  match l.stage with
  | .detect => if l.idleSince.isNone && passed l.since 100 then s.stageFail causeNoPartner else s
  | .train =>
    match l.framesSince with
    | some t => if passed t 500 then s.stageFail causeTrainTimeout else s
    | none => s
  | .lock => if passed l.since 10 then s.stageFail l.lockCause else s
  | .exchange => if passed l.since 20 then s.stageFail causeNoCapability else s
  | .disabled | .active | .down | .loop => s

/-! ## TRAIN (R316, R323, R324) -/

/-- TRAINING_FRAMES_START (R323): after 1.000 ms of PRBS31, in which the receiver found which lanes are inverted. -/
def trainingFramesStart (dt : Nat) (polarity : BitVec 8) (s0 : State) : State :=
  let s := s0.elapse dt
  if s.link.stage = .train ∧ s.link.framesSince.isNone ∧ s.link.since + msNs ≤ s.clk then
    s.setLink (fun l => { l with framesSince := some s.clk, polarity := polarity &&& BitVec.ofNat 8 (2 ^ l.width - 1) })
  else s

/-- A tap and the status that answers its request: 1 INC, 2 DEC; a request is answered once, until HOLD (R324).
(DESIGN CHOICE, log 159) -/
def tapStep (req limit v st : Nat) : Nat × Nat :=
  if req = 0 then (v, 0)
  else if st ≠ 0 then (v, st)
  else if req = 1 then (if v < limit then (v + 1, 1) else (v, 3))
  else if req = 2 then (if 0 < v then (v - 1, 1) else (v, 2))
  else (v, 0)

/-- A training frame's control and status fields on a lane (R324). -/
def laneTrain (control status : BitVec 16) (ownReady : Bool) (x : LaneSt) : LaneSt :=
  let c := control.toNat
  let y := if c.testBit 6 then { x with pre := 0, main := 63, post := 0 } else x
  let z := if c.testBit 7 then { y with pre := 4, main := 48, post := 8 } else y
  let a := tapStep (c % 4) 15 z.pre z.tapStatus[0]
  let b := tapStep (c / 4 % 4) 63 z.main z.tapStatus[1]
  let d := tapStep (c / 16 % 4) 31 z.post z.tapStatus[2]
  let peer := status.getLsbD 6
  { z with pre := a.1, main := b.1, post := d.1, tapStatus := #v[a.2, b.2, d.2], peerReady := peer, ownReady := ownReady,
           readyFrames := if peer && ownReady then x.readyFrames + 1 else 0 }

/-- TRAINING_FRAME_RX (R323, R324): eight frames with RX_READY of both ends on every lane pass TRAIN. -/
def trainingFrameRx (dt : Nat) (k : Fin 8) (control status : BitVec 16) (ownReady : Bool) (s0 : State) : State :=
  let s := s0.elapse dt
  if s.link.stage ≠ .train ∨ s.link.framesSince.isNone ∨ s.link.width ≤ k.val then s
  else
    let s1 := s.setLane k (laneTrain control status ownReady)
    if s1.linkLanes.all (fun j => 8 ≤ (s1.link.lanes[j]).readyFrames) then
      s1.setLink (fun l => { l with stage := .lock, since := s.clk, lockCause := causeBlockLock })
    else s1

/-! ## LOCK and the markers (R320, R323, R326) -/

/-- An ALIGN period of a lane is good: LANE as it should be, and in ACTIVE WIDTH, and MCOUNT one after the period before.
(DEDUCED, log 105) -/
def alignGood (stage : LinkStage) (width : Nat) (k : Fin 8) (x : LaneSt) (a : Option AlignIn) : Bool :=
  match a with
  | none => false
  | some y =>
    y.laneField = k.val
      && (match stage with
          | .active => 2 ^ y.widthCode = width && y.mcount = (x.mcount + 1) % 65536
          | .disabled | .detect | .train | .lock | .exchange | .down | .loop => true)

/-- Note an ALIGN period of a lane: its marker count, which goes on over a bad period that counts, its skew, block lock and runs
of good and bad periods. (DEDUCED, log 105; DEDUCED, log 106) -/
def laneAlign (good locked counts : Bool) (a : Option AlignIn) (x : LaneSt) : LaneSt :=
  { x with blockLock := locked,
           mcount := if counts && !good then (x.mcount + 1) % 65536 else (match a with | some y => y.mcount % 65536 | none => x.mcount),
           skew := (match a with | some y => y.skew % 256 | none => x.skew), goodMarks := if good then x.goodMarks + 1 else 0,
           badMarks := if good || !counts then 0 else x.badMarks + 1 }

/-- Every lane in use notes what it showed in a marker period (R320, R340). -/
def State.alignLanes (locked : BitVec 8) (seen : Vector (Option AlignIn) 8) (s : State) : State :=
  let l := s.link
  let counts := decide (l.stage = .active) && decide (l.rxPm = .awake)
  s.linkLanes.foldl (fun t k =>
    let a := seen[k]
    let good := alignGood l.stage l.width k l.lanes[k] a
    let t1 := t.setLane k (laneAlign good (locked.getLsbD k.val) counts a)
    match a with
    | some y => t1.count (laneCtr Ctr.linkStats_bipErr0 k) 0 (min 8 y.bip)
    | none => t1) s

/-- The check of LOCK that fails in a marker period (R323): block lock and a marker with one MCOUNT on every lane, LANE,
and skew; none where all pass. (DEDUCED, log 105) -/
def lockFails (lanes : List (Fin 8)) (locked : BitVec 8) (seen : Vector (Option AlignIn) 8) : Option Nat :=
  let ys := lanes.filterMap (fun k => seen[k])
  let locks := lanes.all (fun k => locked.getLsbD k.val)
  let whole := decide (ys.length = lanes.length)
  let counts := ys.all (fun y => some y.mcount = ys.head?.map (·.mcount))
  let order := lanes.all (fun k => match seen[k] with | some y => y.laneField = k.val | none => true)
  let skewed := ys.any (fun y => 200 < y.skew)
  if !locks || !whole || !counts then some causeBlockLock else if !order then some causeLaneOrder
  else if skewed then some causeSkew else none

/-- ALIGN_RX (R320, R323, R326): what every lane showed in a marker period. In LOCK two good periods with the same MCOUNT
on all lanes, LANE in order and skew within 20.0 ns pass; in ACTIVE two bad ones on a lane are MARKER_LOSS.
(DEDUCED, log 105; DEDUCED, log 106; DESIGN CHOICE, log 159) -/
def alignRx (dt : Nat) (locked : BitVec 8) (seen : Vector (Option AlignIn) 8) (s0 : State) : State :=
  let s := s0.elapse dt
  let lanes := s.linkLanes
  match s.link.stage with
  | .disabled | .detect | .train | .down | .loop => s
  | .exchange => s.alignLanes locked seen
  | .active =>
    let s1 := s.alignLanes locked seen
    if lanes.any (fun k => 2 ≤ (s1.link.lanes[k]).badMarks) then s1.leaveActive causeMarkerLoss else s1
  | .lock =>
    let s1 := s.alignLanes locked seen
    match lockFails lanes locked seen with
    | some c =>
      s1.setLink (fun x => { x with lockCause := c, lanes := x.lanes.map (fun y => { y with goodMarks := 0 }) })
    | none =>
      if lanes.all (fun k => 2 ≤ (s1.link.lanes[k]).goodMarks) then
        s1.setLink (fun x => { x with stage := .exchange, since := s.clk, peerCap := none, acked := false, seenSent := false })
      else s1

/-- A lane carries the frames of a PATTERN 1 loop (R338). -/
def State.loopFrames (s : State) (k : Fin 8) : Bool := s.link.loop.any (fun r => r.pattern = 1 && r.lanes.getLsbD k.val)

/-- BLOCK_LOCK_LOSS (R326, R340). -/
def blockLockLoss (dt : Nat) (k : Fin 8) (s0 : State) : State :=
  let s := s0.elapse dt
  let s1 := (s.setLane k (fun x => { x with blockLock := false, goodMarks := 0 })).count (laneCtr Ctr.linkStats_lockLoss0 k) 0 1
  let used := decide (k.val < s.link.width)
  match s.link.stage with
  | .active => if used then s1.leaveActive causeBlockLock else s
  | .lock | .exchange => if used then s1.setLink (fun l => { l with lockCause := causeBlockLock }) else s
  | .loop => if s.loopFrames k then s1 else s
  | .disabled | .detect | .train | .down => s

/-- IDLE_LOSS (R326): electrical idle on an awake receive lane. -/
def idleLoss (dt : Nat) (k : Fin 8) (s0 : State) : State :=
  let s := s0.elapse dt
  if s.link.stage = .active ∧ s.link.rxPm = .awake ∧ k.val < s.link.width then s.leaveActive causeIdleLoss else s

/-- LREF_UNLOCK (R475): the lane PLL is out of lock. (DEDUCED, log 108) -/
def lrefUnlock (dt : Nat) (s0 : State) : State :=
  let s := s0.elapse dt
  match s.link.stage with
  | .active => s.leaveActive causeBlockLock
  | .train | .lock | .exchange => s.stageFail causeBlockLock
  | .disabled | .detect | .down | .loop => s

/-! ## EXCHANGE (R327, R328) -/

/-- The device's capability block. (DEDUCED, log 103; DEDUCED, log 104) -/
def State.capBlock (s : State) : List Byte :=
  let seen := s.link.peerCap.isSome
  let b := leBytes 2 1 ++ leBytes 1 0
    ++ leBytes 1 (bitNat seen + 2 * s.fld Fld.linkCfg_quietEn 0 + 4 * s.fld Fld.linkCfg_sleepEn 0)
    ++ leBytes 1 s.link.rate ++ leBytes 1 (2 ^ s.fld Fld.linkCfg_width 0) ++ leBytes 1 s.link.lanesSeen.toNat
    ++ leBytes 1 72 ++ leBytes 2 2048 ++ leBytes 2 32 ++ leBytes 4 512 ++ leBytes 2 1000 ++ leBytes 2 40
    ++ leBytes 2 0x0204 ++ zeros 2 ++ leBytes 4 (match s.link.peerCap with | some p => u32At p 0x3C | none => 0) ++ zeros 32
  b ++ leBytes 4 (crc32 b)

/-- The agreed width (R328): 0 where there is none. -/
def State.agreedWidth (s : State) (peer : List Byte) : Nat :=
  ([8, 4, 2, 1].find? (fun w =>
    w ≤ s.link.width && w ≤ u8At peer 5 && lanesFrom (BitVec.ofNat 8 (u8At peer 6)) w)).getD 0

/-- A peer block does not fit (R328). -/
def State.capMismatch (s : State) (peer : List Byte) : Bool :=
  u8At peer 4 ≠ s.link.rate || u16At peer 0x0A ≠ 32 || u8At peer 7 < 16 || 72 < u8At peer 7
    || s.agreedWidth peer < 2 ^ s.fld Fld.linkCfg_minWidth 0 || 8 ≤ u8At peer 3 || u16At peer 0x16 ≠ 0
    || (bytesAt peer 0x1C 32).any (· ≠ 0)

/-- Entry into ACTIVE (R325, R328, R330, R332). (DEDUCED, log 110) -/
def State.linkUp (s : State) (peer : List Byte) : State :=
  ((s.setLink (fun l =>
    { l with stage := .active, since := s.clk, width := s.agreedWidth peer, frameMax := u8At peer 7, failCount := 0,
             fromDown := false, granted := [(0, u32At peer 0x0C % 16777216)], consumed := [], lastHigh := 0, lastLow := 0,
             hostTotal := 512, creditDue := false, creditAt := s.clk, txIdleSince := s.clk, txReadyAt := s.clk,
             rxReadyAt := s.clk, txPm := .awake, rxPm := .awake, sent0 := 0,
             lanes := l.lanes.map (fun x => { x with badMarks := 0 }) })).count Ctr.linkStats_bringups 0 1).event
    evLinkUp noUnit noUnit []

/-- EXCHANGE passes once the peer has acknowledged the own block and the own block with PEER_SEEN has gone (R328). -/
def State.exchangeCheck (s : State) : State :=
  match s.link.peerCap with
  | some peer => if s.link.acked && s.link.seenSent then s.linkUp peer else s
  | none => s

/-- CAPABILITY_SEND (R327). -/
def capabilitySend (dt : Nat) (s0 : State) : State :=
  let s := s0.elapse dt
  if s.link.stage = .exchange then
    let b := s.capBlock
    ((s.setLink (fun l =>
      { l with ownCrc := u32At b 0x3C, seenSent := l.seenSent || l.peerCap.isSome, fseqCap := (l.fseqCap + 1) % 256,
               txBlocks := frameBlocks 0xFFF l.fseqCap 0 b })).count Ctr.linkStats_framesTx 0 1).exchangeCheck
  else s

/-- CAPABILITY_RX (R328): a block with a good CRC is kept and judged; it acknowledges the own block sent last.
(DEDUCED, log 103) -/
def capabilityRx (dt : Nat) (bytes : List Byte) (s0 : State) : State :=
  let s := s0.elapse dt
  if s.link.stage ≠ .exchange then s
  else
    let s1 := s.count Ctr.linkStats_framesRx 0 1
    let peer := bytesAt bytes 0 64
    if bytes.length ≠ 64 ∨ u32At peer 0x3C ≠ crc32 (bytesAt peer 0 60) then s1
    else if s1.capMismatch peer then s1.stageFail causeMismatch
    else
      let ack := u8At peer 2 = 1 && (u8At peer 3) % 2 = 1 && u32At peer 0x18 = s.link.ownCrc
      (s1.setLink (fun l => { l with peerCap := some peer, acked := l.acked || ack })).exchangeCheck

/-! ## Frames and credits (R322, R329 to R333) -/

/-- Queued bytes of stream 0 not sent yet. -/
def State.queued0 (s : State) : Nat := (s.mbox.toHost.map (·.length)).foldl (· + ·) 0 - s.link.sent0

/-- Queued bytes of a stream not sent yet. -/
def State.queuedBytes (s : State) (i : Nat) : Nat := recsBytes (s.stream i).queue - (s.stream i).sent

/-- Bytes of the next frame of a queue (R322). -/
def State.frameBytes (s : State) (queued : Nat) : Nat := min queued (4 * s.link.frameMax)

/-- The credit of a stream covers its next frame (R330). -/
def State.credits (s : State) (i queued : Nat) : Bool :=
  let g := (Tab.find? s.link.granted i).getD 0
  let c := (Tab.find? s.link.consumed i).getD 0
  queued ≠ 0 && ceilDiv (s.frameBytes queued) 32 ≤ (g + 16777216 - c) % 16777216

/-- Streams whose class is served first: events and summaries. -/
def urgentClass (c : Nat) : Bool := c = clsConf || c = clsProv || c = clsSummary

/-- The eligible streams of a level. -/
def State.eligibleStreams (s : State) (urgent : Bool) : List Nat :=
  (s.capture.streams.map (·.1)).filter (fun i =>
    urgentClass (s.streamClass i) = urgent && s.credits i (s.queuedBytes i))

/-- Round robin: the first after the last served, else the lowest. -/
def roundRobin (last : Nat) (xs : List Nat) : Option Nat :=
  match xs.find? (fun i => last < i) with
  | some i => some i
  | none => xs.head?

/-- RSTART of a frame of `n` bytes: `sent` bytes of a record of `len` bytes have gone before (R318, R322). -/
def rstart (sent len n : Nat) (more : Bool) : Nat :=
  if sent = 0 then 0 else if len - sent < n ∧ more then (len - sent) / 4 else 0xFF

/-- Take bytes from a queue of items with `sent` bytes of the first gone: items left, bytes of the first gone, and the
number of items that have gone whole. -/
def advance {α : Type} (len : α → Nat) : List α → Nat → Nat → List α × Nat × Nat
  | [], _, n => ([], 0, n)
  | x :: q, k, n => if len x ≤ k then advance len q (k - len x) (n + 1) else (x :: q, k, n)

/-- Spend the credit of a frame and send it. (DEDUCED, log 110; DESIGN CHOICE, log 159) -/
def State.sendFrame (s : State) (i n fseq rst : Nat) (payload : List Byte) : State :=
  (s.setLink (fun l =>
    { l with consumed := Tab.put l.consumed i (((Tab.find? l.consumed i).getD 0 + ceilDiv n 32) % 16777216),
             txBlocks := frameBlocks i fseq rst payload, txIdleSince := s.clk })).count Ctr.linkStats_framesTx 0 1

/-- A frame of stream 0 (R332, R352). -/
def State.sendZero (s : State) : State :=
  let q := s.mbox.toHost
  let n := s.frameBytes s.queued0
  let rst := rstart s.link.sent0 (q.head?.getD []).length n (1 < q.length)
  let a := advance (fun (m : List Byte) => m.length) q (s.link.sent0 + n) 0
  (((s.sendFrame 0 n s.link.fseq0 rst ((q.flatMap id).drop s.link.sent0 |>.take n)).setMbox (fun m => { m with toHost := a.1 })).setLink
    (fun l => { l with sent0 := a.2.1, fseq0 := (l.fseq0 + 1) % 256 })).loopSent

/-- A frame of another stream; a readout goes on (R291, R332). -/
def State.sendStream (s : State) (i : Nat) : State :=
  let st := s.stream i
  let n := s.frameBytes (s.queuedBytes i)
  let rst := rstart st.sent (match st.queue.head? with | some r => recBytes r | none => 0) n (1 < st.queue.length)
  let a := advance recBytes st.queue (st.sent + n) 0
  let s1 := (s.spillNote i).sendFrame i n st.fseq rst ((st.queue.flatMap recWire).drop st.sent |>.take n)
  let s2 := s1.setStream i (fun x => { x with queue := a.1, sent := a.2.1, fseq := (x.fseq + 1) % 256 })
  (s2.count Ctr.streamStats_records i a.2.2).readoutStep i

/-- What FRAME_SELECT sends next: none for IDLE. -/
inductive SendNext where
  | credit
  | zero
  | urgent (i : Nat)
  | other (i : Nat)
deriving DecidableEq, Repr

/-- The choice of R332. -/
def State.sendNext (s : State) : Option SendNext :=
  if s.link.creditDue then some .credit
  else if s.credits 0 s.queued0 then some .zero
  else
    match roundRobin s.link.lastHigh (s.eligibleStreams true) with
    | some i => some (.urgent i)
    | none => (roundRobin s.link.lastLow (s.eligibleStreams false)).map .other

/-- Payload of a full frame of PATTERN 1: bytes that count up from 0 modulo 256 (R338). -/
def countPayload : List Byte := (List.range 288).map (fun i => BitVec.ofNat 8 i)

/-- A frame of PATTERN 1 on stream 0xFFE; no record begins in it. -/
def loopFrame (fseq : Nat) : List WireBlock := frameBlocks 0xFFE fseq 0xFF countPayload

/-- The next frame of a PATTERN 1 loop; the one before it has come back good unless it was found in error (R338, R340). -/
def State.sendLoop (s : State) : State :=
  let s1 := s.loopReturns
  match s1.link.loop with
  | some r =>
    if r.pattern = 1 then
      (s1.setLink (fun l =>
        { l with txBlocks := loopFrame r.fseq, loop := some { r with fseq := (r.fseq + 1) % 256, out := true } })).count
        Ctr.linkStats_framesTx 0 1
    else s
  | none => s

/-- FRAME_SELECT (R332), and the frames of a PATTERN 1 loop (R338). (DESIGN CHOICE, log 159) -/
def frameSelect (dt : Nat) (s0 : State) : State :=
  let s := s0.elapse dt
  if s.link.stage = .loop then s.sendLoop
  else if s.link.stage ≠ .active ∨ s.link.txPm ≠ .awake ∨ s.link.idleSince.isSome ∨ s.clk < s.link.txReadyAt then s
  else
    match s.sendNext with
    | none => s
    | some .credit =>
      s.setLink (fun l => { l with creditDue := false, creditAt := s.clk, txIdleSince := s.clk,
                                   txBlocks := [creditBlock 0 l.hostTotal] })
    | some .zero => s.sendZero
    | some (.urgent i) => (s.sendStream i).setLink (fun l => { l with lastHigh := i })
    | some (.other i) => (s.sendStream i).setLink (fun l => { l with lastLow := i })

/-- Something comes from the host: the receive direction takes it, unless it sleeps or has yet to recover (R335, R336). -/
def State.rxTakes (s : State) : Bool := s.link.stage = .active && s.link.rxPm ≠ .sleep && s.link.rxReadyAt ≤ s.clk

def State.rxWake (s : State) : State := s.setLink (fun l => { l with rxPm := .awake })

/-- Buffer of stream 0 freed: the TOTAL rises by its units and a CREDIT block falls due (R330, R331).
(DEDUCED, log 26) -/
def State.freeUnits (s : State) (n : Nat) : State :=
  s.setLink (fun l => { l with hostTotal := (l.hostTotal + n) % 16777216, creditDue := true })

/-- A message of the host of `n` bytes has been taken: its frames, in full frames of 288 bytes (DEDUCED, log 26). -/
def State.hostBytes (s : State) (n : Nat) : State :=
  (s.rxWake.count Ctr.linkStats_framesRx 0 (ceilDiv n 288)).freeUnits (ceilDiv n 32)

/-- CREDIT_RECEIVED (R330). -/
def creditReceived (dt stream total : Nat) (s0 : State) : State :=
  let s := s0.elapse dt
  if !s.rxTakes then s
  else
    let s1 := s.rxWake
    let t := total % 16777216
    let g := (Tab.find? s.link.granted stream).getD 0
    if 2048 < stream then s1.count Ctr.linkStats_creditBad 0 1
    else if 8388608 ≤ (t + 16777216 - g) % 16777216 then s1.count Ctr.linkStats_creditStale 0 1
    else s1.setLink (fun l => { l with granted := Tab.put l.granted stream t })

/-- CREDIT_REPEAT (R331): the TOTAL of stream 0 is repeated every 100 ms. -/
def creditRepeat (dt : Nat) (s0 : State) : State :=
  let s := s0.elapse dt
  if s.link.stage = .active ∧ s.link.creditAt + 100 * msNs ≤ s.clk then s.setLink (fun l => { l with creditDue := true })
  else s

/-- A frame of a loop comes back in error (R338). -/
def State.loopBad (s : State) : State :=
  match s.link.loop with
  | some r =>
    if r.out then (s.setLink (fun l => { l with loop := some { r with out := false } })).count Ctr.linkStats_crcErr 0 1 else s
  | none => s

/-- HOST_FRAME_DISCARD (R321, R329, R331, R338). -/
def hostFrameDiscard (dt : Nat) (why : FrameFault) (s0 : State) : State :=
  let s := s0.elapse dt
  match why with
  | .bad n =>
    match s.link.stage with
    | .active => if s.rxTakes then (s.rxWake.count Ctr.linkStats_crcErr 0 1).freeUnits (ceilDiv n 32) else s
    | .exchange => s.count Ctr.linkStats_crcErr 0 1
    | .loop => s.loopBad
    | .disabled | .detect | .train | .lock | .down => s
  | .stream n => if s.rxTakes && n ≠ 0 then s.rxWake.count Ctr.linkStats_rxDiscard 0 1 else s

/-! ## QUIET and SLEEP (R334 to R336) -/

/-- FLAGS of the peer's capability block. -/
def State.peerFlags (s : State) : Nat :=
  match s.link.peerCap with
  | some p => u8At p 3
  | none => 0

/-- TX_QUIET_ENTRY (R334). -/
def txQuietEntry (dt : Nat) (s0 : State) : State :=
  let s := s0.elapse dt
  if s.link.stage = .active && s.link.txPm = .awake && s.flag Fld.linkCfg_quietEn 0 && s.peerFlags.testBit 1
      && s.sendNext.isNone && s.link.txIdleSince + s.fld Fld.linkCfg_quietIdle 0 * usNs ≤ s.clk then
    (s.setLink (fun l => { l with txPm := .quiet, refreshAt := s.clk, txBlocks := pmBlocks 1 })).count
      Ctr.linkStats_quietEntries 0 1
  else s

/-- TX_SLEEP_ENTRY (R334): also from QUIET. -/
def txSleepEntry (dt : Nat) (s0 : State) : State :=
  let s := s0.elapse dt
  if s.link.stage = .active && s.link.txPm ≠ .sleep && s.flag Fld.linkCfg_sleepEn 0 && s.peerFlags.testBit 2
      && s.sendNext.isNone && s.link.txIdleSince + s.fld Fld.linkCfg_sleepIdle 0 * msNs ≤ s.clk then
    (s.setLink (fun l => { l with txPm := .sleep, txBlocks := pmBlocks 2 })).count Ctr.linkStats_sleepEntries 0 1
  else s

/-- QUIET_REFRESH (R335): 2.0 µs of IDLE every 1.000 ms. -/
def quietRefresh (dt : Nat) (s0 : State) : State :=
  let s := s0.elapse dt
  if s.link.txPm = .quiet ∧ s.link.refreshAt + msNs ≤ s.clk then s.setLink (fun l => { l with refreshAt := s.clk }) else s

/-- The transmitter leaves QUIET or SLEEP: it sends IDLE for the time the peer needs (R335). -/
def State.txExit (s : State) : State :=
  let wait := match s.link.txPm, s.link.peerCap with
    | .quiet, some p => u16At p 0x10
    | .sleep, some p => u16At p 0x12 * usNs
    | .awake, _ | .quiet, none | .sleep, none => 0
  if s.link.txPm = .awake then s
  else s.setLink (fun l => { l with txPm := .awake, txReadyAt := s.clk + wait, txIdleSince := s.clk })

/-- TX_PM_EXIT (R335): a frame or CREDIT is due. -/
def txPmExit (dt : Nat) (s0 : State) : State :=
  let s := s0.elapse dt
  if s.link.stage = .active ∧ s.sendNext.isSome then s.txExit else s

/-- PM_BLOCK_RX (R334): eight PM blocks and electrical idle; 1 QUIET, 2 SLEEP. -/
def pmBlockRx (dt : Nat) (target : Nat) (s0 : State) : State :=
  let s := s0.elapse dt
  if s.link.stage ≠ .active then s
  else if target = 1 then s.setLink (fun l => { l with rxPm := .quiet })
  else if target = 2 then s.setLink (fun l => { l with rxPm := .sleep })
  else s

/-- RX_SLEEP_EXIT (R335, R336): activity ends SLEEP of the receive direction, which takes frames again 40 µs later. -/
def rxSleepExit (dt : Nat) (s0 : State) : State :=
  let s := s0.elapse dt
  if s.link.stage = .active ∧ s.link.rxPm = .sleep then s.rxWake.setLink (fun l => { l with rxReadyAt := s.clk + 40 * usNs })
  else s

/-! ## Commands, enable and loops (R323, R325, R336 to R338) -/

/-- LINK_RESTART: FAIL_COUNT clears and a bring-up starts at DETECT in every state while EN is 1 (R323, R325).
(DEDUCED, log 111) -/
def State.linkRestart (s : State) : State :=
  let s1 := s.setLink (fun l => { l with failCount := 0 })
  if s.flag Fld.linkCfg_en 0 then (s1.countIf Ctr.linkStats_failures 0 (s.link.stage = .active)).bringUp false else s1

/-- A write of EN (R323, R325). -/
def State.linkEnWritten (s : State) (before after : Bool) : State :=
  let s1 := s.setLink (fun l => { l with failCount := 0 })
  if after then
    if !before || s.link.stage = .down then s1.bringUp false else s1
  else if before then
    let s2 := if s1.link.stage = .active then (s1.count Ctr.linkStats_failures 0 1).linkLeaves .disabled else s1
    s2.setLink (fun l => { l with stage := .disabled, since := s.clk, idleSince := none, loop := none, fromDown := false,
                                  lanes := l.lanes.map (fun x => { x with prbsLock := false }) })
  else s1

/-- Clearing QUIET_EN or SLEEP_EN takes the transmitter out of that state at once (R336). -/
def State.linkPmWritten (s : State) : State :=
  match s.link.txPm with
  | .quiet => if s.flag Fld.linkCfg_quietEn 0 then s else s.txExit
  | .sleep => if s.flag Fld.linkCfg_sleepEn 0 then s else s.txExit
  | .awake => s

/-- The loop that has been asked for starts: the link leaves ACTIVE for LOOP (R337). (DEDUCED, log 109) -/
def State.loopBegin (s : State) : State :=
  let s1 := if s.link.stage = .active then (s.count Ctr.linkStats_failures 0 1).linkLeaves .loop else s
  s1.setLink (fun l =>
    { l with stage := .loop, since := s.clk, idleSince := none, txPm := .awake, rxPm := .awake,
             lanes := l.lanes.map (fun x => { x with prbsLock := false }) })

/-- LANES is L0 to L(W - 1) for a W of R314. -/
def lanesWhole (lanes : BitVec 8) : Bool := lanes = 1 || lanes = 3 || lanes = 15 || lanes = 255

/-- LINK_LOOP (R337, R338): from stream 0 the completion goes first and the loop starts 100 µs later.
(DEDUCED, log 109) -/
def State.linkLoopCmd (s : State) (rq : Req) (mode pattern lanes time : Nat) : State :=
  let m : BitVec 8 := BitVec.ofNat 8 lanes
  if 3 < mode then s.complete rq .badParam
  else if mode = 0 then
    (match s.link.stage with
      | .loop => s.bringUp false
      | .disabled | .detect | .train | .lock | .exchange | .active | .down => s.setLink (fun l => { l with loop := none })).complete
      rq .ok
  else if 1 < pattern ∨ time = 0 ∨ 65535 < time ∨ 255 < lanes ∨ (pattern = 1 ∧ (mode = 3 ∨ !lanesWhole m)) then
    s.complete rq .badParam
  else if s.link.stage = .disabled then s.complete rq .badState
  else
    let asked (tag : Option (BitVec 6)) : State :=
      s.setLink (fun l => { l with loop := some ⟨mode, pattern, m, time, tag, s.clk, 0, false⟩ })
    match rq.route with
    | .link => ((asked (some rq.tag)).complete rq .ok).loopSent
    | .controlPort => (asked none).loopBegin.complete rq .ok

/-- LINK_LOOP_START (R337). -/
def linkLoopStart (dt : Nat) (s0 : State) : State :=
  let s := s0.elapse dt
  match s.link.loop with
  | some r =>
    if s.link.stage ≠ .loop ∧ s.link.stage ≠ .disabled ∧ r.awaits.isNone ∧ r.startAt ≤ s.clk then s.loopBegin else s
  | none => s

/-- LINK_LOOP_END (R337): a bring-up at DETECT follows. -/
def linkLoopEnd (dt : Nat) (s0 : State) : State :=
  let s := s0.elapse dt
  match s.link.loop with
  | some r => if s.link.stage = .loop ∧ s.link.since + r.timeMs * msNs ≤ s.clk then s.bringUp false else s
  | none => s

/-- LOOP_CHECKER_LOCK (R338): a lane's checker gains or loses lock; bit errors count while it was locked. -/
def loopCheckerLock (dt : Nat) (k : Fin 8) (locked : Bool) (errors : Nat) (s0 : State) : State :=
  let s := s0.elapse dt
  match s.link.loop with
  | some r =>
    if s.link.stage = .loop ∧ r.pattern = 0 ∧ r.lanes.getLsbD k.val then
      let s1 := if (s.link.lanes[k]).prbsLock then s.count (laneCtr Ctr.linkStats_prbsErr0 k) 0 errors else s
      s1.setLane k (fun x => { x with prbsLock := locked })
    else s
  | none => s

/-! ## Status (R339) -/

def pmCode : LinkPm → Nat
  | .awake => 0
  | .quiet => 1
  | .sleep => 2

/-- Code of a width: 1, 2, 4, 8 lanes. -/
def widthCode (w : Nat) : Nat := if w = 8 then 3 else if w = 4 then 2 else if w = 2 then 1 else 0

/-- LINK_STATUS. -/
def State.linkStatus (s : State) : List Nat :=
  let l := s.link
  (linkCode l.stage + 8 * widthCode l.width + 32 * l.rate + 64 * pmCode l.txPm + 256 * pmCode l.rxPm + 1024 * l.failStage
    + 8192 * l.failCause + 131072 * l.failCount + 2097152 * l.polarity.toNat)
    :: l.lanes.toList.map (fun x => x.pre + 16 * x.main + 1024 * x.post + 32768 * x.skew + 8388608 * bitNat x.prbsLock)

end Sys2Proof.Machine
end

