-- ==== Sys2Proof/Machine/StartUp.lean ====
section
/-! DEFINITION. Reset, cold start, firmware images, supervision of supplies, die and crystal (R37, R38, R43, R50, R367 to
R371, R463 to R477). -/

namespace Sys2Proof.Machine

/-! ## Codes -/

/-- CAUSE of START_STATUS (R477). -/
def causeCode : StartCause → Nat
  | .powerOn => 1
  | .resetPin => 2
  | .deviceReset => 3
  | .supply => 4
  | .watchdog => 5
  | .brownout => 6
  | .thermal => 7

/-- RAIL of START_STATUS. -/
def railCode : Option Rail → Nat
  | none => 0
  | some .vcore => 1
  | some .vana => 2
  | some .vser09 => 3
  | some .vser12 => 4
  | some .vddq105 => 5
  | some .vddq05 => 6

def bootCode : Boot → Nat
  | .reset => 0
  | .rom => 1
  | .loading => 2
  | .waitHost => 3
  | .fwInit => 4
  | .ready => 5

/-- A cold start with this cause sets FATAL (R471). -/
def fatalCause : StartCause → Bool
  | .supply | .watchdog | .brownout | .thermal => true
  | .powerOn | .resetPin | .deviceReset => false

/-- A shutdown self-test runs. -/
def State.shutTest (s : State) : Bool :=
  match s.life.test with
  | .shutdown _ => true
  | .none | .block .. => false

/-- Anise firmware runs and the device is not shut down: what happens at balls and timers has its effect.
(DESIGN CHOICE, log 33) -/
def State.runs (s : State) : Bool :=
  s.start.boot = .ready && (s.start.holds = [] : Bool) && !s.life.shutDown && !s.shutTest
    && (match s.power.mode with
        | .active | .standby | .entering | .waking => true
        | .retain | .off => false)

/-- Do an event of the running device; otherwise only time passes. (DESIGN CHOICE, log 33) -/
def whenRuns (dt : Nat) (f : Nat → State → State) (s : State) : State :=
  if s.runs then f dt s else s.elapse dt

/-! ## Reset (R43, R467) -/

/-- The blocks that the always-on island holds (R431): POWER_CFG, and the counters of SAFETY_STATS and POWER_STATS. -/
def aonCfg (cfg : Tab Nat) : Tab Nat := cfg.filter (fun e => keyBlock e.1 = 0x53)
def aonStats (stats : Tab Nat) : Tab Nat := stats.filter (fun e => e.1 / 4194304 = 0x08 ∨ e.1 / 4194304 = 0x55)

/-- Everything but the always-on island, the flash and the banks' modes takes its reset value. -/
def State.volatileReset (s : State) : State :=
  { State.reset with
    pending := s.pending, clk := s.clk, free := s.free, cfg := aonCfg s.cfg, stats := aonStats s.stats,
    banks := s.banks, flash := s.flash,
    power := { PowerSt.reset with lastWake := s.power.lastWake, brownout := s.power.brownout,
                                  brownoutAt := s.power.brownoutAt, retain := s.power.retain,
                                  railsOut := s.power.railsOut, lostSlots := s.power.lostSlots },
    life := { s.life with setting := none, challenge := none, test := .none, shutNext := none, shutDown := false },
    start := { StartSt.reset with
      holds := s.start.holds, nextCause := s.start.nextCause, nextRail := s.start.nextRail, cause := s.start.cause,
      rail := s.start.rail, wdogStarts := s.start.wdogStarts, starts := s.start.starts, startMs := s.start.startMs,
      calMs := s.start.calMs, heldAt := s.start.heldAt, tripAt := s.start.tripAt,
      vaonAt := s.start.vaonAt, dieAt := s.start.dieAt, xtalAt := s.start.xtalAt, dieHot := s.start.dieHot, dieBelow100 := s.start.dieBelow100,
      xtalFault := s.start.xtalFault, xtalBad := s.start.xtalBad, xtalGood := s.start.xtalGood } }

/-- The two image slots of the flash (R369). -/
def imageSlotBase (slot : Nat) : Nat := 0x400000 * slot
def imageSlotBytes : Nat := 0x400000

/-- The slot that did not boot; slot 0 after a download (DEDUCED, log 27). -/
def State.idleSlot (s : State) : Nat :=
  match s.start.image with
  | some i => match i.slot with
    | some 0 => 1
    | some _ => 0
    | none => 0
  | none => 0

/-- The idle slot is erased; the flash is out of reach while bank CB is in no mode (R37). (DEDUCED, log 117) -/
def State.eraseSlot (s : State) : State :=
  if s.bankUp .cb then { s with flash := memClear s.flash (imageSlotBase s.idleSlot) imageSlotBytes } else s

/-- A FW_FLASH_WRITE cut short by a reset leaves a slot that fails R368: one without an image (R468). (DEDUCED, log 117) -/
def State.cutWrite (s : State) : State := if s.start.flashWrite.isSome then s.eraseSlot else s

/-- A reset is asserted: its cause counts where none holds yet (R466); head-port outputs and all volatile state take
their reset values (R43, R467). -/
def State.assertReset (s0 : State) (hold : ResetHold) (cause : StartCause) (rail : Option Rail) : State :=
  let s := s0.cutWrite
  let first := decide (s.start.holds = [])
  let s1 := s.setStart (fun t =>
    { t with holds := if t.holds.contains hold then t.holds else t.holds ++ [hold],
             nextCause := if first then cause else t.nextCause, nextRail := if first then rail else t.nextRail,
             heldAt := s.clk })
  if first then s1.volatileReset else s1

/-- The device has power on VAON. -/
def State.powered (s : State) : Bool := s.power.mode ≠ .off

/-- RESET_ASSERT (R43, R465). RESET_N has no pull, and R37 does not say what it reads while VIO_A is absent or in fault: the row
acts whatever bank AB holds (DESIGN CHOICE, log 203). -/
def resetAssert (dt : Nat) (s0 : State) : State :=
  let s := s0.elapse dt
  if s.powered && !s.start.holds.contains .pin then s.assertReset .pin .resetPin none else s

/-- The supplies are supervised: outside RETAIN, and in a wake once they have been good (R439, R466). -/
def State.supervised (s : State) : Bool :=
  match s.power.mode with
  | .active | .standby | .entering => true
  | .waking => match s.power.retain with
    | some r => r.suppliesGood
    | none => true
  | .retain | .off => false

/-- SUPPLY_TRIP (R466); while the supply holds the reset, another trip starts its 1.0 ms again. In RETAIN, where no rail is
supervised, the rail is taken as removed (R42, R51). (DESIGN CHOICE, log 204) -/
def supplyTrip (dt : Nat) (rail : Rail) (s0 : State) : State :=
  let s := s0.elapse dt
  if s.power.mode = .retain then s.setPower (fun w => { w with railsOut := rail :: w.railsOut.filter (· ≠ rail) })
  else if !s.supervised then s
  else
    let s1 := s.setStart (fun t => { t with tripAt := s.clk })
    if s.start.holds.contains .supply then s1 else s1.assertReset .supply .supply (some rail)

/-- SUPPLY_RELEASE: every rail has stayed above 95 % for 1.0 ms (R466). (DEDUCED, log 118) -/
def supplyRelease (dt : Nat) (s0 : State) : State :=
  let s := s0.elapse dt
  if s.clk < s.start.tripAt + msNs then s
  else (s.setStart (fun t => { t with holds := t.holds.filter (· ≠ .supply) })).setPower (fun w => { w with railsOut := [] })

/-- DEVICE_RESET completes at once; HRDY falls and the internal reset follows (R344, R468). -/
def State.deviceResetCmd (s : State) (rq : Req) : State :=
  (s.complete rq .ok).setStart (fun t => { t with resetPending := some s.clk })

/-- DEVICE_RESET_TRIGGER (R468). -/
def deviceResetTrigger (dt : Nat) (s0 : State) : State :=
  let s := s0.elapse dt
  if s.powered && s.start.resetPending.isSome then s.assertReset .internal .deviceReset none else s

/-- Firmware or the image that is starting holds the watchdog (R472). (DEDUCED, log 153; DESIGN CHOICE, log 161) -/
def State.watched (s : State) : Bool :=
  s.powered && !s.life.shutDown && !s.shutTest
    && (match s.start.boot with
        | .fwInit | .ready => true
        | .reset | .rom | .loading | .waitHost => false)

/-- WATCHDOG_EXPIRY (R472). (DEDUCED, log 153; DESIGN CHOICE, log 161) -/
def watchdogExpiry (dt : Nat) (s0 : State) : State :=
  let s := s0.elapse dt
  if s.watched then s.assertReset .internal .watchdog none else s

/-! ## Images (R367, R368) -/

/-- What a check of an image finds: a BOOT_ERR with the status of a command that brought the image (R310, R370, R371), or the
image. -/
inductive ImageCheck where
  | error (code : Nat) (status : Status)
  | good (image : RunningImage)
deriving DecidableEq, Repr

/-- Bytes of an image by its header. -/
def imageBytes (head : List Byte) : Nat := 128 + u32At head 0x10 + (if u16At head 6 % 2 = 1 then 128 else 0)

/-- MAGIC, FORMAT, reserved fields and ENTRY are as they should be (R367). -/
def imageHeadOk (h : List Byte) : Bool :=
  u32At h 0 = 0x53494E41 && u16At h 4 = 1 && u16At h 6 < 2 && u16At h 0x0A = 0 && (bytesAt h 0x1C 100).all (· = 0)
    && u32At h 0x18 % 4 = 0 && u32At h 0x18 < u32At h 0x14

/-- The check of R368 on an image at hand: it holds at least the bytes its header names, `room` at most. -/
def imageCheck (life : LifeCycle) (keyHash : List Byte) (room : Nat) (slot : Option Nat) (img : List Byte) : ImageCheck :=
  let h := bytesAt img 0 128
  let n := u32At h 0x10
  let signed := decide (u16At h 6 % 2 = 1)
  let must := match life with
    | .deployed | .service => true
    | .blank | .factory | .retired => false
  let body := bytesAt img 128 n
  let key := bytesAt img (128 + n) 64
  let sig := bytesAt img (192 + n) 64
  if !imageHeadOk h then .error 2 .badImage
  else if 2097152 < u32At h 0x14 ∨ room < imageBytes h then .error 3 .badImage
  else if must && !signed then .error 4 .badSignature
  else
    match (if signed then sigCheck keyHash key sig (bytesAt img 0 (128 + n)) else .pass) with
    | .keyHash => .error 5 .badSignature
    | .signature => .error 6 .badSignature
    | .pass =>
      let d := decompress 2097152 body
      if d.status ≠ .ok then .error 7 d.status
      else if d.bytes.length ≠ u32At h 0x14 then .error 7 .badData
      else .good ⟨u16At h 8, u32At h 0x0C, signed, if signed then key else [], slot⟩

def State.flashHead (s : State) (slot : Nat) : List Byte := memReadAll flashBlank s.flash (imageSlotBase slot) 128

/-- Check a slot of the flash; a header of all 0xFF is no response (R369, R475). -/
def State.slotCheck (s : State) (responds : Bool) (slot : Nat) : ImageCheck :=
  let h := s.flashHead slot
  if !responds || h.all (· = 0xFF) then .error 1 .badImage
  else
    imageCheck s.life.state s.life.keyHash imageSlotBytes (some slot)
      (memReadAll flashBlank s.flash (imageSlotBase slot) (min imageSlotBytes (imageBytes h)))

/-- The first slot that passes, in order of descending SEQUENCE; else the error of the last one tried (R369). -/
def State.flashCheck (s : State) (responds : Bool) : ImageCheck :=
  let a := u32At (s.flashHead 0) 0x0C
  let b := u32At (s.flashHead 1) 0x0C
  let order := if a < b then (1, 0) else (0, 1)
  match s.slotCheck responds order.1 with
  | .good i => .good i
  | .error .. => s.slotCheck responds order.2

/-! ## Cold start (R469 to R472) -/

/-- FATAL is set when BOOT reaches WAIT_HOST or READY (R471). -/
def State.fatalNow (s : State) : State :=
  if (s.power.mode ≠ .waking && fatalCause s.start.cause) || s.start.bootErr = 8 || s.start.bootErr = 9 then s.setIrq irqFatal
  else s

/-- BOOT becomes WAIT_HOST with a BOOT_ERR. -/
def State.waitHost (s : State) (err : Nat) : State :=
  ((s.setStart (fun t => { t with boot := .waitHost, bootErr := err, load := .none })).setIrq irqBootDone).fatalNow

/-- The boot ROM has an image to load: from flash, or it waits for the host (R50, R369).
(DEDUCED, log 96; DESIGN CHOICE, log 162) -/
def State.bootLoad (s : State) : State :=
  match s.start.bootSrc with
  | .host => s.waitHost 0
  | .flash => s.setStart (fun t => { t with boot := .loading, load := .flash })

/-- The wake report of a cold start (R477): COLD_BROWNOUT with what the RETAIN had, or COLD_RESET.
(DEDUCED, log 113) -/
def State.coldReport (s : State) : WakeReport :=
  match s.start.nextCause with
  | .powerOn => WakeReport.none
  | .brownout =>
    match s.power.retain with
    | some r => { r.report with kind := 4, cause := 0, causes := 0, fastResume := false, brownout := true, resumed := false,
                                banksReq := r.banks, banksFailed := r.banks }
    | none => { WakeReport.none with kind := 4, brownout := true }
  | .resetPin | .deviceReset | .supply | .watchdog | .thermal => { WakeReport.none with kind := 5 }

/-- Watchdog cold starts within the last 600 s. -/
def State.wdogCount (s : State) : Nat := (s.start.wdogStarts.filter (fun t => s.clk < t + 600 * secNs)).length

/-- A memory that firmware cannot do without is beyond repair (R444). -/
def State.memoryBad (s : State) : Bool := s.life.unrepaired.any (fun u => u.1 = 4 || u.1 = 7 || u.1 = 8 || u.1 = 0x0A)

/-- Entries of a store and those of a map that it does not hold yet (R451). -/
def addEntries (store new : List RepairEntry) : List RepairEntry := store ++ new.filter (fun e => !store.contains e)

/-- COLD_START (R50, R451, R452, R469): every hold has been released; the boot ROM tests the mailbox memory. The pull-down of
BOOT_SRC holds it low while its bank is in no mode (R37, R49).
(DEDUCED, log 34; DEDUCED, log 116; DESIGN CHOICE, log 162) -/
def coldStart (dt : Nat) (src : BootSrc) (mailboxGood : Bool) (s0 : State) : State :=
  let s := s0.elapse dt
  let held := s.start.holds.any (fun h => match h with
    | .supply | .thermal => true
    | .internal => decide (s.clk < s.start.heldAt + msNs)
    | .pin => false)
  if s.start.boot ≠ .reset ∨ s.life.shutDown ∨ s.power.mode ≠ .active ∨ held ∨ s.power.railsOut ≠ [] then s
  else
    let report := s.coldReport
    let s1 := s.setStart (fun t =>
      { t with holds := [], bootSrc := if s.bankUp .cb then src else .flash, bootErr := 0, cause := t.nextCause, rail := t.nextRail,
               starts := (t.starts + 1) % 4294967296, startMs := 0, calMs := 0, releasedAt := s.clk, readyAt := none,
               nextCause := .powerOn, nextRail := none,
               wdogStarts := (t.wdogStarts.filter (fun x => s.clk < x + 600 * secNs))
                 ++ (if t.nextCause = .watchdog then [s.clk] else []) })
    let s2 := s1.setLife (fun l =>
      { l with state := if l.state = .service then .deployed else l.state, failures := 0, challenge := none,
               blockRecords := [], rawBitmap := [], applied := addEntries l.otpMap l.aonMap, startsSince := (l.startsSince + 1) % 4294967296,
               unrepaired := (l.unrepaired.filter (fun u => u.1 ≠ 8)) ++ (if mailboxGood then [] else [(8, 0)]) })
    let s3 := (s2.setPower (fun w => { w with lastWake := report, retain := none })).headFilters.refBegins
    if s3.life.state = .retired then s3.waitHost 0
    else if s3.memoryBad then s3.waitHost 8
    else if 3 ≤ s3.wdogCount ∧ s3.start.cause = .watchdog then s3.waitHost 9
    else s3.bootLoad

/-- An image has passed: firmware starts. (DEDUCED, log 96) -/
def State.imageStarts (s : State) (i : RunningImage) : State :=
  s.setStart (fun t => { t with boot := .fwInit, bootErr := 0, load := .none, image := some i })

/-- BOOT_IMAGE_CHECKED (R368 to R370). (DEDUCED, log 34) -/
def bootImageChecked (dt : Nat) (responds : Bool) (s0 : State) : State :=
  let s := s0.elapse dt
  match s.start.load with
  | .none => s
  | .flash =>
    match s.flashCheck (responds && s.bankUp .cb) with
    | .good i => s.imageStarts i
    | .error e _ => s.waitHost e
  | .download rq n =>
    let img := s.staged 0 n
    let checked := if n < 128 ∨ n ≠ imageBytes img then
        (if imageHeadOk (bytesAt img 0 128) then ImageCheck.error 3 .badImage else .error 2 .badImage)
      else imageCheck s.life.state s.life.keyHash n none img
    match checked with
    | .good i => (s.complete rq .ok).imageStarts i
    | .error e st => (s.setStart (fun t => { t with load := .none, bootErr := e })).complete rq st

/-- FW_DOWNLOAD (R370, R444, R459, R471): in WAIT_HOST only. -/
def State.fwDownloadCmd (s : State) (rq : Req) (bytes : Nat) : State :=
  if s.start.boot ≠ .waitHost ∨ s.start.bootErr = 8 ∨ s.life.state = .retired then s.complete rq .badState
  else
    match s.start.load with
    | .download .. => s.complete rq .busy
    | .none | .flash =>
      if imageSlotBytes < bytes then s.complete rq .badParam
      else s.setStart (fun t => { t with load := .download rq bytes })

/-- The timeout of FW_DOWNLOAD. -/
def State.downloadTimeout (s : State) : State :=
  match s.start.load with
  | .download .. => s.setStart (fun t => { t with load := .none })
  | .none | .flash => s

/-! ## Writing the flash (R371) -/

/-- FW_FLASH_WRITE (R371): the part is taken at acceptance. (DEDUCED, log 87) -/
def State.fwFlashWriteCmd (s : State) (rq : Req) (off bytes : Nat) (final : Bool) : State :=
  if s.start.flashWrite.isSome then s.complete rq .busy
  else if bytes = 0 ∨ stagingMapped < bytes ∨ imageSlotBytes < off + bytes ∨ (off ≠ 0 ∧ off ≠ s.start.flashNext) then
    s.complete rq .badParam
  else s.setStart (fun t => { t with flashWrite := some ⟨rq, off, s.staged 0 bytes, final⟩ })

/-- Write bytes into the boot flash. -/
def State.flashPut (s : State) (addr : Nat) (bs : List Byte) : State :=
  { s with flash := memWriteAll flashBlank s.flash addr bs }

/-- FLASH_WRITE_DONE (R371); no write ends while the flash is out of reach (R37). (DEDUCED, log 117) -/
def flashWriteDone (dt : Nat) (s0 : State) : State :=
  let s := s0.elapse dt
  match s.start.flashWrite with
  | none => s
  | some w =>
    if !s.bankUp .cb then s
    else
    let s1 := if w.offset = 0 then s.eraseSlot else s
    let s2 := (s1.flashPut (imageSlotBase s.idleSlot + w.offset) w.data).setStart
      (fun t => { t with flashWrite := none, flashNext := if w.final then 0 else w.offset + w.data.length })
    if !w.final then s2.complete w.req .ok
    else
      let old := match s.start.image with
        | some i => i.sequence
        | none => 0
      match s2.slotCheck true s.idleSlot with
      | .good i => if old < i.sequence then s2.complete w.req .ok else s2.eraseSlot.complete w.req .badImage
      | .error _ st => s2.eraseSlot.complete w.req st

/-- The timeout of FW_FLASH_WRITE: nothing of the image is left (R356). (DEDUCED, log 117) -/
def State.flashTimeout (s : State) : State :=
  match s.start.flashWrite with
  | some _ => s.eraseSlot.setStart (fun t => { t with flashWrite := none, flashNext := 0 })
  | none => s

/-! ## Die, crystal and bank supplies (R37, R38, R473, R474) -/

/-- What comes at most once in some time is due again. -/
def dueAgain (last : Option Nat) (ns now : Nat) : Bool := last.all (fun t => decide (t + ns ≤ now))

/-- DIE_TEMP_SAMPLE (R473): the highest of the nine sensors, 0.1 °C, no sooner than 1 ms after the sample before.
(DEDUCED, log 97) -/
def dieTempSample (dt : Nat) (t : Int) (s0 : State) : State :=
  let u := s0.elapse dt
  let s := u.setStart (fun x => { x with dieAt := some u.clk })
  let awake := match s.power.mode with
    | .active | .standby | .entering | .waking => true
    | .retain | .off => false
  if !awake || !dueAgain u.start.dieAt msNs u.clk then u
  else if 1250 < t ∧ !s.start.holds.contains .thermal then s.assertReset .thermal .thermal none
  else
    let hot := if 1100 < t then s.start.dieAbove110 + 1 else 0
    let cool := if t ≤ 1000 then s.start.dieBelow100 + 1 else 0
    let s1 := s.setStart (fun x =>
      { x with dieAbove110 := hot, dieBelow100 := cool,
               holds := if t ≤ 1000 then x.holds.filter (· ≠ .thermal) else x.holds })
    if 10 ≤ hot ∧ !s.start.dieHot ∧ s.runs then
      (forPorts allPorts State.portStop (s1.setStart (fun x => { x with dieHot := true }))).event evDieHot noUnit noUnit []
    else if 10000 ≤ cool ∧ s.start.dieHot then
      (s1.setStart (fun x => { x with dieHot := false })).event evDieClear noUnit noUnit []
    else s1

/-- XTAL_CHECK (R474): the crystal is measured once a second while the reference is LOCKED; a crystal without an edge for
1 ms is at fault at any time later than 1 s after VAON has risen. -/
def xtalCheck (dt : Nat) (x : XtalReading) (s0 : State) : State :=
  let s := s0.elapse dt
  let fault (u : State) : State :=
    let v := u.setStart (fun t => { t with xtalFault := true, xtalGood := 0 })
    if u.start.xtalFault then v else v.event evXtalFault noUnit noUnit []
  match x with
  | .noEdge => if s.runs && s.start.vaonAt + secNs ≤ s.clk then fault s else s
  | .ppm e =>
    if !s.runs || s.time.refState ≠ .locked || !dueAgain s.start.xtalAt secNs s.clk then s
    else if e < -500 ∨ 500 < e then
      let n := s.start.xtalBad + 1
      let s1 := s.setStart (fun t => { t with xtalAt := some s.clk, xtalBad := n, xtalGood := 0 })
      if 2 ≤ n then fault s1 else s1
    else
      let n := s.start.xtalGood + 1
      s.setStart (fun t => { t with xtalAt := some s.clk, xtalBad := 0, xtalGood := n, xtalFault := t.xtalFault && decide (n < 10) })

/-- The mode that a sensed supply selects, mV (R37). (DESIGN CHOICE, log 6) -/
def bankModeOf (mv : Nat) : BankMode :=
  if 1620 ≤ mv ∧ mv ≤ 1980 then .v18 else if 2970 ≤ mv ∧ mv ≤ 3630 then .v33 else if mv < 500 then .absent else .fault

def State.setBank (s : State) (b : IoBank) (m : BankMode) : State := { s with banks := vmod s.banks (bankIx b) (fun _ => m) }

/-- BANK_SUPPLY_RISE (R37): the mode holds until the supply falls below 0.5 V; the filters of a head port begin (R58). -/
def bankSupplyRise (dt : Nat) (b : IoBank) (mv : Nat) (s0 : State) : State :=
  let s := s0.elapse dt
  if s.banks[bankIx b] ≠ .absent then s
  else
    let s1 := s.setBank b (bankModeOf mv)
    match b with
    | .hb p => if s1.bankOk p then s1.filtersBegin p else s1
    | .tb => s1.refBegins
    | .cb | .ab => s1

/-- A bank without a mode: the inputs of TB read as their pull values, an OCXO that is not warm (R37, R52).
(DESIGN CHOICE, log 167) -/
def State.bankInputs (s : State) (b : IoBank) : State :=
  match b with
  | .tb => s.ocxoLevel false
  | .hb _ | .cb | .ab => s

/-- BANK_SUPPLY_FALL (R37, R38): the inputs of a bank read as their pull values from then on. The fall of a head bank counts as
an opened interlock where R493 has one accepted, and as no head; it is no change of PRES_N or ILK that HEAD_STATS counts.
(DESIGN CHOICE, log 167) -/
def bankSupplyFall (dt : Nat) (b : IoBank) (s0 : State) : State :=
  let s := s0.elapse dt
  if s.banks[bankIx b] = .absent then s
  else
    let s1 := (s.setBank b .absent).bankInputs b
    match b with
    | .hb p =>
      if !s.runs || !s.bankOk p then s1
      else
        let s2 := (s1.portFault p causeInterlock).setHead p (fun h => { h with ilkClosed := false })
        if (s.port p).head.present then s2.loseHead p else s2
    | .cb | .ab | .tb => s1

/-! ## The start-up run (R418, R470) -/

/-- The conditions of R470 hold. -/
def State.startCalReady (s : State) : Bool :=
  allPorts.all (fun p => (s.port p).head.idState ≠ .reading) && s.time.refState = .locked
    && (!s.flag Fld.timeCfg_ocxoUse 0 || s.time.ocxoReady)

/-- START_UP_CAL_BEGIN (R470): once per cold start, on every port with an accepted record. -/
def startUpCalBegin (dt : Nat) (s0 : State) : State :=
  let s := s0.elapse dt
  match s.start.readyAt with
  | none => s
  | some t =>
    if !s.runs || s.power.mode ≠ .active || s.start.startCalBegun || s.cal.run.isSome
        || !(s.startCalReady || t + 600 * secNs ≤ s.clk) then s
    else
      let s1 := s.setStart (fun x => { x with startCalBegun := true })
      let ports := portMask (fun p => (s.record p).isSome)
      s1.runStart ports (BitVec.ofNat 4 (s.fld Fld.calCfg_startSteps 0)) none false false true

/-! ## Status (R477) -/

/-- START_STATUS. (DEDUCED, log 93) -/
def State.startStatus (s : State) : List Nat :=
  [causeCode s.start.cause + 16 * railCode s.start.rail + 256 * min 3 s.wdogCount + 1024 * bitNat s.start.xtalFault
     + 2048 * bitNat s.start.dieHot, s.start.starts, s.start.startMs, s.start.calMs]

end Sys2Proof.Machine
end

