-- ==== Sys2Proof/Machine/Life.lean ====
section
/-! DEFINITION. Self-test, repair, life cycle and the test port (R444 to R462). -/

namespace Sys2Proof.Machine

def lifeCode : LifeCycle → Nat
  | .blank => 0
  | .factory => 1
  | .deployed => 2
  | .service => 3
  | .retired => 4

def lifeOf (n : Nat) : Option LifeCycle :=
  if n = 0 then some .blank else if n = 1 then some .factory else if n = 2 then some .deployed
  else if n = 3 then some .service else if n = 4 then some .retired else none

/-- BLANK, FACTORY and SERVICE allow per-block tests, raw readout, SKEW writes and COMP_EN 0 (R457). -/
def openLife : LifeCycle → Bool
  | .blank | .factory | .service => true
  | .deployed | .retired => false

/-- A per-block test runs. -/
def State.blockTest (s : State) : Bool :=
  match s.life.test with
  | .block .. => true
  | .none | .shutdown _ => false

/-! ## The shutdown self-test (R446 to R450) -/

/-- Housekeeping, RTD pulses and the link stop; capture memory goes to self-refresh (R447). -/
def State.quieten (s : State) : State :=
  let s1 := if s.link.stage = .active then (s.count Ctr.linkStats_failures 0 1).linkLeaves .disabled else s
  let s2 := (s1.setLink (fun l => { l with stage := .disabled, loop := none, idleSince := none })).setMem
    (fun m => { m with selfRefresh := m.trained })
  let s3 := s2.setHouse (fun h => { h with hk := h.hk.map (fun x => { x with work := [], jobRuns := false, pending := false }) })
  forPorts allPorts (fun p t => t.setRaman p (fun r => { r with pulse := none })) s3

/-- SHUT_DOWN (R449): BOOT reads RESET. -/
def State.shutDownNow (s : State) : State :=
  (s.setLife (fun l => { l with shutDown := true, test := .none })).setStart (fun t => { t with boot := .reset })

/-- The shutdown begins, with its test or without; the outputs take their row of R406. -/
def State.shutBegin (s : State) (since : Nat) (selftest : Bool) : State :=
  let s1 := s.quieten
  (if selftest then s1.setLife (fun l => { l with test := .shutdown since, shutNext := none })
    else (s1.setLife (fun l => { l with shutNext := none })).shutDownNow).outputsEval

/-- A shutdown that waits for its completion on stream 0 begins once it has been sent, the link no longer carries it, or the
5 ms of step 2 are over (R446, R447). (DESIGN CHOICE, log 201) -/
def State.shutGo (s : State) : State :=
  match s.life.shutNext with
  | none => s
  | some (tag, since, selftest) =>
    if !s.linkActive || !s.completionWaits tag || decide (since + 5 * msNs ≤ s.clk) then s.shutBegin since selftest else s

/-- When a command was accepted. -/
def State.acceptedAt (s : State) (rq : Req) : Nat :=
  ((s.mbox.flights.find? (fun f => f.tag = rq.tag)).map (·.acceptedAt)).getD s.clk

/-- SHUTDOWN (R446, R447): only in STANDBY; it completes before the link stops and the test begins. -/
def State.shutdownCmd (s : State) (rq : Req) (flags : Nat) : State :=
  if s.power.mode ≠ .standby ∨ s.power.move.isSome then s.complete rq .badState
  else if s.blockTest then s.complete rq .busy
  else if 1 < flags then s.complete rq .badParam
  else
    match rq.route with
    | .controlPort => (s.complete rq .ok).shutBegin (s.acceptedAt rq) (flags = 1)
    | .link =>
      ((s.complete rq .ok).setLife (fun l => { l with shutNext := some (rq.tag, s.acceptedAt rq, decide (flags = 1)) })).shutGo

/-- A record says that its memory is beyond repair (R444, R453). -/
def beyondRepair (r : FailRecord) : Bool := r.kind = 3 || r.kind = 4

/-- Instances of a memory (R444). -/
def memInstances (memId : Nat) : Nat :=
  if memId = 1 ∨ memId = 2 then 32
  else if memId = 3 ∨ memId = 5 ∨ memId = 9 then 8
  else if memId = 4 then 12
  else if memId = 6 ∨ memId = 7 ∨ memId = 8 ∨ memId = 0x0A then 1
  else 0

/-- A memory whose test is the CRC of a ROM (R444). -/
def romMemory (memId : Nat) : Bool := memId = 9 || memId = 0x0A

/-- The six elements of March C- (R445): the value read, if any, the value written, if any, and whether addresses go up. -/
def marchElements : List (Option Bool × Option Bool × Bool) :=
  [(none, some false, true), (some false, some true, true), (some true, some false, true), (some false, some true, false),
   (some true, some false, false), (some false, none, true)]

/-- A record is one that a test with this pattern can write: a memory of R444; for a ROM its CRC alone, else a word and a bit of
it, and with MARCH_CM the element that failed (R444, R445, R453). (DESIGN CHOICE, log 202) -/
def recordOk (pattern : Nat) (r : FailRecord) : Bool :=
  decide (r.inst < memInstances r.memId)
    && (if romMemory r.memId then r.kind = 4 && r.address = 0
        else
          decide (1 ≤ r.kind) && decide (r.kind ≤ 3) && r.pattern = pattern && decide (r.address % 4 = 0) && decide (r.bit < 32)
          && (if pattern = 0 then decide (1 ≤ r.element) && decide (r.element ≤ marchElements.length)
              else decide (pattern = 1) || r.element = 0))

/-- The shutdown test covers a memory: all but the mailbox memory (R346, R447). -/
def shutdownTests (memId : Nat) : Bool := decide (0 < memInstances memId) && memId ≠ 8

/-- OUTCOME of a test (R453). (DEDUCED, log 122) -/
def outcomeOf (rs : List FailRecord) : Nat := if rs.any beyondRepair then 3 else if rs = [] then 1 else 2

/-- The memories that records leave beyond repair. -/
def badMemories (rs : List FailRecord) : List (Nat × Nat) :=
  ((rs.filter beyondRepair).map (fun r => (r.memId, r.inst))).eraseDups

/-- The least time of a shutdown self-test, ns: the March test ends at 85 ms, and each entry new to the one-time store takes
2 ms (R447, R451). (DEDUCED, log 186) -/
def shutdownTestNs (otp map : List RepairEntry) : Nat :=
  (85 + 2 * min (512 - otp.length) (map.filter (fun e => !otp.contains e)).length) * msNs

/-- SHUTDOWN_SELFTEST_DONE (R447, R451): the maps, the records and the summary of a completed test. -/
def shutdownSelftestDone (dt : Nat) (r : TestResult) (s0 : State) : State :=
  let s := s0.elapse dt
  match s.life.test with
  | .shutdown since =>
    let map := r.repairs.take 512
    let otp := addEntries s.life.otpMap map
    if s.clk < since + shutdownTestNs s.life.otpMap map
        ∨ !(r.records.all (fun x => shutdownTests x.memId && recordOk 0 x)) then s
    else
      (s.setLife (fun l =>
        { l with aonMap := map, otpMap := otp.take 512, otpFull := decide (512 < otp.length), shutRecords := r.records.take 256,
                 setBit := false, outcome := outcomeOf r.records, startsSince := 0,
                 unrepaired := badMemories r.records })).shutDownNow
  | .none | .block .. => s

/-! ## Per-block tests (R454 to R456) -/

/-- Instances of a memory with a per-block test (R444); none for a memory without. -/
def blockInstances (memId : Nat) : Option Nat :=
  if memId = 1 ∨ memId = 2 then some 32
  else if memId = 3 ∨ memId = 5 ∨ memId = 9 then some 8
  else if memId = 6 ∨ memId = 0x0A then some 1
  else none

/-- The block is free for a test (R455). -/
def State.blockFree (s : State) (memId inst : Nat) : Bool :=
  if memId = 1 ∨ memId = 2 then
    let e : EngineId := ⟨inst % 32, by omega⟩
    engineFree (s.engine e) && (!s.engineEnabled e || (s.engine e).mode = .offline)
  else if memId = 3 then
    (s.port ⟨inst % 8, by omega⟩).seq.mode = .stopped && !s.flag Fld.cloveCluster_lendEn inst
  else if memId = 5 then s.capture.mem.trained
  else if memId = 6 then !s.anyEnabled && s.capture.mem.trained
  else true

/-- SELFTEST_RUN (R455, R457). -/
def State.selftestRunCmd (s : State) (rq : Req) (block pattern : Nat) : State :=
  let memId := block / 256
  let inst := block % 256
  let powered := match s.power.mode with
    | .active | .standby => true
    | .entering | .retain | .waking | .off => false
  if !openLife s.life.state || !powered then s.complete rq .badState
  else
    match blockInstances memId with
    | none => s.complete rq .badParam
    | some n =>
      if n ≤ inst ∨ 3 < pattern then s.complete rq .badParam
      else if s.blockTest then s.complete rq .busy
      else if !s.blockFree memId inst then s.complete rq .locked
      else s.setLife (fun l => { l with test := .block rq memId inst pattern s.clk })

/-- Sums in a cleared memory. -/
def clearAcc (a : RamanAcc) : RamanAcc :=
  { a with stk := a.stk.map (fun _ => 0), ast := a.ast.map (fun _ => 0), sat := a.sat.map (fun _ => false) }

/-- The cluster SRAM of a port is cleared: the rows of its queue, the states of its columns and its Raman sums (R178, R202,
R203, R455). (DEDUCED, log 186) -/
def State.clearSram (s : State) (p : Port) : State :=
  let clearBlock (b : Block) : Block :=
    match b.mode with
    | .ready => { b with phase := b.phase.map (fun _ => 0), quality := b.quality.map (fun _ => 0) }
    | .taken _ | .committed _ | .gap _ => b
  (s.setQueue p (fun q =>
    { q with samples := q.samples.map (fun x => { x with phase := 0, quality := 0 }), blocks := q.blocks.map clearBlock,
             state := q.state.map (fun x => (x.1, x.2.map (fun _ => 0))) })).setRaman p (fun r =>
    { r with period := r.period.map clearAcc, carried := r.carried.map clearAcc,
             conv := r.conv.map (fun c => { c with acc := clearAcc c.acc }) })

/-- The contents that a test leaves: an engine's memories are reloaded from the loaded programs, a cluster SRAM is cleared
(R455). -/
def State.reloadBlock (s : State) (memId inst : Nat) : State :=
  if memId = 1 ∨ memId = 2 then
    s.setEngine ⟨inst % 32, by omega⟩ (fun x =>
      { x with pmem := programMemory s.clove.programs, holds := s.clove.programs.map (·.1), dmem := [], lastProgram := none })
  else if memId = 3 then s.clearSram ⟨inst % 8, by omega⟩
  else s

/-- SELFTEST_BLOCK_DONE (R453, R455, R462); the RETENTION pattern pauses for 100 ms (R445). (DEDUCED, log 122) -/
def selftestBlockDone (dt : Nat) (r : TestResult) (s0 : State) : State :=
  let s := s0.elapse dt
  match s.life.test with
  | .none | .shutdown _ => s
  | .block rq memId inst pattern since =>
    if (pattern = 3 ∧ s.clk < since + 100 * msNs)
        ∨ !(r.records.all (fun x => x.memId = memId && x.inst = inst && recordOk pattern x)) then s
    else
      let bad := r.records.any beyondRepair
      let unrep := (r.records.filter (fun x => x.kind = 3)).length
      let others := s.life.unrepaired.filter (fun u => u ≠ (memId, inst))
      let s1 := (s.setLife (fun l =>
        { l with test := .none, blockRecords := r.records.take 256, rawBitmap := r.bitmap, setBit := true,
                 outcome := outcomeOf r.records, aonMap := (addEntries l.aonMap r.repairs).take 512,
                 applied := addEntries l.applied r.repairs,
                 unrepaired := if bad then others ++ [(memId, inst)] else others })).reloadBlock memId inst
      let s2 := if bad ∧ (memId = 1 ∨ memId = 2) then
          s1.setEngine ⟨inst % 32, by omega⟩ (fun x => { x with mode := .offline })
        else if bad ∧ memId = 6 then s1.zonesLost else s1
      (s2.event evSelftestDone noUnit noUnit [memId, inst, unrep]).completeResult rq .ok
        (leBytes 4 (min 256 r.records.length) ++ leBytes 4 unrep ++ leBytes 4 (divRound (s.clk - since) msNs))

/-- A per-block test stops early: the contents come back, nothing else is left of it. -/
def State.stopBlockTest (s : State) : State :=
  match s.life.test with
  | .block _ memId inst _ _ =>
    (s.setLife (fun l => { l with test := .none, outcome := 4, setBit := true })).reloadBlock memId inst
  | .none | .shutdown _ => s

/-- ABORT_SELFTEST (R448, R449, R456). (DEDUCED, log 115) -/
def State.abortSelftestCmd (s : State) (rq : Req) : State :=
  match s.life.test with
  | .shutdown _ => ((s.setLife (fun l => { l with outcome := 4 })).complete rq .ok).shutDownNow
  | .block test .. => (s.stopBlockTest.complete test .aborted).complete rq .ok
  | .none => s.complete rq .badState

/-! ## Results (R453, R454) -/

/-- A failure record, 16 bytes. -/
def failRecord (r : FailRecord) : List Byte :=
  leBytes 1 r.memId ++ leBytes 1 r.inst ++ leBytes 1 r.kind ++ leBytes 1 r.pattern ++ leBytes 4 r.address ++ leBytes 1 r.bit
    ++ leBytes 1 r.element ++ leBytes 2 r.block ++ leBytes 4 r.fails

/-- The 12-byte summary. -/
def State.testSummary (s : State) : List Byte :=
  let l := s.life
  let rs := if l.setBit then l.blockRecords else l.shutRecords
  leBytes 1 l.outcome ++ leBytes 1 (bitNat l.otpFull + 2 * bitNat l.setBit) ++ leBytes 2 rs.length
    ++ leBytes 2 l.otpMap.length ++ leBytes 2 (rs.filter (fun r => r.kind = 3)).length ++ leBytes 4 l.startsSince

/-- SELFTEST_RESULT (R453, R454). (DEDUCED, log 122) -/
def State.selftestResultCmd (s : State) (rq : Req) (index : Nat) : State :=
  let l := s.life
  let some14 (rs : List FailRecord) (i : Nat) : State :=
    if rs.length ≤ i then s.complete rq .badParam
    else s.completeWith rq .ok noFlags [] (((rs.drop i).take 14).flatMap failRecord)
  if l.state = .retired then s.complete rq .badState
  else if index = 0 then s.completeResult rq .ok s.testSummary
  else if index ≤ 256 then some14 l.shutRecords (index - 1)
  else if 0x80000000 ≤ index then
    if !openLife l.state then s.complete rq .badState
    else
      let k := index - 0x80000000
      if l.rawBitmap.length ≤ 224 * k then s.complete rq .badParam
      else s.completeWith rq .ok noFlags [] (bytesAt l.rawBitmap (224 * k) 224)
  else if 0x40000001 ≤ index ∧ index ≤ 0x40000100 then some14 l.blockRecords (index - 0x40000001)
  else s.complete rq .badParam

/-! ## SERVICE (R461, R462) -/

/-- CHIP_ID (R343). -/
def chipId : Nat := 0x1086404C

/-- The device serial (R358): UX, eleven digits and three bytes of 0. (DESIGN CHOICE, log 10) -/
def deviceSerial : List Byte :=
  [0x55, 0x58] ++ (List.range 11).map (fun i => BitVec.ofNat 8 (0x30 + (Config.serialDigit i).val)) ++ zeros 3

/-- SERVICE_CHALLENGE (R462): 32 random bytes, which are free values (DESIGN CHOICE, log 3). -/
def State.serviceChallengeCmd (s : State) (rq : Req) : State :=
  if s.life.state ≠ .deployed then s.complete rq .badState
  else if 5 ≤ s.life.failures then s.complete rq .denied
  else
    let c := freeBytes 32 s.free
    (({ s with free := s.free + 32 } : State).setLife (fun l => { l with challenge := some (c, s.clk) })).completeWith rq .ok
      noFlags [] c

/-- A response answers the challenge: in time, and by the signing key (R461, R462). -/
def State.responseGood (s : State) (sig : List Byte) : Bool :=
  match s.life.challenge, s.start.image with
  | some (c, t), some i =>
    s.life.state = .deployed && decide (s.clk ≤ t + 60 * secNs)
      && sigCheck s.life.keyHash i.pubkey (bytesAt sig 0 64) (c ++ leBytes 4 chipId ++ deviceSerial) = .pass
  | _, _ => false

/-- SERVICE_RESPONSE (R462): a challenge serves one response. -/
def State.serviceResponseCmd (s : State) (rq : Req) (sig : List Byte) : State :=
  if s.responseGood sig then
    ((s.setLife (fun l => { l with state := .service, challenge := none })).event evLifecycle noUnit noUnit
      [lifeCode .service]).complete rq .ok
  else (s.setLife (fun l => { l with challenge := none, failures := l.failures + 1 })).complete rq .denied

/-! ## Life-cycle moves (R459, R460) -/

/-- A port runs with COMP_EN 0 on an emitter. -/
def State.uncompensated (s : State) : Bool :=
  allPorts.any (fun p => portEnabled (s.port p).seq && allEmitters.any (fun e => !s.flag (compEnFld e) p.val))

/-- LIFECYCLE_SET (R456, R459, R460). -/
def State.lifecycleSetCmd (s : State) (rq : Req) (target : Nat) : State :=
  let key := s.staged 0 64
  let begin (u : State) (t : LifeCycle) (hash : List Byte) : State := u.setLife (fun l => { l with setting := some (rq, t, hash) })
  if s.blockTest || s.life.setting.isSome then s.complete rq .busy
  else
    match s.life.state, lifeOf target with
    | .blank, some .factory =>
      if onP256 (beNat (key.take 32)) (beNat (key.drop 32)) then begin s .factory (sha256 key) else s.complete rq .badParam
    | .factory, some .deployed =>
      match s.start.image with
      | some i =>
        if !i.signed then s.complete rq .badSignature
        else if s.uncompensated then s.complete rq .locked
        else begin s .deployed s.life.keyHash
      | none => s.complete rq .badSignature
    | .service, some .deployed => if s.uncompensated then s.complete rq .locked else begin s .deployed s.life.keyHash
    | .factory, some .retired | .service, some .retired =>
      begin (forPorts allPorts State.portStop s) .retired s.life.keyHash
    | _, _ => s.complete rq .badState

/-- A program that DEPLOYED does not keep (R216). -/
def unsignedProgram (e : Nat × Program) : Bool := decide (8 ≤ e.1) && !e.2.signed

/-- A load of an unsigned program in progress ends as R215 has it in DEPLOYED. (DEDUCED, log 138) -/
def State.loadUnsigned (s : State) : State :=
  match s.clove.load with
  | some (rq, _, prog, _) => if prog.signed then s else (s.setClove (fun c => { c with load := none })).complete rq .badImage
  | none => s

/-- COMP_EN is 1 on every emitter (R460). -/
def State.compensate (s : State) : State :=
  forPorts allPorts (fun p t => allEmitters.foldl (fun u e => u.setFld (compEnFld e) p.val 1) t) s

/-- Entry to DEPLOYED: unsigned programs are unloaded, and the ports that name one stop (R216, R460). -/
def State.enterDeployed (s0 : State) : State :=
  let gone := (s0.clove.programs.filter unsignedProgram).map (·.1)
  let s := forPorts (allPorts.filter (fun p => gone.contains (s0.fld Fld.clovePort_program p.val))) State.portStop s0.loadUnsigned
  let s1 := (s.setClove (fun c => { c with programs := c.programs.filter (fun e => !unsignedProgram e) })).relayEngines
  s1.compensate.setLife (fun l => { l with blockRecords := [], rawBitmap := [] })

/-- Nothing of a port is still lit or in flight. -/
def State.portDark (s : State) (p : Port) : Bool :=
  let q := (s.port p).seq
  !portEnabled q && !q.draining && !s.ramping p && !q.frames.any (fun f => s.tb < f.stop)

/-- LIFECYCLE_PROGRAMMED (R459, R460, R462): RETIRED is programmed once the ports have stopped, and a cold start follows.
(DEDUCED, log 116) -/
def lifecycleProgrammed (dt : Nat) (s0 : State) : State :=
  let s := s0.elapse dt
  match s.life.setting with
  | none => s
  | some (rq, t, hash) =>
    if t = .retired ∧ !allPorts.all s.portDark then s
    else
    let s1 := s.setLife (fun l => { l with state := t, keyHash := hash, setting := none })
    let s2 := if t = .deployed then s1.enterDeployed else s1
    let s3 := (s2.event evLifecycle noUnit noUnit [lifeCode t]).complete rq .ok
    if t = .retired then s3.setStart (fun x => { x with resetPending := some s.clk }) else s3

/-- The timeout of LIFECYCLE_SET. -/
def State.lifecycleTimeout (s : State) : State := s.setLife (fun l => { l with setting := none })

/-! ## The test port (R457, R458) -/

/-- IDCODE, 32 bits, the first to leave first. (PRESUMED, log 11) -/
def idcodeBits : List Bool := (List.range 32).map (fun i => (0x1864045B : Nat).testBit i)

/-- The life-cycle state allows an instruction (R457). (PRESUMED, log 11) -/
def jtagAllowed (l : LifeCycle) : JtagInstr → Bool
  | .bypass | .idcode => true
  | .samplePreload | .extest => match l with
    | .blank | .factory | .deployed | .service => true
    | .retired => false
  | .bistResult => match l with
    | .blank | .factory | .service => true
    | .deployed | .retired => false
  | .testData _ => match l with
    | .blank | .factory => true
    | .deployed | .service | .retired => false

/-- The data register behind an instruction as it is captured (PRESUMED, log 11). -/
def jtagCapture : JtagInstr → List Bool
  | .bypass => [false]
  | .idcode => idcodeBits
  | .samplePreload | .extest | .bistResult | .testData _ => []

/-- BOUNDARY_SCAN_ACCESS (R458): no operation reaches the head-port commands and timing pairs. An instruction that the
state does not allow selects BYPASS (PRESUMED, log 11). Without VIO_C the pull-down of TRST_N holds the port in reset (R37,
R49). -/
def boundaryScanAccess (dt : Nat) (op : JtagOp) (s0 : State) : State :=
  let s := s0.elapse dt
  if !s.bankUp .cb then s.setLife (fun l => { l with jtagIr := .idcode, jtagDr := idcodeBits })
  else match op with
  | .reset => s.setLife (fun l => { l with jtagIr := .idcode, jtagDr := idcodeBits })
  | .instruction i =>
    let j := if jtagAllowed s.life.state i then i else .bypass
    s.setLife (fun l => { l with jtagIr := j, jtagDr := jtagCapture j })
  | .shift bits => s.setLife (fun l => { l with jtagDr := (l.jtagDr ++ bits).drop bits.length })

end Sys2Proof.Machine
end

