-- ==== Sys2Proof/Machine/Power.lean ====
section
/-! DEFINITION. Power states, wake and retention (R425 to R443), the end of firmware's start (R469) and loss of VAON. -/

namespace Sys2Proof.Machine

/-- POWER of DEV_STATE and STATE of POWER_STATUS (R343, R442). -/
def powerCode : PowerMode → Nat
  | .active => 0
  | .standby => 1
  | .entering => 2
  | .waking => 3
  | .retain | .off => 0

/-- A bank mask has a bank. -/
def hasBank (m : BitVec 8) (b : Nat) : Bool := m.getLsbD b

def State.setRetain (s : State) (f : RetainSt → RetainSt) : State :=
  s.setPower (fun w => { w with retain := w.retain.map f })

/-! ## The load in RETAIN (R430) -/

/-- Junction, island and load per bank, µA. -/
def loadTable : List (Nat × Nat × Nat) :=
  [(25, 1000, 350), (45, 1200, 620), (65, 1500, 1110), (85, 2000, 1970), (95, 2450, 2630), (100, 2700, 3030), (105, 3000, 3500)]

/-- The row at or above RET_TJ_MAX: island and load per bank. -/
def State.loadRow (s : State) : Nat × Nat :=
  match loadTable.find? (fun r => s.fld Fld.powerCfg_retTjMax 0 ≤ r.1) with
  | some r => r.2
  | none => (3000, 3500)

/-- MAX_BANKS. -/
def State.maxBanks (s : State) : Nat := min 8 ((22000 - s.loadRow.1) / s.loadRow.2)

/-- Number of banks in a mask. -/
def bankCount (m : BitVec 8) : Nat := ((List.range 8).filter (hasBank m)).length

/-! ## The wake report (R441) -/

def reportBytes (r : WakeReport) : List Byte :=
  leBytes 1 r.kind ++ leBytes 1 r.cause ++ leBytes 1 r.causes
    ++ leBytes 1 (bitNat r.fastResume + 2 * bitNat r.brownout + 4 * bitNat r.resumed) ++ leBytes 1 r.banksReq.toNat
    ++ leBytes 1 r.banksFailed.toNat ++ leBytes 1 r.presChanged.toNat ++ leBytes 1 r.rescanned.toNat ++ leBytes 8 r.tCommit
    ++ leBytes 8 r.retainNs ++ leBytes 4 r.supplyWaitUs ++ leBytes 2 (toBits 16 r.tjWake) ++ zeros 2

/-- Whole always-on cycles of 1 / 32,768 s in a time (R436, R437). (DEDUCED, log 94) -/
def aonCycles (ns : Nat) : Nat := ns * 32768 / secNs

/-- Time of a number of always-on cycles, ns, rounded (R441). (DEDUCED, log 94) -/
def cyclesNs (n : Nat) : Nat := divRound (n * secNs) 32768

/-! ## STANDBY and ACTIVE (R427, R428) -/

/-- POWER_STATE STANDBY from ACTIVE: ports stop, calibration ends; the clocks are gated later. A stopped port that a SKEW step
lights is no running port. (DEDUCED, log 152) -/
def State.toStandby (s : State) (rq : Req) : State :=
  let ports := portMask (fun p => portEnabled (s.port p).seq && !s.calOn .skew p)
  let s1 := s.setPower (fun w => { w with portsAtStandby := ports, move := some (rq, .standby, s.clk) })
  (forPorts allPorts State.portStop s1).calLeaveActive

/-- STANDBY_GATED (R427): the clocks are gated once the falling ramps have ended. An RTD pulse in progress runs to its end (R183;
DESIGN CHOICE, log 208). -/
def standbyGated (dt : Nat) (s0 : State) : State :=
  let s := s0.elapse dt
  match s.power.move with
  | some (rq, .standby, _) =>
    if allPorts.all s.portDark then
      let s1 := ((s.setPower (fun w => { w with mode := .standby, move := none })).setMem
        (fun m => { m with selfRefresh := m.trained, lastAccess := s.clk })).count Ctr.powerStats_standbyEntries 0 1
      ((s1.groupsEval allGroups).outputsEval).complete rq .ok
    else s
  | some _ | none => s

/-- Start the ports of a mask one by one as PORT_START would: the mask of those refused (R428). -/
def startEach : List Port → State → BitVec 8 → State × BitVec 8
  | [], s, refused => (s, refused)
  | p :: ps, s, refused =>
    match s.enableFails p with
    | some _ => startEach ps s (refused ||| (1#8 <<< p.val))
    | none => startEach ps (s.portEnable p) refused

/-- CLOCKS_UNGATED (R428). -/
def clocksUngated (dt : Nat) (s0 : State) : State :=
  let s := s0.elapse dt
  match s.power.move with
  | some (rq, .active, _) =>
    let s1 := (s.setPower (fun w => { w with mode := .active, move := none })).setMem (fun m => { m with selfRefresh := false })
    let r := startEach (maskPorts s1.power.portsAtStandby) s1 0
    ((r.1.groupsEval allGroups).outputsEval).completeResult rq .ok (leBytes 1 r.2.toNat)
  | some _ | none => s

/-! ## Entry into RETAIN (R430, R432, R434 to R436) -/

/-- RETAIN is refused (R430, R434, R444, R474); none where it is accepted. -/
def State.retainFails (s : State) (rq : Req) (banks : BitVec 8) : Option Status :=
  let src := s.flag Fld.powerCfg_wakeAct 0 || s.flag Fld.powerCfg_wakePat 0 || s.flag Fld.powerCfg_wakeHcs 0
  let hot := match s.dieReading with
    | some t => decide (10 * (s.fld Fld.powerCfg_retTjMax 0 : Int) < t)
    | none => false
  if s.power.mode ≠ .standby then some .badState
  else if !src then some .badParam
  else if s.mbox.flights.any (fun f => f.tag ≠ rq.tag) || !s.capture.readouts.isEmpty || s.link.loop.isSome then some .busy
  else if 22000 < s.loadRow.1 + bankCount banks * s.loadRow.2 || hot || s.start.xtalFault
      || (List.range 8).any (fun b => hasBank banks b && s.unrepairable 0x05 b) then some .noResource
  else none

/-- RETAIN is accepted: STATE reads ENTERING. The command itself is the last activity of the source on whose balls it came
(R435). -/
def State.toRetain (s : State) (rq : Req) (banks : BitVec 8) : State :=
  let own := match rq.route with
    | .controlPort => s.flag Fld.powerCfg_wakeHcs 0
    | .link => s.flag Fld.powerCfg_wakeAct 0
  s.setPower (fun w =>
    { w with mode := .entering,
             retain := some
               { req := rq, banks := banks, acceptedAt := s.clk, noisyAt := if own then some s.clk else w.stirredAt, armedAt := none, commitAt := none, tCommit := 0,
                 presAtCommit := 0, presence := 0, latched := none, wokenAt := none, report := { WakeReport.none with banksReq := banks },
                 suppliesGood := false, goodBanks := none, presLost := 0, serialChecks := 0, serialGood := 0, kept := Vector.replicate 8 [],
                 brownout := false } })

/-- POWER_STATE (R426 to R428, R434, R456). -/
def State.powerStateCmd (s : State) (rq : Req) (target banks : Nat) : State :=
  if s.blockTest || s.power.move.isSome then s.complete rq .busy
  else if 2 < target ∨ 255 < banks ∨ (target ≠ 2 ∧ banks ≠ 0) then s.complete rq .badParam
  else if target = 2 then
    match s.retainFails rq (BitVec.ofNat 8 banks) with
    | some st => s.complete rq st
    | none => s.toRetain rq (BitVec.ofNat 8 banks)
  else
    match s.power.mode with
    | .active => if target = 0 then s.complete rq .ok else s.toStandby rq
    | .standby =>
      if target = 1 then s.complete rq .ok
      else s.setPower (fun w => { w with move := some (rq, .active, s.clk) })
    | .entering | .retain | .waking | .off => s.complete rq .badState

/-- The timeout of POWER_STATE: an entry that has not armed is given up, a move that has not ended goes no further
(R356, R435). -/
def State.powerTimeout (s : State) : State :=
  match s.power.mode, s.power.retain with
  | .entering, some r =>
    if r.armedAt.isNone then s.setPower (fun w => { w with mode := .standby, retain := none }) else s
  | .active, _ | .standby, _ | .retain, _ | .waking, _ | .off, _ | .entering, none =>
    s.setPower (fun w => { w with move := none })

/-- The timeout of POWER_STATE still counts: an armed entry and a wake end by their own rules (R435, R439). -/
def State.powerTimes (s : State) : Bool :=
  match s.power.retain with
  | some r => r.armedAt.isNone
  | none => true

/-- The signature unit takes 40.96 µs for each bank (R432). -/
def signatureNs (banks : BitVec 8) : Nat := 40960 * bankCount banks

/-- An entry may arm its wake sources: the signatures are formed and every enabled source has been quiet for 100 µs (R435). -/
def RetainSt.armable (r : RetainSt) (now : Nat) : Bool :=
  decide (r.acceptedAt + signatureNs r.banks ≤ now) && r.noisyAt.all (fun t => decide (t + 100 * usNs ≤ now))

/-- The shorter bound of the crossing into the always-on island, ns (R21, R435). -/
def aonCrossNs : Nat := 61000

/-- The always-on regulator is in low-power mode: from one always-on cycle after the commit point until the wake is registered
(R429). -/
def State.regulatorLow (s : State) : Bool :=
  match s.power.mode, s.power.retain with
  | .retain, some r => r.commitAt.any (fun t => decide (1 ≤ aonCycles (s.clk - t)))
  | .active, _ | .standby, _ | .entering, _ | .waking, _ | .off, _ | .retain, none => false

/-- The load that the regulator holds, mA (R429). -/
def State.regulatorMa (s : State) : Nat := if s.regulatorLow then 25 else 150

/-- RETAIN_ARM (R432, R435): signatures of the banks, whose bytes are free values, not before the unit has formed them; the own
link transmitter goes to electrical idle, and the link stays ACTIVE until it loses VSER (R336).
(DESIGN CHOICE, log 121) -/
def retainArm (dt : Nat) (s0 : State) : State :=
  let s := s0.elapse dt
  match s.power.retain with
  | none => s
  | some r =>
    if s.power.mode ≠ .entering ∨ r.armedAt.isSome ∨ !r.armable s.clk then s
    else
      let sign (b : Fin 8) : Dword :=
        if hasBank r.banks b.val then BitVec.ofNat 64 (crc64 (freeBytes 524288 (s.free + 524288 * b.val))) else 0
      let s1 := { s with free := s.free + 8 * 524288 }
      let stage := if s.link.stage = .active then .active else .disabled
      (s1.setLink (fun l => { l with stage := stage, idleSince := some s.clk, loop := none })).setPower (fun w =>
        { w with signatures := Vector.ofFn sign, retain := w.retain.map (fun x => { x with armedAt := some s.clk }) })

/-- What of a port the banks hold: what calibration found (bank 4; DEDUCED, log 28). Its mode and its fault latch are not kept
(R103). -/
def portKept (q : PortSt) : PortSt :=
  let fresh := State.reset.ports[0]
  { fresh with
    head := { fresh.head with headChanged := q.head.headChanged },
    rx := { fresh.rx with corr := q.rx.corr, trims := q.rx.trims, refX := q.rx.refX, refY := q.rx.refY },
    raman := { fresh.raman with coef := q.raman.coef, gainStk := q.raman.gainStk, gainAst := q.raman.gainAst,
                                nextWindow := q.raman.nextWindow } }

/-- Everything outside the always-on island and the banks loses power (R436, R439, R48); out of SERVICE the device is DEPLOYED,
which keeps no unsigned program and has COMP_EN 1 (R216, R457, R460). The records of per-block tests stand in shared SRAM (R453).
(DEDUCED, log 28; DEDUCED, log 116) -/
def State.powerDown (s : State) : State :=
  let v := s.volatileReset
  { v with
    tb := s.tb, tbFrac := s.tbFrac, cfg := (if s.life.state = .service then s.compensate else s).cfg, stats := s.stats,
    mbox := { v.mbox with flights := s.mbox.flights },
    start := { s.start with boot := .reset, load := .none, image := none, flashWrite := none, flashNext := 0, resetPending := none },
    power := s.power,
    life := { s.life with state := if s.life.state = .service then .deployed else s.life.state, challenge := none,
                          setting := none, test := .none, shutNext := none, blockRecords := [], rawBitmap := [] },
    ports := s.ports.map portKept,
    detect := s.detect,
    capture := { v.capture with nextSnap := s.capture.nextSnap },
    clove := { v.clove with programs :=
      if s.life.state = .service then s.clove.programs.filter (fun e => !unsignedProgram e) else s.clove.programs },
    time := { v.time with set := s.time.set, coarse := s.time.coarse },
    cal := { s.cal with run := none, lastCheck := none } }

/-- COMMIT_POINT (R436): the entry request has crossed into the always-on island (R21, R435). -/
def commitPoint (dt : Nat) (s0 : State) : State :=
  let s := s0.elapse dt
  match s.power.retain with
  | none => s
  | some r =>
    if s.power.mode ≠ .entering ∨ !r.armedAt.any (fun t => decide (t + aonCrossNs ≤ s.clk)) then s
    else
      let pres := portMask (fun p => (s.port p).head.present && (s.record p).isSome)
      let kept := Vector.ofFn (fun (p : Port) => (s.port p).head.record)
      let r1 := { r with commitAt := some s.clk, tCommit := s.tb, presAtCommit := pres, presence := portMask (fun p => (s.port p).head.present), kept := kept,
                         report := { r.report with tCommit := s.tb } }
      let d := (s.countIf Ctr.linkStats_failures 0 (s.link.stage = .active)).powerDown
      (d.setPower (fun w =>
        { w with mode := .retain, isolated := true, pwrRet := true, retain := some r1,
                 lostSlots := (d.clove.programs.map (·.1)).filter (8 ≤ ·) })).count Ctr.powerStats_retainEntries 0 1

/-! ## Waking (R429, R437 to R439) -/

/-- The sources of a wake event that are enabled; without WAKE_PAT the pattern counts as activity (R438). Without VIO_A HCS_N
reads high (R37, R49). -/
def State.wakeSources (s : State) (xs : List WakeSource) : List WakeSource :=
  let pat := s.flag Fld.powerCfg_wakePat 0
  let act := s.flag Fld.powerCfg_wakeAct 0
  let has (x : WakeSource) : Bool := xs.contains x
  (if has .pattern && pat then [.pattern] else [])
    ++ (if (has .activity || (has .pattern && !pat)) && act then [.activity] else [])
    ++ (if has .chipSelect && s.flag Fld.powerCfg_wakeHcs 0 && s.bankUp .ab then [.chipSelect] else [])

/-- CAUSE of a source; CAUSES takes its bit. -/
def wakeCause : WakeSource → Nat
  | .activity => 1
  | .pattern => 2
  | .chipSelect => 3

def wakeBits (xs : List WakeSource) : Nat := (xs.map (fun x => 2 ^ (wakeCause x - 1))).foldl (· + ·) 0

/-- A report with what woke the device; the first source is the one CAUSE names. -/
def reportWith (kind : Nat) (xs : List WakeSource) (r : WakeReport) : WakeReport :=
  { r with kind := kind, cause := (xs.head?.map wakeCause).getD 0, causes := wakeBits xs }

/-- A wake is registered: PWR_RET low (R439). After a brown-out it is a cold start, once the supplies are back (R429).
(DEDUCED, log 118) -/
def State.wakeNow (s : State) (r : RetainSt) (kind : Nat) (xs : List WakeSource) : State :=
  let ns := match r.commitAt with
    | some t => cyclesNs (aonCycles (s.clk - t))
    | none => 0
  let rep := { reportWith kind xs r.report with retainNs := ns, fastResume := xs.contains .pattern }
  let r1 := { r with wokenAt := some s.clk, latched := none, report := rep }
  let s1 := s.setPower (fun w => { w with pwrRet := false, retain := some r1 })
  if r.brownout then
    (s1.setStart (fun t => { t with holds := [.supply], tripAt := s.clk, nextCause := .brownout, nextRail := none })).volatileReset
  else s1.setPower (fun w => { w with mode := .waking, brownout := false, brownoutAt := 0 })

/-- An entry is aborted by a wake event before the commit point (R437). -/
def State.abortEntry (s : State) (r : RetainSt) (xs : List WakeSource) : State :=
  let rep := reportWith 3 xs r.report
  let s1 := (s.setPower (fun w => { w with mode := .standby, retain := none, lastWake := rep })).count Ctr.powerStats_aborted 0 1
  let s2 := if s.flag Fld.linkCfg_en 0 then (s1.countIf Ctr.linkStats_failures 0 (s.link.stage = .active)).bringUp false else s1
  s2.completeWith r.req .entryAbortedWake noFlags [] (reportBytes rep)

/-- From the commit point to the first nanosecond of cycle k_c + 4, in which a wake that has been latched is replayed (R437). -/
def replayNs : Nat := 122071

/-- WAKE_EVENT (R435, R437, R438); while the device is awake it leaves the time of the activity (R435). -/
def wakeEvent (dt : Nat) (xs : List WakeSource) (s0 : State) : State :=
  let s := s0.elapse dt
  let ys := s.wakeSources xs
  match s.power.retain with
  | none => if ys = [] then s else s.setPower (fun w => { w with stirredAt := some s.clk })
  | some r =>
    if ys = [] then s
    else
      match s.power.mode, r.commitAt with
      | .entering, _ => 
        if r.armedAt.isSome then s.abortEntry r ys else s.setRetain (fun x => { x with noisyAt := some s.clk })
      | .retain, some t =>
        if r.latched.isSome then s
        else if s.clk < t + replayNs then s.setRetain (fun x => { x with latched := some ys })
        else s.wakeNow r 1 ys
      | .retain, none | .active, _ | .standby, _ | .waking, _ | .off, _ => s

/-- WAKE_REPLAY (R437): cycle k_c + 4. -/
def wakeReplay (dt : Nat) (s0 : State) : State :=
  let s := s0.elapse dt
  match s.power.retain with
  | none => s
  | some r =>
    match s.power.mode, r.latched, r.commitAt with
    | .retain, some ys, some t =>
      if t + replayNs ≤ s.clk then (s.count Ctr.powerStats_replayed 0 1).wakeNow r 2 ys else s
    | _, _, _ => s

/-- BROWNOUT (R429): the latch switches every bank off and invalidates it. (DEDUCED, log 118) -/
def brownout (dt : Nat) (s0 : State) : State :=
  let s := s0.elapse dt
  match s.power.retain with
  | none => s
  | some r =>
    match s.power.mode, r.commitAt with
    | .retain, some t =>
      if r.brownout then s
      else
        ((s.setPower (fun w => { w with brownout := true, brownoutAt := aonCycles (s.clk - t) })).setRetain
          (fun x => { x with brownout := true })).count Ctr.powerStats_brownouts 0 1
    | _, _ => s

/-- A loss of presence in RETAIN, and in a wake before firmware runs, while the head bank stays present (R72, R440). -/
def State.presLostAsleep (s : State) (p : Port) : State :=
  match s.power.mode with
  | .retain | .waking => if s.bankOk p then s.setRetain (fun r => { r with presLost := r.presLost ||| (1#8 <<< p.val) }) else s
  | .active | .standby | .entering | .off => s

/-- WAKE_SUPPLIES_GOOD (R439): the supplies have been good for 1.0 ms; the domains leave reset, the filters of the head ports begin (R58), and the boot ROM loads
firmware, unless a memory that firmware needs is beyond repair (R444). -/
def wakeSuppliesGood (dt : Nat) (s0 : State) : State :=
  let s := s0.elapse dt
  match s.power.retain with
  | none => s
  | some r =>
    if s.power.mode ≠ .waking ∨ r.suppliesGood ∨ s.clk < r.wokenAt.getD s.clk + msNs then s
    else
      let us := (s.clk - r.wokenAt.getD s.clk) / usNs
      let s1 := ((s.setPower (fun w => { w with isolated := false, railsOut := [] })).setRetain (fun x =>
        { x with suppliesGood := true, report := { x.report with supplyWaitUs := us } })).headFilters.refBegins
      if s1.memoryBad then s1.waitHost 8 else s1.bootLoad

/-! ## Lost banks (R431) -/

/-- Blocks that banks 2 and 4 hold (R431). (DEDUCED, log 28) -/
def bank2Blocks : List Nat := [0x1E, 0x1F, 0x20, 0x22, 0x27]
def bank4Blocks : List Nat := [0x21, 0x4E, 0x50]

/-- Fields of some blocks take their reset values. -/
def State.dropCfg (s : State) (lost : Nat → Bool) : State := { s with cfg := s.cfg.filter (fun e => !lost (keyBlock e.1)) }

/-- A bank is lost (R431). (DEDUCED, log 28) -/
def State.loseBank (s : State) (b : Nat) : State :=
  if b = 0 then
    let s1 := s.setDetect (fun d =>
      { d with zones := d.zones.map (fun e => (e.1, { freshZone with mode := .idle, base := e.2.base })),
               groups := Vector.replicate 64 GroupSt.reset, nextEventId := 1 })
    (s1.setCapture (fun c => { c with nextSnap := 1 })).setPower (fun w => { w with portsAtStandby := 0 })
  else if b = 1 then s.dropCfg (fun k => !(bank2Blocks.contains k || bank4Blocks.contains k || k = 0x53))
  else if b = 2 then
    (s.zonesLost.dropCfg bank2Blocks.contains).setDetect (fun d => { d with off := true, zones := [] })
  else if b = 3 then
    (s.setDetect (fun d => { d with zones := d.zones.map (fun e => (e.1, { e.2 with base := freshZone.base })) })).setPower
      (fun w => { w with funcOff := w.funcOff ||| 8 })
  else if b = 4 then
    let s1 := { (s.dropCfg bank4Blocks.contains) with cal := CalSt.reset }
    forPorts allPorts (fun p t => t.setPort p (fun q =>
      { q with head := { q.head with headChanged := true },
               rx := { q.rx with corr := none, trims := RxSt.reset.trims, refX := RxSt.reset.refX, refY := RxSt.reset.refY },
               raman := { q.raman with coef := none, gainStk := 32768, gainAst := 32768, nextWindow := none } })) s1
  else if b = 5 then s.setRetain (fun r => { r with kept := Vector.replicate 8 [] })
  else if b = 6 then 
    (s.setClove (fun c => { c with programs := c.programs.filter (fun e => e.1 < 8) })).setPower
      (fun w => { w with funcOff := w.funcOff ||| 64 })
  else
    ({ s with stats := aonStats s.stats } : State).setDetect (fun d => { d with ring := [], nextRun := DetectSt.reset.nextRun })

/-! ## Firmware's start (R439, R444, R469) -/

/-- The firmware's library programs in slots 0 and 1 (R216, R244, log 9). -/
def libraryProgram (slot stateBytes : Nat) : Program :=
  { code := Config.libraryCode slot, constants := Config.libraryConstants slot, entry := Config.libraryEntry slot,
    stateBytes := stateBytes, signed := true }

/-- Every engine takes the code of the programs, and its mode. -/
def State.enginesUp (s : State) (g : EngineId → EngineMode) : State :=
  s.setClove (fun c =>
    { c with engines := Vector.ofFn (fun (e : EngineId) =>
        let x := c.engines[e]
        { x with pmem := programMemory c.programs, holds := c.programs.map (·.1), mode := g e }) })

/-- What every start of firmware does: READY, the library programs, memories beyond repair, the link.
(DEDUCED, log 112) -/
def State.firmwareUp (s : State) : State :=
  let s1 := ((s.setStart (fun t => { t with boot := .ready })).setIrq irqBootDone).setClove (fun c =>
    { c with programs := Tab.put (Tab.put c.programs 0 (libraryProgram 0 64)) 1 (libraryProgram 1 8192) })
  let s2 := s1.enginesUp (fun e => if s.unrepairable 1 e.val || s.unrepairable 2 e.val then .offline else .idle)
  let s3 := if s.unrepairable 6 0 then s2.zonesLost else s2
  let s4 := if s.fld Fld.siteCfg_role 0 = 0 then s3 else s3.roleChanged
  if s.flag Fld.linkCfg_en 0 then (s4.setLink (fun l => { l with failCount := 0 })).bringUp false else s4

/-- A wake goes on: signatures are judged, lost banks drop, the time base restarts (R383, R431, R432, R439, R440).
(DEDUCED, log 112; DESIGN CHOICE, log 121) -/
def State.wakeFirmware (s : State) (r : RetainSt) (good : BitVec 8) (tj : Int) : State :=
  let kept := r.banks &&& good
  let failed := r.banks &&& ~~~good
  let cycles := match r.commitAt with
    | some t => aonCycles (s.clk - t)
    | none => 0
  let banks := List.range 8
  let s0 := { s with tb := (r.tCommit + cyclesNs cycles) % 18446744073709551616 }
  let s1 := banks.foldl (fun t b =>
    if hasBank failed b then (t.count Ctr.powerStats_bankFailures 0 1).event evBankLost b noUnit [] else t) s0
  let s2 := banks.foldl (fun t b => if hasBank kept b then t else t.loseBank b) s1
  let fast := r.report.fastResume && hasBank kept 5
  let checks := if fast then portMask (fun p => maskHas r.presAtCommit p && !maskHas r.presLost p && !(r.kept[p]).isEmpty)
    else 0
  let s3 := { s2 with
    pend := [], held := [],
    cfg := s2.cfg.filter (fun e => !(keyBlock e.1 = 0x28 && keyLo e.1 = Fld.mask_en.lo)) }
  let s4 := s3.firmwareUp.setTime (fun t => { t with coarse := true })
  s4.setRetain (fun x =>
    { x with goodBanks := some kept, serialChecks := checks,
             report := { x.report with banksFailed := failed, tjWake := tj } })

/-- EV_BANK_LOST for each bank that a brown-out lost (R429, R432). -/
def State.brownoutEvents (s : State) : State :=
  if s.start.cause = .brownout then
    (List.range 8).foldl (fun t b => if hasBank s.power.lastWake.banksFailed b then t.event evBankLost b noUnit [] else t) s
  else s

/-- FW_INIT_DONE (R439, R469, R471): READY. After a brown-out every bank is lost; the reset has cleared what bank 7 held (R429,
R431). (DEDUCED, log 34; DEDUCED, log 112) -/
def fwInitDone (dt : Nat) (good : BitVec 8) (tj : Int) (s0 : State) : State :=
  let s := s0.elapse dt
  if s.start.boot ≠ .fwInit then s
  else
    match s.power.mode, s.power.retain with
    | .waking, some r => s.wakeFirmware r good tj
    | _, _ =>
      let ms := divRound (s.clk - s.start.releasedAt) msNs
      let s0 := if s.start.cause = .brownout then (List.range 7).foldl (fun t b => t.loseBank b) s else s
      let s1 := s0.firmwareUp.fatalNow.setStart (fun t => { t with readyAt := some s.clk, startMs := ms })
      (s1.event evStart noUnit noUnit [causeCode s.start.cause, ms]).brownoutEvents

/-! ## The end of a wake (R433, R439, R440) -/

/-- What the last attempt of the transaction that reads SERIAL put on the bus: 16 bytes from word address 0x0008 (R440). -/
def serialBus (xs : List (Option IdAttempt)) : List BusOp :=
  match xs.getLast? with
  | some (some x) => busAttempt (busRead 0x0008 16) x.pulses.val x.result
  | some none => busTimedOut 0
  | none => []

/-- The SERIAL that a transaction has read; none where it failed. -/
def serialOf (xs : List (Option IdAttempt)) : Option (List Byte) :=
  match xs.getLast? with
  | some (some x) => match x.result with
    | .data bytes => some bytes
    | .nack | .busHeld => none
  | some none | none => none

/-- WAKE_SERIAL_CHECK (R440): the SERIAL alone, in one transaction with its attempts, of which those that run into the guard take
25 ms each (R62). (DEDUCED, log 119; DESIGN CHOICE, log 121) -/
def wakeSerialCheck (dt : Nat) (p : Port) (attempts : List (Option IdAttempt)) (s0 : State) : State :=
  let s := s0.elapse dt
  match s.power.retain with
  | none => s
  | some r =>
    let h := (s.port p).head
    if !s.runs || !maskHas r.serialChecks p || !h.present || h.idState ≠ .reading || h.read.isSome
        || !serialWhole attempts
        || decide (s.clk < h.presAt + (10 + 25 * (attempts.filter (·.isNone)).length) * msNs) then s
    else
      let rec_ := r.kept[p]
      let s1 := ((s.setRetain (fun x => { x with serialChecks := x.serialChecks &&& ~~~(1#8 <<< p.val) })).setHead p
        (fun x => { x with bus := serialBus attempts })).count Ctr.headStats_idRetry p.val (attempts.length - 1)
      if serialOf attempts = some (bytesAt rec_ 8 16) then
        let s2 := (s1.setHead p (fun x => { x with idState := .accepted, record := rec_ })).setRetain
          (fun x => { x with serialGood := x.serialGood ||| (1#8 <<< p.val) })
        let s3 := (s2.setDrive p (fun d => { d with caseAt := s.clk })).setRaman p (fun x => { x with lastRecord := rec_ })
        s3.event evHeadAccepted p.val noUnit [s3.headStatus p]
      else
        (s1.setHead p (fun x => { x with read := some (newRead (h.presAt + 100 * msNs) none) })).setRetain (fun x =>
          { x with report := { x.report with rescanned := x.report.rescanned ||| (1#8 <<< p.val) } })

/-- An enabled zone depends on the baselines (R431). -/
def State.needsBaselines (s : State) : Bool :=
  s.enabledZones.any (fun z =>
    if s.zoneTemp z then s.fld Fld.zone_metric z.val = 1 else s.fld Fld.zone_detector z.val = 1)

/-- The wake reaches ACTIVE (R433). (DEDUCED, log 114) -/
def State.wakeResumes (s : State) (r : RetainSt) : Bool :=
  let kept := r.goodBanks.getD 0
  let user := (maskPorts s.power.portsAtStandby).any (fun p => 8 ≤ s.fld Fld.clovePort_program p.val)
  s.flag Fld.powerCfg_resume 0 && hasBank kept 0 && hasBank kept 1 && hasBank kept 2
    && (hasBank kept 3 || !s.needsBaselines) && (hasBank kept 6 || !user)

/-- The parallel work of a wake has ended: link, capture memory, identity, reference (R439 step 6).
(DEDUCED, log 120) -/
def State.wakeReady (s : State) : Bool :=
  let link := match s.link.stage with
    | .active | .down | .disabled => true
    | .detect | .train | .lock | .exchange | .loop => false
  s.runs && link && s.capture.mem.training.isNone && !s.capture.mem.due && s.time.refState = .locked
    && allPorts.all (fun p => (s.port p).head.idState ≠ .reading)

/-- WAKE_COMPLETE (R433, R439, R441). (DEDUCED, log 114; DEDUCED, log 120) -/
def wakeComplete (dt : Nat) (s0 : State) : State :=
  let s := s0.elapse dt
  match s.power.mode, s.power.retain with
  | .waking, some r =>
    if !s.wakeReady then s
    else
      let resumed := s.wakeResumes r
      let changed := portMask (fun p => (s.port p).head.present != maskHas r.presence p)
      let rep := { r.report with resumed := resumed, presChanged := changed }
      let same (p : Port) : Bool :=
        !maskHas rep.rescanned p || bytesAt (s.port p).head.record 8 16 = bytesAt r.kept[p] 8 16
      let s1 := s.setPower (fun w => { w with mode := if resumed then .active else .standby, retain := none, lastWake := rep })
      let s2 := if resumed then (startEach ((maskPorts s.power.portsAtStandby).filter same) s1 0).1
        else (s1.count Ctr.powerStats_standbyEntries 0 1).setMem (fun m => { m with selfRefresh := m.trained, lastAccess := s.clk })
      let s3 := (s2.groupsEval allGroups).outputsEval
      (s3.completeWith r.req .ok noFlags [] (reportBytes rep)).event evWake noUnit noUnit
        [rep.kind, rep.cause, rep.banksFailed.toNat]
  | _, _ => s

/-! ## VAON (R426) -/

/-- VAON_LOSS: OFF; the always-on island is lost. Flash and one-time memory stay. No bank has a mode until its supply is sensed
again. (DESIGN CHOICE, log 203) -/
def vaonLoss (dt : Nat) (s0 : State) : State :=
  let s := s0.elapse dt
  { State.reset with
    pending := s.pending, clk := s.clk, free := s.free, flash := s.flash, banks := Vector.replicate 11 .absent,
    power := { PowerSt.reset with mode := .off },
    life := { LifeSt.reset with state := if s.life.state = .service then .deployed else s.life.state, keyHash := s.life.keyHash,
                                otpMap := s.life.otpMap } }

/-- VAON_RISE (R426, R465): RESET_N is held low; a cold start from power-on follows its release. -/
def vaonRise (dt : Nat) (s0 : State) : State :=
  let s := s0.elapse dt
  if s.power.mode = .off then
    (s.setPower (fun w => { w with mode := .active })).setStart (fun t => { t with holds := [.pin], nextCause := .powerOn, vaonAt := s.clk })
  else s

/-! ## Status (R442) -/

/-- Words of a list of bytes. -/
def wordsOf (bs : List Byte) : List Nat := (List.range (bs.length / 4)).map (fun i => u32At bs (4 * i))

/-- POWER_STATUS. -/
def State.powerStatus (s : State) : List Nat :=
  (powerCode s.power.mode + 4 * s.maxBanks + 64 * s.power.portsAtStandby.toNat + 16384 * s.power.funcOff.toNat
    + 4194304 * bitNat s.power.brownout) :: (wordsOf (reportBytes s.power.lastWake) ++ [s.power.brownoutAt])

end Sys2Proof.Machine
end

