-- ==== Sys2Proof/Machine/ClockRows.lean ====
section
/-! DEFINITION. The time base, the time-interval unit, housekeeping, the outputs and calibration (chapters 16 to 18). -/

namespace Sys2Proof.Machine

/-- REF_QUALIFIED (R373). -/
def execRefQualified (edges : RefEdges) (s : State) : Host.Outcome State Fault Refusal :=
  .next (whenRuns edges.dt (fun d t => refQualified d edges.ppm t) s)

/-- REF_LOST (R375). -/
def execRefLost (dt : Nat) (s : State) : Host.Outcome State Fault Refusal :=
  .next (whenRuns dt refLost s)

/-- OCXO_RDY_CHANGE (R374). -/
def execOcxoRdyChange (dt : Nat) (level : Bool) (s : State) : Host.Outcome State Fault Refusal :=
  .next (whenRuns dt (fun d t => ocxoRdyChange d level t) s)

/-- PPS_EDGE (R376). -/
def execPpsEdge (dt : Nat) (stamp : Stamp) (high : Bool) (s : State) : Host.Outcome State Fault Refusal :=
  .next (whenRuns dt (fun d t => ppsEdge d stamp high t) s)

/-- PPS_TIMEOUT (R376). -/
def execPpsTimeout (dt : Nat) (s : State) : Host.Outcome State Fault Refusal :=
  .next (whenRuns dt ppsTimeout s)

/-- PPS_OUT_SECOND (R378). -/
def execPpsOutSecond (dt : Nat) (s : State) : Host.Outcome State Fault Refusal :=
  .next (whenRuns dt ppsOutSecond s)

/-- SYNC_MARKER (R380). -/
def execSyncMarker (dt : Nat) (stamp : Stamp) (falls : List Nat)
    (s : State) : Host.Outcome State Fault Refusal :=
  .next (whenRuns dt (fun d t => syncMarker d stamp falls t) s)

/-- SYNC_TIMEOUT (R380). -/
def execSyncTimeout (dt : Nat) (s : State) : Host.Outcome State Fault Refusal :=
  .next (whenRuns dt syncTimeout s)

/-- SYNC_PHASE_STEP (R380). -/
def execSyncPhaseStep (dt : Nat) (s : State) : Host.Outcome State Fault Refusal :=
  .next (whenRuns dt syncPhaseStep s)

/-- TI_START_EDGE (R385). -/
def execTiStartEdge (dt : Nat) (start : TiStart) (stamp : Stamp) (s : State) : Host.Outcome State Fault Refusal :=
  .next (whenRuns dt (fun d t => tiStartEdge d start stamp t) s)

/-- TI_STOP_EDGE (R385). -/
def execTiStopEdge (dt : Nat) (ball : Fin 12) (edge : TiEdge) (stamp : Stamp)
    (s : State) : Host.Outcome State Fault Refusal :=
  .next (whenRuns dt (fun d t => tiStopEdge d ball edge stamp t) s)

/-- TI_WINDOW_END (R385). -/
def execTiWindowEnd (dt : Nat) (s : State) : Host.Outcome State Fault Refusal :=
  .next (whenRuns dt tiWindowEnd s)

/-- TI_FREQ_GATE_END (R387). -/
def execTiFreqGateEnd (dt : Nat) (stamp : Stamp) (edges : Nat) (interval : Nat)
    (s : State) : Host.Outcome State Fault Refusal :=
  .next (whenRuns dt (fun d t => tiFreqGateEnd d stamp edges interval t) s)

/-- HKA_SEQUENCE (R393). -/
def execHkaSequence (dt : Nat) (s : State) : Host.Outcome State Fault Refusal :=
  .next (whenRuns dt hkaSequence s)

/-- HKB_JOB_TRIGGER (R395). -/
def execHkbJobTrigger (dt : Nat) (s : State) : Host.Outcome State Fault Refusal :=
  .next (whenRuns dt hkbJobTrigger s)

/-- HK_CHECK_TRIGGER (R401). -/
def execHkCheckTrigger (dt : Nat) (s : State) : Host.Outcome State Fault Refusal :=
  .next (whenRuns dt hkCheckTrigger s)

/-- HK_ENTRY_RESULT (R400). -/
def execHkEntryResult (dt : Nat) (conv : Fin 2) (result : Option (List Int × Bool))
    (s : State) : Host.Outcome State Fault Refusal :=
  .next (whenRuns dt (fun d t => hkEntryResult d conv result t) s)

/-- REF_SETTLING_END (R399). -/
def execRefSettlingEnd (dt : Nat) (conv : Fin 2) (s : State) : Host.Outcome State Fault Refusal :=
  .next (whenRuns dt (fun d t => refSettlingEnd d conv t) s)

/-- LOOP_TICK (R406). -/
def execLoopTick (x : LoopTick) (s : State) : Host.Outcome State Fault Refusal :=
  .next (whenRuns x.dt (fun d t => loopTick d x.measured t) s)

/-- LOOP_CAUSE_SET (R407). -/
def execLoopCauseSet (dt : Nat) (n : Fin 8) (cause : Fin 3) (reading : LoopReading)
    (s : State) : Host.Outcome State Fault Refusal :=
  .next (whenRuns dt (fun d t => loopCauseSet d n cause reading t) s)

/-- LOOP_CAUSE_CLEAR (R407). -/
def execLoopCauseClear (dt : Nat) (n : Fin 8) (cause : Fin 3) (reading : LoopReading)
    (s : State) : Host.Outcome State Fault Refusal :=
  .next (whenRuns dt (fun d t => loopCauseClear d n cause reading t) s)

/-- LOOP_DRIVE_RETRY (R407). -/
def execLoopDriveRetry (dt : Nat) (n : Fin 8) (s : State) : Host.Outcome State Fault Refusal :=
  .next (whenRuns dt (fun d t => loopDriveRetry d n t) s)

/-- ALARM_OVERLOAD (R409). -/
def execAlarmOverload (dt : Nat) (n : Fin 8) (s : State) : Host.Outcome State Fault Refusal :=
  .next (whenRuns dt (fun d t => alarmOverload d n t) s)

/-- ALARM_RETRY (R409). -/
def execAlarmRetry (dt : Nat) (n : Fin 8) (s : State) : Host.Outcome State Fault Refusal :=
  .next (whenRuns dt (fun d t => alarmRetry d n t) s)

/-- ALARM_OVERLOAD_CLEAR (R409). -/
def execAlarmOverloadClear (dt : Nat) (n : Fin 8) (s : State) : Host.Outcome State Fault Refusal :=
  .next (whenRuns dt (fun d t => alarmOverloadClear d n t) s)

/-- ALARM_MIN_ACTIVE_END (R408). -/
def execAlarmMinActiveEnd (dt : Nat) (n : Fin 8) (s : State) : Host.Outcome State Fault Refusal :=
  .next (whenRuns dt (fun d t => alarmMinActiveEnd d n t) s)

/-- CAL_AUTO_CHECK (R419). -/
def execCalAutoCheck (dt : Nat) (s : State) : Host.Outcome State Fault Refusal :=
  .next (whenRuns dt calAutoCheck s)

/-- CAL_STEP_END (R413). -/
def execCalStepEnd (dt : Nat) (measure : CalMeasure) (s : State) : Host.Outcome State Fault Refusal :=
  .next (whenRuns dt (fun d t => calStepEnd d measure t) s)

/-- CAL_RUN_END (R414). -/
def execCalRunEnd (dt : Nat) (s : State) : Host.Outcome State Fault Refusal :=
  .next (whenRuns dt (fun d t => (calRunEnd d t).firstRuns) s)

end Sys2Proof.Machine
end

