-- ==== Sys2Proof/Machine/CloveIsa.lean ====
section
/-! DEFINITION. The instructions of a Clove engine, each on one engine (R219 to R235). -/

namespace Sys2Proof.Machine

/-- UNDEFINED_OPCODE (R223). -/
def execUndefinedOpcode (eng : EngineId) (s : State) : Host.Outcome State Fault Refusal :=
  .next (undefinedOpcode eng s)

/-- NOP (R228). -/
def execNop (eng : EngineId) (s : State) : Host.Outcome State Fault Refusal :=
  .next (s.cloveOp eng (encC0 0x00) true 1 (fun x => some x))

/-- DONE (R206). -/
def execDone (eng : EngineId) (s : State) : Host.Outcome State Fault Refusal :=
  .next (cloveDone eng s)

/-- REP (R199). -/
def execRep (eng : EngineId) (n : BitVec 16) (s : State) : Host.Outcome State Fault Refusal :=
  .next (cloveRep eng n s)

/-- BR (R226). -/
def execBr (eng : EngineId) (cond : Fin 12) (off : BitVec 22) (s : State) : Host.Outcome State Fault Refusal :=
  let taken := branchCond (s.engine eng) cond
  .next (s.clovePlain eng [(26, 6, 0x03), (22, 4, cond.val), (0, 22, off.toNat)] (if taken then 3 else 1)
    (fun x => if taken then jump x (branchTo x off) else x))

/-- BNZD (R228). -/
def execBnzd (eng : EngineId) (k : AReg) (off : BitVec 22) (s : State) : Host.Outcome State Fault Refusal :=
  let taken := decide ((s.engine eng).ar[k] - 1 ≠ 0)
  .next (s.clovePlain eng [(26, 6, 0x04), (23, 3, k.val), (22, 1, 0), (0, 22, off.toNat)] (if taken then 3 else 1)
    (fun x => let y := setAr x k (x.ar[k] - 1); if taken then jump y (branchTo x off) else y))

/-- CALL (R228). -/
def execCall (eng : EngineId) (k : AReg) (off : BitVec 22) (s : State) : Host.Outcome State Fault Refusal :=
  .next (s.clovePlain eng [(26, 6, 0x05), (23, 3, k.val), (22, 1, 0), (0, 22, off.toNat)] 3
    (fun x => jump (setAr x k (x.pc.setWidth 18 + 4)) (branchTo x off)))

/-- RET (R228). -/
def execRet (eng : EngineId) (k : AReg) (s : State) : Host.Outcome State Fault Refusal :=
  .next (s.clovePlain eng [(26, 6, 0x06), (23, 3, k.val), (0, 23, 0)] 3
    (fun x => jump x ((x.ar[k].setWidth 16 &&& 0xFFFC).toNat)))

/-- CLRF (R228). -/
def execClrf (eng : EngineId) (s : State) : Host.Outcome State Fault Refusal :=
  .next (s.clovePlain eng [(26, 6, 0x07)] 1 (fun x => { x with flg := 0 }))

/-- LDI (R229). -/
def execLdi (eng : EngineId) (sel : Fin 4) (k : AReg) (imm : BitVec 18)
    (s : State) : Host.Outcome State Fault Refusal :=
  .next (s.clovePlain eng [(26, 6, 0x08), (24, 2, sel.val), (21, 3, k.val), (18, 3, 0), (0, 18, imm.toNat)] 1
    (fun x => setSel x sel k imm))

/-- ADDA (R229). -/
def execAdda (eng : EngineId) (k : AReg) (imm : BitVec 18) (s : State) : Host.Outcome State Fault Refusal :=
  .next (s.clovePlain eng [(26, 6, 0x09), (21, 3, k.val), (18, 3, 0), (0, 18, imm.toNat)] 1 (fun x => opAdda x k imm))

/-- CMPA (R229). -/
def execCmpa (eng : EngineId) (k : AReg) (imm : BitVec 18) (s : State) : Host.Outcome State Fault Refusal :=
  .next (s.clovePlain eng [(26, 6, 0x0A), (21, 3, k.val), (18, 3, 0), (0, 18, imm.toNat)] 1 (fun x => opCmpa x k imm))

/-- MOVA (R229). -/
def execMova (eng : EngineId) (dsel : Fin 4) (k : AReg) (ssel : Fin 4) (j : AReg)
    (s : State) : Host.Outcome State Fault Refusal :=
  .next (s.clovePlain eng [(26, 6, 0x0B), (24, 2, dsel.val), (21, 3, k.val), (19, 2, ssel.val), (16, 3, j.val), (0, 16, 0)] 1
    (fun x => setSel x dsel k (getSel x ssel j)))

/-- GETS (R229). -/
def execGets (eng : EngineId) (k : AReg) (which : Fin 3) (s : State) : Host.Outcome State Fault Refusal :=
  .next (s.clovePlain eng [(26, 6, 0x0C), (21, 3, k.val), (18, 3, 0), (0, 2, which.val)] 1 (fun x => opGets x k which))

/-- PUTS (R229). -/
def execPuts (eng : EngineId) (which : Fin 2) (k : AReg) (s : State) : Host.Outcome State Fault Refusal :=
  .next (s.clovePlain eng [(26, 6, 0x0D), (21, 3, k.val), (18, 3, 0), (0, 2, which.val)] 1 (fun x => opPuts x which k))

/-- MVLA (R229). -/
def execMvla (eng : EngineId) (k : AReg) (a : VReg) (l : Lane) (s : State) : Host.Outcome State Fault Refusal :=
  .next (s.clovePlain eng [(26, 6, 0x0E), (21, 3, k.val), (16, 5, a.val), (0, 3, l.val)] 1
    (fun x => setAr x k ((x.v[a][l]).signExtend 18)))

/-- MVAL (R229). -/
def execMval (eng : EngineId) (a : VReg) (l : Lane) (k : AReg) (s : State) : Host.Outcome State Fault Refusal :=
  .next (s.clovePlain eng [(26, 6, 0x0F), (21, 3, k.val), (16, 5, a.val), (0, 3, l.val)] 1
    (fun x => setV x a (x.v[a].set l.val (x.ar[k].setWidth 16) l.isLt)))

/-- VLD (R230). -/
def execVld (eng : EngineId) (d : VReg) (ea : Machine.Ea) (s : State) : Host.Outcome State Fault Refusal :=
  .next (s.cloveOp eng (encM 0x10 d.val ea) ea.isPost 1 (fun x => opVld x d ea))

/-- VST (R230). -/
def execVst (eng : EngineId) (ea : Machine.Ea) (v : VReg) (s : State) : Host.Outcome State Fault Refusal :=
  .next (s.cloveOp eng (encM 0x11 v.val ea) ea.isPost 1 (fun x => opVst x ea v))

/-- VLDB (R230). -/
def execVldb (eng : EngineId) (d : VReg) (ea : Machine.Ea) (s : State) : Host.Outcome State Fault Refusal :=
  .next (s.cloveOp eng (encM 0x12 d.val ea) ea.isPost 1 (fun x => opVldb x d ea))

/-- VLDQ (R230). -/
def execVldq (eng : EngineId) (d : VReg) (ea : Machine.Ea) (s : State) : Host.Outcome State Fault Refusal :=
  .next (s.cloveOp eng (encM 0x13 d.val ea) ea.isPost 1 (fun x => opVldq x d ea))

/-- ELD (R230). -/
def execEld (eng : EngineId) (d : VReg) (l : Lane) (ea : Machine.EaLane)
    (s : State) : Host.Outcome State Fault Refusal :=
  .next (s.cloveOp eng (encML 0x14 d.val l.val ea) ea.isPost 1 (fun x => opEld x d l ea))

/-- EST (R230). -/
def execEst (eng : EngineId) (ea : Machine.EaLane) (v : VReg) (l : Lane)
    (s : State) : Host.Outcome State Fault Refusal :=
  .next (s.cloveOp eng (encML 0x15 v.val l.val ea) ea.isPost 1 (fun x => opEst x ea v l))

/-- VCPY (R230). -/
def execVcpy (eng : EngineId) (k : AReg) (j : AReg) (s : State) : Host.Outcome State Fault Refusal :=
  .next (s.cloveOp eng [(26, 6, 0x16), (18, 3, k.val), (17, 1, 1), (14, 3, j.val), (0, 14, 0)] true 1
    (fun x => opVcpy x k j))

/-- VADD (R231). -/
def execVadd (eng : EngineId) (d : VReg) (a : VReg) (b : VReg) (s : State) : Host.Outcome State Fault Refusal :=
  .next (s.clovePlain eng (encV 0x18 d.val a.val b.val) 1 (fun x => putLanes x d (fun i => lane x a i + lane x b i)))

/-- VSUB (R231). -/
def execVsub (eng : EngineId) (d : VReg) (a : VReg) (b : VReg) (s : State) : Host.Outcome State Fault Refusal :=
  .next (s.clovePlain eng (encV 0x19 d.val a.val b.val) 1 (fun x => putLanes x d (fun i => lane x a i - lane x b i)))

/-- VMUL (R231). -/
def execVmul (eng : EngineId) (d : VReg) (a : VReg) (b : VReg) (s : State) : Host.Outcome State Fault Refusal :=
  .next (s.clovePlain eng (encV 0x1A d.val a.val b.val) 1
    (fun x => putLanes x d (fun i => rnd (lane x a i * lane x b i) 15)))

/-- VABS (R231). -/
def execVabs (eng : EngineId) (d : VReg) (a : VReg) (s : State) : Host.Outcome State Fault Refusal :=
  .next (s.clovePlain eng [(26, 6, 0x1B), (21, 5, d.val), (16, 5, a.val)] 1
    (fun x => putLanes x d (fun i => ((lane x a i).natAbs : Int))))

/-- VMAX (R231). -/
def execVmax (eng : EngineId) (d : VReg) (a : VReg) (b : VReg) (s : State) : Host.Outcome State Fault Refusal :=
  .next (s.clovePlain eng (encV 0x1C d.val a.val b.val) 1
    (fun x => putLanes x d (fun i => max (lane x a i) (lane x b i))))

/-- VMIN (R231). -/
def execVmin (eng : EngineId) (d : VReg) (a : VReg) (b : VReg) (s : State) : Host.Outcome State Fault Refusal :=
  .next (s.clovePlain eng (encV 0x1D d.val a.val b.val) 1
    (fun x => putLanes x d (fun i => min (lane x a i) (lane x b i))))

/-- VSHR (R231). -/
def execVshr (eng : EngineId) (d : VReg) (a : VReg) (sh : Fin 16) (s : State) : Host.Outcome State Fault Refusal :=
  .next (s.clovePlain eng [(26, 6, 0x1E), (21, 5, d.val), (16, 5, a.val), (0, 7, sh.val)] 1
    (fun x => putLanes x d (fun i => rnd (lane x a i) sh.val)))

/-- VSHL (R231). -/
def execVshl (eng : EngineId) (d : VReg) (a : VReg) (sh : Fin 16) (s : State) : Host.Outcome State Fault Refusal :=
  .next (s.clovePlain eng [(26, 6, 0x1F), (21, 5, d.val), (16, 5, a.val), (0, 7, sh.val)] 1
    (fun x => putLanes x d (fun i => lane x a i * 2 ^ sh.val)))

/-- VAND (R231). -/
def execVand (eng : EngineId) (d : VReg) (a : VReg) (b : VReg) (s : State) : Host.Outcome State Fault Refusal :=
  .next (s.clovePlain eng (encV 0x20 d.val a.val b.val) 1
    (fun x => setV x d (mkVec (fun i => x.v[a][i] &&& x.v[b][i]))))

/-- VOR (R231). -/
def execVor (eng : EngineId) (d : VReg) (a : VReg) (b : VReg) (s : State) : Host.Outcome State Fault Refusal :=
  .next (s.clovePlain eng (encV 0x21 d.val a.val b.val) 1
    (fun x => setV x d (mkVec (fun i => x.v[a][i] ||| x.v[b][i]))))

/-- VXOR (R231). -/
def execVxor (eng : EngineId) (d : VReg) (a : VReg) (b : VReg) (s : State) : Host.Outcome State Fault Refusal :=
  .next (s.clovePlain eng (encV 0x22 d.val a.val b.val) 1
    (fun x => setV x d (mkVec (fun i => x.v[a][i] ^^^ x.v[b][i]))))

/-- VCMPGT (R231). -/
def execVcmpgt (eng : EngineId) (d : VReg) (a : VReg) (b : VReg) (s : State) : Host.Outcome State Fault Refusal :=
  .next (s.clovePlain eng (encV 0x23 d.val a.val b.val) 1 (fun x => opVcmpgt x d a b))

/-- VSEL (R231). -/
def execVsel (eng : EngineId) (d : VReg) (a : VReg) (b : VReg) (s : State) : Host.Outcome State Fault Refusal :=
  .next (s.clovePlain eng (encV 0x24 d.val a.val b.val) 1
    (fun x => setV x d (mkVec (fun i => if (x.v[d][i]).msb then x.v[a][i] else x.v[b][i]))))

/-- VMOV (R231). -/
def execVmov (eng : EngineId) (d : VReg) (a : VReg) (s : State) : Host.Outcome State Fault Refusal :=
  .next (s.clovePlain eng [(26, 6, 0x25), (21, 5, d.val), (16, 5, a.val)] 1 (fun x => setV x d x.v[a]))

/-- VSPLAT (R231). -/
def execVsplat (eng : EngineId) (d : VReg) (imm : BitVec 16) (s : State) : Host.Outcome State Fault Refusal :=
  .next (s.clovePlain eng [(26, 6, 0x26), (21, 5, d.val), (16, 5, 0), (0, 16, imm.toNat)] 1
    (fun x => setV x d (mkVec (fun _ => imm))))

/-- VSHUF (R232). -/
def execVshuf (eng : EngineId) (d : VReg) (a : VReg) (b : VReg) (pat : Fin 4)
    (s : State) : Host.Outcome State Fault Refusal :=
  .next (s.clovePlain eng ((0, 7, pat.val) :: encV 0x27 d.val a.val b.val) 1 (fun x => opVshuf x d a b pat))

/-- ACLR (R233). (DEDUCED, log 63) -/
def execAclr (eng : EngineId) (d : AccReg) (s : State) : Host.Outcome State Fault Refusal :=
  .next (s.clovePlain eng [(26, 6, 0x28), (7, 2, d.val)] 1 (fun x => setAcc x d (mkAcc (fun _ => 0))))

/-- VMAC (R233). (DEDUCED, log 63) -/
def execVmac (eng : EngineId) (d : AccReg) (a : VReg) (b : VReg) (s : State) : Host.Outcome State Fault Refusal :=
  .next (s.clovePlain eng [(26, 6, 0x29), (7, 2, d.val), (16, 5, a.val), (11, 5, b.val)] 1
    (fun x => accumulate x d (fun i => lane x a i * lane x b i)))

/-- VMACB (R233). -/
def execVmacb (eng : EngineId) (d : AccReg) (k : AReg) (j : AReg) (s : State) : Host.Outcome State Fault Refusal :=
  .next (s.cloveOp eng (encM2 0x2A d.val k.val j.val) true 1 (fun x => opVmacb x d k j))

/-- VSQA (R233). -/
def execVsqa (eng : EngineId) (d : AccReg) (ea : Machine.Ea) (s : State) : Host.Outcome State Fault Refusal :=
  .next (s.cloveOp eng (encM 0x2B d.val ea) ea.isPost 1 (fun x => opVsqa x d ea))

/-- VPWR (R233). -/
def execVpwr (eng : EngineId) (d : AccReg) (ea : Machine.Ea) (s : State) : Host.Outcome State Fault Refusal :=
  .next (s.cloveOp eng (encM 0x2C d.val ea) ea.isPost 2 (fun x => opVpwr x d ea))

/-- MVA (R200). (DEDUCED, log 63) -/
def execMva (eng : EngineId) (d : VReg) (a : AccReg) (auto : Bool) (sh : Fin 25)
    (s : State) : Host.Outcome State Fault Refusal :=
  .next (s.clovePlain eng [(26, 6, 0x2D), (21, 5, d.val), (9, 2, a.val), (5, 1, bitNat auto), (0, 5, sh.val)] 2
    (fun x => if auto then opMvaAuto x d a else opMvaFixed x d a sh.val))

/-- AREDS (R233). (DEDUCED, log 63) -/
def execAreds (eng : EngineId) (d : AccReg) (a : AccReg) (s : State) : Host.Outcome State Fault Refusal :=
  .next (s.clovePlain eng [(26, 6, 0x2E), (9, 2, a.val), (7, 2, d.val)] 2 (fun x => opAreds x d a))

/-- VBFLY (R235). -/
def execVbfly (eng : EngineId) (a : VReg) (b : VReg) (k : AReg) (s : State) : Host.Outcome State Fault Refusal :=
  .next (s.cloveOp eng [(26, 6, 0x2F), (21, 5, a.val), (18, 3, k.val), (17, 1, 1), (12, 5, b.val), (0, 12, 0)] false 2
    (fun x => opVbfly x a b k))

/-- MAXX (R234). -/
def execMaxx (eng : EngineId) (d : VReg) (ea : Machine.Ea) (s : State) : Host.Outcome State Fault Refusal :=
  .next (s.cloveRun eng (encM 0x30 d.val ea) ea.isPost 2 (fun x => setFlag x flgFound false)
    (fun x => opSearchMem true x d ea))

/-- MINX (R234). -/
def execMinx (eng : EngineId) (d : VReg) (ea : Machine.Ea) (s : State) : Host.Outcome State Fault Refusal :=
  .next (s.cloveRun eng (encM 0x31 d.val ea) ea.isPost 2 (fun x => setFlag x flgFound false)
    (fun x => opSearchMem false x d ea))

/-- MAXXV (R234). -/
def execMaxxv (eng : EngineId) (d : VReg) (a : VReg) (s : State) : Host.Outcome State Fault Refusal :=
  .next (s.cloveRun eng [(26, 6, 0x32), (21, 5, d.val), (16, 5, a.val)] false 2 (fun x => setFlag x flgFound false)
    (fun x => some (search true x d x.v[a])))

/-- MINXV (R234). -/
def execMinxv (eng : EngineId) (d : VReg) (a : VReg) (s : State) : Host.Outcome State Fault Refusal :=
  .next (s.cloveRun eng [(26, 6, 0x33), (21, 5, d.val), (16, 5, a.val)] false 2 (fun x => setFlag x flgFound false)
    (fun x => some (search false x d x.v[a])))

end Sys2Proof.Machine
end

