-- ==== Sys2Proof/Machine/Params.lean ====
section
/-! DEFINITION. The parameter blocks as the host reads and writes them: locks, checks, application and the effects of a
write, PARAM_READ, PARAM_WRITE, COMMIT and CLEAR_STATS (R8 to R14, R359 to R365 and the checks of each block's chapter). -/

namespace Sys2Proof.Machine

/-! ## Locks (R9, R362) -/

/-- The number as a port, zone, group. -/
def portAt (i : Nat) : Port := ⟨i % 8, by omega⟩
def zoneAt (i : Nat) : ZoneId := ⟨i % 4096, by omega⟩
def groupAt (i : Nat) : GroupId := ⟨i % 64, by omega⟩

/-- A port is enabled, by its number. -/
def State.portRuns (s : State) (i : Nat) : Bool := portEnabled (s.port (portAt i)).seq

/-- Some enabled zone has a value in a field. -/
def State.zoneUses (s : State) (f : Fld) (v : Nat) : Bool := s.enabledZones.any (fun z => s.fld f z.val = v)

/-- A field of class [L] is locked; also SKEW outside BLANK, FACTORY and SERVICE (R257). (DEDUCED, log 151) -/
def State.locked (s : State) (f : Fld) (i : Nat) : Bool :=
  match f.block with
  | 0x04 | 0x40 | 0x41 => s.anyEnabled
  | 0x0A =>
    allPorts.any (fun p => (s.fld Fld.lockstep_members i).testBit p.val && portEnabled (s.port p).seq)
  | 0x1E => s.flag Fld.zone_en i
  | 0x1F => s.enabledZones.any (fun z => !s.zoneTemp z && s.fld Fld.zone_bandSet z.val = i)
  | 0x20 => s.enabledZones.any (fun z => s.fld Fld.zone_detector z.val = 3 && s.fld Fld.zone_template z.val = i)
  | 0x22 =>
    if f.lo ≤ 3 then s.flag Fld.group_loopEn i && s.flag Fld.loopCfg_en (s.fld Fld.group_loop i)
    else s.flag Fld.group_alarmEn i && s.flag Fld.almCfg_en (s.fld Fld.group_alarm i)
  | 0x25 => s.flag Fld.stream_en i
  | 0x27 => s.flag Fld.group_snap i || s.flag Fld.group_snapSpec i
  | 0x28 => s.flag Fld.mask_en i
  | 0x2C => s.captureInUse
  | 0x2E => s.flag Fld.linkCfg_en i
  | 0x45 => if f.lo = 0 then s.anyEnabled else s.flag Fld.hkCfg_en i
  | 0x46 => s.flag Fld.hkCfg_en i
  | _ => s.portRuns i

/-- A write of a field is refused as locked. (DEDUCED, log 151) -/
def State.writeLocked (s : State) (f : Fld) (i v : Nat) : Bool :=
  (f.block = 0x21 && !openLife s.life.state)
  || (match f.cls with
      | .L => s.locked f i
          || (f.block = 0x0A && f.lo = 0 && allPorts.any (fun p => v.testBit p.val && portEnabled (s.port p).seq))
      | .F | .I => false)

/-! ## The fields that a write names (R361) -/

/-- One field of one instance with the value to write. (DEDUCED, log 123) -/
structure FieldWrite where
  fld : Fld
  inst : Nat
  val : Nat
deriving DecidableEq, Repr

/-- The words of a write from a word on, as one number over the instance: data where the mask is set, and mask. -/
def writeNums : Nat → List (Word × Word) → Nat × Nat
  | _, [] => (0, 0)
  | w, (d, m) :: rest =>
    let r := writeNums (w + 1) rest
    ((d &&& m).toNat * 2 ^ (32 * w) + r.1, m.toNat * 2 ^ (32 * w) + r.2)

/-- The bits of a number at a field's place. -/
def fieldBits (f : Fld) (n : Nat) : Nat := n / 2 ^ f.lo % 2 ^ f.width

/-- Bits of a number that lie in no field of a block. (DEDUCED, log 124) -/
def outside (fs : List Fld) (n : Nat) : Nat := fs.foldl (fun x f => x - fieldBits f x * 2 ^ f.lo) n

/-- The fields written by data and mask over an instance; none where a mask covers part of a field or a reserved bit is
set. (DEDUCED, log 124) -/
def fieldWrites (b : BlockDesc) (inst : Nat) (nums : Nat × Nat) : Option (List FieldWrite) :=
  if outside b.fields nums.1 ≠ 0 then none
  else if b.fields.any (fun f => fieldBits f nums.2 ≠ 0 && fieldBits f nums.2 ≠ 2 ^ f.width - 1) then none
  else some ((b.fields.filter (fun f => fieldBits f nums.2 ≠ 0)).map (fun f => ⟨f, inst, fieldBits f nums.1⟩))

/-- A number of the words that a field may not take besides its range (R115, R236). -/
def barred (f : Fld) (v : Nat) : Bool :=
  v = 1 && (f = Fld.seqPort_ramanM || f = Fld.lockstep_ramanM || f = Fld.zone_gaugeLen)

/-- The first of the written fields that is locked or out of range decides (R362). (DEDUCED, log 123) -/
def State.fieldFails (s : State) (ws : List FieldWrite) : Option Status :=
  ws.findSome? (fun w =>
    if s.writeLocked w.fld w.inst w.val then some .locked
    else if w.val < w.fld.least || w.fld.most < w.val || barred w.fld w.val then some .badParam
    else none)

/-! ## The state that a write would leave (R362) -/

/-- Values in effect with every pending and held value in their place. -/
def State.withShadows (s : State) : State :=
  (s.pend ++ s.held).foldl (fun t e => t.setKey e.1 e.2) s

/-- The same with the values of a write. -/
def State.withWrites (s : State) (ws : List FieldWrite) : State :=
  ws.foldl (fun t w => t.setFld w.fld w.inst w.val) s.withShadows

/-! ## Checks of the blocks, on the state a write would leave -/

/-- The words of a gain profile pass R136. -/
def State.profileOk (h : State) (i : Nat) : Bool :=
  let ws := (List.range 32).map (h.breakpoint i)
  let body := ws.takeWhile (fun w => w.2.2 = 0)
  let starts := (ws.take (body.length + 1)).map (·.1)
  let rest := ws.drop (body.length + 1)
  starts.head? = some 0 && (starts.zip (starts.drop 1)).all (fun x => x.1 < x.2) && starts.all (fun b => b < 102400)
    && body.length < 32 && rest.all (fun w => w = (0, 0, 0))

/-- The limits of R183 and R184 on RTD_CFG, and of R394 while HK-B runs a user job.
(DEDUCED, log 125; DEDUCED, log 126) -/
def State.rtdCfgOk (h : State) (p : Port) : Bool :=
  let en := allPorts.filter (fun q => h.flag Fld.rtdCfg_en q.val)
  let total := (en.map (fun q => h.fld Fld.rtdCfg_pulse q.val + 2)).foldl (· + ·) 0
  let shortest := (en.map (fun q => h.fld Fld.rtdCfg_period q.val * 10)).foldl min 10000
  !((h.caps p).testBit 2 && h.fld Fld.rtdCfg_current p.val = 1)
    && h.fld Fld.rtdCfg_delay p.val + 2 < 2 * h.fld Fld.rtdCfg_pulse p.val
    && total ≤ shortest
    && (!h.flag Fld.hkCfg_en 1
        || (match h.rtdGap with
            | some g => (seqDwell (seqEntries (h.seqWords 1)) + 4) * 1000 ≤ g
            | none => true))

/-- What EN = 1 of a converter needs (R393, R394). -/
def State.hkEnableOk (h : State) (i : Nat) : Bool :=
  if i = 0 then seqDwell (seqEntries (h.seqWords 0)) ≤ 3132
  else
    let dwell := seqDwell (seqEntries (h.seqWords 1))
    (match h.rtdGap with
     | some g => (dwell + 4) * 1000 ≤ g
     | none => true)
    && (h.fld Fld.hkCfg_trig 1 ≠ 0 || dwell ≤ 1000 * h.fld Fld.hkCfg_periodMs 1)

/-- The entries of HK_SEQ that are valid or whose CHANNEL is written name channels of the converter (R391, R394).
(DEDUCED, log 127) -/
def State.hkSeqOk (h : State) (i : Nat) (wrote : List Nat) : Bool :=
  let c : Fin 2 := ⟨i % 2, by omega⟩
  let ws := h.seqWords c
  (List.range 8).all (fun k =>
    let w := ws.getD k 0
    !(w.testBit 7 || wrote.contains (32 * k)) || hkOwns c (w % 32))

/-- Two groups drive one output, or a range of the loop output is empty (R258). -/
def State.groupFails (h : State) (i : Nat) : Bool :=
  let clash (en out : Fld) : Bool :=
    h.flag en i && allGroups.any (fun g => g.val ≠ i && h.flag en g.val && h.fld out g.val = h.fld out i)
  (h.flag Fld.group_loopEn i && decide (h.sfld Fld.group_hi i ≤ h.sfld Fld.group_lo i))
    || clash Fld.group_loopEn Fld.group_loop || clash Fld.group_alarmEn Fld.group_alarm

/-- No port of a group is in SINGLE mode or in another group (R124). (DEDUCED, log 85) -/
def State.lockstepOk (h : State) (i : Nat) : Bool :=
  allPorts.all (fun p =>
    !(h.fld Fld.lockstep_members i).testBit p.val
      || (!h.flag Fld.seqPort_mode p.val
          && [0, 1, 2, 3].all (fun j => j = i || !(h.fld Fld.lockstep_members j).testBit p.val)))

/-- SEQ_PORT: R117, R118, R124, R154, R172, R203. -/
def State.seqPortFails (h : State) (p : Port) (ws : List FieldWrite) : Option Status :=
  if 102400 < h.fld Fld.seqPort_fibreLen p.val + h.fld Fld.seqPort_guard p.val then some .badParam
  else if h.flag Fld.seqPort_mode p.val && (h.groupOf p).isSome then some .badParam
  else if ws.any (fun w => w.fld.cls = .F) && !(h.gridOk p && h.recordingOk p) then some .badParam
  else if ws.any (fun w => w.fld = Fld.seqPort_slotMask) && !h.gaugesOk p then some .badParam
  else if ws.any (fun w => w.fld = Fld.seqPort_fibreLen || w.fld = Fld.seqPort_groupIndex) && !h.sramOk p then some .noResource
  else none

/-- ZONE: R236, R237. -/
def State.zoneWriteFails (h : State) (i : Nat) : Option Status :=
  if !h.zoneEntryOk (zoneAt i) then some .badParam
  else if h.flag Fld.zone_en i then h.zoneFails (zoneAt i)
  else none

/-- A field is written to 1. -/
def setsOne (ws : List FieldWrite) (f : Fld) : Bool := ws.any (fun w => w.fld = f && w.val = 1)

/-- The checks of an instance of a block: the state before, the state the write would leave, and what is written.
(DEDUCED, log 123; DEDUCED, log 128) -/
def State.instFails (s h : State) (block i : Nat) (ws : List FieldWrite) : Option Status :=
  let p := portAt i
  let bad (c : Bool) : Option Status := if c then some .badParam else none
  match block with
  | 0x06 => bad (!openLife s.life.state && ws.any (fun w => w.fld.cls = .L && w.val = 0))
  | 0x09 => h.seqPortFails p ws
  | 0x0A => bad (!h.lockstepOk i)
  | 0x0D => bad (h.flag Fld.rxCfg_align i && h.fld Fld.rxCfg_rawTag i ≠ 0)
  | 0x0E => bad (!h.profileOk i)
  | 0x11 =>
    if ws.any (fun w => w.fld = Fld.gaugeCfg_pitch) && !h.sramOk p then some .noResource else none
  | 0x14 => bad (ws.any (fun w => w.fld = Fld.ramanCfg_accTime) && !h.recordingOk p)
  | 0x15 => bad (!h.rtdCfgOk p)
  | 0x18 =>
    if (Tab.find? h.clove.programs (h.fld Fld.clovePort_program i)).isNone && ws.any (fun w => w.fld = Fld.clovePort_program)
    then some .badParam
    else if 65536 < h.blockBytes p then some .badParam
    else if !h.sramOk p then some .noResource
    else none
  | 0x1E => h.zoneWriteFails i
  | 0x22 =>
    if h.groupFails i then some .badParam
    else if (setsOne ws Fld.group_snap || setsOne ws Fld.group_snapSpec) && !h.snapReadyOk (groupAt i) then some .noResource
    else none
  | 0x25 => if setsOne ws Fld.stream_en then h.streamFails i else none
  | 0x26 => h.ringFails s p
  | 0x28 => if setsOne ws Fld.mask_en then h.maskFails p else none
  | 0x2E => bad (h.fld Fld.linkCfg_width i < h.fld Fld.linkCfg_minWidth i)
  | 0x40 => bad (s.slave && (setsOne ws Fld.timeCfg_loadArm || setsOne ws Fld.timeCfg_ppsAlign))
  | 0x45 => bad ((i = 0 && h.fld Fld.hkCfg_refSel 0 = 2) || (setsOne ws Fld.hkCfg_en && !h.hkEnableOk i))
  | 0x46 => bad (!h.hkSeqOk i ((ws.filter (fun w => w.fld.lo % 32 = 0)).map (·.fld.lo)))
  | 0x4E => bad (ws.any (fun w => w.fld = Fld.calCfg_refresMohm))
  | 0x50 => bad (200 < (h.sfld Fld.calTrim_attenTrim i).natAbs || 100 < (h.sfld Fld.calTrim_rtdOffset i).natAbs)
  | _ => none

/-- The block and instance of a write. -/
def FieldWrite.at_ (w : FieldWrite) : Nat × Nat := (w.fld.block, w.inst)

/-- The instances that are named, each once, in order. -/
def placesOf (xs : List (Nat × Nat)) : List (Nat × Nat) :=
  xs.foldl (fun acc x => if acc.contains x then acc else acc ++ [x]) []

/-- The first instance whose checks fail, with the status. -/
def State.writeFails (s : State) (ws : List FieldWrite) (places : List (Nat × Nat)) : Option (Status × Nat × Nat) :=
  let h := s.withWrites ws
  places.findSome? (fun x =>
    (s.instFails h x.1 x.2 (ws.filter (fun w => w.at_ = x))).map (fun st => (st, x.1, x.2)))

/-! ## Requests for a block under test (R456) -/

/-- A write returns the memory under test to use, or writes a table that is under test. (DEDUCED, log 129) -/
def State.writeTested (s : State) (ws : List FieldWrite) : Bool :=
  ws.any (fun w =>
    (w.fld.block = 0x1E && s.testOn 0x06 0)
    || (w.fld = Fld.cloveCluster_lendEn && w.val = 1 && s.testOn 0x03 w.inst)
    || (w.fld = Fld.cloveCluster_engineEn
        && [0, 1, 2, 3].any (fun e => w.val.testBit e && (s.testOn 0x01 (4 * w.inst + e) || s.testOn 0x02 (4 * w.inst + e)))))

/-! ## Effects of the fields in effect after a write -/

/-- A stream is disabled: what is queued is discarded, and the record of a job that runs (R275, R312).
(DEDUCED, log 131) -/
def State.streamOff (s : State) (i : Nat) : State :=
  (s.setStream i (fun x => { x with queue := [], sent := 0, lastHeader := none, shareFull := false })).setSumac
    (fun x => { x with streamJobs := (x.streamJobs.filter (fun j => j.1 != i || codedType j.2.1.typ)).map (fun j =>
      if j.1 = i then (j.1, j.2.1, j.2.2.1, j.2.2.2.1, true) else j) })

/-- A stream is enabled: its first data record follows a HEADER (R267); a readout that waits goes on.
(DEDUCED, log 131) -/
def State.streamOn (s : State) (i : Nat) : State :=
  let s1 := s.setStream i (fun x => { x with headerDue := true })
  if s1.capture.readouts.any (fun r => r.stream = i && !r.ended) then s1.readoutStep i else s1

/-- RESTORE: FUNC_OFF bits clear; detection starts again, learning starts again (R431). -/
def State.restoreBanks (s : State) (m : Nat) : State :=
  let s1 := (s.setFld Fld.powerCfg_restore 0 0).setPower (fun w => { w with funcOff := w.funcOff &&& ~~~(BitVec.ofNat 8 m) })
  let s2 := if m.testBit 2 && s.detect.off then
      (s1.setDetect (fun d =>
        { d with off := false,
                 zones := d.zones.map (fun e => (e.1, if e.2.mode = .off then { e.2 with mode := .idle } else e.2)) })).groupsEval
        allGroups
    else s1
  if m.testBit 3 && s.power.funcOff.getLsbD 3 then
    s2.setDetect (fun d => { d with zones := d.zones.map (fun e => (e.1, { e.2 with base := List.replicate 8 none })) })
  else s2

/-- The rings of a port whose size a write has changed are laid out anew and empty (R281, R283). (DEDUCED, log 130) -/
def State.ringsResized (t s : State) (p : Port) : State :=
  allRings.foldl (fun u k =>
    if s.ringMib p k = t.ringMib p k then u else (u.cutParts p k).setRing p k (fun r => { RingSt.reset with seq := r.seq })) t

/-- What follows when the fields of an instance have been written: `s` before and `t` after the write. -/
def State.afterInst (t s : State) (block i : Nat) (ws : List FieldWrite) : State :=
  let p := portAt i
  let rose (f : Fld) : Bool := t.flag f i && !s.flag f i
  let fell (f : Fld) : Bool := s.flag f i && !t.flag f i
  match block with
  | 0x06 =>
    allEmitters.foldl (fun u e => if ws.any (fun w => w.fld = setpointFld e) then u.setpointWritten p e else u) t
  | 0x0A =>
    let left := allPorts.filter (fun q =>
      (s.fld Fld.lockstep_members i).testBit q.val && !(t.fld Fld.lockstep_members i).testBit q.val)
    left.foldl (fun u q => u.calAbortPort q) t
  | 0x09 => if ws.any (fun w => w.fld = Fld.seqPort_groupIndex) then t.headerDueAll p else t
  | 0x11 => if ws.any (fun w => w.fld = Fld.gaugeCfg_xi || w.fld = Fld.gaugeCfg_kt) then t.headerDueAll p else t
  | 0x19 => t.throttleNote p (s.clusterClock p)
  | 0x1E => if rose Fld.zone_en then t.zoneEnable (zoneAt i) else if fell Fld.zone_en then t.zoneDisable (zoneAt i) else t
  | 0x22 =>
    if t.snapOn (groupAt i) && !s.snapOn (groupAt i) then
      t.setGroup (groupAt i) (GroupSt.arm t.clk)
    else t
  | 0x25 => if rose Fld.stream_en then t.streamOn i else if fell Fld.stream_en then t.streamOff i else t
  | 0x26 => t.ringsResized s p
  | 0x28 => if rose Fld.mask_en || fell Fld.mask_en then t.setMask p (fun m =>
      { m with traces := [], taking := false, owed := false, lastRuns := [] }) else t
  | 0x2E =>
    let t1 := if ws.any (fun w => w.fld = Fld.linkCfg_en) then t.linkEnWritten (s.flag Fld.linkCfg_en 0) (t.flag Fld.linkCfg_en 0) else t
    t1.linkPmWritten
  | 0x40 =>
    let t1 := if s.fld Fld.timeCfg_refSrc 0 = t.fld Fld.timeCfg_refSrc 0 then t else t.refSrcChanged
    let t2 := if setsOne ws Fld.timeCfg_ppsEn then t1.ppsFirst else t1
    if setsOne ws Fld.timeCfg_loadArm then t2.loadNow else t2
  | 0x41 => if ws.any (fun w => w.fld = Fld.siteCfg_role) then t.roleChanged else t
  | 0x45 =>
    let c : Fin 2 := ⟨i % 2, by omega⟩
    let t1 := if s.fld Fld.hkCfg_refSel i = t.fld Fld.hkCfg_refSel i then t else t.refChanged c
    let t2 := if fell Fld.hkCfg_en then t1.hkDisabled c else t1
    if i = 1 then t2.hkRetick else t2
  | 0x50 => if ws.any (fun w => w.fld = Fld.calTrim_attenTrim) then t.attenWritten p else t
  | 0x53 => t.restoreBanks (t.fld Fld.powerCfg_restore 0)
  | _ => t

/-- Blocks whose writes a group's value or an output can follow. -/
def groupBlocks : List Nat := [0x1E, 0x22, 0x4A, 0x4B]

/-- Put shadowed values on their way: in effect at once where their port is stopped, else pending (R8, R363). -/
def State.shadow (s : State) (es : Tab Nat) : State :=
  let now := es.filter (fun e => !portEnabled (s.port (s.ownerOf e.1)).seq)
  let later := es.filter (fun e => portEnabled (s.port (s.ownerOf e.1)).seq)
  let s1 := s.applyFields now
  { s1 with pend := later.foldl (fun t e => Tab.put t e.1 e.2) (now.foldl (fun t e => Tab.erase t e.1) s1.pend) }

/-- Apply the fields of a write that has passed its checks; the second part says whether any value is held (R12, R13,
R362, R363). -/
def State.applyWrites (s : State) (ws : List FieldWrite) (hold : Bool) : State × Bool :=
  let key (w : FieldWrite) : Nat := fldKey w.fld w.inst
  let shadowed := ws.filter (fun w => w.fld.cls = .F)
  let isHeld (w : FieldWrite) : Bool := hold || (Tab.find? s.held (key w)).isSome
  let s1 := (ws.filter (fun w => w.fld.cls ≠ .F)).foldl (fun t w => t.setFld w.fld w.inst w.val) s
  let s2 := s1.shadow ((shadowed.filter (fun w => !isHeld w)).map (fun w => (key w, w.val)))
  let kept := shadowed.filter isHeld
  let s3 := { s2 with held := kept.foldl (fun t w => Tab.put t (key w) w.val) s2.held,
                      pend := kept.foldl (fun t w => Tab.erase t (key w)) s2.pend }
  let places := placesOf (ws.map FieldWrite.at_)
  let s4 := places.foldl (fun t x => t.afterInst s x.1 x.2 (ws.filter (fun w => w.at_ = x))) s3
  let s5 := if places.any (fun x => groupBlocks.contains x.1) then s4.groupsEval allGroups else s4
  (s5, !kept.isEmpty)

/-! ## PARAM_WRITE (R361, R362) -/

/-- A block has an instance. -/
def hasInst (b : BlockDesc) (i : Nat) : Bool := b.first ≤ i && i < b.first + b.count

/-- The status that refuses a write before its fields are looked at. (DEDUCED, log 124) -/
def writeShape (block inst word : Nat) (n : Nat) : Option Status :=
  match blockOf block with
  | none => some .badParam
  | some b =>
    if !hasInst b inst then some .badParam
    else if b.kind ≠ .config then some .readOnly
    else if n = 0 || 29 < n || b.words < word + n then some .badParam
    else none

/-- The instances that a write's checks judge: a profile that is held is judged as a whole at its COMMIT (R136). -/
def judgedPlaces (hold : Bool) (places : List (Nat × Nat)) : List (Nat × Nat) :=
  if hold then places.filter (fun x => x.1 ≠ rxProfileBlock.id) else places

/-- PARAM_WRITE. FLAGS bit 0 is HOLD, the others are reserved. -/
def State.paramWriteCmd (s : State) (rq : Req) (block inst word flags : Nat) (words : List (Word × Word)) : State :=
  match writeShape block inst word words.length, blockOf block with
  | some st, _ => s.complete rq st
  | none, none => s.complete rq .badParam
  | none, some b =>
    if 1 < flags then s.complete rq .badParam
    else
      match fieldWrites b inst (writeNums word words) with
      | none => s.complete rq .badParam
      | some ws =>
        if s.writeTested ws then s.busyTest rq
        else
          match s.fieldFails ws with
          | some st => s.complete rq st
          | none =>
            match s.writeFails ws (judgedPlaces (flags = 1) (placesOf (ws.map FieldWrite.at_))) with
            | some x => s.complete rq x.1
            | none =>
              let r := s.applyWrites ws (flags = 1)
              r.1.completeWith rq .ok ⟨false, r.2⟩ [] []

/-! ## PARAM_READ (R364) -/

/-- Bins of a number as signed half words, two per word. -/
def halves (lo hi : Int) : Nat := toBits 16 lo + 65536 * toBits 16 hi

/-- ZONE_STATE (R260). (DEDUCED, log 133) -/
def State.zoneStatus (s : State) (z : ZoneId) : List Nat :=
  let x := s.zone z
  let on := s.flag Fld.zone_en z.val
  let code : Nat := if !on then 0 else match x.mode with
    | .off => 0
    | .idle => 1
    | .pending => 2
    | .prov => 3
    | .active => 4
  let base (i : Nat) : Int := if on then baseUnit (x.base.getD i none) 0 else 0
  let temp := s.zoneTemp z
  [code + 8 * bitNat (on && x.invalid) + 16 * (if temp then 0 else (s.zoneGauges z).length),
   if on then x.eventId else 0, if on then x.zsample else 0,
   halves (base 0) (if temp then 0 else base 1), if temp then 0 else halves (base 2) (base 3),
   if temp then 0 else halves (base 4) (base 5), if temp then 0 else halves (base 6) (base 7),
   (match temp, x.tmax with | true, some t => toBits 16 t | _, _ => 0x8000) + 65536 * toBits 16 (if on then x.level else 0)]

/-- Busy time of a cluster's engines within the last second, ns. (DEDUCED, log 65) -/
def State.clusterBusy (s : State) (c : Port) : Nat :=
  let since := s.clk - secNs
  let done := ((s.cluster c).busy.map (fun x => x.2 - max x.1 since)).foldl (· + ·) 0
  let now := ((allEngines.filter (fun e => clusterOf e = c && !engineFree (s.engine e))).map
    (fun e => s.clk - max (s.engine e).busySince since)).foldl (· + ·) 0
  done + now

/-- CLOVE_STATUS (R217). -/
def State.cloveStatus (s : State) (c : Port) : List Nat :=
  let online := ((allEngines.filter (fun e => clusterOf e = c && (s.engine e).mode ≠ .offline)).map
    (fun e => 2 ^ (e.val % 4))).foldl (· + ·) 0
  let ready := ((s.port c).queue.blocks.filter isReady).length
  [s.clusterClock c + 4 * bitNat (s.cluster c).hot + 8 * online + 128 * min 63 ready,
   toBits 16 (s.cluster c).temp + 65536 * divOpen (1000 * s.clusterBusy c) (4 * secNs)]

/-- The words of a status block. -/
def State.statusWords (s : State) (block i : Nat) : List Nat :=
  let p := portAt i
  let out : Fin 8 := ⟨i % 8, by omega⟩
  match block with
  | 0x02 => [s.headStatus p]
  | 0x07 => [s.safetyStatus p]
  | 0x0B => s.seqStatus p
  | 0x0F => s.rxStatus p
  | 0x12 => s.gaugeStatus p
  | 0x16 => s.ramanStatus p
  | 0x1B => s.cloveStatus p
  | 0x23 => s.zoneStatus (zoneAt i)
  | 0x29 => s.capStatus p
  | 0x2F => s.linkStatus
  | 0x42 => s.timeStatus
  | 0x43 => s.tiStatus
  | 0x47 => [(s.house.values.toList.getD i 0).toNat]
  | 0x48 => s.hkStatus ⟨i % 2, by omega⟩
  | 0x4C => if i < 8 then s.loopStatus out else s.alarmStatus out
  | 0x51 => if i < 8 then s.calStatusPort p else s.calStatusChip
  | 0x54 => s.powerStatus
  | 0x56 => s.startStatus
  | _ => []

/-- An instance of a configuration block with pending and held values in their places. -/
def State.nextNum (s : State) (b : BlockDesc) (inst : Nat) : Nat :=
  b.fields.foldl (fun n f => n + s.nextFld f inst * 2 ^ f.lo) 0

/-- Words of an instance: in effect, and with pending and held values. -/
def State.blockWords (s : State) (b : BlockDesc) (inst word n : Nat) : List Nat × List Nat :=
  let cut (x : Nat) : List Nat := (List.range n).map (fun k => x / 2 ^ (32 * (word + k)) % 4294967296)
  match b.kind with
  | .config => (cut (s.cfgNum b inst), cut (s.nextNum b inst))
  | .status =>
    let ws := (List.range n).map (fun k => (s.statusWords b.id inst).getD (word + k) 0 % 4294967296)
    (ws, ws)
  | .stats =>
    let ws := (List.range n).map (fun k => s.ctr ⟨b.id, word + k, 32⟩ inst)
    (ws, ws)

/-- The bitmap of the words of an instance that have a value in a table of shadows. (DEDUCED, log 134) -/
def shadowBits (b : BlockDesc) (t : Tab Nat) (inst word n : Nat) : Nat :=
  ((List.range n).map (fun k =>
    if b.fields.any (fun f => f.lo / 32 = word + k && (Tab.find? t (fldKey f inst)).isSome) then 2 ^ k else 0)).foldl (· + ·) 0

/-- PARAM_READ. (DEDUCED, log 134) -/
def State.paramReadCmd (s : State) (rq : Req) (block inst word n : Nat) : State :=
  match blockOf block with
  | none => s.complete rq .badParam
  | some b =>
    if !hasInst b inst || n = 0 || 28 < n || b.words < word + n then s.complete rq .badParam
    else if block = 0x1E && s.testOn 0x06 0 then s.busyTest rq
    else
      let held := shadowBits b s.held inst word n
      let pend := shadowBits b (s.pend ++ s.held) inst word n
      let ws := s.blockWords b inst word n
      s.completeWith rq .ok ⟨pend ≠ 0, held ≠ 0⟩ []
        (leBytes 4 pend ++ leBytes 4 held ++ ws.1.flatMap (leBytes 4) ++ ws.2.flatMap (leBytes 4))

/-! ## COMMIT (R365) -/

/-- COMMIT; with DISCARD the held values are dropped. (DEDUCED, log 129) -/
def State.commitCmd (s : State) (rq : Req) (flags : Nat) : State :=
  let n := s.held.length
  if 1 < flags then s.complete rq .badParam
  else if flags = 1 then { s with held := [] }.completeResult rq .ok (leBytes 4 n)
  else
    let ws := s.held.filterMap (fun e => (fieldAt e.1).map (fun f => (⟨f, keyInst e.1, e.2⟩ : FieldWrite)))
    if s.writeTested ws then s.busyTest rq
    else
      match s.writeFails ws (placesOf (ws.map FieldWrite.at_)) with
      | some (st, b, i) => s.completeResult rq st (zeros 4 ++ leBytes 2 b ++ leBytes 2 i)
      | none =>
        ({ s with held := [] }.shadow s.held).completeResult rq .ok (leBytes 4 n)

/-! ## CLEAR_STATS (R355, R360) -/

/-- CLEAR_STATS; 0xFFFF means all blocks or all instances. (DEDUCED, log 132) -/
def State.clearStatsCmd (s : State) (rq : Req) (block inst : Nat) : State :=
  let blocks := paramBlocks.filter (fun b => b.kind = .stats && (block = 0xFFFF || b.id = block))
  if blocks = [] ∨ (inst ≠ 0xFFFF ∧ blocks.all (fun b => !hasInst b inst)) then s.complete rq .badParam
  else
    let hit (k : Nat) : Bool := blocks.any (fun b => k / 4194304 = b.id && (inst = 0xFFFF || k / 64 % 65536 = inst))
    let s1 := { s with stats := s.stats.filter (fun e => !hit e.1) }
    let seen := allPorts.filter (fun p => blocks.any (fun b => b.id = 0x10) && (inst = 0xFFFF || inst = p.val))
    (seen.foldl (fun t p => t.setRx p (fun x => { x with clipSeen := false, ovldSeen := false })) s1).complete rq .ok

end Sys2Proof.Machine
end

