-- ==== Sys2Proof/Machine/Loads.lean ====
section
/-! DEFINITION. Images that the host loads: programs, zone packs, baselines and mask envelopes (R214 to R216, R238,
R239, R246, R292, R310), and ENGINE_RESET. -/

namespace Sys2Proof.Machine

/-! ## Programs (R214 to R216) -/

/-- An image of a program after its checks: the program, or the status that refuses it. -/
inductive ProgramCheck where
  | good (p : Program)
  | bad (st : Status)
deriving DecidableEq, Repr

/-- The checks of R215 on the image's own bytes; `others` is the code of the programs that stay. (DEDUCED, log 137) -/
def programCheck (life : LifeCycle) (keyHash : List Byte) (release others : Nat) (img : List Byte) : ProgramCheck :=
  let code := u32At img 0x08
  let data := u32At img 0x0C
  let signed := decide (u16At img 6 % 2 = 1)
  let body := 0x40 + code + data
  let state := u16At img 0x14
  if u32At img 0 ≠ 0x50564C43 ∨ u16At img 4 ≠ 1 ∨ 1 < u16At img 6 ∨ bytesAt img 0x2C 20 ≠ zeros 20 then .bad .badImage
  else if img.length ≠ body + (if signed then 128 else 0) ∨ code % 4 ≠ 0 ∨ 163840 < data ∨ state % 64 ≠ 0 ∨ 8192 < state
  then .bad .badImage
  else if code ≤ u32At img 0x10 ∨ release < u16At img 0x16 ∨ 61440 < others + code then .bad .badImage
  else if life = .deployed ∧ !signed then .bad .badImage
  else
    match (if signed then sigCheck keyHash (bytesAt img body 64) (bytesAt img (body + 64) 64) (img.take body) else .pass) with
    | .pass => .good ⟨bytesAt img 0x40 code, bytesAt img (0x40 + code) data, u32At img 0x10, state, signed⟩
    | .keyHash | .signature => .bad .badSignature

/-- A slot is the PROGRAM of an enabled port. -/
def State.programUsed (s : State) (slot : Nat) : Bool :=
  allPorts.any (fun p => portEnabled (s.port p).seq && s.fld Fld.clovePort_program p.val = slot)

/-- LOAD_PROGRAM: the image is checked as the command is accepted, and its code goes to the engines.
(DEDUCED, log 138) -/
def State.loadProgramCmd (s : State) (rq : Req) (slot off bytes : Nat) : State :=
  if slot < 8 ∨ 15 < slot ∨ stagingMapped < off + bytes then s.complete rq .badParam
  else if s.programUsed slot then s.complete rq .locked
  else if s.clove.load.isSome then s.complete rq .busy
  else
    let release := match s.start.image with
      | some i => i.release
      | none => 0
    match programCheck s.life.state s.life.keyHash release (codeTotal (Tab.erase s.clove.programs slot)) (s.staged off bytes) with
    | .bad st => s.complete rq st
    | .good p => s.loadBegin rq slot p

/-- UNLOAD_PROGRAM (R355). (DEDUCED, log 138) -/
def State.unloadProgramCmd (s : State) (rq : Req) (slot : Nat) : State :=
  if slot < 8 ∨ 15 < slot then s.complete rq .badParam
  else if s.programUsed slot then s.complete rq .locked
  else if s.clove.load.any (fun l => l.2.1 = slot) then s.complete rq .busy
  else (s.setClove (fun c => { c with programs := Tab.erase c.programs slot })).relayEngines.complete rq .ok

/-- The timeout of LOAD_PROGRAM: the program is not loaded (R356). (DEDUCED, log 67) -/
def State.loadTimeout (s : State) : State := (s.setClove (fun c => { c with load := none })).relayEngines

/-- ENGINE_RESET (R213): the engine returns to the pool with its program memory; a block on it is discarded. An engine
under test is busy, and one whose memory cannot be repaired stays OFFLINE (R444, R456).
(DEDUCED, log 129; DEDUCED, log 140) -/
def State.engineResetCmd (s : State) (rq : Req) (cl e : Nat) : State :=
  if 7 < cl ∨ 3 < e then s.complete rq .badParam
  else
    let n := 4 * cl + e
    let en : EngineId := ⟨n % 32, by omega⟩
    if s.testOn 0x01 n || s.testOn 0x02 n then s.busyTest rq
    else
      let x := s.engine en
      let s1 := match x.mode with
        | .running p j m | .copying p j m =>
          match s.takenBy en p j m with
          | some b => (s.gapBlock p b (if b.tCutoff ≤ s.tb then .late else .engineFault)).release p
          | none => s
        | .idle | .offline => s
      let s2 := s1.setEngine en (fun y =>
        { EngineSt.reset with pmem := y.pmem, holds := y.holds, dmem := y.dmem, cycles := y.cycles,
                              busySince := y.busySince, mode := y.mode })
      let bad := s.unrepairable 0x01 n || s.unrepairable 0x02 n
      let s3 := match x.mode with
        | .running .. | .copying .. => s2.engineIdles en .idle
        | .idle => s2
        | .offline => if bad then s2 else (s2.setEngine en (fun y => { y with mode := .idle })).engineBoundary en
      s3.complete rq .ok

/-! ## Zone packs (R238, R239) -/

/-- The blocks that a zone pack may name. -/
def packBlocks : List Nat := [0x1E, 0x1F, 0x20, 0x22, 0x27]

/-- A run of a zone pack: block, first instance and count, and its data. -/
structure PackRun where
  block : BlockDesc
  first : Nat
  count : Nat
  data : List Byte
deriving Repr

/-- The runs of a pack after its header, exactly as many as the header says; none where the layout is broken. -/
def packRuns : Nat → List Byte → Option (List PackRun)
  | 0, bs => if bs = [] then some [] else none
  | n + 1, bs =>
    let first := u16At bs 2
    let count := u16At bs 4
    match if packBlocks.contains (u16At bs 0) then blockOf (u16At bs 0) else none with
    | none => none
    | some b =>
      let size := 4 * b.words * count
      if bs.length < 8 + size ∨ count = 0 ∨ b.count < first + count ∨ u16At bs 6 ≠ 0 then none
      else (packRuns n (bs.drop (8 + size))).map (fun rs => ⟨b, first, count, (bs.drop 8).take size⟩ :: rs)

/-- Two runs name one instance. -/
def runsClash (a b : PackRun) : Bool := a.block.id = b.block.id && a.first < b.first + b.count && b.first < a.first + a.count

/-- No two runs of a list name one instance. -/
def runsApart : List PackRun → Bool
  | [] => true
  | r :: rs => rs.all (fun x => !runsClash r x) && runsApart rs

/-- A decompressed pack under R239; none where it breaks the layout. (DEDUCED, log 135) -/
def zonePack (bs : List Byte) : Option (List PackRun) :=
  let n := u16At bs 6
  if u32At bs 0 ≠ 0x4B41505A ∨ u16At bs 4 ≠ 1 ∨ n = 0 ∨ 4096 < n ∨ u32At bs 8 ≠ bs.length ∨ bs.length < 16
      ∨ bytesAt bs 12 4 ≠ zeros 4 then none
  else
    match packRuns n (bs.drop 16) with
    | some rs => if runsApart rs then some rs else none
    | none => none

/-- The instances of a run with the number that each one's words make. -/
def PackRun.instances (r : PackRun) : List (Nat × Nat) :=
  (List.range r.count).map (fun k => (r.first + k, leNat (bytesAt r.data (4 * r.block.words * k) (4 * r.block.words))))

/-- All fields of an instance as writes. (DEDUCED, log 135) -/
def wholeWrites (b : BlockDesc) (inst n : Nat) : List FieldWrite := b.fields.map (fun f => ⟨f, inst, fieldBits f n⟩)

/-- A zone pack applies as a whole, or its status says why not. Only fields that it changes are writes; every instance
that it names is checked. (DEDUCED, log 135) -/
def State.applyPack (s : State) (rs : List PackRun) : Status × State :=
  let named := rs.flatMap (fun r => r.instances.map (fun x => (r.block, x.1, x.2)))
  if named.any (fun x => outside x.1.fields x.2.2 ≠ 0) then (.badParam, s)
  else
    let ws := (named.flatMap (fun x => wholeWrites x.1 x.2.1 x.2.2)).filter (fun w => s.nextFld w.fld w.inst ≠ w.val)
    match s.fieldFails ws with
    | some st => (st, s)
    | none =>
      match s.writeFails ws (named.map (fun x => (x.1.id, x.2.1))) with
      | some x => (x.1, s)
      | none => (.ok, ((s.applyWrites ws false).1).restoreBanks 4)

/-- LOAD_ZONE_PACK: the pack waits for the decompressor (R310, R312, R456). (DEDUCED, log 87; DEDUCED, log 129) -/
def State.loadZonePackCmd (s : State) (rq : Req) (off bytes : Nat) : State :=
  if s.testOn 0x06 0 then s.busyTest rq
  else if stagingMapped < off + bytes then s.complete rq .badParam
  else s.setSumac (fun x => { x with decJobs := x.decJobs ++ [⟨rq, .zonePack, s.staged off bytes⟩] })

/-! ## Baselines (R246) -/

/-- LOAD_BASELINES: the image waits for the decompressor. (DEDUCED, log 87) -/
def State.loadBaselinesCmd (s : State) (rq : Req) (off bytes : Nat) : State :=
  if stagingMapped < off + bytes then s.complete rq .badParam
  else s.setSumac (fun x => { x with decJobs := x.decJobs ++ [⟨rq, .baselines, s.staged off bytes⟩] })

/-- The baselines of an image go to the enabled zones, with fraction 0, and learning may serve again (R246, R431).
(DEDUCED, log 136) -/
def State.applyBaselines (s : State) (img : List Byte) : State :=
  let base (z : ZoneId) : List (Option Int) :=
    (List.range 8).map (fun b => some (s16At img (16 * z.val + 2 * b) * 65536))
  let s1 := s.enabledZones.foldl (fun t z => t.setZone z (fun x => { x with base := base z })) s
  s1.setPower (fun w => { w with funcOff := w.funcOff &&& 0xF7 })

/-! ## The decompressor (R309 to R312) -/

/-- Output limit of a use (R310). -/
def decLimit : DecUse → Nat
  | .job d => u32At d 0x14
  | .zonePack => 393216
  | .baselines => 65536
  | .mask _ => 409600

/-- An image that decoded well is applied, or its status says why not. (DEDUCED, log 136) -/
def State.applyImage (s : State) (u : DecUse) (img : List Byte) : Status × State :=
  match u with
  | .job _ => (.ok, s)
  | .zonePack =>
    match zonePack img with
    | some rs => s.applyPack rs
    | none => (.badImage, s)
  | .baselines => if img.length ≠ 65536 then (.badImage, s) else (.ok, s.applyBaselines img)
  | .mask p =>
    if s.flag Fld.mask_en p.val then (.locked, s)
    else if img.length % 4 ≠ 0 then (.badImage, s)
    else
      (.ok, s.setMask p (fun m =>
        { m with envelope := (List.range (img.length / 4)).map (fun i => (s16At img (4 * i), s16At img (4 * i + 2))) }))

/-- DECOMPRESS_DONE: the decompression that was accepted first ends (R309, R310, R312). (DEDUCED, log 89) -/
def decompressDone (dt : Nat) (s0 : State) : State :=
  let s := s0.elapse dt
  match s.sumac.decJobs with
  | [] => s
  | j :: rest =>
    let s1 := s.setSumac (fun x => { x with decJobs := rest })
    match j.use with
    | .job d => s1.decJobDone j.req d j.coded
    | .zonePack | .baselines | .mask _ =>
      let x := decompress (decLimit j.use) j.coded
      let s2 := s1.decCount x.status
      if x.status ≠ .ok then s2.complete j.req x.status
      else
        let r := s2.applyImage j.use x.bytes
        r.2.complete j.req r.1

end Sys2Proof.Machine
end

