-- ==== Sys2Proof/Machine/DetectRows.lean ====
section
/-! DEFINITION. Blocks, zones, snapshots, the capture memory and Sumac (chapters 9, 11 to 13). -/

namespace Sys2Proof.Machine

/-- BLOCK_READY (R201). -/
def execBlockReady (dt : Nat) (p : Port) (column : Nat) (s : State) : Host.Outcome State Fault Refusal :=
  .next (whenRuns dt (fun d t => blockReady d p column t) s)

/-- ENGINE_REQUEST (R207). -/
def execEngineRequest (dt : Nat) (eng : EngineId) (s : State) : Host.Outcome State Fault Refusal :=
  .next (whenRuns dt (fun d t => engineRequest d eng t) s)

/-- BLOCK_COPIED (R208). -/
def execBlockCopied (dt : Nat) (eng : EngineId) (s : State) : Host.Outcome State Fault Refusal :=
  .next (whenRuns dt (fun d t => blockCopied d eng t) s)

/-- BLOCK_CUTOFF (R209). -/
def execBlockCutoff (dt : Nat) (p : Port) (column : Nat) (s : State) : Host.Outcome State Fault Refusal :=
  .next (whenRuns dt (fun d t => blockCutoff d p column t) s)

/-- ENGINE_WATCHDOG (R213). -/
def execEngineWatchdog (dt : Nat) (eng : EngineId) (s : State) : Host.Outcome State Fault Refusal :=
  .next (whenRuns dt (fun d t => engineWatchdog d eng t) s)

/-- CLUSTER_TEMP_SAMPLE (R212). -/
def execClusterTempSample (dt : Nat) (cl : Port) (temp : Int) (s : State) : Host.Outcome State Fault Refusal :=
  .next (whenRuns dt (fun d t => clusterTempSample d cl temp t) s)

/-- VIBRATION_ZONE_SAMPLE (R250). -/
def execVibrationZoneSample (dt : Nat) (z : ZoneId) (block : Nat) (s : State) : Host.Outcome State Fault Refusal :=
  .next (whenRuns dt (fun d t => vibrationZoneSample d z block t) s)

/-- TEMPERATURE_ZONE_SAMPLE (R250). -/
def execTemperatureZoneSample (dt : Nat) (z : ZoneId) (s : State) : Host.Outcome State Fault Refusal :=
  .next (whenRuns dt (fun d t => temperatureZoneSample d z t) s)

/-- SNAPSHOT_PUBLISH (R290). -/
def execSnapshotPublish (dt : Nat) (id : Nat) (s : State) : Host.Outcome State Fault Refusal :=
  .next (whenRuns dt (fun d t => snapshotPublish d id t) s)

/-- AUTO_TIMEOUT (R288). -/
def execAutoTimeout (dt : Nat) (g : GroupId) (s : State) : Host.Outcome State Fault Refusal :=
  .next (whenRuns dt (fun d t => autoTimeout d g t) s)

/-- HOLDOFF_END (R286). -/
def execHoldoffEnd (dt : Nat) (g : GroupId) (s : State) : Host.Outcome State Fault Refusal :=
  .next (whenRuns dt (fun d t => holdoffEnd d g t) s)

/-- RECORD_ENQUEUE (R275). -/
def execRecordEnqueue (dt : Nat) (item : EnqueueItem) (s : State) : Host.Outcome State Fault Refusal :=
  .next (whenRuns dt (fun d t => recordEnqueue d item t) s)

/-- SPILL_WRITE_TIMEOUT (R277). -/
def execSpillWriteTimeout (dt : Nat) (stream : Nat) (s : State) : Host.Outcome State Fault Refusal :=
  .next (whenRuns dt (fun d t => spillWriteTimeout d stream t) s)

/-- SUMMARY_PERIODIC (R270). -/
def execSummaryPeriodic (dt : Nat) (s : State) : Host.Outcome State Fault Refusal :=
  .next (whenRuns dt summaryPeriodic s)

/-- MASK_TRACE_EVAL (R293). -/
def execMaskTraceEval (dt : Nat) (p : Port) (ago cycles : Nat) (s : State) : Host.Outcome State Fault Refusal :=
  .next (whenRuns dt (fun d t => maskTraceEval d p ago cycles t) s)

/-- CAPMEM_TRAIN_DONE (R280). -/
def execCapmemTrainDone (dt : Nat) (result : CapTrain) (s : State) : Host.Outcome State Fault Refusal :=
  .next (whenRuns dt (fun d t => capmemTrainDone d result t) s)

/-- CAPMEM_PERIODIC_CAL (R280). -/
def execCapmemPeriodicCal (dt : Nat) (s : State) : Host.Outcome State Fault Refusal :=
  .next (whenRuns dt capmemPeriodicCal s)

/-- CAPMEM_SELF_REFRESH (R427). -/
def execCapmemSelfRefresh (dt : Nat) (s : State) : Host.Outcome State Fault Refusal :=
  .next (whenRuns dt capmemSelfRefresh s)

/-- STREAM_JOB_DONE (R311). -/
def execStreamJobDone (dt : Nat) (stream : Nat) (s : State) : Host.Outcome State Fault Refusal :=
  .next (whenRuns dt (fun d t => streamJobDone d stream t) s)

/-- COMPRESS_BLOCK_DONE (R307). -/
def execCompressBlockDone (dt : Nat) (tag : BitVec 6) (s : State) : Host.Outcome State Fault Refusal :=
  .next (whenRuns dt (fun d t => compressBlockDone d tag t) s)

/-- DECOMPRESS_DONE (R309). -/
def execDecompressDone (dt : Nat) (s : State) : Host.Outcome State Fault Refusal :=
  .next (whenRuns dt decompressDone s)

end Sys2Proof.Machine
end

