-- ==== Sys2Proof/Machine/HostCmd.lean ====
section
/-! DEFINITION. The control port and the mailbox: registers, command slots, doorbells, stream 0 messages, the acceptance
and start of commands, their timeouts, and the commands that this chapter decides (R342 to R358, R492, R496). -/

namespace Sys2Proof.Machine

/-! ## Registers (R343) -/

/-- FW_ID: RELEASE 0 while no firmware runs, as during a shutdown self-test and after it (R448, R449). (DESIGN CHOICE, log 5) -/
def State.fwId (s : State) : Nat :=
  (match s.start.image with
   | some i => if (s.start.boot = .ready && !s.shutTest && !s.life.shutDown) || s.start.boot = .fwInit then i.release else 0
   | none => 0) + 65536 * Config.fwBuild.toNat

/-- Code of a bank mode (R37, R343). -/
def bankCode : BankMode → Nat
  | .absent => 0
  | .v18 => 1
  | .v33 => 2
  | .fault => 3

/-- STATUS register: the modes of HB0 to HB7, CB, AB, TB. -/
def State.bankStatus (s : State) : Nat :=
  ((List.range 11).map (fun i => bankCode (s.banks.toList.getD i .absent) * 4 ^ i)).foldl (· + ·) 0

/-- A self-test runs. -/
def State.selfTest (s : State) : Bool :=
  match s.life.test with
  | .none => false
  | .shutdown _ => s.shutTest
  | .block .. => true

/-- DEV_STATE. -/
def State.devState (s : State) : Nat :=
  bootCode s.start.boot + 16 * s.start.bootErr + 256 * powerCode s.power.mode + 2048 * lifeCode s.life.state
    + 16384 * bitNat s.selfTest + 32768 * bitNat s.linkActive

/-- The control port answers: 100 µs after RESET_N rose, not in reset, not unpowered in RETAIN or OFF, and its banks in a mode:
without VIO_A HCS_N reads high (R37, R49, R343). -/
def State.portAnswers (s : State) : Bool :=
  (s.start.holds = [] : Bool) && decide (s.start.releasedAt + 100 * usNs ≤ s.clk) && !s.power.isolated && s.bankUp .cb && s.bankUp .ab
  && (match s.power.mode with
      | .retain | .off => false
      | .active | .standby | .entering | .waking => true)

/-- The staging window that is mapped: 4 MiB while the boot ROM runs, as in a shutdown self-test, else 1 MiB (R342, R447). -/
def State.stagingWindow (s : State) : Nat :=
  if s.shutTest then 0x400000
  else
    match s.start.boot with
    | .rom | .loading | .waitHost => 0x400000
    | .reset | .fwInit | .ready => 0x100000

/-- A 32-bit word of the control-port address space as it reads (R342, R343). -/
def State.portRead (s : State) (addr : Nat) : Nat :=
  if !s.portAnswers then 0
  else
    match addr with
    | 0x00 => chipId
    | 0x04 => s.fwId
    | 0x08 => s.bankStatus
    | 0x0C => s.devState
    | 0x14 => s.mbox.cqTail.toNat
    | 0x18 => s.mbox.cqHead.toNat
    | 0x1C => s.irqStatus.toNat
    | 0x20 => s.mbox.irqEnable.toNat
    | 0x24 => bitNat s.mbox.fullBusy + 2 * s.mbox.eventRoute.toNat
    | 0x28 => s.mbox.scratch.toNat
    | _ =>
      if 0x4000 ≤ addr ∧ addr < 0x8000 then leNat (memReadAll blankByte s.mbox.window (addr - 0x4000) 4)
      else if 0x8000 ≤ addr ∧ addr < 0xA000 then leNat (memReadAll blankByte s.mbox.cq (addr - 0x8000) 4)
      else if 0x400000 ≤ addr ∧ addr < 0x400000 + s.stagingWindow then
        leNat (memReadAll blankByte s.mbox.staging (addr - 0x400000) 4)
      else 0

/-! ## The command table (R355) -/

/-- How a command's parameters lie: fields each padded to 4 bytes, a fixed number of bytes, those of PARAM_READ with the
reserved byte at their end, or the pairs of PARAM_WRITE. -/
inductive ParamShape where
  | padded (sizes : List Nat)
  | bytes (n : Nat)
  | read
  | pairs
deriving DecidableEq, Repr

/-- A row of the command table: code, parameters, default and largest timeout in ms. -/
structure CmdRow where
  code : Nat
  shape : ParamShape
  dflt : Nat
  most : Nat
deriving DecidableEq, Repr

def cmdTable0 : List CmdRow :=
  [⟨0x01, .bytes 0, 100, 100⟩, ⟨0x02, .bytes 0, 100, 100⟩, ⟨0x03, .padded [4, 1], 100, 100⟩,
   ⟨0x04, .padded [2, 2], 100, 100⟩, ⟨0x05, .bytes 0, 100, 100⟩, ⟨0x10, .read, 100, 100⟩, ⟨0x11, .pairs, 100, 100⟩,
   ⟨0x12, .padded [1], 100, 100⟩, ⟨0x20, .padded [1], 100, 100⟩, ⟨0x21, .padded [1], 100, 100⟩,
   ⟨0x22, .padded [1], 1000, 5000⟩, ⟨0x23, .padded [1], 100, 100⟩, ⟨0x24, .padded [1, 1], 100, 100⟩]
def cmdTable1 : List CmdRow :=
  [⟨0x30, .padded [1, 4, 4], 1000, 10000⟩, ⟨0x31, .padded [1], 100, 100⟩, ⟨0x32, .padded [1, 1], 100, 100⟩,
   ⟨0x40, .padded [4, 4], 1000, 10000⟩, ⟨0x41, .padded [4, 4], 1000, 10000⟩, ⟨0x42, .padded [1], 100, 100⟩,
   ⟨0x50, .padded [4, 2, 1], 60000, 65535⟩, ⟨0x51, .padded [4], 100, 100⟩, ⟨0x52, .padded [1, 4, 4], 1000, 10000⟩,
   ⟨0x53, .padded [1], 100, 100⟩, ⟨0x54, .bytes 0, 200, 1000⟩, ⟨0x55, .bytes 224, 1000, 60000⟩]
def cmdTable2 : List CmdRow :=
  [⟨0x60, .bytes 0, 100, 100⟩, ⟨0x61, .padded [1, 1, 1, 2], 100, 100⟩, ⟨0x70, .padded [1, 1], 1000, 5000⟩,
   ⟨0x71, .padded [1], 1000, 1000⟩, ⟨0x72, .bytes 0, 100, 100⟩, ⟨0x73, .padded [2, 1], 10000, 65535⟩,
   ⟨0x74, .padded [4], 100, 100⟩, ⟨0x75, .bytes 0, 100, 100⟩, ⟨0x76, .bytes 64, 1000, 1000⟩,
   ⟨0x77, .padded [1], 1000, 10000⟩, ⟨0x80, .padded [1, 2], 10000, 60000⟩, ⟨0x81, .padded [4], 100, 100⟩,
   ⟨0x82, .padded [1, 4], 100, 100⟩, ⟨0x90, .bytes 28, 100, 100⟩, ⟨0x91, .padded [2, 1], 100, 100⟩,
   ⟨0xA0, .padded [4], 5000, 5000⟩, ⟨0xA1, .padded [4, 4, 1], 60000, 65535⟩]

/-- (DEDUCED, log 29) -/
def cmdRow (code : Nat) : Option CmdRow := (cmdTable0 ++ cmdTable1 ++ cmdTable2).find? (fun r => r.code = code)

/-- A parameter byte string with what stands in the padding taken out. (DEDUCED, log 29) -/
def unpad : List Nat → List Byte → List Byte
  | [], _ => []
  | n :: ns, bs => bytesAt bs 0 n ++ zeros (4 - n) ++ unpad ns (bs.drop 4)

/-- The parameters of a command in the form in which its row carries them; none where LENGTH is not the command's, or a reserved
byte is not 0 (R7, R361, R364, log 29). -/
def paramsOf (sh : ParamShape) (bs : List Byte) : Option (List Byte) :=
  match sh with
  | .padded sizes => if bs.length = 4 * sizes.length then some (unpad sizes bs) else none
  | .bytes n => if bs.length = n then some bs else none
  | .read => if bs.length = 8 ∧ u8At bs 7 = 0 then some bs else none
  | .pairs => if 16 ≤ bs.length ∧ bs.length = 8 + 8 * u8At bs 6 then some bs else none

/-- A parameter padded to 4 bytes. -/
def param (n v : Nat) : List Byte := leBytes n v ++ zeros (4 - n)

/-! ## Acceptance (R345, R347, R349, R351, R357) -/

/-- What answers commands. -/
inductive Serving where
  /-- nothing: in reset, unpowered, or the link is not ACTIVE -/
  | off
  /-- HRDY is low -/
  | lost
  /-- the boot ROM's handler during a shutdown self-test (R448) -/
  | handler
  /-- SHUT_DOWN (R449) -/
  | shut
  | full
deriving DecidableEq, Repr

/-- Who answers a command of a route. -/
def State.serving (s : State) : Route → Serving
  | .controlPort =>
    if !s.portAnswers then .off
    else if s.shutTest then .handler
    else if s.life.shutDown then .shut
    else if s.hrdy then .full
    else .lost
  | .link => if s.linkActive && s.runs && s.start.resetPending.isNone then .full else .off

/-- A doorbell is ignored (R345). -/
def State.doorbellLost (s : State) : State := (s.setIrq irqLostDoorbell).count Ctr.mboxStats_lostDoorbell 0 1

/-- A doorbell for a tag in flight is ignored (R349). -/
def State.tagClash (s : State) : State := (s.setIrq irqTagClash).count Ctr.mboxStats_tagClash 0 1

/-- The state refuses a command as a whole (R357, R434). (DEDUCED, log 143) -/
def State.gate (s : State) (rq : Req) (code : Nat) : Option Status :=
  if s.start.boot = .waitHost then
    if (code = 0x01 ∨ code = 0x02 ∨ code = 0xA0) ∧ rq.route = .controlPort then none else some .badState
  else
    match s.power.mode with
    | .entering => some .badState
    | .active | .standby | .retain | .waking | .off => none

/-- The flight of a tag. -/
def State.flightOf (s : State) (tag : BitVec 6) : Option Flight := s.mbox.flights.find? (fun f => f.tag = tag)

/-- The command is accepted with its parameters, or it completes at once with the status that refuses it.
(DEDUCED, log 35; DEDUCED, log 143) -/
def State.acceptCmd (s : State) (rq : Req) (code : Nat) (headOk : Bool) (params : List Byte) : State :=
  match s.gate rq code with
  | some st => s.complete rq st
  | none =>
    if !headOk then s.complete rq .badParam
    else
      match cmdRow code with
      | none => s.complete rq .unknownCmd
      | some r =>
        match paramsOf r.shape params with
        | none => s.complete rq .badParam
        | some ps =>
          if r.most < rq.timeout.toNat then s.complete rq .badParam
          else
            s.setMbox (fun m =>
              { m with flights := m.flights ++
                  [⟨rq.tag, rq.seq, rq.route, code, ps, if rq.timeout = 0 then r.dflt else rq.timeout.toNat, s.clk, false⟩] })

/-- A command reaches the device: it is ignored, answered at once, or accepted. (DEDUCED, log 35) -/
def State.submit (s : State) (rq : Req) (code : Nat) (headOk : Bool) (params : List Byte) : State :=
  match s.serving rq.route with
  | .off => s
  | .lost => s.doorbellLost
  | .handler =>
    if (s.flightOf rq.tag).isSome then s.tagClash
    else if code = 0x01 ∨ code = 0x02 ∨ code = 0x72 then s.acceptCmd rq code headOk params
    else s.busyTest rq
  | .shut =>
    if code = 0x01 ∨ code = 0x02 ∨ code = 0x72 then
      if (s.flightOf rq.tag).isSome then s.tagClash else s.acceptCmd rq code headOk params
    else s.doorbellLost
  | .full => if (s.flightOf rq.tag).isSome then s.tagClash else s.acceptCmd rq code headOk params

/-- LAUNCH_SHOT, a command marked "At once" whose answer waits for the grid (R109), has started and not completed. -/
def State.launchRuns (s : State) : Bool := s.mbox.flights.any (fun f => f.started && f.code = 0x24)

/-- The flight is this command, not started, no command accepted before it waits, and none marked "At once" runs (R351); nothing
starts while a shutdown is about to begin. (DEDUCED, log 35; DESIGN CHOICE, log 201) -/
def State.mayStart (s : State) (rq : Req) (code : Nat) (params : List Byte) : Bool :=
  match s.mbox.flights.find? (fun f => !f.started) with
  | some f =>
    s.life.shutNext.isNone && !s.launchRuns && f.tag = rq.tag && f.seq = rq.seq && f.route = rq.route && f.code = code && f.params = params
      && (rq.timeout = 0 || f.timeoutMs = rq.timeout.toNat)
  | none => false

/-- A command of the host: where no doorbell has brought it, it is accepted; then it starts, in order of acceptance.
(DEDUCED, log 35) -/
def State.runCmd (s0 : State) (dt : Nat) (rq : Req) (code : Nat) (params : List Byte) (body : State → State) : State :=
  let s := s0.elapse dt
  let s1 := if (s.flightOf rq.tag).isSome && s.mayStart rq code params then s else s.submit rq code true params
  if s1.mayStart rq code params then
    match s1.gate rq code with
    | some st => s1.complete rq st
    | none =>
      body (s1.setMbox (fun m =>
        { m with flights := m.flights.map (fun f => if f.tag = rq.tag then { f with started := true } else f) }))
  else s1

/-! ## Writes of the host (R342, R343, R350) -/

/-- The request that a slot header asks for. -/
def slotReq (tag : BitVec 6) (route : Route) (h : List Byte) : Req :=
  ⟨tag, BitVec.ofNat 32 (u32At h 8), BitVec.ofNat 16 (u16At h 6), route⟩

/-- A slot header is well formed, with its parameters within the slot (R347, R349). (DEDUCED, log 143) -/
def slotOk (tag : BitVec 6) (h : List Byte) : Bool :=
  u8At h 2 = tag.toNat && u8At h 3 = 0 && u16At h 4 ≤ 240 && u16At h 4 % 4 = 0 && bytesAt h 12 4 = zeros 4

/-- A write of DOORBELL (R343, R345). (DEDUCED, log 141) -/
def State.doorbellWrite (s : State) (v : Nat) : State :=
  let s1 := s.count Ctr.mboxStats_doorbells 0 1
  if 64 ≤ v then s1.doorbellLost
  else
    let tag := BitVec.ofNat 6 v
    let slot := memReadAll blankByte s.mbox.window (slotBase tag) 256
    s1.submit (slotReq tag .controlPort slot) (u16At slot 0) (slotOk tag slot) (bytesAt slot 16 (min 240 (u16At slot 4)))

/-- A write of CQ_HEAD (R350). -/
def State.headWrite (s : State) (v : BitVec 8) : State :=
  if s.cqUsed < (v - s.mbox.cqHead).toNat then (s.setIrq irqCqErr)
  else State.drainEvents 260 (s.setMbox (fun m => { m with cqHead := v }))

/-- A write of IRQ_STATUS: bits 1 to 6 clear where a 1 is written; FATAL is an input of the outputs (R343, R406, R408). -/
def State.irqClear (s : State) (mask : BitVec 7) : State :=
  let s1 := s.setMbox (fun m => { m with irq := m.irq &&& ~~~mask })
  if s.fatal && !s1.fatal then s1.outputsEval else s1

/-- A write of one word of the control-port address space (R342, R343). (DEDUCED, log 145) -/
def State.portWrite (s : State) (addr : Nat) (v : Word) : State :=
  match addr with
  | 0x10 => s.doorbellWrite v.toNat
  | 0x18 => s.headWrite (v.setWidth 8)
  | 0x1C => s.irqClear (v.setWidth 7)
  | 0x20 => s.setMbox (fun m => { m with irqEnable := v.setWidth 7 })
  | 0x24 =>
    let r := v.extractLsb' 1 2
    s.setMbox (fun m => { m with fullBusy := v.getLsbD 0, eventRoute := if r = 3 then 2 else r })
  | 0x28 => s.setMbox (fun m => { m with scratch := v })
  | _ =>
    if 0x4000 ≤ addr ∧ addr < 0x8000 then
      s.setMbox (fun m => { m with window := memWriteAll blankByte m.window (addr - 0x4000) (leBytes 4 v.toNat) })
    else if 0x400000 ≤ addr ∧ addr < 0x400000 + s.stagingWindow then
      s.setMbox (fun m => { m with staging := memWriteAll blankByte m.staging (addr - 0x400000) (leBytes 4 v.toNat) })
    else s

/-- The words of a write transaction in ascending order; an address that is no multiple of 4 writes nothing. -/
def State.portWrites : List Word → Nat → State → State
  | [], _, s => s
  | v :: vs, addr, s => State.portWrites vs (addr + 4) (s.portWrite addr v)

/-! ## Transactions of the control port (R341, R342) -/

/-- A transaction of the control port: a write or a read, the lines of address and data, dummy clocks, largest HCLK in MHz. -/
structure PortOp where
  code : Nat
  write : Bool
  lines : Nat
  dummies : Nat
  mhz : Nat
deriving DecidableEq, Repr

/-- The opcodes of R341. -/
def portOps : List PortOp :=
  [⟨0x02, true, 1, 0, 50⟩, ⟨0x03, false, 1, 0, 25⟩, ⟨0x32, true, 4, 0, 100⟩, ⟨0xEB, false, 4, 8, 100⟩]

/-- The 32-bit words of written bytes; a part of a word at the end is discarded (R342). -/
def wholeWords : List Byte → List Word
  | a :: b :: c :: d :: rest => BitVec.ofNat 32 (leNat [a, b, c, d]) :: wholeWords rest
  | _ => []

/-- The bytes that a read of a number of words carries. -/
def State.portReadBytes (s : State) (addr n : Nat) : List Byte :=
  (List.range n).flatMap (fun k => leBytes 4 (s.portRead (addr + 4 * k)))

/-- What lies on the data lines at each clock of a byte: one bit, most significant first, or a nibble, high first (R341). -/
def byteClocks (lines : Nat) (b : Byte) : List Nat :=
  if lines = 4 then [b.toNat / 16, b.toNat % 16] else (List.range 8).map (fun i => bitNat (b.getLsbD (7 - i)))

/-- The number that some clocks carry on the lines in use, most significant first: HIO[0], or HIO[3:0]. -/
def clocksValue (lines : Nat) (cs : List (BitVec 4)) : Nat :=
  cs.foldl (fun a c => if lines = 4 then 16 * a + c.toNat else 2 * a + bitNat (c.getLsbD 0)) 0

/-- The whole bytes that data clocks carry. -/
def clockBytes (lines : Nat) (cs : List (BitVec 4)) : List Byte :=
  let n := if lines = 4 then 2 else 8
  (List.range (cs.length / n)).map (fun i => BitVec.ofNat 8 (clocksValue lines ((cs.drop (n * i)).take n)))

/-- A transaction by what stands on HIO[3:0] at the rising edges of HCLK between the edges of HCS_N: its opcode's row, its address
and its data clocks; none where the opcode is unknown or the transaction ends before its data (R341). -/
def portParse (cs : List (BitVec 4)) : Option (PortOp × Nat × List (BitVec 4)) :=
  match portOps.find? (fun o => o.code = clocksValue 1 (cs.take 8)) with
  | none => none
  | some o =>
    let n := 24 / o.lines
    let lead := 8 + n + o.dummies
    if cs.length ≤ lead then none else some (o, clocksValue o.lines ((cs.drop 8).take n), cs.drop lead)

/-- REGISTER_WRITE (R341, R342): a transaction of the control port. A write stores its whole words; a read drives the data lines;
an unknown opcode is ignored until HCS_N rises, and so are an address that is no multiple of 4 and a clock above the opcode's largest.
(DESIGN CHOICE, log 207) -/
def registerWrite (dt khz : Nat) (clocks : List (BitVec 4)) (s0 : State) : State :=
  let s := s0.elapse dt
  match portParse clocks with
  | none => s
  | some (o, addr, data) =>
    if !s.portAnswers || addr % 4 ≠ 0 || 1000 * o.mhz < khz then s
    else if o.write then State.portWrites (wholeWords (clockBytes o.lines data)) addr s
    else
      let out := (s.portReadBytes addr (data.length * o.lines / 32 + 1)).flatMap (byteClocks o.lines)
      s.setMbox (fun m => { m with portOut := out.take data.length })

/-- DOORBELL. -/
def doorbell (dt : Nat) (v : Word) (s0 : State) : State :=
  let s := s0.elapse dt
  if s.portAnswers then s.doorbellWrite v.toNat else s

/-- CQ_HEAD_WRITE. -/
def cqHeadWrite (dt : Nat) (v : Byte) (s0 : State) : State :=
  let s := s0.elapse dt
  if s.portAnswers then s.headWrite v else s

/-- IRQ_STATUS_CLEAR. -/
def irqStatusClear (dt : Nat) (mask : BitVec 7) (s0 : State) : State :=
  let s := s0.elapse dt
  if s.portAnswers then s.irqClear mask else s

/-! ## Stream 0 (R352) -/

/-- The device takes messages of the host. -/
def State.takesMessages (s : State) : Bool := s.serving .link = .full && s.rxTakes

/-- A message's TYPE and LENGTH are as its row says. (DEDUCED, log 142) -/
def messageOk (typ least : Nat) (m : List Byte) : Bool :=
  u8At m 0 = typ && u32At m 4 = m.length && m.length % 4 = 0 && m.length ≤ 4104 && least ≤ m.length

/-- A message is skipped (R352). (DEDUCED, log 142) -/
def State.skipMessage (s : State) : State := s.count Ctr.linkStats_rxDiscard 0 1

/-- STREAM0_COMMAND: a whole message; its reserved bytes are the command's (R7, R352). (DEDUCED, log 142) -/
def stream0Command (dt : Nat) (m : List Byte) (s0 : State) : State :=
  let s := s0.elapse dt
  if !s.takesMessages then s
  else
    let s1 := s.hostBytes m.length
    let h := m.drop 8
    if !messageOk 1 24 m || 63 < u8At h 2 then s1.skipMessage
    else
      let tag := BitVec.ofNat 6 (u8At h 2)
      let ok := slotOk tag h && u16At h 4 + 24 = m.length && bytesAt m 1 3 = zeros 3
      s1.submit (slotReq tag .link h) (u16At h 0) ok (h.drop 16)

/-- STAGE_WRITE: a whole message. -/
def stageWrite (dt : Nat) (m : List Byte) (s0 : State) : State :=
  let s := s0.elapse dt
  if !s.takesMessages then s
  else
    let s1 := s.hostBytes m.length
    let off := u32At m 8
    let data := m.drop 12
    if !messageOk 4 12 m then s1.skipMessage
    else s1.setMbox (fun x => { x with staging := memWriteAll blankByte x.staging off (data.take (s.stagingWindow - off)) })

/-! ## IDENTIFY, STATUS, EVENT_QUERY (R355, R358, R492, R496) -/

/-- SERIAL of the head that a port has accepted, zeros without one. (DEDUCED, log 30) -/
def State.serialOf (s : State) (p : Port) : List Byte :=
  match s.record p with
  | some r => bytesAt r 8 16
  | none => zeros 16

/-- IDENTIFY: CHIP_ID, FW_ID and LIFECYCLE in four bytes each, the serial of the device and of the heads (DEDUCED, log 30). -/
def State.identifyCmd (s : State) (rq : Req) : State :=
  s.completeWith rq .ok noFlags []
    (leBytes 4 chipId ++ leBytes 4 s.fwId ++ leBytes 4 (lifeCode s.life.state) ++ deviceSerial ++ allPorts.flatMap s.serialOf)

/-- The boot ROM's handler answers, or the device is in SHUT_DOWN (R492). -/
def State.romAnswers (s : State) : Bool := s.start.boot = .waitHost || s.shutTest || s.life.shutDown

/-- STATUS (R492). -/
def State.statusCmd (s : State) (rq : Req) : State :=
  let ports : List Byte := if s.romAnswers then zeros 8 else allPorts.map (fun p => BitVec.ofNat 8 (modeCode (s.port p).seq.mode))
  let link := if s.romAnswers then 0 else linkCode s.link.stage
  s.completeResult rq .ok (leBytes 2 s.devState ++ ports ++ leBytes 1 link ++ zeros 1)

/-- EVENT_QUERY (R496). -/
def State.eventQueryCmd (s : State) (rq : Req) (first : Word) (n : Nat) : State :=
  let d := s.detect
  let oldest := d.nextRun - BitVec.ofNat 32 d.ring.length
  let back := (d.nextRun - first).toNat
  let bounds (k : Nat) : List Byte := leBytes 4 oldest.toNat ++ leBytes 4 d.nextRun.toNat ++ leBytes 4 k
  if n = 0 ∨ 7 < n then s.complete rq .badParam
  else if d.ring.length < back then s.completeResult rq .badParam (bounds 0)
  else
    let rs := (d.ring.drop (d.ring.length - back)).take n
    s.completeWith rq .ok noFlags (bounds rs.length) rs.flatten

/-! ## Commands of other chapters: parameters out of their range -/

/-- Do something with a port named by a parameter; a number above 7 is refused. -/
def State.withPort (s : State) (rq : Req) (port : Nat) (f : Port → State) : State :=
  if h : port < 8 then f ⟨port, h⟩ else s.complete rq .badParam

/-- PORT_STOP (R121). (DEDUCED, log 144) -/
def State.portStopCmd (s : State) (rq : Req) (ports : BitVec 8) : State :=
  (forPorts (maskPorts ports) State.portStop s).complete rq .ok

/-- HEAD_RESCAN (R73). -/
def State.headRescanCmd (s : State) (rq : Req) (port : Nat) : State := s.withPort rq port (s.headRescan rq)

/-- CLEAR_FAULT (R100). -/
def State.clearFaultCmd (s : State) (rq : Req) (port : Nat) : State :=
  s.withPort rq port (fun p =>
    let r := s.clearFault p
    r.2.complete rq r.1)

/-- Time since a command was accepted, ns. -/
def State.sinceAccepted (s : State) (tag : BitVec 6) : Nat :=
  match s.flightOf tag with
  | some f => s.clk - f.acceptedAt
  | none => 0

/-- LAUNCH_SHOT (R109, R110, R427): the request goes to the arbiter. (DEDUCED, log 47) -/
def State.launchShotCmd (s : State) (rq : Req) (port slot : Nat) : State :=
  s.withPort rq port (fun p =>
    if h : slot < 4 then
      if s.inActive then s.requestShot rq p ⟨slot, h⟩ (s.sinceAccepted rq.tag) else s.complete rq .badState
    else s.complete rq .badParam)

/-- ACK_GROUP (R259). -/
def State.ackGroupCmd (s : State) (rq : Req) (g : Nat) : State :=
  if h : g < 64 then
    let r := s.ackGroup ⟨g, h⟩
    r.2.complete rq r.1
  else s.complete rq .badParam

/-- CAL_SET_REFRES (R416). (DEDUCED, log 128) -/
def State.calSetRefresCmd (s : State) (rq : Req) (v : Nat) : State :=
  let r := s.setRefres v
  r.2.complete rq r.1

/-- CAL_SET_BATH (R415). -/
def State.calSetBathCmd (s : State) (rq : Req) (port : Nat) (t : Word) : State :=
  let r := s.setBath port t.toInt
  r.2.complete rq r.1

/-- TI_ARM (R384, R421, R427): in STANDBY no launch start and no echo stops; during a SKEW step the unit is busy. -/
def State.tiArmCmd (s : State) (rq : Req) (b : List Byte) : State :=
  let src := u8At b 0
  let echoes := u16At b 4 / 16 % 256
  let r := s.tiArmed b
  if s.skewRuns then s.complete rq .busy
  else if !s.inActive && r.1 = .ok && (src = 2 || (src ≠ 0 && echoes ≠ 0)) then s.complete rq .badState
  else r.2.complete rq r.1

/-- TI_READ (R388). -/
def State.tiReadCmd (s : State) (rq : Req) (first n : Nat) : State :=
  let r := tiReadOf s.time.ti first n
  s.completeWith rq r.1 noFlags r.2.1 r.2.2

/-- SNAP_READ and its FLAGS (R291). -/
def State.snapReadRow (s : State) (rq : Req) (id stream flags : Nat) : State :=
  if 1 < flags then s.complete rq .badParam else s.snapReadCmd rq id stream (flags = 1)

/-- FW_FLASH_WRITE and its FLAGS (R371). -/
def State.flashWriteRow (s : State) (rq : Req) (off bytes flags : Nat) : State :=
  if 1 < flags then s.complete rq .badParam else s.fwFlashWriteCmd rq off bytes (flags = 1)

/-- LINK_RESTART (R323). -/
def State.linkRestartCmd (s : State) (rq : Req) : State := (s.complete rq .ok).linkRestart

/-! ## Timeouts (R356) -/

/-- A flight as the request it came by. -/
def Flight.req (f : Flight) : Req := ⟨f.tag, f.seq, BitVec.ofNat 16 f.timeoutMs, f.route⟩

/-- The work of a command that has started stops (R356). -/
def State.stopWork (s : State) (f : Flight) : State :=
  match f.code with
  | 0x22 => s.withPort f.req (u8At f.params 0) s.rescanTimeout
  | 0x24 => s.withPort f.req (u8At f.params 0) (fun p =>
      s.setSeq p (fun q => { q with requests := q.requests.filter (fun r => r.req.tag ≠ f.tag) }))
  | 0x30 => s.loadTimeout
  | 0x40 | 0x41 | 0x52 | 0x55 => s.sumacTimeout f.tag
  | 0x50 => s.snapReadTimeout f.tag
  | 0x54 => s.retrainTimeout
  | 0x70 => s.powerTimeout
  | 0x73 => s.stopBlockTest
  | 0x77 => s.lifecycleTimeout
  | 0x80 => s.calTimeout
  | 0xA0 => s.downloadTimeout
  | 0xA1 => s.flashTimeout
  | _ => s

/-- COMMAND_TIMEOUT: a command's timeout has passed. An entry into RETAIN that has armed does not time out (R435). -/
def commandTimeout (dt : Nat) (tag : BitVec 6) (s0 : State) : State :=
  let s := s0.elapse dt
  match s.flightOf tag with
  | none => s
  | some f =>
    if s.clk < f.acceptedAt + f.timeoutMs * msNs || (f.started && f.code = 0x70 && !s.powerTimes) then s
    else
      let s1 := if f.started then s.stopWork f else s
      (s1.count Ctr.mboxStats_timeouts 0 1).complete f.req .timeout

end Sys2Proof.Machine
end

