-- ==== Sys2Proof/Machine/HostRows.lean ====
section
/-! DEFINITION. The commands of the host (R342 to R357): their codes and parameters, and what each does. -/

namespace Sys2Proof.Machine

/-- The parameters of PARAM_WRITE: data word and mask word in turn (R361). -/
def paramWriteBytes (block inst word : Half) (flags : Byte) (words : List (Word × Word)) : List Byte :=
  leBytes 2 block.toNat ++ leBytes 2 inst.toNat ++ leBytes 2 word.toNat ++ leBytes 1 words.length ++ leBytes 1 flags.toNat
    ++ words.flatMap (fun w => leBytes 4 w.1.toNat ++ leBytes 4 w.2.toNat)

/-- IDENTIFY (R355). -/
def execIdentify (dt : Nat) (rq : Req) (s : State) : Host.Outcome State Fault Refusal :=
  .next (s.runCmd dt rq 0x01 [] (fun t => t.identifyCmd rq))

/-- STATUS (R492). -/
def execStatus (dt : Nat) (rq : Req) (s : State) : Host.Outcome State Fault Refusal :=
  .next (s.runCmd dt rq 0x02 [] (fun t => t.statusCmd rq))

/-- EVENT_QUERY (R496). -/
def execEventQuery (dt : Nat) (rq : Req) (first : Word) (count : Byte) (s : State) : Host.Outcome State Fault Refusal :=
  .next (s.runCmd dt rq 0x03 (param 4 first.toNat ++ param 1 count.toNat)
    (fun t => t.eventQueryCmd rq first count.toNat))

/-- CLEAR_STATS (R355). -/
def execClearStats (dt : Nat) (rq : Req) (block : Half) (inst : Half) (s : State) : Host.Outcome State Fault Refusal :=
  .next (s.runCmd dt rq 0x04 (param 2 block.toNat ++ param 2 inst.toNat)
    (fun t => t.clearStatsCmd rq block.toNat inst.toNat))

/-- DEVICE_RESET (R468). -/
def execDeviceReset (dt : Nat) (rq : Req) (s : State) : Host.Outcome State Fault Refusal :=
  .next (s.runCmd dt rq 0x05 [] (fun t => t.deviceResetCmd rq))

/-- PARAM_READ (R364). -/
def execParamRead (dt : Nat) (rq : Req) (block : Half) (inst : Half) (word : Half) (count : Byte)
    (s : State) : Host.Outcome State Fault Refusal :=
  .next (s.runCmd dt rq 0x10 (leBytes 2 block.toNat ++ leBytes 2 inst.toNat ++ leBytes 2 word.toNat ++ leBytes 1 count.toNat ++ [0])
    (fun t => t.paramReadCmd rq block.toNat inst.toNat word.toNat count.toNat))

/-- PARAM_WRITE (R362). -/
def execParamWrite (dt : Nat) (rq : Req) (block : Half) (inst : Half) (word : Half) (flags : Byte) (words : List (Word × Word))
    (s : State) : Host.Outcome State Fault Refusal :=
  .next (s.runCmd dt rq 0x11 (paramWriteBytes block inst word flags words)
    (fun t => t.paramWriteCmd rq block.toNat inst.toNat word.toNat flags.toNat words))

/-- COMMIT (R365). -/
def execCommit (dt : Nat) (rq : Req) (flags : Byte) (s : State) : Host.Outcome State Fault Refusal :=
  .next (s.runCmd dt rq 0x12 (param 1 flags.toNat) (fun t => t.commitCmd rq flags.toNat))

/-- PORT_START (R495). -/
def execPortStart (dt : Nat) (rq : Req) (ports : Byte) (s : State) : Host.Outcome State Fault Refusal :=
  .next (s.runCmd dt rq 0x20 (param 1 ports.toNat) (fun t => t.portStartCmd rq ports))

/-- PORT_STOP (R121). -/
def execPortStop (dt : Nat) (rq : Req) (ports : Byte) (s : State) : Host.Outcome State Fault Refusal :=
  .next (s.runCmd dt rq 0x21 (param 1 ports.toNat) (fun t => t.portStopCmd rq ports))

/-- HEAD_RESCAN (R73). -/
def execHeadRescan (dt : Nat) (rq : Req) (port : Byte) (s : State) : Host.Outcome State Fault Refusal :=
  .next (s.runCmd dt rq 0x22 (param 1 port.toNat) (fun t => t.headRescanCmd rq port.toNat))

/-- CLEAR_FAULT (R101). -/
def execClearFault (dt : Nat) (rq : Req) (port : Byte) (s : State) : Host.Outcome State Fault Refusal :=
  .next (s.runCmd dt rq 0x23 (param 1 port.toNat) (fun t => t.clearFaultCmd rq port.toNat))

/-- LAUNCH_SHOT (R110). -/
def execLaunchShot (dt : Nat) (rq : Req) (port : Byte) (slot : Byte) (s : State) : Host.Outcome State Fault Refusal :=
  .next (s.runCmd dt rq 0x24 (param 1 port.toNat ++ param 1 slot.toNat)
    (fun t => t.launchShotCmd rq port.toNat slot.toNat))

/-- LOAD_PROGRAM (R215). -/
def execLoadProgram (dt : Nat) (rq : Req) (slot : Byte) (off : Word) (bytes : Word)
    (s : State) : Host.Outcome State Fault Refusal :=
  .next (s.runCmd dt rq 0x30 (param 1 slot.toNat ++ param 4 off.toNat ++ param 4 bytes.toNat)
    (fun t => t.loadProgramCmd rq slot.toNat off.toNat bytes.toNat))

/-- UNLOAD_PROGRAM (R355). -/
def execUnloadProgram (dt : Nat) (rq : Req) (slot : Byte) (s : State) : Host.Outcome State Fault Refusal :=
  .next (s.runCmd dt rq 0x31 (param 1 slot.toNat) (fun t => t.unloadProgramCmd rq slot.toNat))

/-- ENGINE_RESET (R213). -/
def execEngineReset (dt : Nat) (rq : Req) (cl : Byte) (eng : Byte) (s : State) : Host.Outcome State Fault Refusal :=
  .next (s.runCmd dt rq 0x32 (param 1 cl.toNat ++ param 1 eng.toNat) (fun t => t.engineResetCmd rq cl.toNat eng.toNat))

/-- LOAD_ZONE_PACK (R238). -/
def execLoadZonePack (dt : Nat) (rq : Req) (off : Word) (bytes : Word) (s : State) : Host.Outcome State Fault Refusal :=
  .next (s.runCmd dt rq 0x40 (param 4 off.toNat ++ param 4 bytes.toNat)
    (fun t => t.loadZonePackCmd rq off.toNat bytes.toNat))

/-- LOAD_BASELINES (R246). -/
def execLoadBaselines (dt : Nat) (rq : Req) (off : Word) (bytes : Word)
    (s : State) : Host.Outcome State Fault Refusal :=
  .next (s.runCmd dt rq 0x41 (param 4 off.toNat ++ param 4 bytes.toNat)
    (fun t => t.loadBaselinesCmd rq off.toNat bytes.toNat))

/-- ACK_GROUP (R259). -/
def execAckGroup (dt : Nat) (rq : Req) (g : Byte) (s : State) : Host.Outcome State Fault Refusal :=
  .next (s.runCmd dt rq 0x42 (param 1 g.toNat) (fun t => t.ackGroupCmd rq g.toNat))

/-- SNAP_READ (R291). -/
def execSnapRead (dt : Nat) (rq : Req) (id : Word) (stream : Half) (flags : Byte)
    (s : State) : Host.Outcome State Fault Refusal :=
  .next (s.runCmd dt rq 0x50 (param 4 id.toNat ++ param 2 stream.toNat ++ param 1 flags.toNat)
    (fun t => t.snapReadRow rq id.toNat stream.toNat flags.toNat))

/-- SNAP_RELEASE (R291). -/
def execSnapRelease (dt : Nat) (rq : Req) (id : Word) (s : State) : Host.Outcome State Fault Refusal :=
  .next (s.runCmd dt rq 0x51 (param 4 id.toNat) (fun t => t.snapReleaseCmd rq id.toNat))

/-- LOAD_MASK (R292). -/
def execLoadMask (dt : Nat) (rq : Req) (port : Byte) (off : Word) (bytes : Word)
    (s : State) : Host.Outcome State Fault Refusal :=
  .next (s.runCmd dt rq 0x52 (param 1 port.toNat ++ param 4 off.toNat ++ param 4 bytes.toNat)
    (fun t => t.loadMaskCmd rq port.toNat off.toNat bytes.toNat))

/-- MASK_REARM (R295). -/
def execMaskRearm (dt : Nat) (rq : Req) (port : Byte) (s : State) : Host.Outcome State Fault Refusal :=
  .next (s.runCmd dt rq 0x53 (param 1 port.toNat) (fun t => t.maskRearmCmd rq port.toNat))

/-- CAPMEM_RETRAIN (R280). -/
def execCapmemRetrain (dt : Nat) (rq : Req) (s : State) : Host.Outcome State Fault Refusal :=
  .next (s.runCmd dt rq 0x54 [] (fun t => t.capmemRetrainCmd rq))

/-- SUMAC_JOB (R306). -/
def execSumacJob (dt : Nat) (rq : Req) (desc : List Byte) (s : State) : Host.Outcome State Fault Refusal :=
  .next (s.runCmd dt rq 0x55 desc (fun t => t.sumacJob rq desc))

/-- LINK_RESTART (R325). -/
def execLinkRestart (dt : Nat) (rq : Req) (s : State) : Host.Outcome State Fault Refusal :=
  .next (s.runCmd dt rq 0x60 [] (fun t => t.linkRestartCmd rq))

/-- LINK_LOOP (R337). -/
def execLinkLoop (dt : Nat) (rq : Req) (mode : Byte) (pattern : Byte) (lanes : Byte) (time : Half)
    (s : State) : Host.Outcome State Fault Refusal :=
  .next (s.runCmd dt rq 0x61 (param 1 mode.toNat ++ param 1 pattern.toNat ++ param 1 lanes.toNat ++ param 2 time.toNat)
    (fun t => t.linkLoopCmd rq mode.toNat pattern.toNat lanes.toNat time.toNat))

/-- POWER_STATE (R426). -/
def execPowerState (dt : Nat) (rq : Req) (target : Byte) (banks : Byte)
    (s : State) : Host.Outcome State Fault Refusal :=
  .next (s.runCmd dt rq 0x70 (param 1 target.toNat ++ param 1 banks.toNat)
    (fun t => t.powerStateCmd rq target.toNat banks.toNat))

/-- SHUTDOWN (R446). -/
def execShutdown (dt : Nat) (rq : Req) (flags : Byte) (s : State) : Host.Outcome State Fault Refusal :=
  .next (s.runCmd dt rq 0x71 (param 1 flags.toNat) (fun t => t.shutdownCmd rq flags.toNat))

/-- ABORT_SELFTEST (R448). -/
def execAbortSelftest (dt : Nat) (rq : Req) (s : State) : Host.Outcome State Fault Refusal :=
  .next (s.runCmd dt rq 0x72 [] (fun t => t.abortSelftestCmd rq))

/-- SELFTEST_RUN (R455). -/
def execSelftestRun (dt : Nat) (rq : Req) (block : Half) (pattern : Byte)
    (s : State) : Host.Outcome State Fault Refusal :=
  .next (s.runCmd dt rq 0x73 (param 2 block.toNat ++ param 1 pattern.toNat)
    (fun t => t.selftestRunCmd rq block.toNat pattern.toNat))

/-- SELFTEST_RESULT (R453). -/
def execSelftestResult (dt : Nat) (rq : Req) (index : Word) (s : State) : Host.Outcome State Fault Refusal :=
  .next (s.runCmd dt rq 0x74 (param 4 index.toNat) (fun t => t.selftestResultCmd rq index.toNat))

/-- SERVICE_CHALLENGE (R462). -/
def execServiceChallenge (dt : Nat) (rq : Req) (s : State) : Host.Outcome State Fault Refusal :=
  .next (s.runCmd dt rq 0x75 [] (fun t => t.serviceChallengeCmd rq))

/-- SERVICE_RESPONSE (R462). -/
def execServiceResponse (dt : Nat) (rq : Req) (sig : List Byte) (s : State) : Host.Outcome State Fault Refusal :=
  .next (s.runCmd dt rq 0x76 sig (fun t => t.serviceResponseCmd rq sig))

/-- LIFECYCLE_SET (R459). -/
def execLifecycleSet (dt : Nat) (rq : Req) (target : Byte) (s : State) : Host.Outcome State Fault Refusal :=
  .next (s.runCmd dt rq 0x77 (param 1 target.toNat) (fun t => t.lifecycleSetCmd rq target.toNat))

/-- CAL_RUN (R420). -/
def execCalRun (dt : Nat) (rq : Req) (ports : Byte) (steps : Half) (s : State) : Host.Outcome State Fault Refusal :=
  .next (s.runCmd dt rq 0x80 (param 1 ports.toNat ++ param 2 steps.toNat)
    (fun t => t.calRunCmd rq ports.toNat steps.toNat))

/-- CAL_SET_REFRES (R355). -/
def execCalSetRefres (dt : Nat) (rq : Req) (v : Word) (s : State) : Host.Outcome State Fault Refusal :=
  .next (s.runCmd dt rq 0x81 (param 4 v.toNat) (fun t => t.calSetRefresCmd rq v.toNat))

/-- CAL_SET_BATH (R415). -/
def execCalSetBath (dt : Nat) (rq : Req) (port : Byte) (temp : Word) (s : State) : Host.Outcome State Fault Refusal :=
  .next (s.runCmd dt rq 0x82 (param 1 port.toNat ++ param 4 temp.toNat) (fun t => t.calSetBathCmd rq port.toNat temp))

/-- TI_ARM (R384). -/
def execTiArm (dt : Nat) (rq : Req) (params : List Byte) (s : State) : Host.Outcome State Fault Refusal :=
  .next (s.runCmd dt rq 0x90 params (fun t => t.tiArmCmd rq params))

/-- TI_READ (R388). -/
def execTiRead (dt : Nat) (rq : Req) (first : Half) (count : Byte) (s : State) : Host.Outcome State Fault Refusal :=
  .next (s.runCmd dt rq 0x91 (param 2 first.toNat ++ param 1 count.toNat)
    (fun t => t.tiReadCmd rq first.toNat count.toNat))

/-- FW_DOWNLOAD (R370). -/
def execFwDownload (dt : Nat) (rq : Req) (bytes : Word) (s : State) : Host.Outcome State Fault Refusal :=
  .next (s.runCmd dt rq 0xA0 (param 4 bytes.toNat) (fun t => t.fwDownloadCmd rq bytes.toNat))

/-- FW_FLASH_WRITE (R371). -/
def execFwFlashWrite (dt : Nat) (rq : Req) (off : Word) (bytes : Word) (flags : Byte)
    (s : State) : Host.Outcome State Fault Refusal :=
  .next (s.runCmd dt rq 0xA1 (param 4 off.toNat ++ param 4 bytes.toNat ++ param 1 flags.toNat)
    (fun t => t.flashWriteRow rq off.toNat bytes.toNat flags.toNat))

/-- COMMAND_TIMEOUT (R356). -/
def execCommandTimeout (dt : Nat) (tag : BitVec 6) (s : State) : Host.Outcome State Fault Refusal :=
  .next (commandTimeout dt tag s)

/-- DOORBELL (R345). -/
def execDoorbell (dt : Nat) (v : Word) (s : State) : Host.Outcome State Fault Refusal :=
  .next (doorbell dt v s)

/-- CQ_HEAD_WRITE (R350). -/
def execCqHeadWrite (dt : Nat) (v : Byte) (s : State) : Host.Outcome State Fault Refusal :=
  .next (cqHeadWrite dt v s)

/-- IRQ_STATUS_CLEAR (R343). -/
def execIrqStatusClear (dt : Nat) (mask : BitVec 7) (s : State) : Host.Outcome State Fault Refusal :=
  .next (irqStatusClear dt mask s)

/-- REGISTER_WRITE (R342). -/
def execRegisterWrite (dt : Nat) (hclkKhz : Nat) (clocks : List (BitVec 4)) (s : State) :
    Host.Outcome State Fault Refusal :=
  .next (registerWrite dt hclkKhz clocks s)

/-- STREAM0_COMMAND (R352). -/
def execStream0Command (dt : Nat) (msg : List Byte) (s : State) : Host.Outcome State Fault Refusal :=
  .next (stream0Command dt msg s)

/-- STAGE_WRITE (R352). -/
def execStageWrite (dt : Nat) (msg : List Byte) (s : State) : Host.Outcome State Fault Refusal :=
  .next (stageWrite dt msg s)

end Sys2Proof.Machine
end

