-- ==== Sys2Proof/Machine/LinkRows.lean ====
section
/-! DEFINITION. What happens on the Cherex link (chapter 14). -/

namespace Sys2Proof.Machine

/-- FRAME_SELECT (R332). -/
def execFrameSelect (dt : Nat) (s : State) : Host.Outcome State Fault Refusal :=
  .next (whenRuns dt (fun d t => (frameSelect d t).shutGo) s)

/-- CREDIT_RECEIVED (R330). -/
def execCreditReceived (dt : Nat) (stream : Nat) (total : Nat) (s : State) : Host.Outcome State Fault Refusal :=
  .next (whenRuns dt (fun d t => creditReceived d stream total t) s)

/-- CREDIT_REPEAT (R331). -/
def execCreditRepeat (dt : Nat) (s : State) : Host.Outcome State Fault Refusal :=
  .next (whenRuns dt creditRepeat s)

/-- BLOCK_DISCARD (R319). -/
def execBlockDiscard (dt : Nat) (lane : Fin 8) (sync : BitVec 2) (bytes : List Byte)
    (s : State) : Host.Outcome State Fault Refusal :=
  .next (whenRuns dt (fun d t => blockDiscard d lane sync bytes t) s)

/-- HOST_FRAME_DISCARD (R321). -/
def execHostFrameDiscard (dt : Nat) (why : FrameFault) (s : State) : Host.Outcome State Fault Refusal :=
  .next (whenRuns dt (fun d t => hostFrameDiscard d why t) s)

/-- DETECT_CHECK (R323). -/
def execDetectCheck (dt : Nat) (found : Byte) (s : State) : Host.Outcome State Fault Refusal :=
  .next (whenRuns dt (fun d t => detectCheck d found t) s)

/-- TRAINING_FRAME_RX (R324). -/
def execTrainingFrameRx (dt : Nat) (lane : Fin 8) (control : Half) (status : Half) (ownReady : Bool)
    (s : State) : Host.Outcome State Fault Refusal :=
  .next (whenRuns dt (fun d t => trainingFrameRx d lane control status ownReady t) s)

/-- ALIGN_RX (R320). -/
def execAlignRx (dt : Nat) (locked : Byte) (seen : Vector (Option AlignIn) 8)
    (s : State) : Host.Outcome State Fault Refusal :=
  .next (whenRuns dt (fun d t => (alignRx d locked seen t).shutGo) s)

/-- CAPABILITY_SEND (R327). -/
def execCapabilitySend (dt : Nat) (s : State) : Host.Outcome State Fault Refusal :=
  .next (whenRuns dt capabilitySend s)

/-- CAPABILITY_RX (R328). -/
def execCapabilityRx (dt : Nat) (bytes : List Byte) (s : State) : Host.Outcome State Fault Refusal :=
  .next (whenRuns dt (fun d t => capabilityRx d bytes t) s)

/-- BRINGUP_STAGE_TIMEOUT (R323). -/
def execBringupStageTimeout (dt : Nat) (s : State) : Host.Outcome State Fault Refusal :=
  .next (whenRuns dt bringupStageTimeout s)

/-- LINK_FAIL_IDLE_END (R325). -/
def execLinkFailIdleEnd (dt : Nat) (s : State) : Host.Outcome State Fault Refusal :=
  .next (whenRuns dt linkFailIdleEnd s)

/-- DOWN_CHECK (R325). -/
def execDownCheck (dt : Nat) (found : Byte) (s : State) : Host.Outcome State Fault Refusal :=
  .next (whenRuns dt (fun d t => downCheck d found t) s)

/-- BLOCK_LOCK_LOSS (R326). -/
def execBlockLockLoss (dt : Nat) (lane : Fin 8) (s : State) : Host.Outcome State Fault Refusal :=
  .next (whenRuns dt (fun d t => (blockLockLoss d lane t).shutGo) s)

/-- IDLE_LOSS (R326). -/
def execIdleLoss (dt : Nat) (lane : Fin 8) (s : State) : Host.Outcome State Fault Refusal :=
  .next (whenRuns dt (fun d t => (idleLoss d lane t).shutGo) s)

/-- LREF_UNLOCK (R475). -/
def execLrefUnlock (dt : Nat) (s : State) : Host.Outcome State Fault Refusal :=
  .next (whenRuns dt (fun d t => (lrefUnlock d t).shutGo) s)

/-- PM_BLOCK_RX (R334). -/
def execPmBlockRx (dt : Nat) (target : Nat) (s : State) : Host.Outcome State Fault Refusal :=
  .next (whenRuns dt (fun d t => pmBlockRx d target t) s)

/-- TX_QUIET_ENTRY (R334). -/
def execTxQuietEntry (dt : Nat) (s : State) : Host.Outcome State Fault Refusal :=
  .next (whenRuns dt txQuietEntry s)

/-- TX_SLEEP_ENTRY (R334). -/
def execTxSleepEntry (dt : Nat) (s : State) : Host.Outcome State Fault Refusal :=
  .next (whenRuns dt txSleepEntry s)

/-- QUIET_REFRESH (R335). -/
def execQuietRefresh (dt : Nat) (s : State) : Host.Outcome State Fault Refusal :=
  .next (whenRuns dt quietRefresh s)

/-- TX_PM_EXIT (R335). -/
def execTxPmExit (dt : Nat) (s : State) : Host.Outcome State Fault Refusal :=
  .next (whenRuns dt txPmExit s)

/-- LINK_LOOP_START (R337). -/
def execLinkLoopStart (dt : Nat) (s : State) : Host.Outcome State Fault Refusal :=
  .next (whenRuns dt linkLoopStart s)

/-- LINK_LOOP_END (R337). -/
def execLinkLoopEnd (dt : Nat) (s : State) : Host.Outcome State Fault Refusal :=
  .next (whenRuns dt linkLoopEnd s)

/-- RX_SLEEP_EXIT (R336). -/
def execRxSleepExit (dt : Nat) (s : State) : Host.Outcome State Fault Refusal :=
  .next (whenRuns dt rxSleepExit s)

/-- TRAINING_FRAMES_START (R323). -/
def execTrainingFramesStart (dt : Nat) (polarity : Byte) (s : State) : Host.Outcome State Fault Refusal :=
  .next (whenRuns dt (fun d t => trainingFramesStart d polarity t) s)

/-- LOOP_CHECKER_LOCK (R338). -/
def execLoopCheckerLock (dt : Nat) (lane : Fin 8) (locked : Bool) (errors : Nat)
    (s : State) : Host.Outcome State Fault Refusal :=
  .next (whenRuns dt (fun d t => loopCheckerLock d lane locked errors t) s)

end Sys2Proof.Machine
end

