-- ==== Sys2Proof/Machine/PortRows.lean ====
section
/-! DEFINITION. What happens at a port: its head, its emitters, its shots and its receiver (chapters 3 to 8). -/

namespace Sys2Proof.Machine

/-- PRES_ACCEPT_LOW (R58). -/
def execPresAcceptLow (dt : Nat) (p : Port) (s : State) : Host.Outcome State Fault Refusal :=
  .next (whenRuns dt (fun d t => presAcceptLow d p t) s)

/-- PRES_LOSS (R59); in RETAIN it is noted for the wake (R440). -/
def execPresLoss (dt : Nat) (p : Port) (s : State) : Host.Outcome State Fault Refusal :=
  .next (if s.runs then presLoss dt p s else (s.elapse dt).presLostAsleep p)

/-- ILK_CHANGE (R58). -/
def execIlkChange (dt : Nat) (p : Port) (closed : Bool) (s : State) : Host.Outcome State Fault Refusal :=
  .next (whenRuns dt (fun d t => ilkChange d p closed t) s)

/-- ID_READ_START (R72). -/
def execIdReadStart (dt : Nat) (p : Port) (s : State) : Host.Outcome State Fault Refusal :=
  .next (whenRuns dt (fun d t => idReadStart d p t) s)

/-- ID_TRANSACTION_END (R62). -/
def execIdTransactionEnd (dt : Nat) (p : Port) (result : IdAttempt) (s : State) : Host.Outcome State Fault Refusal :=
  .next (whenRuns dt (fun d t => idTransactionEnd d p result.pulses result.result t) s)

/-- ID_TRANSACTION_TIMEOUT (R62). -/
def execIdTransactionTimeout (dt : Nat) (x : IdGuard) (s : State) : Host.Outcome State Fault Refusal :=
  .next (whenRuns dt (fun d t => idTransactionTimeout d x.port x.pulses t) s)

/-- DRIVE_UPDATE (R77). -/
def execDriveUpdate (dt : Nat) (s : State) : Host.Outcome State Fault Refusal :=
  .next (whenRuns dt (fun d t => (driveUpdate d t).firstRuns) s)

/-- CASE_TEMP_UPDATE (R79). -/
def execCaseTempUpdate (dt : Nat) (p : Port) (s : State) : Host.Outcome State Fault Refusal :=
  .next (whenRuns dt (fun d t => caseTempUpdate d p t) s)

/-- CASE_STALE_TIMEOUT (R79). -/
def execCaseStaleTimeout (dt : Nat) (p : Port) (s : State) : Host.Outcome State Fault Refusal :=
  .next (whenRuns dt (fun d t => caseStaleTimeout d p t) s)

/-- CASE_RANGE_TIMEOUT (R82). -/
def execCaseRangeTimeout (dt : Nat) (p : Port) (s : State) : Host.Outcome State Fault Refusal :=
  .next (whenRuns dt (fun d t => caseRangeTimeout d p t) s)

/-- OVERTEMP_TIMEOUT (R81). -/
def execOvertempTimeout (dt : Nat) (p : Port) (s : State) : Host.Outcome State Fault Refusal :=
  .next (whenRuns dt (fun d t => overtempTimeout d p t) s)

/-- EMITTER_FAULT_ACCEPT (R95). -/
def execEmitterFaultAccept (dt : Nat) (readings : List FaultReading) (s : State) : Host.Outcome State Fault Refusal :=
  .next (whenRuns dt (fun d t => emitterFaultAccept d readings t) s)

/-- PROOF_DUE (R90). -/
def execProofDue (dt : Nat) (p : Port) (s : State) : Host.Outcome State Fault Refusal :=
  .next (whenRuns dt (fun d t => proofDue d p t) s)

/-- PROOF_PULSE (R91). -/
def execProofPulse (dt : Nat) (p : Port) (reading : EmitterReading) (s : State) : Host.Outcome State Fault Refusal :=
  .next (whenRuns dt (fun d t => proofPulse d p reading t) s)

/-- PUMP_NRG_SAMPLE (R89). -/
def execPumpNrgSample (dt : Nat) (p : Port) (mv : Nat) (s : State) : Host.Outcome State Fault Refusal :=
  .next (whenRuns dt (fun d t => pumpNrgSample d p mv t) s)

/-- CYCLE_BOUNDARY (R8). -/
def execCycleBoundary (dt : Nat) (g : Fin 12) (s : State) : Host.Outcome State Fault Refusal :=
  .next (whenRuns dt (fun d t => (cycleBoundary d g t).firstRuns) s)

/-- GRID_LAUNCH (R109). -/
def execGridLaunch (dt : Nat) (p : Port) (slot : Fin 4) (s : State) : Host.Outcome State Fault Refusal :=
  .next (whenRuns dt (fun d t => gridLaunch d p slot t) s)

/-- HOST_LAUNCH_REQUEST (R110). -/
def execHostLaunchRequest (dt : Nat) (p : Port) (s : State) : Host.Outcome State Fault Refusal :=
  .next (whenRuns dt (fun d t => hostLaunchRequest d p t) s)

/-- LAUNCH_DEFERRED_RETRY (R109). -/
def execLaunchDeferredRetry (dt : Nat) (p : Port) (s : State) : Host.Outcome State Fault Refusal :=
  .next (whenRuns dt (fun d t => launchDeferredRetry d p t) s)

/-- WINDOW_OPEN (R116). -/
def execWindowOpen (dt : Nat) (p : Port) (s : State) : Host.Outcome State Fault Refusal :=
  .next (whenRuns dt (fun d t => windowOpen d p t) s)

/-- PUMP_LAUNCH (R116). -/
def execPumpLaunch (dt : Nat) (p : Port) (s : State) : Host.Outcome State Fault Refusal :=
  .next (whenRuns dt (fun d t => pumpLaunch d p t) s)

/-- SINGLE_CHECK_WINDOW (R117). -/
def execSingleCheckWindow (dt : Nat) (p : Port) (s : State) : Host.Outcome State Fault Refusal :=
  .next (whenRuns dt (fun d t => singleCheckWindow d p t) s)

/-- STOP_FRAMES_DRAINED (R121). -/
def execStopFramesDrained (dt : Nat) (p : Port) (s : State) : Host.Outcome State Fault Refusal :=
  .next (whenRuns dt (fun d t => stopFramesDrained d p t) s)

/-- RANGE_SWITCH (R134). -/
def execRangeSwitch (dt : Nat) (p : Port) (s : State) : Host.Outcome State Fault Refusal :=
  .next (whenRuns dt (fun d t => rangeSwitch d p t) s)

/-- OVLD_ONSET (R132). -/
def execOvldOnset (dt : Nat) (p : Port) (ovld : Overload) (s : State) : Host.Outcome State Fault Refusal :=
  .next (whenRuns dt (fun d t => ovldOnset d p ovld.input ovld.held t) s)

/-- PAIR_CHECK_END (R149). -/
def execPairCheckEnd (dt : Nat) (p : Port) (xs : List Code) (ys : List Code)
    (s : State) : Host.Outcome State Fault Refusal :=
  .next (whenRuns dt (fun d t => pairCheckEnd d p xs ys t) s)

/-- GAUGE_SAMPLE (R161). -/
def execGaugeSample (dt : Nat) (p : Port) (sample : GaugeIn) (s : State) : Host.Outcome State Fault Refusal :=
  .next (whenRuns dt (fun d t => gaugeSample d p sample t) s)

/-- BIAS_FAULT_SET (R176). -/
def execBiasFaultSet (dt : Nat) (p : Port) (reading : BiasReading) (s : State) : Host.Outcome State Fault Refusal :=
  .next (whenRuns dt (fun d t => biasFaultSet d p reading t) s)

/-- BIAS_FAULT_CLEAR (R176). -/
def execBiasFaultClear (dt : Nat) (p : Port) (reading : BiasReading) (s : State) : Host.Outcome State Fault Refusal :=
  .next (whenRuns dt (fun d t => biasFaultClear d p reading t) s)

/-- RAMAN_RECORDING_END (R178). -/
def execRamanRecordingEnd (dt : Nat) (p : Port) (baseStk : List Half) (baseAst : List Half) (stk : List Half) (ast : List Half)
    (s : State) : Host.Outcome State Fault Refusal :=
  .next (whenRuns dt (fun d t => ramanRecordingEnd d p baseStk baseAst stk ast t) s)

/-- RAMAN_PERIOD_CLOSE (R179). -/
def execRamanPeriodClose (dt : Nat) (p : Port) (s : State) : Host.Outcome State Fault Refusal :=
  .next (whenRuns dt (fun d t => ramanPeriodClose d p t) s)

/-- PROFILE_READY (R190). -/
def execProfileReady (dt : Nat) (p : Port) (s : State) : Host.Outcome State Fault Refusal :=
  .next (whenRuns dt (fun d t => profileReady d p t) s)

/-- RTD_PULSE_START (R184). -/
def execRtdPulseStart (dt : Nat) (p : Port) (s : State) : Host.Outcome State Fault Refusal :=
  .next (whenRuns dt (fun d t => rtdPulseStart d p t) s)

/-- RTD_PULSE_END (R187). -/
def execRtdPulseEnd (dt : Nat) (p : Port) (outputs : List RtdOutput)
    (s : State) : Host.Outcome State Fault Refusal :=
  .next (whenRuns dt (fun d t => (rtdPulseEnd d p outputs t).hkbStart true true) s)

end Sys2Proof.Machine
end

