-- ==== Sys2Proof/Machine/PowerRows.lean ====
section
/-! DEFINITION. What starts, stops, powers and tests the device (chapters 19 to 21). -/

namespace Sys2Proof.Machine

/-- VAON_RISE (R426). -/
def execVaonRise (dt : Nat) (s : State) : Host.Outcome State Fault Refusal :=
  .next (vaonRise dt s)

/-- RESET_ASSERT (R43). -/
def execResetAssert (dt : Nat) (s : State) : Host.Outcome State Fault Refusal :=
  .next (resetAssert dt s)

/-- COLD_START (R469). -/
def execColdStart (dt : Nat) (src : BootSrc) (mailboxGood : Bool) (s : State) : Host.Outcome State Fault Refusal :=
  .next (coldStart dt src mailboxGood s)

/-- BOOT_IMAGE_CHECKED (R368). -/
def execBootImageChecked (dt : Nat) (responds : Bool) (s : State) : Host.Outcome State Fault Refusal :=
  .next (bootImageChecked dt responds s)

/-- FW_INIT_DONE (R469). -/
def execFwInitDone (dt : Nat) (good : Byte) (tj : Int) (s : State) : Host.Outcome State Fault Refusal :=
  .next (fwInitDone dt good tj s)

/-- SUPPLY_TRIP (R466). -/
def execSupplyTrip (dt : Nat) (rail : Rail) (s : State) : Host.Outcome State Fault Refusal :=
  .next (supplyTrip dt rail s)

/-- SUPPLY_RELEASE (R466). -/
def execSupplyRelease (dt : Nat) (s : State) : Host.Outcome State Fault Refusal :=
  .next (supplyRelease dt s)

/-- DEVICE_RESET_TRIGGER (R468). -/
def execDeviceResetTrigger (dt : Nat) (s : State) : Host.Outcome State Fault Refusal :=
  .next (deviceResetTrigger dt s)

/-- WATCHDOG_EXPIRY (R472). -/
def execWatchdogExpiry (dt : Nat) (s : State) : Host.Outcome State Fault Refusal :=
  .next (watchdogExpiry dt s)

/-- DIE_TEMP_SAMPLE (R473). -/
def execDieTempSample (dt : Nat) (temp : Int) (s : State) : Host.Outcome State Fault Refusal :=
  .next (dieTempSample dt temp s)

/-- XTAL_CHECK (R474). -/
def execXtalCheck (dt : Nat) (reading : XtalReading) (s : State) : Host.Outcome State Fault Refusal :=
  .next (xtalCheck dt reading s)

/-- BANK_SUPPLY_RISE (R37). -/
def execBankSupplyRise (dt : Nat) (bank : IoBank) (mv : Nat) (s : State) : Host.Outcome State Fault Refusal :=
  .next (bankSupplyRise dt bank mv s)

/-- BANK_SUPPLY_FALL (R38). -/
def execBankSupplyFall (dt : Nat) (bank : IoBank) (s : State) : Host.Outcome State Fault Refusal :=
  .next (bankSupplyFall dt bank s)

/-- START_UP_CAL_BEGIN (R470). -/
def execStartUpCalBegin (dt : Nat) (s : State) : Host.Outcome State Fault Refusal :=
  .next (startUpCalBegin dt s)

/-- STANDBY_GATED (R427). -/
def execStandbyGated (dt : Nat) (s : State) : Host.Outcome State Fault Refusal :=
  .next (standbyGated dt s)

/-- RETAIN_ARM (R435). -/
def execRetainArm (dt : Nat) (s : State) : Host.Outcome State Fault Refusal :=
  .next (retainArm dt s)

/-- COMMIT_POINT (R436). -/
def execCommitPoint (dt : Nat) (s : State) : Host.Outcome State Fault Refusal :=
  .next (commitPoint dt s)

/-- WAKE_EVENT (R438). -/
def execWakeEvent (dt : Nat) (sources : List WakeSource) (s : State) : Host.Outcome State Fault Refusal :=
  .next (wakeEvent dt sources s)

/-- WAKE_REPLAY (R437). -/
def execWakeReplay (dt : Nat) (s : State) : Host.Outcome State Fault Refusal :=
  .next (wakeReplay dt s)

/-- BROWNOUT (R429). -/
def execBrownout (dt : Nat) (s : State) : Host.Outcome State Fault Refusal :=
  .next (brownout dt s)

/-- WAKE_SUPPLIES_GOOD (R439). -/
def execWakeSuppliesGood (dt : Nat) (s : State) : Host.Outcome State Fault Refusal :=
  .next (wakeSuppliesGood dt s)

/-- WAKE_SERIAL_CHECK (R440). -/
def execWakeSerialCheck (dt : Nat) (p : Port) (attempts : List (Option IdAttempt))
    (s : State) : Host.Outcome State Fault Refusal :=
  .next (wakeSerialCheck dt p attempts s)

/-- WAKE_COMPLETE (R433). -/
def execWakeComplete (dt : Nat) (s : State) : Host.Outcome State Fault Refusal :=
  .next (wakeComplete dt s)

/-- SHUTDOWN_SELFTEST_DONE (R447). -/
def execShutdownSelftestDone (dt : Nat) (result : TestResult) (s : State) : Host.Outcome State Fault Refusal :=
  .next (shutdownSelftestDone dt result s)

/-- SELFTEST_BLOCK_DONE (R455). -/
def execSelftestBlockDone (dt : Nat) (result : TestResult) (s : State) : Host.Outcome State Fault Refusal :=
  .next (selftestBlockDone dt result s)

/-- VAON_LOSS (R426). -/
def execVaonLoss (dt : Nat) (s : State) : Host.Outcome State Fault Refusal :=
  .next (vaonLoss dt s)

/-- CLOCKS_UNGATED (R428). -/
def execClocksUngated (dt : Nat) (s : State) : Host.Outcome State Fault Refusal :=
  .next (clocksUngated dt s)

/-- FLASH_WRITE_DONE (R371). -/
def execFlashWriteDone (dt : Nat) (s : State) : Host.Outcome State Fault Refusal :=
  .next (flashWriteDone dt s)

/-- LIFECYCLE_PROGRAMMED (R459). -/
def execLifecycleProgrammed (dt : Nat) (s : State) : Host.Outcome State Fault Refusal :=
  .next (lifecycleProgrammed dt s)

/-- BOUNDARY_SCAN_ACCESS (R458). -/
def execBoundaryScanAccess (dt : Nat) (op : JtagOp) (s : State) : Host.Outcome State Fault Refusal :=
  .next (boundaryScanAccess dt op s)

end Sys2Proof.Machine
end

