-- ==== Sys2Proof/Machine/Dispatch.lean ====
section
/-! DEFINITION. One arm per command: its meaning. -/

namespace Sys2Proof.Machine

def exec (i : Instr) (s : State) : Host.Outcome State Fault Refusal :=
  match i with
  | .identify dt rq => Sys2Proof.Machine.execIdentify dt rq s
  | .status dt rq => Sys2Proof.Machine.execStatus dt rq s
  | .eventQuery dt rq first count => Sys2Proof.Machine.execEventQuery dt rq first count s
  | .clearStats dt rq block inst => Sys2Proof.Machine.execClearStats dt rq block inst s
  | .deviceReset dt rq => Sys2Proof.Machine.execDeviceReset dt rq s
  | .paramRead dt rq block inst word count => Sys2Proof.Machine.execParamRead dt rq block inst word count s
  | .paramWrite dt rq block inst word flags words => Sys2Proof.Machine.execParamWrite dt rq block inst word flags words s
  | .commit dt rq flags => Sys2Proof.Machine.execCommit dt rq flags s
  | .portStart dt rq ports => Sys2Proof.Machine.execPortStart dt rq ports s
  | .portStop dt rq ports => Sys2Proof.Machine.execPortStop dt rq ports s
  | .headRescan dt rq port => Sys2Proof.Machine.execHeadRescan dt rq port s
  | .clearFault dt rq port => Sys2Proof.Machine.execClearFault dt rq port s
  | .launchShot dt rq port slot => Sys2Proof.Machine.execLaunchShot dt rq port slot s
  | .loadProgram dt rq slot off bytes => Sys2Proof.Machine.execLoadProgram dt rq slot off bytes s
  | .unloadProgram dt rq slot => Sys2Proof.Machine.execUnloadProgram dt rq slot s
  | .engineReset dt rq cl eng => Sys2Proof.Machine.execEngineReset dt rq cl eng s
  | .loadZonePack dt rq off bytes => Sys2Proof.Machine.execLoadZonePack dt rq off bytes s
  | .loadBaselines dt rq off bytes => Sys2Proof.Machine.execLoadBaselines dt rq off bytes s
  | .ackGroup dt rq g => Sys2Proof.Machine.execAckGroup dt rq g s
  | .snapRead dt rq id stream flags => Sys2Proof.Machine.execSnapRead dt rq id stream flags s
  | .snapRelease dt rq id => Sys2Proof.Machine.execSnapRelease dt rq id s
  | .loadMask dt rq port off bytes => Sys2Proof.Machine.execLoadMask dt rq port off bytes s
  | .maskRearm dt rq port => Sys2Proof.Machine.execMaskRearm dt rq port s
  | .capmemRetrain dt rq => Sys2Proof.Machine.execCapmemRetrain dt rq s
  | .sumacJob dt rq desc => Sys2Proof.Machine.execSumacJob dt rq desc s
  | .linkRestart dt rq => Sys2Proof.Machine.execLinkRestart dt rq s
  | .linkLoop dt rq mode pattern lanes time => Sys2Proof.Machine.execLinkLoop dt rq mode pattern lanes time s
  | .powerState dt rq target banks => Sys2Proof.Machine.execPowerState dt rq target banks s
  | .shutdown dt rq flags => Sys2Proof.Machine.execShutdown dt rq flags s
  | .abortSelftest dt rq => Sys2Proof.Machine.execAbortSelftest dt rq s
  | .selftestRun dt rq block pattern => Sys2Proof.Machine.execSelftestRun dt rq block pattern s
  | .selftestResult dt rq index => Sys2Proof.Machine.execSelftestResult dt rq index s
  | .serviceChallenge dt rq => Sys2Proof.Machine.execServiceChallenge dt rq s
  | .serviceResponse dt rq sig => Sys2Proof.Machine.execServiceResponse dt rq sig s
  | .lifecycleSet dt rq target => Sys2Proof.Machine.execLifecycleSet dt rq target s
  | .calRun dt rq ports steps => Sys2Proof.Machine.execCalRun dt rq ports steps s
  | .calSetRefres dt rq v => Sys2Proof.Machine.execCalSetRefres dt rq v s
  | .calSetBath dt rq port temp => Sys2Proof.Machine.execCalSetBath dt rq port temp s
  | .tiArm dt rq params => Sys2Proof.Machine.execTiArm dt rq params s
  | .tiRead dt rq first count => Sys2Proof.Machine.execTiRead dt rq first count s
  | .fwDownload dt rq bytes => Sys2Proof.Machine.execFwDownload dt rq bytes s
  | .fwFlashWrite dt rq off bytes flags => Sys2Proof.Machine.execFwFlashWrite dt rq off bytes flags s
  | .commandTimeout dt tag => Sys2Proof.Machine.execCommandTimeout dt tag s
  | .doorbell dt v => Sys2Proof.Machine.execDoorbell dt v s
  | .cqHeadWrite dt v => Sys2Proof.Machine.execCqHeadWrite dt v s
  | .irqStatusClear dt mask => Sys2Proof.Machine.execIrqStatusClear dt mask s
  | .registerWrite dt hclkKhz clocks => Sys2Proof.Machine.execRegisterWrite dt hclkKhz clocks s
  | .stream0Command dt msg => Sys2Proof.Machine.execStream0Command dt msg s
  | .stageWrite dt msg => Sys2Proof.Machine.execStageWrite dt msg s
  | .vaonRise dt => Sys2Proof.Machine.execVaonRise dt s
  | .resetAssert dt => Sys2Proof.Machine.execResetAssert dt s
  | .coldStart dt src mailboxGood => Sys2Proof.Machine.execColdStart dt src mailboxGood s
  | .bootImageChecked dt responds => Sys2Proof.Machine.execBootImageChecked dt responds s
  | .fwInitDone dt good tj => Sys2Proof.Machine.execFwInitDone dt good tj s
  | .supplyTrip dt rail => Sys2Proof.Machine.execSupplyTrip dt rail s
  | .supplyRelease dt => Sys2Proof.Machine.execSupplyRelease dt s
  | .deviceResetTrigger dt => Sys2Proof.Machine.execDeviceResetTrigger dt s
  | .watchdogExpiry dt => Sys2Proof.Machine.execWatchdogExpiry dt s
  | .dieTempSample dt temp => Sys2Proof.Machine.execDieTempSample dt temp s
  | .xtalCheck dt reading => Sys2Proof.Machine.execXtalCheck dt reading s
  | .bankSupplyRise dt bank mv => Sys2Proof.Machine.execBankSupplyRise dt bank mv s
  | .bankSupplyFall dt bank => Sys2Proof.Machine.execBankSupplyFall dt bank s
  | .presAcceptLow dt p => Sys2Proof.Machine.execPresAcceptLow dt p s
  | .presLoss dt p => Sys2Proof.Machine.execPresLoss dt p s
  | .ilkChange dt p closed => Sys2Proof.Machine.execIlkChange dt p closed s
  | .idReadStart dt p => Sys2Proof.Machine.execIdReadStart dt p s
  | .idTransactionEnd dt p result => Sys2Proof.Machine.execIdTransactionEnd dt p result s
  | .idTransactionTimeout dt x => Sys2Proof.Machine.execIdTransactionTimeout dt x s
  | .driveUpdate dt => Sys2Proof.Machine.execDriveUpdate dt s
  | .caseTempUpdate dt p => Sys2Proof.Machine.execCaseTempUpdate dt p s
  | .caseStaleTimeout dt p => Sys2Proof.Machine.execCaseStaleTimeout dt p s
  | .caseRangeTimeout dt p => Sys2Proof.Machine.execCaseRangeTimeout dt p s
  | .overtempTimeout dt p => Sys2Proof.Machine.execOvertempTimeout dt p s
  | .emitterFaultAccept dt readings => Sys2Proof.Machine.execEmitterFaultAccept dt readings s
  | .proofDue dt p => Sys2Proof.Machine.execProofDue dt p s
  | .proofPulse dt p reading => Sys2Proof.Machine.execProofPulse dt p reading s
  | .pumpNrgSample dt p mv => Sys2Proof.Machine.execPumpNrgSample dt p mv s
  | .cycleBoundary dt g => Sys2Proof.Machine.execCycleBoundary dt g s
  | .gridLaunch dt p slot => Sys2Proof.Machine.execGridLaunch dt p slot s
  | .hostLaunchRequest dt p => Sys2Proof.Machine.execHostLaunchRequest dt p s
  | .launchDeferredRetry dt p => Sys2Proof.Machine.execLaunchDeferredRetry dt p s
  | .windowOpen dt p => Sys2Proof.Machine.execWindowOpen dt p s
  | .pumpLaunch dt p => Sys2Proof.Machine.execPumpLaunch dt p s
  | .singleCheckWindow dt p => Sys2Proof.Machine.execSingleCheckWindow dt p s
  | .stopFramesDrained dt p => Sys2Proof.Machine.execStopFramesDrained dt p s
  | .rangeSwitch dt p => Sys2Proof.Machine.execRangeSwitch dt p s
  | .ovldOnset dt p ovld => Sys2Proof.Machine.execOvldOnset dt p ovld s
  | .pairCheckEnd dt p xs ys => Sys2Proof.Machine.execPairCheckEnd dt p xs ys s
  | .gaugeSample dt p sample => Sys2Proof.Machine.execGaugeSample dt p sample s
  | .biasFaultSet dt p reading => Sys2Proof.Machine.execBiasFaultSet dt p reading s
  | .biasFaultClear dt p reading => Sys2Proof.Machine.execBiasFaultClear dt p reading s
  | .ramanRecordingEnd dt p baseStk baseAst stk ast => Sys2Proof.Machine.execRamanRecordingEnd dt p baseStk baseAst stk ast s
  | .ramanPeriodClose dt p => Sys2Proof.Machine.execRamanPeriodClose dt p s
  | .profileReady dt p => Sys2Proof.Machine.execProfileReady dt p s
  | .rtdPulseStart dt p => Sys2Proof.Machine.execRtdPulseStart dt p s
  | .rtdPulseEnd dt p outputs => Sys2Proof.Machine.execRtdPulseEnd dt p outputs s
  | .blockReady dt p column => Sys2Proof.Machine.execBlockReady dt p column s
  | .engineRequest dt eng => Sys2Proof.Machine.execEngineRequest dt eng s
  | .blockCopied dt eng => Sys2Proof.Machine.execBlockCopied dt eng s
  | .blockCutoff dt p column => Sys2Proof.Machine.execBlockCutoff dt p column s
  | .engineWatchdog dt eng => Sys2Proof.Machine.execEngineWatchdog dt eng s
  | .clusterTempSample dt cl temp => Sys2Proof.Machine.execClusterTempSample dt cl temp s
  | .undefinedOpcode eng => Sys2Proof.Machine.execUndefinedOpcode eng s
  | .nop eng => Sys2Proof.Machine.execNop eng s
  | .done eng => Sys2Proof.Machine.execDone eng s
  | .rep eng n => Sys2Proof.Machine.execRep eng n s
  | .br eng cond off => Sys2Proof.Machine.execBr eng cond off s
  | .bnzd eng k off => Sys2Proof.Machine.execBnzd eng k off s
  | .call eng k off => Sys2Proof.Machine.execCall eng k off s
  | .ret eng k => Sys2Proof.Machine.execRet eng k s
  | .clrf eng => Sys2Proof.Machine.execClrf eng s
  | .ldi eng sel k imm => Sys2Proof.Machine.execLdi eng sel k imm s
  | .adda eng k imm => Sys2Proof.Machine.execAdda eng k imm s
  | .cmpa eng k imm => Sys2Proof.Machine.execCmpa eng k imm s
  | .mova eng dsel k ssel j => Sys2Proof.Machine.execMova eng dsel k ssel j s
  | .gets eng k which => Sys2Proof.Machine.execGets eng k which s
  | .puts eng which k => Sys2Proof.Machine.execPuts eng which k s
  | .mvla eng k a l => Sys2Proof.Machine.execMvla eng k a l s
  | .mval eng a l k => Sys2Proof.Machine.execMval eng a l k s
  | .vld eng d ea => Sys2Proof.Machine.execVld eng d ea s
  | .vst eng ea v => Sys2Proof.Machine.execVst eng ea v s
  | .vldb eng d ea => Sys2Proof.Machine.execVldb eng d ea s
  | .vldq eng d ea => Sys2Proof.Machine.execVldq eng d ea s
  | .eld eng d l ea => Sys2Proof.Machine.execEld eng d l ea s
  | .est eng ea v l => Sys2Proof.Machine.execEst eng ea v l s
  | .vcpy eng k j => Sys2Proof.Machine.execVcpy eng k j s
  | .vadd eng d a b => Sys2Proof.Machine.execVadd eng d a b s
  | .vsub eng d a b => Sys2Proof.Machine.execVsub eng d a b s
  | .vmul eng d a b => Sys2Proof.Machine.execVmul eng d a b s
  | .vabs eng d a => Sys2Proof.Machine.execVabs eng d a s
  | .vmax eng d a b => Sys2Proof.Machine.execVmax eng d a b s
  | .vmin eng d a b => Sys2Proof.Machine.execVmin eng d a b s
  | .vshr eng d a sh => Sys2Proof.Machine.execVshr eng d a sh s
  | .vshl eng d a sh => Sys2Proof.Machine.execVshl eng d a sh s
  | .vand eng d a b => Sys2Proof.Machine.execVand eng d a b s
  | .vor eng d a b => Sys2Proof.Machine.execVor eng d a b s
  | .vxor eng d a b => Sys2Proof.Machine.execVxor eng d a b s
  | .vcmpgt eng d a b => Sys2Proof.Machine.execVcmpgt eng d a b s
  | .vsel eng d a b => Sys2Proof.Machine.execVsel eng d a b s
  | .vmov eng d a => Sys2Proof.Machine.execVmov eng d a s
  | .vsplat eng d imm => Sys2Proof.Machine.execVsplat eng d imm s
  | .vshuf eng d a b pat => Sys2Proof.Machine.execVshuf eng d a b pat s
  | .aclr eng d => Sys2Proof.Machine.execAclr eng d s
  | .vmac eng d a b => Sys2Proof.Machine.execVmac eng d a b s
  | .vmacb eng d k j => Sys2Proof.Machine.execVmacb eng d k j s
  | .vsqa eng d ea => Sys2Proof.Machine.execVsqa eng d ea s
  | .vpwr eng d ea => Sys2Proof.Machine.execVpwr eng d ea s
  | .mva eng d a auto sh => Sys2Proof.Machine.execMva eng d a auto sh s
  | .areds eng d a => Sys2Proof.Machine.execAreds eng d a s
  | .vbfly eng a b k => Sys2Proof.Machine.execVbfly eng a b k s
  | .maxx eng d ea => Sys2Proof.Machine.execMaxx eng d ea s
  | .minx eng d ea => Sys2Proof.Machine.execMinx eng d ea s
  | .maxxv eng d a => Sys2Proof.Machine.execMaxxv eng d a s
  | .minxv eng d a => Sys2Proof.Machine.execMinxv eng d a s
  | .vibrationZoneSample dt z block => Sys2Proof.Machine.execVibrationZoneSample dt z block s
  | .temperatureZoneSample dt z => Sys2Proof.Machine.execTemperatureZoneSample dt z s
  | .snapshotPublish dt id => Sys2Proof.Machine.execSnapshotPublish dt id s
  | .autoTimeout dt g => Sys2Proof.Machine.execAutoTimeout dt g s
  | .holdoffEnd dt g => Sys2Proof.Machine.execHoldoffEnd dt g s
  | .recordEnqueue dt item => Sys2Proof.Machine.execRecordEnqueue dt item s
  | .spillWriteTimeout dt stream => Sys2Proof.Machine.execSpillWriteTimeout dt stream s
  | .summaryPeriodic dt => Sys2Proof.Machine.execSummaryPeriodic dt s
  | .maskTraceEval dt p ago cycles => Sys2Proof.Machine.execMaskTraceEval dt p ago cycles s
  | .capmemTrainDone dt result => Sys2Proof.Machine.execCapmemTrainDone dt result s
  | .capmemPeriodicCal dt => Sys2Proof.Machine.execCapmemPeriodicCal dt s
  | .capmemSelfRefresh dt => Sys2Proof.Machine.execCapmemSelfRefresh dt s
  | .streamJobDone dt stream => Sys2Proof.Machine.execStreamJobDone dt stream s
  | .compressBlockDone dt tag => Sys2Proof.Machine.execCompressBlockDone dt tag s
  | .decompressDone dt => Sys2Proof.Machine.execDecompressDone dt s
  | .frameSelect dt => Sys2Proof.Machine.execFrameSelect dt s
  | .creditReceived dt stream total => Sys2Proof.Machine.execCreditReceived dt stream total s
  | .creditRepeat dt => Sys2Proof.Machine.execCreditRepeat dt s
  | .blockDiscard dt lane sync bytes => Sys2Proof.Machine.execBlockDiscard dt lane sync bytes s
  | .hostFrameDiscard dt why => Sys2Proof.Machine.execHostFrameDiscard dt why s
  | .detectCheck dt found => Sys2Proof.Machine.execDetectCheck dt found s
  | .trainingFrameRx dt lane control status ownReady => Sys2Proof.Machine.execTrainingFrameRx dt lane control status ownReady s
  | .alignRx dt locked seen => Sys2Proof.Machine.execAlignRx dt locked seen s
  | .capabilitySend dt => Sys2Proof.Machine.execCapabilitySend dt s
  | .capabilityRx dt bytes => Sys2Proof.Machine.execCapabilityRx dt bytes s
  | .bringupStageTimeout dt => Sys2Proof.Machine.execBringupStageTimeout dt s
  | .linkFailIdleEnd dt => Sys2Proof.Machine.execLinkFailIdleEnd dt s
  | .downCheck dt found => Sys2Proof.Machine.execDownCheck dt found s
  | .blockLockLoss dt lane => Sys2Proof.Machine.execBlockLockLoss dt lane s
  | .idleLoss dt lane => Sys2Proof.Machine.execIdleLoss dt lane s
  | .lrefUnlock dt => Sys2Proof.Machine.execLrefUnlock dt s
  | .pmBlockRx dt target => Sys2Proof.Machine.execPmBlockRx dt target s
  | .txQuietEntry dt => Sys2Proof.Machine.execTxQuietEntry dt s
  | .txSleepEntry dt => Sys2Proof.Machine.execTxSleepEntry dt s
  | .quietRefresh dt => Sys2Proof.Machine.execQuietRefresh dt s
  | .txPmExit dt => Sys2Proof.Machine.execTxPmExit dt s
  | .linkLoopStart dt => Sys2Proof.Machine.execLinkLoopStart dt s
  | .linkLoopEnd dt => Sys2Proof.Machine.execLinkLoopEnd dt s
  | .refQualified dt => Sys2Proof.Machine.execRefQualified dt s
  | .refLost dt => Sys2Proof.Machine.execRefLost dt s
  | .ocxoRdyChange dt level => Sys2Proof.Machine.execOcxoRdyChange dt level s
  | .ppsEdge dt stamp high => Sys2Proof.Machine.execPpsEdge dt stamp high s
  | .ppsTimeout dt => Sys2Proof.Machine.execPpsTimeout dt s
  | .ppsOutSecond dt => Sys2Proof.Machine.execPpsOutSecond dt s
  | .syncMarker dt stamp falls => Sys2Proof.Machine.execSyncMarker dt stamp falls s
  | .syncTimeout dt => Sys2Proof.Machine.execSyncTimeout dt s
  | .syncPhaseStep dt => Sys2Proof.Machine.execSyncPhaseStep dt s
  | .tiStartEdge dt start stamp => Sys2Proof.Machine.execTiStartEdge dt start stamp s
  | .tiStopEdge dt ball falling stamp => Sys2Proof.Machine.execTiStopEdge dt ball falling stamp s
  | .tiWindowEnd dt => Sys2Proof.Machine.execTiWindowEnd dt s
  | .tiFreqGateEnd dt stamp edges overRate => Sys2Proof.Machine.execTiFreqGateEnd dt stamp edges overRate s
  | .hkaSequence dt => Sys2Proof.Machine.execHkaSequence dt s
  | .hkbJobTrigger dt => Sys2Proof.Machine.execHkbJobTrigger dt s
  | .hkCheckTrigger dt => Sys2Proof.Machine.execHkCheckTrigger dt s
  | .hkEntryResult dt conv result => Sys2Proof.Machine.execHkEntryResult dt conv result s
  | .refSettlingEnd dt conv => Sys2Proof.Machine.execRefSettlingEnd dt conv s
  | .loopTick x => Sys2Proof.Machine.execLoopTick x s
  | .loopCauseSet dt n cause reading => Sys2Proof.Machine.execLoopCauseSet dt n cause reading s
  | .loopCauseClear dt n cause reading => Sys2Proof.Machine.execLoopCauseClear dt n cause reading s
  | .loopDriveRetry dt n => Sys2Proof.Machine.execLoopDriveRetry dt n s
  | .alarmOverload dt n => Sys2Proof.Machine.execAlarmOverload dt n s
  | .alarmRetry dt n => Sys2Proof.Machine.execAlarmRetry dt n s
  | .alarmOverloadClear dt n => Sys2Proof.Machine.execAlarmOverloadClear dt n s
  | .alarmMinActiveEnd dt n => Sys2Proof.Machine.execAlarmMinActiveEnd dt n s
  | .startUpCalBegin dt => Sys2Proof.Machine.execStartUpCalBegin dt s
  | .calAutoCheck dt => Sys2Proof.Machine.execCalAutoCheck dt s
  | .calStepEnd dt measure => Sys2Proof.Machine.execCalStepEnd dt measure s
  | .calRunEnd dt => Sys2Proof.Machine.execCalRunEnd dt s
  | .standbyGated dt => Sys2Proof.Machine.execStandbyGated dt s
  | .retainArm dt => Sys2Proof.Machine.execRetainArm dt s
  | .commitPoint dt => Sys2Proof.Machine.execCommitPoint dt s
  | .wakeEvent dt sources => Sys2Proof.Machine.execWakeEvent dt sources s
  | .wakeReplay dt => Sys2Proof.Machine.execWakeReplay dt s
  | .brownout dt => Sys2Proof.Machine.execBrownout dt s
  | .wakeSuppliesGood dt => Sys2Proof.Machine.execWakeSuppliesGood dt s
  | .wakeSerialCheck dt p attempts => Sys2Proof.Machine.execWakeSerialCheck dt p attempts s
  | .wakeComplete dt => Sys2Proof.Machine.execWakeComplete dt s
  | .shutdownSelftestDone dt result => Sys2Proof.Machine.execShutdownSelftestDone dt result s
  | .selftestBlockDone dt result => Sys2Proof.Machine.execSelftestBlockDone dt result s
  | .vaonLoss dt => Sys2Proof.Machine.execVaonLoss dt s
  | .clocksUngated dt => Sys2Proof.Machine.execClocksUngated dt s
  | .flashWriteDone dt => Sys2Proof.Machine.execFlashWriteDone dt s
  | .lifecycleProgrammed dt => Sys2Proof.Machine.execLifecycleProgrammed dt s
  | .rxSleepExit dt => Sys2Proof.Machine.execRxSleepExit dt s
  | .trainingFramesStart dt polarity => Sys2Proof.Machine.execTrainingFramesStart dt polarity s
  | .loopCheckerLock dt lane locked errors => Sys2Proof.Machine.execLoopCheckerLock dt lane locked errors s
  | .boundaryScanAccess dt op => Sys2Proof.Machine.execBoundaryScanAccess dt op s

end Sys2Proof.Machine
end

