-- ==== Sys2Proof/Machine/Balls.lean ====
section
/-! DEFINITION. The levels at the output balls: their reset states, isolation clamps, banks without a supply, and what
they carry otherwise (R37, R41 to R44, R46 to R54, R379). -/

namespace Sys2Proof.Machine

/-- A row of outputs of the ball tables of chapter 2, and the charge inputs with their reset switches; balls of one row at one
unit share one state. `c` is a capture-memory channel, A or B. -/
inductive Ball where
  | command (p : Port) (e : Emitter)
  | timing (p : Port) (e : Emitter)
  | probeI (p : Port)
  | probeQ (p : Port)
  /-- STK and ASTK -/
  | charge (p : Port)
  | rtdForce (p : Port)
  | idBus (p : Port)
  | laneTx (k : Fin 8)
  /-- DQ, DMI and RDQS -/
  | memData (c : Fin 2)
  | memWck (c : Fin 2)
  /-- CA and CS -/
  | memCommand (c : Fin 2)
  | memCk (c : Fin 2)
  | memReset (c : Fin 2)
  | hio
  | hrdy
  | hirq
  | fclk
  | fcsN
  | fio
  | pwrRet
  | xtal
  | tdo
  | ppsOut
  | syncOut
  | refresForce
  | loopDrive (n : Fin 8)
  | alarmOut (n : Fin 8)
deriving DecidableEq, Repr

/-- A state of balls. -/
inductive Level where
  | low
  | high
  | highZ
  /-- a differential pair, low or high -/
  | pairLow
  | pairHigh
  /-- a current command: its code, 0 for 0.000 V and no current -/
  | code (n : Nat)
  /-- a probe output: 1/256 mV with 64 fraction bits, 0 for no differential voltage -/
  | probe (v : Int)
  /-- reset switches of an integrator -/
  | closed
  | opened
  /-- a sourced current in 20 nA -/
  | amps (n : Nat)
  /-- electrical idle of a lane -/
  | idle
  /-- a clock that does not run, both wires low -/
  | stopped
  /-- carries the signals of its interface -/
  | driven
  /-- a loop drive without current, and one that sinks some µA -/
  | off
  | sinks (ua : Nat)
deriving DecidableEq, Repr

/-- The Reset column (R44, R46, R47, R49, R52, R53). -/
def Ball.reset : Ball → Level
  | .command .. => .code 0
  | .timing .. | .syncOut => .pairLow
  | .probeI _ | .probeQ _ => .probe 0
  | .charge _ => .closed
  | .refresForce => .amps 0
  | .rtdForce _ | .idBus _ | .memData _ | .hio | .fio | .tdo | .alarmOut _ => .highZ
  | .laneTx _ => .idle
  | .memWck _ | .memCommand _ | .memReset _ => .low
  | .memCk _ => .stopped
  | .hrdy | .hirq | .fclk | .pwrRet | .ppsOut => .low
  | .fcsN => .high
  | .xtal => .driven
  | .loopDrive _ => .off

/-- The Clamp column; none where the ball has no clamp, its driver never powering down or crossing no isolation
boundary (R44, R46, R47, R49, R52, R53). -/
def Ball.clamp : Ball → Option Level
  | .pwrRet | .xtal | .ppsOut | .syncOut => none
  | b => some b.reset

/-- The bank that supplies a ball; none for the fixed supplies (R37). -/
def Ball.bank : Ball → Option IoBank
  | .idBus p => some (.hb p)
  | .hio | .hrdy | .hirq | .fclk | .fcsN | .fio | .tdo => some .cb
  | .pwrRet => some .ab
  | .ppsOut => some .tb
  | .command .. | .timing .. | .probeI _ | .probeQ _ | .charge _ | .rtdForce _ | .laneTx _ | .memData _ | .memWck _
  | .memCommand _ | .memCk _ | .memReset _ | .xtal | .syncOut | .refresForce | .loopDrive _ | .alarmOut _ => none

/-- The fixed supplies of a ball (R35, R44, R46, R47, R52, R53). -/
def Ball.rails : Ball → List Rail
  | .command .. | .timing .. | .probeI _ | .probeQ _ | .charge _ | .rtdForce _ | .syncOut | .refresForce | .loopDrive _ => [.vana]
  | .laneTx _ => [.vser09, .vser12]
  | .memData _ | .memWck _ | .memCommand _ | .memCk _ => [.vddq05]
  | .memReset _ => [.vddq105]
  | .idBus _ | .hio | .hrdy | .hirq | .fclk | .fcsN | .fio | .pwrRet | .xtal | .tdo | .ppsOut | .alarmOut _ => []

/-- A ball has no supply: its bank is in no mode, a rail of it is removed in RETAIN, or VAON is absent (R37, R42).
(DESIGN CHOICE, log 204) -/
def State.unpowered (s : State) (b : Ball) : Bool :=
  b.bank.any (fun k => !s.bankUp k) || b.rails.any s.power.railsOut.contains
    || (match s.power.mode with
        | .off => true
        | .active | .standby | .entering | .retain | .waking => false)

/-- The port whose front end slice drives a ball (R18). -/
def Ball.slice : Ball → Option Port
  | .command p _ | .timing p _ | .probeI p | .probeQ p | .charge p => some p
  | _ => none

/-- The front end slice of a port is powered down: the port is disabled, its last frames and its falling ramps over (R18). -/
def State.sliceDown (s : State) (p : Port) : Bool := !s.accepts p

/-- The clamps of a ball are engaged: in RETAIN, or the port that drives it is disabled (R41). -/
def State.clamped (s : State) (b : Ball) : Bool := s.power.isolated || b.slice.any s.sliceDown

/-- The outputs of the head ports (R44, R46). -/
def Ball.ofHead : Ball → Bool
  | .command .. | .timing .. | .probeI _ | .probeQ _ | .charge _ | .rtdForce _ | .idBus _ => true
  | .laneTx _ | .memData _ | .memWck _ | .memCommand _ | .memCk _ | .memReset _ | .hio | .hrdy | .hirq | .fclk | .fcsN | .fio
  | .pwrRet | .xtal | .tdo | .ppsOut | .syncOut | .refresForce | .loopDrive _ | .alarmOut _ => false

/-- An output holds its reset value: RESET_N low or an internal reset (R43), SHUT_DOWN, in which all but the always-on island
and the control port stands still (R449), and for those of the head ports a shutdown self-test (R447). -/
def State.outputsReset (s : State) (b : Ball) : Bool :=
  !(s.start.holds = [] : Bool) || (s.life.shutDown && b ≠ .pwrRet && b ≠ .xtal) || (s.shutTest && b.ofHead)

/-- The falling edge of a period of SYNC_OUT after its rising edge, ns (R379). -/
def syncFall (t : Nat) : Nat :=
  let k := t % secNs / 100
  let second := t / secNs
  let bit (b : Bool) : Nat := if b then 70 else 30
  if k = 0 then 10
  else if k ≤ 64 then bit (second.testBit (k - 1))
  else if k ≤ 72 then bit ((crc8 (leBytes 8 second)).testBit (k - 65))
  else 50

/-- SYNC_OUT at the present nanosecond: 10 MHz whose falling edges spell the second (R379). -/
def State.syncLevel (s : State) : Bool := s.syncOut && decide (s.tb % 100 < syncFall s.tb)

/-- A transmit lane carries a signal: the link is past detection, the lane in use, awake and not idle after a failure; in a
loop, one of its LANES that is not NEAR_PARALLEL (R314, R323, R325, R334, R337). -/
def State.laneDriven (s : State) (k : Fin 8) : Bool :=
  let l := s.link
  match l.stage with
  | .disabled | .detect | .down => false
  | .train | .lock | .exchange | .active =>
    decide (k.val < l.width) && l.idleSince.isNone && (match l.txPm with | .awake => true | .quiet | .sleep => false)
  | .loop => l.loop.any (fun x => x.lanes.getLsbD k.val && x.mode ≠ 2)

/-- The boot flash is accessed: it is read at a start, or FW_FLASH_WRITE programs it (R367, R371). -/
def State.flashBusy (s : State) : Bool :=
  (match s.start.load with
   | .flash => true
   | .none | .download .. => false) || s.start.flashWrite.isSome

/-- What a ball carries while it is powered and neither in reset nor clamped. -/
def State.liveLevel (s : State) (b : Ball) : Level :=
  let bit (x : Bool) : Level := if x then .high else .low
  match b with
  | .command p e => .code (s.emitter p e).code
  | .timing p e => if s.timingHigh p e s.tb then .pairHigh else .pairLow
  | .probeI p => .probe (s.probeOut p (2 * s.tb)).1
  | .probeQ p => .probe (s.probeOut p (2 * s.tb)).2
  | .charge p => if s.integratorsClosed p s.tb then .closed else .opened
  | .rtdForce p =>
    match (s.raman p).pulse with
    | some x => .amps x.current
    | none => .highZ
  | .idBus p => if (s.port p).head.read.any (fun r => r.begun) then .driven else .highZ
  | .laneTx k => if s.laneDriven k then .driven else .idle
  | .memData _ => if s.capture.mem.due then .highZ else .driven
  | .memWck _ | .memCommand _ => if s.capture.mem.due then .low else .driven
  | .memCk _ => if s.capture.mem.due then .stopped else .driven
  -- the memory's reset line is low until training starts (R48)
  | .memReset _ => bit (!s.capture.mem.due)
  | .hio | .tdo => .highZ
  | .hrdy => bit s.hrdy
  | .hirq => bit s.hirq
  | .fclk => if s.flashBusy then .driven else .low
  | .fcsN => if s.flashBusy then .driven else .high
  | .fio => if s.flashBusy then .driven else .highZ
  | .pwrRet => bit s.power.pwrRet
  | .xtal => .driven
  | .ppsOut => bit s.ppsOut
  | .syncOut => if s.syncLevel then .pairHigh else .pairLow
  | .refresForce => if allPorts.any (fun p => s.calOn .ref p) then .driven else .amps 0
  | .loopDrive n => if (s.loop n).commandUa = 0 then .off else .sinks (s.loop n).commandUa
  | .alarmOut n => if (s.alarm n).conducting then .low else .highZ

/-- The level of a ball: without its supply it is high-impedance (R37, R42); in reset it has its Reset state
(R43), clamped its Clamp state (R41). (DEDUCED, log 177) -/
def State.ballLevel (s : State) (b : Ball) : Level :=
  if s.unpowered b then .highZ
  else if s.outputsReset b then b.reset
  else
    match b.clamp with
    | some l => if s.clamped b then l else s.liveLevel b
    | none => s.liveLevel b

end Sys2Proof.Machine
end

