-- ==== Sys2Proof/Machine/Lanes.lean ====
section
/-! DEFINITION. What the link's blocks are on its lanes: bits, scrambler, striping, markers, training frames, patterns
(R317, R318, R320, R324, R336, R338). Idle blocks fill every block time in which nothing else is sent, and no row of the table
is a block time, so these are functions of a block sequence and no state (DESIGN CHOICE, log 159). -/

namespace Sys2Proof.Machine

/-! ## Bits of a block (R317) -/

/-- Bits of bytes, byte 0 first, each least significant bit first. -/
def lsbBits (bs : List Byte) : List Bool := bs.flatMap (fun b => (List.range 8).map (fun i => b.getLsbD i))

/-- The sync header as sent: 01 for a data block, 10 for a control block. -/
def syncBits (b : WireBlock) : List Bool := [b.control, !b.control]

def isIdleBlock (b : WireBlock) : Bool := b.control && u8At b.bytes 0 == 0x1E
def isAlignBlock (b : WireBlock) : Bool := b.control && u8At b.bytes 0 == 0x33

/-- IDLE (R318). -/
def idleBlock : WireBlock := controlBlock 0x1E []

/-- The last 58 bits of a lane, newest first: the state of x^58 + x^39 + 1. -/
abbrev LaneBits := BitVec 58

/-- The bit that the scrambler adds. -/
def tapBit (r : LaneBits) : Bool := r.getLsbD 38 ^^ r.getLsbD 57

/-- A bit enters the register. -/
def LaneBits.push (r : LaneBits) (b : Bool) : LaneBits := (r <<< 1) ||| BitVec.ofNat 58 (bitNat b)

/-- Scramble bits: each scrambled bit enters the register. -/
def scramble : LaneBits → List Bool → List Bool × LaneBits
  | r, [] => ([], r)
  | r, b :: bs =>
    let c := b ^^ tapBit r
    let x := scramble (r.push c) bs
    (c :: x.1, x.2)

/-- Descramble bits: each received bit enters the register. -/
def descramble : LaneBits → List Bool → List Bool × LaneBits
  | r, [] => ([], r)
  | r, c :: cs =>
    let x := descramble (r.push c) cs
    ((c ^^ tapBit r) :: x.1, x.2)

/-- The 66 bits of a block on its lane; an ALIGN block is neither scrambled nor does the register move over it (R317). -/
def blockBits (r : LaneBits) (b : WireBlock) : List Bool × LaneBits :=
  if isAlignBlock b then (syncBits b ++ lsbBits b.bytes, r)
  else
    let x := scramble r (lsbBits b.bytes)
    (syncBits b ++ x.1, x.2)

/-! ## Striping and markers (R318, R320) -/

/-- The lane of block n of the block sequence. -/
def laneOf (width n : Nat) : Nat := n % width

/-- The blocks of the sequence that one lane carries. -/
def laneShare (width lane : Nat) (bs : List WireBlock) : List WireBlock :=
  (List.range bs.length).filterMap (fun n => if laneOf width n = lane then bs[n]? else none)

/-- Blocks between two ALIGN blocks of a lane. -/
def alignGap : Nat := 16383

/-- BIP-8 of some blocks: bit i is the even parity of bit i over their payload bytes, before scrambling. -/
def bip8 (bs : List WireBlock) : Byte := bs.foldl (fun p b => b.bytes.foldl (· ^^^ ·) p) 0

/-- ALIGN (R318). -/
def alignBlock (lane width mcount : Nat) (bip : Byte) : WireBlock :=
  controlBlock 0x33 (leBytes 1 lane ++ leBytes 1 (widthCode width) ++ [bip] ++ leBytes 2 mcount ++ zeros 1)

/-- A lane's blocks with an ALIGN after each 16,383 of them, the marker count going on from `mcount`. -/
def withAligns (lane width : Nat) : Nat → Nat → List WireBlock → List WireBlock
  | 0, _, bs => bs
  | fuel + 1, mcount, bs =>
    if bs.length < alignGap then bs
    else
      let run := bs.take alignGap
      run ++ alignBlock lane width (mcount % 65536) (bip8 run) :: withAligns lane width fuel (mcount + 1) (bs.drop alignGap)

/-- The bits of some blocks on a lane, one after the other. -/
def blocksBits : LaneBits → List WireBlock → List Bool
  | _, [] => []
  | r, b :: bs =>
    let x := blockBits r b
    x.1 ++ blocksBits x.2 bs

/-- What a lane carries of a block sequence that starts with the markers' count at `mcount` and its register at `r`. -/
def laneWire (width lane mcount : Nat) (r : LaneBits) (bs : List WireBlock) : List Bool :=
  let share := laneShare width lane bs
  blocksBits r (withAligns lane width (share.length / alignGap) mcount share)

/-- Deskew (R320): the markers of the lanes lie at most 20.0 ns apart; times in 0.1 ns. -/
def deskews (arrivals : List Nat) : Bool :=
  decide (arrivals.foldl max 0 ≤ arrivals.foldl min (arrivals.headD 0) + 200)

/-! ## Training frames and patterns (R323, R324, R336, R338) -/

/-- Marker, control and status field of a training frame, before its 4,032 UI of PRBS11, whose polynomial the spec does not
give. Bit 0 of a field goes first (DEDUCED, log 159). -/
def trainingHead (control status : BitVec 16) : List Bool :=
  List.replicate 16 true ++ List.replicate 16 false ++ (List.range 16).map (fun i => control.getLsbD i)
    ++ (List.range 16).map (fun i => status.getLsbD i)

/-- Status field with which the device answers on a lane (R324). -/
def statusField (x : LaneSt) : BitVec 16 :=
  BitVec.ofNat 16 (x.tapStatus[0] % 4 + 4 * (x.tapStatus[1] % 4) + 16 * (x.tapStatus[2] % 4) + 64 * bitNat x.ownReady)

/-- PRBS31, x^31 + x^28 + 1: its next bit and register. -/
def prbs31 (r : BitVec 31) : Bool × BitVec 31 :=
  let b := r.getLsbD 30 ^^ r.getLsbD 27
  (b, (r <<< 1) ||| BitVec.ofNat 31 (bitNat b))

/-- The next n bits of PRBS31. -/
def prbs31Bits : Nat → BitVec 31 → List Bool
  | 0, _ => []
  | n + 1, r =>
    let x := prbs31 r
    x.1 :: prbs31Bits n x.2

/-- Longest run so far, and the run in progress, of bits that go on as 1100 repeated: each bit differs from that two before. -/
def wakeRun : List Bool → Nat × Nat
  | a :: b :: c :: rest =>
    let x := wakeRun (b :: c :: rest)
    let run := if a = c then 2 else x.2 + 1
    (max x.1 run, run)
  | bs => (bs.length, bs.length)

/-- The wake pattern is accepted after 1,536 UI of it (R336). -/
def wakeAccepted (bits : List Bool) : Bool := decide (1536 ≤ (wakeRun bits).1)

end Sys2Proof.Machine
end

