-- ==== Sys2Proof/Safety.lean ====
section
/-! DEFINITION. What counts as a safe run, and the invariant that every step is to keep. -/

namespace Sys2Proof.Machine

/-- A safe state: no run from it stops, whatever waits in its queue. (DESIGN CHOICE, log 33) -/
def Safe (s : State) : Prop := ∀ n, ∃ t, Sys2Proof.core.run n s = .next t

/-- An engine's memories are canonical, FLG [15:8] read as zero (R225) and BEXP is at most 24 (R200, R229). -/
def EngineSt.ok (x : EngineSt) : Prop :=
  Memory.wf blankByte x.pmem = true ∧ Memory.wf blankByte x.dmem = true ∧ x.flg.toNat < 256 ∧ x.bexp.toNat ≤ 24

/-- The memories outside the engines are canonical: command window, staging window, completion queue, capture memory, and
the boot flash. -/
def State.memsOk (s : State) : Prop :=
  Memory.wf blankByte s.mbox.window = true ∧ Memory.wf blankByte s.mbox.staging = true ∧ Memory.wf blankByte s.mbox.cq = true
    ∧ Memory.wf blankByte s.capture.mem.content = true ∧ Memory.wf flashBlank s.flash = true

/-- Every engine is as `EngineSt.ok` says. -/
def State.enginesOk (s : State) : Prop := ∀ e : EngineId, EngineSt.ok s.clove.engines[e]

/-- The invariant of the machine. -/
def State.Inv (s : State) : Prop := s.memsOk ∧ s.enginesOk

/-! ## Words for statements about commands of the host -/

/-- A flight marked as started. -/
def State.markStarted (s : State) (tag : BitVec 6) : State :=
  s.setMbox (fun m => { m with flights := m.flights.map (fun f => if f.tag = tag then { f with started := true } else f) })

/-- Time has passed, and the command is accepted where no doorbell had brought it. -/
def State.arrived (s : State) (dt : Nat) (rq : Req) (code : Nat) (params : List Byte) : State :=
  if ((s.elapse dt).flightOf rq.tag).isSome && (s.elapse dt).mayStart rq code params then s.elapse dt
  else (s.elapse dt).submit rq code true params

/-- The state in which the work of a host's command begins, its flight started; none where it does not begin. -/
def State.began (s : State) (dt : Nat) (rq : Req) (code : Nat) (params : List Byte) : Option State :=
  if (s.arrived dt rq code params).mayStart rq code params && ((s.arrived dt rq code params).gate rq code).isNone then
    some ((s.arrived dt rq code params).markStarted rq.tag)
  else none

/-! ## Words for statements about engines -/

/-- The clusters' clocks run (R425), the engine runs, its PC lies on a word of the code, and that word carries the given fields and is no undefined opcode. -/
def Fetches (s : State) (e : EngineId) (fs : List WordField) : Prop :=
  s.clocked = true ∧ isRunning (s.engine e) = true ∧ offCode (s.engine e) = false
    ∧ wordFits (fetchWord (s.engine e)) fs = true ∧ undefinedWord (fetchWord (s.engine e)) = false

/-- The instruction runs on engine `e` alone and leaves it as `y`: nothing outside the engine changes. -/
def RunsTo (i : Instr) (s : State) (e : EngineId) (y : EngineSt) : Prop := exec i s = .next (s.setEngine e (fun _ => y))

/-- Addresses of the engine's registers, its accumulators, memories and place are as before; PC and cycles are not
spoken of. -/
def SameAddrs (x y : EngineSt) : Prop := y.ar = x.ar ∧ y.of = x.of ∧ y.cs = x.cs ∧ y.cl = x.cl
def SameMems (x y : EngineSt) : Prop := y.pmem = x.pmem ∧ y.dmem = x.dmem
def SamePlace (x y : EngineSt) : Prop :=
  y.mode = x.mode ∧ y.faults = x.faults ∧ y.lastProgram = x.lastProgram ∧ y.holds = x.holds ∧ y.codeEnd = x.codeEnd
    ∧ y.busySince = x.busySince ∧ y.cutoff = x.cutoff

/-- PC at the next instruction, which lies beyond program memory after its last word; `n` cycles counted, no repeat running. -/
def Advanced (x y : EngineSt) (n : Nat) : Prop :=
  y.pc = x.pc + 4 ∧ y.beyond = decide (65536 ≤ x.pc.toNat + 4) ∧ y.cycles = x.cycles + n ∧ y.rc = 0

/-- Only vector register `d` (and FLG, which is spoken of apart) has changed beside PC and cycles. -/
def OnlyV (x y : EngineSt) (d : VReg) : Prop :=
  (∀ r : VReg, r ≠ d → y.v[r] = x.v[r]) ∧ y.acc = x.acc ∧ y.bexp = x.bexp ∧ SameAddrs x y ∧ SameMems x y ∧ SamePlace x y

/-- Only accumulator `d` (and FLG) has changed. -/
def OnlyAcc (x y : EngineSt) (d : AccReg) : Prop :=
  (∀ r : AccReg, r ≠ d → y.acc[r] = x.acc[r]) ∧ y.v = x.v ∧ y.bexp = x.bexp ∧ SameAddrs x y ∧ SameMems x y ∧ SamePlace x y

/-- Only address registers, offsets and circular regions may have changed beside FLG and BEXP. -/
def OnlyA (x y : EngineSt) : Prop := y.v = x.v ∧ y.acc = x.acc ∧ SameMems x y ∧ SamePlace x y

/-- A sticky flag of FLG after something that saturates where `b` holds. -/
def stuckFlag (flg : BitVec 16) (i : Nat) (b : Prop) [Decidable b] : BitVec 16 := if b then flg ||| (1#16 <<< i) else flg

/-- Lane `i` of `d` holds the saturated exact result, and SAT sticks where some lane saturates. -/
def LanesSaturated (x y : EngineSt) (d : VReg) (f : Lane → Int) : Prop :=
  (∀ i : Lane, (y.v[d][i]).toInt = sat16 (f i)) ∧ y.flg = stuckFlag x.flg 4 (∃ i : Lane, f i < -32768 ∨ 32767 < f i)

/-- The number in lane `i` of an accumulator. -/
def accLane (x : EngineSt) (a : AccReg) (i : Lane) : Int := (x.acc[a][i]).toInt

/-- Lane `i` of accumulator `d` has had an exact term added with 40-bit saturation, and ASAT sticks. -/
def Accumulated (x y : EngineSt) (d : AccReg) (f : Lane → Int) : Prop :=
  (∀ i : Lane, accLane y d i = sat40 (accLane x d i + f i))
    ∧ y.flg = stuckFlag x.flg 5 (∃ i : Lane, sat40 (accLane x d i + f i) ≠ accLane x d i + f i)

/-- Every byte of data memory outside the addresses of a list reads as before. -/
def DataOutside (x y : EngineSt) (as : List Nat) : Prop := ∀ a : Nat, a < 262144 → a ∉ as → dbyte y a = dbyte x a

/-- The 16 byte addresses of the eight elements at an effective address. -/
def vecBytes (x : EngineSt) (ea : Ea) : List Nat :=
  ([0, 1, 2, 3, 4, 5, 6, 7] : List Nat).flatMap (fun i => [ea.part x 2 i % 262144, ea.part x 2 i % 262144 + 1])

end Sys2Proof.Machine
end

