-- ==== Sys2Proof/WellFormed.lean ====
section
/-! DEFINITION. Which commands are well formed: the operands have the lengths that the spec gives them. The machine takes
every command; this says which of them a sender or the surroundings can spell. -/

namespace Sys2Proof

/-- An identity record is read in parts of 64 bytes (R61). -/
def IdResult.wf : IdResult → Bool
  | .data bytes => bytes.length == 64
  | .nack | .busHeld => true

/-- The command is well formed: the words of a PARAM_WRITE (R347, R361), the descriptor of a SUMAC_JOB, the signature of a
SERVICE_RESPONSE and the parameters of a TI_ARM (R355), a register address (R342), a serial (R64), what converters give in
pairs (R148, R175), the periods of SYNC_IN (R379), a link block (R317). -/
def Instr.wf : Instr → Bool
  | .paramWrite _ _ _ _ _ _ words => decide (1 ≤ words.length ∧ words.length ≤ 29)
  | .sumacJob _ _ desc => desc.length == 224
  | .serviceResponse _ _ sig => sig.length == 64
  | .tiArm _ _ params => params.length == 28
  | .registerWrite _ khz clocks => decide (0 < khz ∧ khz ≤ 100000 ∧ clocks ≠ [])
  | .idTransactionEnd _ _ x => x.result.wf && (decide (x.result ≠ .busHeld) || decide (x.pulses = 9))
  | .pairCheckEnd _ _ xs ys => xs.length == 2048 && ys.length == 2048
  | .gaugeSample _ _ sample => sample.xs.length == sample.ys.length
  | .recordEnqueue _ (.raw _ _ xs ys) => xs.length == ys.length
  | .recordEnqueue _ (.block ..) => true
  | .ramanRecordingEnd _ _ baseStk baseAst stk ast =>
    baseStk.length == 64 && baseAst.length == 64 && stk.length == ast.length
  | .blockDiscard _ _ _ bytes => bytes.length == 8
  | .syncMarker _ _ falls => falls.length == 72
  | .wakeSerialCheck _ _ attempts => serialWhole attempts
  | .capmemTrainDone _ result => result.wf
  | .identify .. | .status .. | .eventQuery .. | .clearStats .. | .deviceReset .. | .paramRead .. | .commit ..
  | .portStart .. | .portStop .. | .headRescan .. | .clearFault .. | .launchShot .. | .loadProgram ..
  | .unloadProgram .. | .engineReset .. | .loadZonePack .. | .loadBaselines .. | .ackGroup .. | .snapRead ..
  | .snapRelease .. | .loadMask .. | .maskRearm .. | .capmemRetrain .. | .linkRestart .. | .linkLoop ..
  | .powerState .. | .shutdown .. | .abortSelftest .. | .selftestRun .. | .selftestResult .. | .serviceChallenge ..
  | .lifecycleSet .. | .calRun .. | .calSetRefres .. | .calSetBath .. | .tiRead .. | .fwDownload ..
  | .fwFlashWrite .. | .commandTimeout .. | .doorbell .. | .cqHeadWrite .. | .irqStatusClear ..
  | .stream0Command .. | .stageWrite .. | .vaonRise .. | .resetAssert .. | .coldStart .. | .bootImageChecked ..
  | .fwInitDone .. | .supplyTrip .. | .supplyRelease .. | .deviceResetTrigger .. | .watchdogExpiry ..
  | .dieTempSample .. | .xtalCheck .. | .bankSupplyRise .. | .bankSupplyFall .. | .presAcceptLow .. | .presLoss ..
  | .ilkChange .. | .idReadStart .. | .idTransactionTimeout .. | .driveUpdate .. | .caseTempUpdate ..
  | .caseStaleTimeout .. | .caseRangeTimeout .. | .overtempTimeout .. | .emitterFaultAccept .. | .proofDue ..
  | .proofPulse .. | .pumpNrgSample .. | .cycleBoundary .. | .gridLaunch .. | .hostLaunchRequest ..
  | .launchDeferredRetry .. | .windowOpen .. | .pumpLaunch .. | .singleCheckWindow .. | .stopFramesDrained ..
  | .rangeSwitch .. | .ovldOnset .. | .biasFaultSet .. | .biasFaultClear .. | .ramanPeriodClose ..
  | .profileReady .. | .rtdPulseStart .. | .rtdPulseEnd .. | .blockReady .. | .engineRequest .. | .blockCopied ..
  | .blockCutoff .. | .engineWatchdog .. | .clusterTempSample .. | .undefinedOpcode .. | .nop .. | .done ..
  | .rep .. | .br .. | .bnzd .. | .call .. | .ret .. | .clrf .. | .ldi .. | .adda .. | .cmpa .. | .mova ..
  | .gets .. | .puts .. | .mvla .. | .mval .. | .vld .. | .vst .. | .vldb .. | .vldq .. | .eld .. | .est ..
  | .vcpy .. | .vadd .. | .vsub .. | .vmul .. | .vabs .. | .vmax .. | .vmin .. | .vshr .. | .vshl .. | .vand ..
  | .vor .. | .vxor .. | .vcmpgt .. | .vsel .. | .vmov .. | .vsplat .. | .vshuf .. | .aclr .. | .vmac ..
  | .vmacb .. | .vsqa .. | .vpwr .. | .mva .. | .areds .. | .vbfly .. | .maxx .. | .minx .. | .maxxv .. | .minxv ..
  | .vibrationZoneSample .. | .temperatureZoneSample .. | .snapshotPublish .. | .autoTimeout .. | .holdoffEnd ..
  | .spillWriteTimeout .. | .summaryPeriodic .. | .maskTraceEval ..
  | .capmemPeriodicCal .. | .capmemSelfRefresh .. | .streamJobDone .. | .compressBlockDone .. | .decompressDone ..
  | .frameSelect .. | .creditReceived .. | .creditRepeat .. | .hostFrameDiscard .. | .detectCheck ..
  | .trainingFrameRx .. | .alignRx .. | .capabilitySend .. | .capabilityRx .. | .bringupStageTimeout ..
  | .linkFailIdleEnd .. | .downCheck .. | .blockLockLoss .. | .idleLoss .. | .lrefUnlock .. | .pmBlockRx ..
  | .txQuietEntry .. | .txSleepEntry .. | .quietRefresh .. | .txPmExit .. | .linkLoopStart .. | .linkLoopEnd ..
  | .refQualified .. | .refLost .. | .ocxoRdyChange .. | .ppsEdge .. | .ppsTimeout .. | .ppsOutSecond ..
  | .syncTimeout .. | .syncPhaseStep .. | .tiStartEdge .. | .tiStopEdge .. | .tiWindowEnd .. | .tiFreqGateEnd ..
  | .hkaSequence .. | .hkbJobTrigger .. | .hkCheckTrigger .. | .hkEntryResult .. | .refSettlingEnd ..
  | .loopTick .. | .loopCauseSet .. | .loopCauseClear .. | .loopDriveRetry .. | .alarmOverload .. | .alarmRetry ..
  | .alarmOverloadClear .. | .alarmMinActiveEnd .. | .startUpCalBegin .. | .calAutoCheck .. | .calStepEnd ..
  | .calRunEnd .. | .standbyGated .. | .retainArm .. | .commitPoint .. | .wakeEvent .. | .wakeReplay ..
  | .brownout .. | .wakeSuppliesGood .. | .wakeComplete .. | .shutdownSelftestDone .. | .selftestBlockDone ..
  | .vaonLoss .. | .clocksUngated .. | .flashWriteDone .. | .lifecycleProgrammed .. | .rxSleepExit ..
  | .trainingFramesStart .. | .loopCheckerLock .. | .boundaryScanAccess .. => true

end Sys2Proof
end

