-- ==== Sys2Proof/Certificates/Slice0/Obligations.lean ====
section
/-! DEFINITION. The statements for the provers. -/

open Sys2Proof Sys2Proof.Machine

/-! ## Instructions of a Clove engine -/

/-- R231: each lane of the result of VADD, VSUB, VMUL, VABS, VMAX, VMIN, VSHR and VSHL, with saturation and the sticky SAT,
and nothing else. -/
def Obligations.CloveLaneArithmetic : Prop :=
  ∀ (s : State) (e : EngineId) (d a b : VReg) (sh : Fin 16), (s.engine e).rc = 0 →
    let x := s.engine e
    let did (i : Instr) (f : Lane → Int) : Prop :=
      ∃ y, RunsTo i s e y ∧ LanesSaturated x y d f ∧ OnlyV x y d ∧ Advanced x y 1
    let shift : List WordField := [(21, 5, d.val), (16, 5, a.val), (0, 7, sh.val)]
    (Fetches s e (encV 0x18 d.val a.val b.val) → did (.vadd e d a b) (fun i => lane x a i + lane x b i))
    ∧ (Fetches s e (encV 0x19 d.val a.val b.val) → did (.vsub e d a b) (fun i => lane x a i - lane x b i))
    ∧ (Fetches s e (encV 0x1A d.val a.val b.val) →
        did (.vmul e d a b) (fun i => (lane x a i * lane x b i + 16384) / 32768))
    ∧ (Fetches s e [(26, 6, 0x1B), (21, 5, d.val), (16, 5, a.val)] →
        did (.vabs e d a) (fun i => if lane x a i < 0 then - lane x a i else lane x a i))
    ∧ (Fetches s e (encV 0x1C d.val a.val b.val) → did (.vmax e d a b) (fun i => max (lane x a i) (lane x b i)))
    ∧ (Fetches s e (encV 0x1D d.val a.val b.val) → did (.vmin e d a b) (fun i => min (lane x a i) (lane x b i)))
    ∧ (Fetches s e ((26, 6, 0x1E) :: shift) → did (.vshr e d a sh) (fun i => rnd (lane x a i) sh.val))
    ∧ (Fetches s e ((26, 6, 0x1F) :: shift) → did (.vshl e d a sh) (fun i => lane x a i * 2 ^ sh.val))

/-- R231, R232: VAND, VOR, VXOR, VCMPGT with ANY, VSEL, VMOV and VSPLAT; VSHUF takes W[0..7] from Va and W[8..15] from Vb and
writes the lanes of the patterns table. -/
def Obligations.CloveLaneLogicAndShuffles : Prop :=
  ∀ (s : State) (e : EngineId) (d a b : VReg) (imm : BitVec 16) (p : Fin 4), (s.engine e).rc = 0 →
    let x := s.engine e
    let did (i : Instr) (f : Lane → BitVec 16) (flg : BitVec 16) : Prop :=
      ∃ y, RunsTo i s e y ∧ (∀ l : Lane, y.v[d][l] = f l) ∧ y.flg = flg ∧ OnlyV x y d ∧ Advanced x y 1
    (Fetches s e (encV 0x20 d.val a.val b.val) → did (.vand e d a b) (fun l => x.v[a][l] &&& x.v[b][l]) x.flg)
    ∧ (Fetches s e (encV 0x21 d.val a.val b.val) → did (.vor e d a b) (fun l => x.v[a][l] ||| x.v[b][l]) x.flg)
    ∧ (Fetches s e (encV 0x22 d.val a.val b.val) → did (.vxor e d a b) (fun l => x.v[a][l] ^^^ x.v[b][l]) x.flg)
    ∧ (Fetches s e (encV 0x23 d.val a.val b.val) →
        did (.vcmpgt e d a b) (fun l => if lane x b l < lane x a l then 0xFFFF else 0)
          (if ∃ l : Lane, lane x b l < lane x a l then x.flg ||| 0x80 else x.flg &&& 0xFF7F))
    ∧ (Fetches s e (encV 0x24 d.val a.val b.val) →
        did (.vsel e d a b) (fun l => if lane x d l < 0 then x.v[a][l] else x.v[b][l]) x.flg)
    ∧ (Fetches s e [(26, 6, 0x25), (21, 5, d.val), (16, 5, a.val)] → did (.vmov e d a) (fun l => x.v[a][l]) x.flg)
    ∧ (Fetches s e [(26, 6, 0x26), (21, 5, d.val), (16, 5, 0), (0, 16, imm.toNat)] →
        did (.vsplat e d imm) (fun _ => imm) x.flg)
    ∧ (Fetches s e ((0, 7, p.val) :: encV 0x27 d.val a.val b.val) →
      let w (n : Fin 16) : BitVec 16 := if h : n.val < 8 then x.v[a][n.val] else x.v[b][n.val - 8]
      let table : Vector (Vector (Fin 16) 8) 4 :=
        #v[#v[0, 8, 1, 9, 2, 10, 3, 11], #v[4, 12, 5, 13, 6, 14, 7, 15], #v[0, 1, 8, 9, 2, 3, 10, 11],
           #v[4, 5, 12, 13, 6, 7, 14, 15]]
      did (.vshuf e d a b p) (fun l => w (table[p][l])) x.flg)

/-- R233, R200: ACLR, VMAC, AREDS, and MVA in its two modes; where AUTO finds no shift up to 24 that makes a lane fit,
that lane is an open value and nothing is said of it (log 19). -/
def Obligations.CloveAccumulatorRegisters : Prop :=
  ∀ (s : State) (e : EngineId) (d : VReg) (a c : AccReg) (u v : VReg) (sh : Fin 25), (s.engine e).rc = 0 →
    let x := s.engine e
    (Fetches s e [(26, 6, 0x28), (7, 2, c.val)] →
      ∃ y, RunsTo (.aclr e c) s e y ∧ (∀ i : Lane, accLane y c i = 0) ∧ y.flg = x.flg ∧ OnlyAcc x y c ∧ Advanced x y 1)
    ∧ (Fetches s e [(26, 6, 0x29), (7, 2, c.val), (16, 5, u.val), (11, 5, v.val)] →
      ∃ y, RunsTo (.vmac e c u v) s e y ∧ Accumulated x y c (fun i => lane x u i * lane x v i) ∧ OnlyAcc x y c
        ∧ Advanced x y 1)
    ∧ (Fetches s e [(26, 6, 0x2E), (9, 2, a.val), (7, 2, c.val)] →
      let sum := accLane x a 0 + accLane x a 1 + accLane x a 2 + accLane x a 3 + accLane x a 4 + accLane x a 5
        + accLane x a 6 + accLane x a 7
      ∃ y, RunsTo (.areds e c a) s e y
        ∧ (∀ i : Lane, accLane y c i = if h : i.val < 7 then accLane x c ⟨i.val + 1, by omega⟩ else sat40 sum)
        ∧ y.flg = stuckFlag x.flg 5 (sat40 sum ≠ sum) ∧ OnlyAcc x y c ∧ Advanced x y 2)
    ∧ (Fetches s e [(26, 6, 0x2D), (21, 5, d.val), (9, 2, a.val), (5, 1, 0), (0, 5, sh.val)] →
      ∃ y, RunsTo (.mva e d a false sh) s e y ∧ LanesSaturated x y d (fun i => rnd (accLane x a i) sh.val)
        ∧ OnlyV x y d ∧ Advanced x y 2)
    ∧ (Fetches s e [(26, 6, 0x2D), (21, 5, d.val), (9, 2, a.val), (5, 1, 1), (0, 5, 0)] →
      ∀ need : Nat, need ≤ 24 → (∀ i : Lane, fits16 (rnd (accLane x a i) need) = true) →
        (∀ m : Nat, m < need → ∃ i : Lane, fits16 (rnd (accLane x a i) m) = false) →
        let n := max x.bexp.toNat need
        ∃ y, RunsTo (.mva e d a true 0) s e y ∧ (∀ i : Lane, (y.v[d][i]).toInt = rnd (accLane x a i) n)
          ∧ y.bexp.toNat = n ∧ y.flg = x.flg ∧ (∀ r : VReg, r ≠ d → y.v[r] = x.v[r]) ∧ y.acc = x.acc ∧ SameAddrs x y
          ∧ SameMems x y ∧ SamePlace x y ∧ Advanced x y 2)

/-- R230: VLD, VLDB, VLDQ and ELD at an address that the access may use; and what they leave. -/
def Obligations.CloveLoads : Prop :=
  ∀ (s : State) (e : EngineId) (d : VReg) (l : Lane) (ea : Ea) (el : EaLane), (s.engine e).rc = 0 →
    let x := s.engine e
    let rest (y : EngineSt) (ar : Vector (BitVec 18) 8) : Prop :=
      y.ar = ar ∧ y.of = x.of ∧ y.cs = x.cs ∧ y.cl = x.cl ∧ (∀ r : VReg, r ≠ d → y.v[r] = x.v[r]) ∧ y.acc = x.acc
        ∧ y.bexp = x.bexp ∧ y.flg = x.flg ∧ SameMems x y ∧ SamePlace x y ∧ Advanced x y 1
    (Fetches s e (encM 0x10 d.val ea) → (∀ i : Nat, i < 8 → ea.part x 2 i % 2 = 0) →
      ∃ y, RunsTo (.vld e d ea) s e y ∧ (∀ i : Lane, y.v[d][i] = delem x (ea.part x 2 i.val)) ∧ rest y (ea.mod x).ar)
    ∧ (Fetches s e (encM 0x12 d.val ea) → ea.addr x % 2 = 0 →
      ∃ y, RunsTo (.vldb e d ea) s e y ∧ (∀ i : Lane, y.v[d][i] = delem x (ea.addr x)) ∧ rest y (ea.mod x).ar)
    ∧ (Fetches s e (encM 0x13 d.val ea) →
      ∃ y, RunsTo (.vldq e d ea) s e y ∧ (∀ i : Lane, (y.v[d][i]).toNat = (dbyte x (ea.part x 1 i.val)).toNat)
        ∧ rest y (ea.mod x).ar)
    ∧ (Fetches s e (encML 0x14 d.val l.val el) → el.addr x % 2 = 0 →
      ∃ y, RunsTo (.eld e d l el) s e y ∧ y.v[d][l] = delem x (el.addr x)
        ∧ (∀ i : Lane, i ≠ l → y.v[d][i] = x.v[d][i]) ∧ rest y (el.mod x).ar)

/-- R230, R221: VST, EST and VCPY store where their address function says and nowhere else; a pointer that both operands
name is post-modified once. -/
def Obligations.CloveStores : Prop :=
  ∀ (s : State) (e : EngineId) (v : VReg) (l : Lane) (ea : Ea) (el : EaLane) (k j : AReg), (s.engine e).rc = 0 →
    Memory.wf blankByte (s.engine e).dmem = true →
    let x := s.engine e
    let rest (y : EngineSt) (ar : Vector (BitVec 18) 8) : Prop :=
      y.ar = ar ∧ y.of = x.of ∧ y.cs = x.cs ∧ y.cl = x.cl ∧ y.v = x.v ∧ y.acc = x.acc ∧ y.bexp = x.bexp ∧ y.flg = x.flg
        ∧ y.pmem = x.pmem ∧ SamePlace x y ∧ Advanced x y 1
    (Fetches s e (encM 0x11 v.val ea) → (∀ i : Nat, i < 8 → ea.part x 2 i % 2 = 0) →
      ∃ y, RunsTo (.vst e ea v) s e y
        ∧ ((∀ m n : Lane, m ≠ n → ea.part x 2 m.val % 262144 ≠ ea.part x 2 n.val % 262144) →
            ∀ i : Lane, delem y (ea.part x 2 i.val) = x.v[v][i])
        ∧ DataOutside x y (vecBytes x ea) ∧ rest y (ea.mod x).ar)
    ∧ (Fetches s e (encML 0x15 v.val l.val el) → el.addr x % 2 = 0 →
      ∃ y, RunsTo (.est e el v l) s e y ∧ delem y (el.addr x) = x.v[v][l]
        ∧ DataOutside x y [el.addr x % 262144, el.addr x % 262144 + 1] ∧ rest y (el.mod x).ar)
    ∧ (Fetches s e [(26, 6, 0x16), (18, 3, k.val), (17, 1, 1), (14, 3, j.val), (0, 14, 0)] →
      (∀ i : Nat, i < 8 → (Ea.post k).part x 2 i % 2 = 0 ∧ (Ea.post j).part x 2 i % 2 = 0) →
      ∃ y, RunsTo (.vcpy e k j) s e y
        ∧ ((∀ m n : Lane, m ≠ n → (Ea.post k).part x 2 m.val % 262144 ≠ (Ea.post k).part x 2 n.val % 262144) →
            ∀ i : Lane, delem y ((Ea.post k).part x 2 i.val) = delem x ((Ea.post j).part x 2 i.val))
        ∧ DataOutside x y (vecBytes x (.post k))
        ∧ rest y (if k = j then postMod x k else postMod (postMod x k) j).ar)

/-- R196: post-modification of ARk, here by VLDQ, which may use any address: AR + OF, wrapped once into the circular region
where CL is not 0, modulo 2^18. -/
def Obligations.ClovePostModification : Prop :=
  ∀ (s : State) (e : EngineId) (d : VReg) (k : AReg), (s.engine e).rc = 0 →
    Fetches s e (encM 0x13 d.val (.post k)) →
    let x := s.engine e
    let new : Int := (x.ar[k].toNat : Int) + x.of[k].toInt
    let wrapped : Int :=
      if x.cl[k] ≠ 0 then
        if (x.cs[k].toNat : Int) + x.cl[k].toNat ≤ new then new - x.cl[k].toNat
        else if new < x.cs[k].toNat then new + x.cl[k].toNat
        else new
      else new
    ∃ y, RunsTo (.vldq e d (.post k)) s e y ∧ (y.ar[k].toNat : Int) = wrapped % 262144
      ∧ (∀ r : AReg, r ≠ k → y.ar[r] = x.ar[r])

/-- R233, R221: VMACB, VSQA and VPWR accumulate from memory and post-modify their pointers. -/
def Obligations.CloveAccumulateFromMemory : Prop :=
  ∀ (s : State) (e : EngineId) (c : AccReg) (ea : Ea) (k j : AReg), (s.engine e).rc = 0 →
    let x := s.engine e
    let el (a : Ea) (i : Nat) : Int := (delem x (a.part x 2 i)).toInt
    let rest (y : EngineSt) (ar : Vector (BitVec 18) 8) (n : Nat) : Prop :=
      y.ar = ar ∧ y.of = x.of ∧ y.cs = x.cs ∧ y.cl = x.cl ∧ y.v = x.v ∧ (∀ r : AccReg, r ≠ c → y.acc[r] = x.acc[r])
        ∧ y.bexp = x.bexp ∧ SameMems x y ∧ SamePlace x y ∧ Advanced x y n
    (Fetches s e (encM2 0x2A c.val k.val j.val) → (∀ i : Nat, i < 8 → (Ea.post k).part x 2 i % 2 = 0) →
      x.ar[j].toNat % 2 = 0 →
      ∃ y, RunsTo (.vmacb e c k j) s e y
        ∧ Accumulated x y c (fun i => el (.post k) i.val * (delem x x.ar[j].toNat).toInt)
        ∧ rest y (if k = j then postMod x k else postMod (postMod x k) j).ar 1)
    ∧ (Fetches s e (encM 0x2B c.val ea) → (∀ i : Nat, i < 8 → ea.part x 2 i % 2 = 0) →
      ∃ y, RunsTo (.vsqa e c ea) s e y ∧ Accumulated x y c (fun i => el ea i.val * el ea i.val) ∧ rest y (ea.mod x).ar 1)
    ∧ (Fetches s e (encM 0x2C c.val ea) → (∀ i : Nat, i < 16 → ea.part x 2 i % 2 = 0) →
      ∃ y, RunsTo (.vpwr e c ea) s e y
        ∧ Accumulated x y c (fun i =>
            el ea (2 * i.val) * el ea (2 * i.val) + el ea (2 * i.val + 1) * el ea (2 * i.val + 1))
        ∧ rest y (ea.mod x).ar 2)

/-- R229: LDI, ADDA, CMPA, MOVA, GETS, PUTS, MVLA and MVAL, with the flags of ADDA, CMPA and PUTS. -/
def Obligations.CloveAddressMoves : Prop :=
  ∀ (s : State) (e : EngineId) (k j : AReg) (sel src : Fin 4) (imm : BitVec 18) (a : VReg) (l : Lane), (s.engine e).rc = 0 →
    let x := s.engine e
    let flags (r : BitVec 18) (c v : Bool) (f : BitVec 16) : Prop :=
      f.getLsbD 0 = decide (r = 0) ∧ f.getLsbD 1 = r.msb ∧ f.getLsbD 2 = c ∧ f.getLsbD 3 = v
        ∧ ∀ i : Nat, 4 ≤ i → f.getLsbD i = x.flg.getLsbD i
    let holds (y : EngineSt) (sl : Fin 4) (r : BitVec 18) : Prop :=
      getSel y sl k = r ∧ ∀ (t : Fin 4) (n : AReg), (t ≠ sl ∨ n ≠ k) → getSel y t n = getSel x t n
    (Fetches s e [(26, 6, 0x08), (24, 2, sel.val), (21, 3, k.val), (18, 3, 0), (0, 18, imm.toNat)] →
      ∃ y, RunsTo (.ldi e sel k imm) s e y ∧ holds y sel imm ∧ y.flg = x.flg ∧ y.bexp = x.bexp ∧ OnlyA x y ∧ Advanced x y 1)
    ∧ (Fetches s e [(26, 6, 0x09), (21, 3, k.val), (18, 3, 0), (0, 18, imm.toNat)] →
      ∃ y, RunsTo (.adda e k imm) s e y ∧ holds y 0 (x.ar[k] + imm)
        ∧ flags (x.ar[k] + imm) (decide (262144 ≤ x.ar[k].toNat + imm.toNat))
            (decide (x.ar[k].toInt + imm.toInt < -131072 ∨ 131071 < x.ar[k].toInt + imm.toInt)) y.flg
        ∧ y.bexp = x.bexp ∧ OnlyA x y ∧ Advanced x y 1)
    ∧ (Fetches s e [(26, 6, 0x0A), (21, 3, k.val), (18, 3, 0), (0, 18, imm.toNat)] →
      ∃ y, RunsTo (.cmpa e k imm) s e y ∧ holds y 0 x.ar[k]
        ∧ flags (x.ar[k] - imm) (decide (x.ar[k].toNat < imm.toNat))
            (decide (x.ar[k].toInt - imm.toInt < -131072 ∨ 131071 < x.ar[k].toInt - imm.toInt)) y.flg
        ∧ y.bexp = x.bexp ∧ OnlyA x y ∧ Advanced x y 1)
    ∧ (Fetches s e [(26, 6, 0x0B), (24, 2, sel.val), (21, 3, k.val), (19, 2, src.val), (16, 3, j.val), (0, 16, 0)] →
      ∃ y, RunsTo (.mova e sel k src j) s e y ∧ holds y sel (getSel x src j) ∧ y.flg = x.flg ∧ y.bexp = x.bexp
        ∧ OnlyA x y ∧ Advanced x y 1)
    ∧ (∀ w : Fin 3, Fetches s e [(26, 6, 0x0C), (21, 3, k.val), (18, 3, 0), (0, 2, w.val)] →
      ∃ y, RunsTo (.gets e k w) s e y
        ∧ holds y 0 (BitVec.ofNat 18 (if w = 0 then x.flg.toNat else if w = 1 then x.bexp.toNat else 0))
        ∧ y.flg = x.flg ∧ y.bexp = x.bexp ∧ OnlyA x y ∧ Advanced x y 1)
    ∧ (∀ w : Fin 2, Fetches s e [(26, 6, 0x0D), (21, 3, k.val), (18, 3, 0), (0, 2, w.val)] →
      ∃ y, RunsTo (.puts e w k) s e y ∧ holds y 0 x.ar[k] ∧ OnlyA x y ∧ Advanced x y 1
        ∧ (w = 0 → y.flg.toNat = x.ar[k].toNat % 256 ∧ y.bexp = x.bexp)
        ∧ (w = 1 → y.bexp.toNat = min x.ar[k].toNat 24 ∧ y.flg = x.flg))
    ∧ (Fetches s e [(26, 6, 0x0E), (21, 3, k.val), (16, 5, a.val), (0, 3, l.val)] →
      ∃ y, RunsTo (.mvla e k a l) s e y ∧ holds y 0 (BitVec.ofInt 18 (lane x a l)) ∧ y.flg = x.flg ∧ y.bexp = x.bexp
        ∧ OnlyA x y ∧ Advanced x y 1)
    ∧ (Fetches s e [(26, 6, 0x0F), (21, 3, k.val), (16, 5, a.val), (0, 3, l.val)] →
      ∃ y, RunsTo (.mval e a l k) s e y ∧ (y.v[a][l]).toNat = x.ar[k].toNat % 65536
        ∧ (∀ i : Lane, i ≠ l → y.v[a][i] = x.v[a][i]) ∧ y.flg = x.flg ∧ OnlyV x y a ∧ Advanced x y 1)

/-- R199, R226, R228: NOP, CLRF, BR on each condition, BNZD, CALL and RET: where the PC goes, inside program memory or beyond
it, what is written, the cycles. REP sets RC to n, and VLDQ with post-modification, which may follow it, then runs RC times,
each time on what the time before left; n stands for the low 16 bits plus 1. -/
def Obligations.CloveControlFlowAndRepeat : Prop :=
  ∀ (s : State) (e : EngineId) (k : AReg) (off : BitVec 22) (cond : Fin 12) (d : VReg) (reps : BitVec 16),
    let x := s.engine e
    let z := x.flg.getLsbD 0
    let n := x.flg.getLsbD 1
    let c := x.flg.getLsbD 2
    let v := x.flg.getLsbD 3
    let conds : Vector Bool 12 :=
      #v[true, z, !z, n != v, n == v, c, !c, x.flg.getLsbD 7, !x.flg.getLsbD 7, x.flg.getLsbD 6, x.flg.getLsbD 4,
         x.flg.getLsbD 5]
    let next : Int := (x.pc.toNat : Int) + 4
    let target : Int := next + 4 * off.toInt
    let goes (i : Instr) (dest : Int) (cycles : Nat) (ar : BitVec 18) (flg : BitVec 16) : Prop :=
      ∃ y, RunsTo i s e y ∧ y.pc = BitVec.ofInt 16 dest ∧ y.beyond = decide (dest < 0 ∨ 65536 ≤ dest) ∧ y.cycles = x.cycles + cycles ∧ y.rc = 0 ∧ y.ar[k] = ar
        ∧ (∀ r : AReg, r ≠ k → y.ar[r] = x.ar[r]) ∧ y.flg = flg ∧ y.of = x.of ∧ y.cs = x.cs ∧ y.cl = x.cl
        ∧ y.bexp = x.bexp ∧ OnlyA x y
    (x.rc ≠ 0 → Fetches s e (encM 0x13 d.val (.post k)) →
      ∃ y : Nat → EngineSt, y 0 = ahead x
        ∧ (∀ i : Nat, i < x.rc.toNat → opVldq (y i) d (.post k) = some (y (i + 1)))
        ∧ RunsTo (.vldq e d (.post k)) s e
            { y x.rc.toNat with pc := x.pc + 4, cycles := x.cycles + x.rc.toNat, rc := 0 })
    ∧ (x.rc = 0 →
    (Fetches s e [(26, 6, 0x02), (16, 10, 0), (0, 16, reps.toNat)] →
      exec (.rep e reps) s = .next (s.setEngine e (fun y =>
        { y with rc := BitVec.ofNat 17 (reps.toNat + 1), pc := y.pc + 4, beyond := decide (65536 ≤ y.pc.toNat + 4),
                 cycles := y.cycles + 1 })))
    ∧ (Fetches s e [(26, 6, 0x00), (0, 26, 0)] → goes (.nop e) next 1 x.ar[k] x.flg)
    ∧ (Fetches s e [(26, 6, 0x07)] → goes (.clrf e) next 1 x.ar[k] 0)
    ∧ (Fetches s e [(26, 6, 0x03), (22, 4, cond.val), (0, 22, off.toNat)] →
      goes (.br e cond off) (if conds[cond] then target else next) (if conds[cond] then 3 else 1) x.ar[k] x.flg)
    ∧ (Fetches s e [(26, 6, 0x04), (23, 3, k.val), (22, 1, 0), (0, 22, off.toNat)] →
      let stays := x.ar[k] - 1 = 0
      goes (.bnzd e k off) (if stays then next else target) (if stays then 1 else 3) (x.ar[k] - 1) x.flg)
    ∧ (Fetches s e [(26, 6, 0x05), (23, 3, k.val), (22, 1, 0), (0, 22, off.toNat)] →
      goes (.call e k off) target 3 (BitVec.ofNat 18 (x.pc + 4).toNat) x.flg)
    ∧ (Fetches s e [(26, 6, 0x06), (23, 3, k.val), (0, 23, 0)] →
      goes (.ret e k) (x.ar[k].toNat / 4 % 16384 * 4 : Nat) 3 x.ar[k] x.flg))

/-- R234, R227: a step of the four searches: the extremum and its index over the elements in lane order, the index of the
next element, and FOUND. -/
def Obligations.CloveSearches : Prop :=
  ∀ (s : State) (e : EngineId) (d a : VReg) (ea : Ea), (s.engine e).rc = 0 →
    let x := s.engine e
    -- after the first n elements: extremum, index, whether it changed
    let scan (better : Int → Int → Bool) (el : Nat → BitVec 16) (n : Nat) : BitVec 16 × BitVec 16 × Bool :=
      (List.range n).foldl (fun st i =>
        if better (el i).toInt st.1.toInt then (el i, x.v[d][2] + BitVec.ofNat 16 i, true) else st)
        (x.v[d][0], x.v[d][1], false)
    let found (better : Int → Int → Bool) (el : Nat → BitVec 16) (ar : Vector (BitVec 18) 8) (y : EngineSt) : Prop :=
      y.v[d][0] = (scan better el 8).1 ∧ y.v[d][1] = (scan better el 8).2.1 ∧ y.v[d][2] = x.v[d][2] + 8
        ∧ (∀ i : Lane, 3 ≤ i.val → y.v[d][i] = x.v[d][i]) ∧ (∀ r : VReg, r ≠ d → y.v[r] = x.v[r])
        ∧ y.flg = (if (scan better el 8).2.2 then x.flg ||| 0x40 else x.flg &&& 0xFFBF) ∧ y.ar = ar ∧ y.of = x.of
        ∧ y.cs = x.cs ∧ y.cl = x.cl ∧ y.acc = x.acc ∧ y.bexp = x.bexp ∧ SameMems x y ∧ SamePlace x y ∧ Advanced x y 2
    let above (u v : Int) : Bool := decide (v < u)
    let below (u v : Int) : Bool := decide (u < v)
    let mem (i : Nat) : BitVec 16 := delem x (ea.part x 2 i)
    let reg (i : Nat) : BitVec 16 := x.v[a].toList.getD i 0
    (Fetches s e (encM 0x30 d.val ea) → (∀ i : Nat, i < 8 → ea.part x 2 i % 2 = 0) →
      ∃ y, RunsTo (.maxx e d ea) s e y ∧ found above mem (ea.mod x).ar y)
    ∧ (Fetches s e (encM 0x31 d.val ea) → (∀ i : Nat, i < 8 → ea.part x 2 i % 2 = 0) →
      ∃ y, RunsTo (.minx e d ea) s e y ∧ found below mem (ea.mod x).ar y)
    ∧ (Fetches s e [(26, 6, 0x32), (21, 5, d.val), (16, 5, a.val)] →
      ∃ y, RunsTo (.maxxv e d a) s e y ∧ found above reg x.ar y)
    ∧ (Fetches s e [(26, 6, 0x33), (21, 5, d.val), (16, 5, a.val)] →
      ∃ y, RunsTo (.minxv e d a) s e y ∧ found below reg x.ar y)

/-- R235, R221: VBFLY on four complex lanes; where Va and Vb are one register the results of Vb are kept. -/
def Obligations.CloveButterfly : Prop :=
  ∀ (s : State) (e : EngineId) (a b : VReg) (k : AReg), (s.engine e).rc = 0 →
    Fetches s e [(26, 6, 0x2F), (21, 5, a.val), (18, 3, k.val), (17, 1, 1), (12, 5, b.val), (0, 12, 0)] →
    (∀ i : Nat, i < 8 → (Ea.post k).part (s.engine e) 2 i % 2 = 0) →
    let x := s.engine e
    let w (i : Nat) : Int := (delem x ((Ea.post k).part x 2 i)).toInt
    let at_ (r : VReg) (i : Nat) : Int := (x.v[r].toList.getD i 0).toInt
    let tr (m : Nat) : Int := rnd (at_ b (2 * m) * w (2 * m) - at_ b (2 * m + 1) * w (2 * m + 1)) 15
    let ti (m : Nat) : Int := rnd (at_ b (2 * m) * w (2 * m + 1) + at_ b (2 * m + 1) * w (2 * m)) 15
    let dif (i : Nat) (t : Int) : Int := (at_ a i - sat16 t + 1) / 2
    let exceeds (v : Int) : Prop := sat16 v ≠ v
    ∃ y, RunsTo (.vbfly e a b k) s e y
      ∧ (∀ m : Fin 4,
          (y.v[b].toList.getD (2 * m.val) 0).toInt = sat16 (dif (2 * m.val) (tr m.val))
          ∧ (y.v[b].toList.getD (2 * m.val + 1) 0).toInt = sat16 (dif (2 * m.val + 1) (ti m.val))
          ∧ (a ≠ b →
              (y.v[a].toList.getD (2 * m.val) 0).toInt = (at_ a (2 * m.val) + sat16 (tr m.val) + 1) / 2
              ∧ (y.v[a].toList.getD (2 * m.val + 1) 0).toInt = (at_ a (2 * m.val + 1) + sat16 (ti m.val) + 1) / 2))
      ∧ (∃ sat : Bool, (sat = true ↔ ∃ m : Fin 4, exceeds (tr m.val) ∨ exceeds (ti m.val) ∨ exceeds (dif (2 * m.val) (tr m.val))
            ∨ exceeds (dif (2 * m.val + 1) (ti m.val))) ∧ y.flg = stuckFlag x.flg 4 (sat = true))
      ∧ (∀ r : VReg, r ≠ a → r ≠ b → y.v[r] = x.v[r]) ∧ y.ar = (postMod x k).ar ∧ y.of = x.of ∧ y.cs = x.cs ∧ y.cl = x.cl
      ∧ y.acc = x.acc ∧ y.bexp = x.bexp ∧ SameMems x y ∧ SamePlace x y ∧ Advanced x y 2

/-- R197, R213, R223: what raises an engine fault: an undefined opcode or a PC at or beyond the end of the code, an odd
address, an instruction that may not follow REP, a memory form without post-modification after REP (the words that may not
follow REP are those of `notAfterRep`). R198, R206, R209: DONE before the cut-off commits the block's state and results
together and leaves the engine idle; a result of more than 16,384 bytes is an engine fault; after the cut-off the results are
discarded. -/
def Obligations.CloveFaultsAndDone : Prop :=
  (∀ (s : State) (e : EngineId) (d a b : VReg) (ea : Ea) (k : AReg) (dis : BitVec 17),
    let x := s.engine e
    (s.engineRuns e = true → (x.beyond = true ∨ x.codeEnd ≤ x.pc.toNat ∨ undefinedWord (fetchWord x) = true
        ∨ (x.rc ≠ 0 ∧ notAfterRep (fetchWord x) = true)) →
      exec (.undefinedOpcode e) s = .next (s.engineFault e faultR197))
    ∧ (Fetches s e (encM 0x10 d.val ea) → x.rc = 0 → (∃ i : Nat, i < 8 ∧ ea.part x 2 i % 2 = 1) →
      exec (.vld e d ea) s = .next (s.engineFault e faultR197))
    ∧ (Fetches s e (encM 0x12 d.val ea) → x.rc = 0 → ea.addr x % 2 = 1 →
      exec (.vldb e d ea) s = .next (s.engineFault e faultR197))
    ∧ (Fetches s e (encV 0x18 d.val a.val b.val) → x.rc ≠ 0 → exec (.vadd e d a b) s = .next (s.engineFault e faultR197))
    ∧ (Fetches s e (encM 0x10 d.val (.disp k dis)) → x.rc ≠ 0 →
      exec (.vld e d (.disp k dis)) s = .next (s.engineFault e faultR197)))
  ∧ (∀ (s : State) (e : EngineId) (p : Port) (j m : Nat) (b : Block),
    Fetches s e [(26, 6, 0x01), (0, 26, 0)] → (s.engine e).rc = 0 → (s.engine e).mode = .running p j m →
    s.takenBy e p j m = some b →
    let u := s.setEngine e (fun y => { y with cycles := y.cycles + 1, pc := y.pc + 4 })
    let len : Int := ((s.engine e).ar[2].toNat : Int) - 0x14000
    (0 ≤ len → len ≤ 16384 → b.tCutoff ≤ s.tb →
      exec (.done e) s = .next ((u.count Ctr.cloveStats_discarded p.val 1).engineIdles e .idle))
    ∧ ((len < 0 ∨ 16384 < len) → exec (.done e) s = .next (u.engineFault e faultLength))
    ∧ (0 ≤ len → len ≤ 16384 → s.tb < b.tCutoff →
      ∃ t, exec (.done e) s = .next t ∧ (t.engine e).mode = .idle
        ∧ (t.port p).queue.state = listSet (s.port p).queue.state j
            (some m, match Tab.find? s.programsNow (s.fld Fld.clovePort_program p.val) with
              | some prog => memReadAll blankByte (s.engine e).dmem 0x10000 prog.stateBytes
              | none => [])
        ∧ { b with mode := .committed (memReadAll blankByte (s.engine e).dmem 0x14000 len.toNat) }
            ∈ (t.port p).queue.released ++ (t.port p).queue.blocks))

/-! ## Ports -/

/-- R58 to R60, R72, R74: PRES_N that has held low for PRES_DEGLITCH makes a head present and a read due in 100 ms; a loss that
has held for ILK_DEGLITCH is counted, takes the record and shuts the port; the interlock opens or closes after ILK_DEGLITCH. -/
def Obligations.HeadPresenceEvents : Prop :=
  ∀ (dt : Nat) (p : Port) (s : State), s.runs = true →
    let u := s.elapse dt
    let h := (s.port p).head
    let ilkNs := s.fld Fld.headCfg_ilkDeglitch p.val * 100
    (h.present = false → s.bankOk p = true → s.serialOnly p = false →
      h.presAt + s.fld Fld.headCfg_presDeglitch p.val * 1000000 ≤ s.clk + dt →
      ∃ t, exec (.presAcceptLow dt p) s = .next t ∧ (t.port p).head.present = true ∧ (t.port p).head.idState = .reading
        ∧ (t.port p).head.record = [] ∧ (t.port p).head.read = some (newRead (s.clk + dt + 100 * msNs) none)
        ∧ (∀ r : Port, r ≠ p → t.port r = s.port r))
    ∧ (h.present = true → h.presAt + ilkNs ≤ s.clk + dt →
      exec (.presLoss dt p) s =
        .next (((u.loseHead p).count Ctr.headStats_presLoss p.val 1).portFault p causeInterlock))
    ∧ (h.present = true → s.power.retain = none →
      ((u.loseHead p).port p).head.present = false ∧ ((u.loseHead p).port p).head.idState = .absent
        ∧ ((u.loseHead p).port p).head.record = [] ∧ ((u.loseHead p).port p).head.read = none)
    ∧ (h.ilkClosed = false → s.bankOk p = true → h.ilkAt + ilkNs ≤ s.clk + dt →
      exec (.ilkChange dt p true) s =
        .next (u.setHead p (fun h => { h with ilkClosed := true, ilkAt := s.clk + dt })))
    ∧ (h.ilkClosed = true → s.bankOk p = true → h.ilkAt + ilkNs ≤ s.clk + dt →
      exec (.ilkChange dt p false) s =
        .next (((u.setHead p (fun h => { h with ilkClosed := false, ilkAt := s.clk + dt })).count Ctr.headStats_ilkOpen p.val
          1).portFault p causeInterlock))

/-- R61 to R63: the read of an identity record begins when it is due; 64 bytes that come within 25 ms of START move it on; a
transaction that is not acknowledged, finds the bus held or is not over after 25 ms is retried, and its fourth attempt ends the
read in BUS_FAULT; after the eighth transaction the record is judged. -/
def Obligations.HeadIdentityRead : Prop :=
  ∀ (dt : Nat) (p : Port) (k : Fin 10) (s : State) (x : IdRead) (bytes : List Byte), s.runs = true →
    (s.port p).head.read = some x → (s.port p).head.lost = none →
    let u := s.elapse dt
    let onBus (r : IdResult) : State := u.setHead p (fun h => { h with bus := busAttempt (busTransaction x.transaction) k.val r })
    let inTime : Prop := s.clk + dt ≤ s.idStart p x k.val + 25000000
    let runs : Prop := x.begun = true ∧ x.abandonTimeout = false
    (x.begun = false → x.dueAt ≤ s.clk + dt →
      exec (.idReadStart dt p) s =
        .next (u.setHead p (fun h => { h with read := some { x with begun := true, attemptAt := s.clk + dt } })))
    ∧ (runs → inTime → x.transaction < 7 → bytes.length = 64 →
      exec (.idTransactionEnd dt p ⟨k, .data bytes⟩) s =
        .next ((onBus (.data bytes)).setHead p (fun h =>
          { h with read := some { x with transaction := x.transaction + 1, attempt := 0, attemptAt := s.clk + dt,
                                         bytes := x.bytes ++ bytes } })))
    ∧ (runs → inTime → x.transaction = 7 → bytes.length = 64 →
      exec (.idTransactionEnd dt p ⟨k, .data bytes⟩) s =
        .next ((onBus (.data bytes)).readDone p (x.bytes ++ bytes) x.rescan))
    ∧ (runs → x.attempt < 3 →
      let again (r : IdResult) : State :=
        ((onBus r).setHead p (fun h => { h with read := some { x with attempt := x.attempt + 1, attemptAt := s.clk + dt } })).count
          Ctr.headStats_idRetry p.val 1
      exec (.idTransactionEnd dt p ⟨k, .nack⟩) s = .next (again .nack)
        ∧ exec (.idTransactionEnd dt p ⟨k, .busHeld⟩) s = .next (again .busHeld))
    ∧ (runs → x.attempt = 3 →
      (inTime → exec (.idTransactionEnd dt p ⟨k, .nack⟩) s = .next ((onBus .nack).readFaults p 1 x.rescan))
      ∧ exec (.idTransactionEnd dt p ⟨k, .busHeld⟩) s = .next ((onBus .busHeld).readFaults p 9 x.rescan))
    ∧ (runs → s.idStart p x k.val + 25000000 ≤ s.clk + dt →
      let v := u.setHead p (fun h => { h with bus := busTimedOut k.val })
      (x.attempt < 3 →
        exec (.idTransactionTimeout dt ⟨p, k⟩) s =
          .next ((v.setHead p (fun h => { h with read := some { x with attempt := x.attempt + 1, attemptAt := s.clk + dt } })).count
            Ctr.headStats_idRetry p.val 1))
      ∧ (x.attempt = 3 → exec (.idTransactionTimeout dt ⟨p, k⟩) s = .next (v.readFaults p 8 x.rescan)))

/-- R79 to R82: the case temperature of a port: its update, at least 10 ms after the one before, and the three timeouts that
shut the port. -/
def Obligations.CaseTemperatureEvents : Prop :=
  ∀ (dt : Nat) (p : Port) (s : State), s.runs = true →
    let u := s.elapse dt
    let v := u.setDrive p (fun d => { d with caseUpdAt := some (s.clk + dt) })
    ((∀ t, (s.port p).drive.caseUpdAt = some t → s.clk + dt < t + 10000000 → exec (.caseTempUpdate dt p) s = .next u)
    ∧ ((∀ t, (s.port p).drive.caseUpdAt = some t → t + 10000000 ≤ s.clk + dt) →
      (u.caseReading p = none →
        exec (.caseTempUpdate dt p) s = .next (v.setDrive p (fun d => { d with goodSince := none })))
      ∧ (∀ x, u.caseReading p = some x → inRange x = false →
        exec (.caseTempUpdate dt p) s =
          .next (v.setDrive p (fun d =>
            { d with caseAt := s.clk + dt, goodSince := none, hotSince := none, rangeSince := some (d.rangeSince.getD (s.clk + dt)) })))
      ∧ (∀ x, u.caseReading p = some x → inRange x = true →
        ∃ t, exec (.caseTempUpdate dt p) s = .next t ∧ (t.port p).drive.caseTemp = some x
          ∧ (t.port p).drive.caseAt = s.clk + dt ∧ (t.port p).drive.rangeSince = none
          ∧ (t.port p).drive.derate = stepFactor (s.port p).drive.derate (derateAt (u.knee p) x))))
    ∧ (10000000000 < s.clk + dt - (s.port p).drive.caseAt →
      exec (.caseStaleTimeout dt p) s = .next (u.portFault p causeCaseSensor))
    ∧ (∀ since, (s.port p).drive.rangeSince = some since → since + 100000000 ≤ s.clk + dt →
      exec (.caseRangeTimeout dt p) s = .next (u.portFault p causeCaseSensor))
    ∧ (u.caseHot p = true → exec (.overtempTimeout dt p) s = .next (u.portFault p causeOvertemp))

/-- R77, R78, R87 to R94, R96: the drive update of all emitters; what the readings of emitters under check show; a proof falls
due, and runs from 1.000 µs into a window that has not pumped; the energy of a PUMP pulse 1.0 µs after its end. -/
def Obligations.EmitterSupervision : Prop :=
  ∀ (dt : Nat) (p : Port) (s : State) (rs : List FaultReading) (x : EmitterReading) (mv width at_ : Nat) (w : Window) (due : Nat)
    (r : List Byte), s.runs = true →
    let u := s.elapse dt
    exec (.driveUpdate dt) s = .next (forPorts allPorts State.portUpdate u).firstRuns
    ∧ exec (.emitterFaultAccept dt rs) s =
        .next (u.acceptFaults ((rs.filter (fun y => u.underCheck y.port y.emitter)).map (fun y =>
          ⟨y.port, u.withProof y.port y.emitter (u.emitterCauses y.port y.emitter y.reading), some y.emitter⟩)))
    ∧ ((s.port p).drive.proofDue = some due → due ≤ s.clk + dt → s.proofActive p = true →
      portLaunches (s.port p).seq = true →
      exec (.proofDue dt p) s = .next (u.setDrive p (fun d => { d with proofWaits := true })))
    ∧ ((s.port p).seq.window = some w → w.proofRan = false → w.pumped = false → (s.port p).drive.proofWaits = true →
      (s.port p).drive.proofDue = some due → due + (u.tb - w.opened) ≤ s.clk + dt → portLaunches (s.port p).seq = true →
      s.proofActive p = true → w.opened + 1000 ≤ u.tb → u.tb ≤ w.opened + 1200 →
      let start := w.opened + 1000
      let v := (((u.setSeq p (fun q => { q with window := some { w with proofRan := true } })).setDrive p (fun d =>
        { d with proofWaits := false, proofDue := some (s.clk + dt - (u.tb - start) + u.proofInterval p) })).setEmitter p .gate
        (fun y => { y with pulse := some (start, start + 200) })).count Ctr.safetyStats_proofRun p.val 1
      let found := if w.opened + 1040 ≤ u.tb then u.emitterCauses p .gate x else 0
      (found = 0 → exec (.proofPulse dt p x) s = .next v)
      ∧ (found ≠ 0 →
        exec (.proofPulse dt p x) s = .next (v.acceptFaults [⟨p, found ||| causeBit causeProofFail, some .gate⟩])))
    ∧ ((s.port p).head.idState = .accepted → (s.port p).head.record = r →
      (s.port p).drive.nrgDue = some (at_, width) → at_ ≤ u.tb → u.tb ≤ at_ + 1000 →
      let level := (u.emitter p .pump).ramped * (s.port p).drive.derate
      let num := u16At r (emitterBlock .pump + 0x0C) * level * width
      let v := u.setDrive p (fun d => { d with nrgDue := none })
      (65535 * 32768 ≤ 10 * level → 5 * num < 4 * mv * (32768 * 65535 * 100) →
        exec (.pumpNrgSample dt p mv) s = .next (v.acceptFaults [⟨p, causeBit causeOver, some .pump⟩]))
      ∧ (65535 * 32768 ≤ 10 * level → 2 * mv * (32768 * 65535 * 100) < num →
        exec (.pumpNrgSample dt p mv) s = .next (v.acceptFaults [⟨p, causeBit causeNrgLow, some .pump⟩]))
      ∧ (10 * level < 65535 * 32768 → exec (.pumpNrgSample dt p mv) s = .next v))

/-- R88, R89, R97: a cause accepted on a port that takes causes shuts it at once: its emitters have code 0 and no ramp, the
latch stands with the first cause and the mask, and the port is SHUT. -/
def Obligations.PortFaultShutsThePort : Prop :=
  ∀ (s : State) (p : Port) (cause : Nat), 1 ≤ cause → cause ≤ 10 → s.accepts p = true → (s.port p).seq.mode ≠ .shut →
    s.flag Fld.safety_scope 0 = false →
    let t := s.portFault p cause
    (t.port p).seq.mode = .shut ∧ (t.port p).drive.latched = true ∧ (t.port p).drive.firstCause = cause
      ∧ (t.port p).drive.causeMask = causeBit cause
      ∧ (∀ e : Emitter, (t.emitter p e).ramp = none ∧ (t.emitter p e).ramped = 0 ∧ (t.emitter p e).code = 0
          ∧ (t.emitter p e).timing = false ∧ (t.emitter p e).pulse = none)
      ∧ (∀ r : Port, r ≠ p → (t.port r).drive = (s.port r).drive ∧ (t.port r).seq.mode = (s.port r).seq.mode)

/-- R106 to R123: a grid enters its next cycle; a slot launches at its scheduled time on the grid, with GATE's timing pair high
for PULSE_WIDTH from then, and its frame in flight; a host request is decided at its due time, deferred or not. -/
def Obligations.LaunchEvents : Prop :=
  ∀ (dt : Nat) (p : Port) (k : Fin 4) (g : Fin 12) (s : State) (e : Nat) (r : LaunchReq) (ps : List Port), s.runs = true →
    let u := s.elapse dt
    let v := if h : 8 ≤ g.val then u.groupEpoch ⟨g.val - 8, by omega⟩ else u
    (v.gridPorts g = p :: ps → v.grids[g].epoch = some e → 0 < v.frame p → v.grids[g].launched = true →
      e + (v.grids[g].cycle + 1) * (10 * v.frame p) ≤ v.tb →
      exec (.cycleBoundary dt g) s = .next (v.enterCycle g p (v.grids[g].cycle + 1) 0 false).firstRuns)
    ∧ (onGrid (s.port p).seq = true → (u.grid p).launched = true → (u.slotMask p).testBit k.val = true →
      u.windowCycle p (u.grid p).cycle = false → u.scheduled p k ≤ u.tb →
      (s.port p).seq.busyUntil[k] ≤ u.scheduled p k →
      let t0 := u.scheduled p k
      let width := s.fld Fld.seqPort_pulseWidth p.val
      ∃ t, exec (.gridLaunch dt p k) s = .next t ∧ (t.port p).seq.lastLaunch = t0
        ∧ (t.port p).seq.window = none ∧ (t.port p).seq.started = true
        ∧ (t.emitter p .gate).pulse = some (t0, t0 + width)
        ∧ (∃ f, (t.port p).seq.frames.getLast? = some f ∧ f.start = t0 ∧ f.slot = k ∧ f.pulse = width
            ∧ f.blanks = [(0, blankBins width)] ∧ f.ifKhz = s.fld (ifFld k) p.val)
        ∧ (∀ q : Port, q ≠ p → t.port q = s.port q))
    ∧ (u.dueRequest p false = some r → exec (.hostLaunchRequest dt p) s = .next (u.arbitrate p r))
    ∧ (u.dueRequest p true = some r → exec (.launchDeferredRetry dt p) s = .next (u.arbitrate p r))
    ∧ ((s.port p).seq.mode = .running → (u.slotMask p).testBit r.slot.val = true →
      u.arbitrate p r =
        ((u.setSeq p (fun x => { x with requests := x.requests.filter (fun y => y.req.tag ≠ r.req.tag) })).count
          Ctr.portStats_launchRefused p.val 1).complete r.req .slotBusy)

/-- R115 to R121, R148, R164: windows of the grid, also right after a window cycle, and of SINGLE mode; the PUMP launch 2 µs
after a Raman window opens, with PUMP's timing pair high for PUMP_WIDTH, its energy sample 1.0 µs after its end and its
recording; and the falling ramps after the last frame in flight. -/
def Obligations.WindowEvents : Prop :=
  ∀ (dt : Nat) (p : Port) (s : State) (w : Window), s.runs = true →
    let u := s.elapse dt
    (onGrid (s.port p).seq = true → (u.grid p).launched = true → u.windowCycle p (u.grid p).cycle = true →
      (∀ x, (s.port p).seq.window = some x → x.opened ≠ u.windowStart p) → u.windowStart p ≤ u.tb → u.tb < u.windowClose p →
      exec (.windowOpen dt p) s =
        .next (((u.setSeq p (fun x =>
          { x with window := some ⟨u.ramanCycle p (u.grid p).cycle, u.windowStart p, u.windowClose p, false, false⟩,
                   windowUntil := u.windowClose p })).countIf Ctr.portStats_checkWindows p.val
            (!u.ramanCycle p (u.grid p).cycle)).pairBegin p (u.windowStart p)))
    ∧ ((s.port p).seq.window = some w → w.raman = true → w.pumped = false → w.opened + 2000 ≤ u.tb → u.tb < w.closes →
      let t0 := w.opened + 2000
      let width := s.fld Fld.seqPort_pumpWidth p.val
      ∃ t, exec (.pumpLaunch dt p) s = .next t ∧ (t.port p).seq.window = some { w with pumped := true }
        ∧ (t.port p).seq.lastLaunch = t0 ∧ (t.emitter p .pump).pulse = some (t0, t0 + width)
        ∧ (t.port p).drive.nrgDue = some (t0 + width + 1000, width)
        ∧ (t.raman p).recording.map (·.pumpAt) = some t0 ∧ (∀ q : Port, q ≠ p → t.port q = s.port q))
    ∧ ((s.port p).seq.mode = .single → (s.port p).seq.frames = [] → (s.port p).seq.windowUntil / secNs < u.tb / secNs →
      let o := u.tb / secNs * secNs
      exec (.singleCheckWindow dt p) s =
        .next (((u.setSeq p (fun x => { x with window := some ⟨false, o, o + 3000, false, false⟩, windowUntil := o + 3000 })).count
          Ctr.portStats_checkWindows p.val 1).pairBegin p o))
    ∧ ((s.port p).seq.draining = true → (∀ f ∈ (s.port p).seq.frames, f.stop ≤ u.tb) →
      exec (.stopFramesDrained dt p) s = .next (u.fall p))

/-! ## Receivers, gauges, Raman, housekeeping -/

/-- R131, R132, R148 to R150: range control at a boundary, noted with its boundary; an overload, with the time for which OVLD
is raised; and a pair check that has all 2,048 codes of each input in an open window: its offsets and amplitudes, and three
failures in a row at one range, which raise the pair fault. -/
def Obligations.ReceiverEvents : Prop :=
  ∀ (dt held w : Nat) (p : Port) (i : Fin 2) (s : State) (win : Window) (xs ys : List Code), s.runs = true →
    let u := s.elapse dt
    let r : Fin 4 := ⟨(s.port p).rx.runRange % 4, Nat.mod_lt _ (by decide)⟩
    let refOf (ampl : Nat) : Nat := if (s.port p).rx.corr.isNone then ampl * (s.calPort p).pilot / 1000 else ampl
    let cx := xs.map (fun c => c.toInt)
    let cy := ys.map (fun c => c.toInt)
    let raised := (u.count Ctr.rxStats_ovld p.val 1).setRx p (fun x =>
      { x with ovldSeen := true, ovld := (i, u.tb, u.tb + held) :: x.ovld.filter (fun o => u.tb < o.2.2 + rxKeepNs) })
    let complete : Prop := (s.port p).rx.checking = some w ∧ xs.length = 2048 ∧ ys.length = 2048 ∧ w + 2400 ≤ u.tb
      ∧ (s.port p).seq.window = some win ∧ u.tb < win.closes
    (∀ n, u.rangeRequest p (u.rxBoundary p) = some n → n ≠ (s.port p).rx.range →
      exec (.rangeSwitch dt p) s =
        .next ((u.setRx p (fun x =>
          { x with range := n, switches := addSwitch (u.rxBoundary p) x.range n x.switches })).count Ctr.rxStats_rangeSwitches
            p.val 1))
    ∧ (s.clocked = true → s.flag Fld.rxCfg_ovldEvent p.val = false → exec (.ovldOnset dt p ⟨i, held⟩) s = .next raised)
    ∧ (s.clocked = true → s.flag Fld.rxCfg_ovldEvent p.val = true → (s.port p).rx.lastOvld = none →
      exec (.ovldOnset dt p ⟨i, held⟩) s =
        .next ((raised.setRx p (fun x => { x with lastOvld := some (s.clk + dt) })).event evRxOverload p.val (inputCode i) []))
    ∧ (complete → pairFails cx cy (refOf (s.port p).rx.refX[r]) (refOf (s.port p).rx.refY[r]) = [] → (s.port p).rx.passes + 1 < 8 →
      ∃ t, exec (.pairCheckEnd dt p xs ys) s = .next t ∧ (t.port p).rx.checking = none ∧ (t.port p).rx.checkRange = r.val
        ∧ (t.port p).rx.offsetX = offsetOf cx ∧ (t.port p).rx.offsetY = offsetOf cy ∧ (t.port p).rx.amplX = amplOf cx
        ∧ (t.port p).rx.amplY = amplOf cy ∧ (t.port p).rx.pairFault = (s.port p).rx.pairFault
        ∧ (t.port p).rx.passes = (s.port p).rx.passes + 1)
    ∧ (∀ kind input rest, complete →
      pairFails cx cy (refOf (s.port p).rx.refX[r]) (refOf (s.port p).rx.refY[r]) = (kind, input) :: rest →
      (s.port p).rx.fails[r] = 2 → (s.port p).rx.pairFault = false →
      ∃ t, exec (.pairCheckEnd dt p xs ys) s = .next t ∧ (t.port p).rx.pairFault = true
        ∧ (t.port p).rx.faultKind = kind ∧ (t.port p).rx.faultInput = input ∧ (t.port p).rx.faultRange = r.val)

/-- R137, R141, R145: an output word is the scaled value saturated to 16 bits, with SAT where it was; the word of a code is the
code left-justified without a tag, or sign-extended with ALIGN; AUTO chooses the response by PULSE_WIDTH. -/
def Obligations.ReceiveWords : Prop :=
  ∀ (s : State) (p : Port) (t r width : Nat) (c : Code) (sum gain v : Int),
    (0 < gain → 4 * 2 ^ r * sum = v * (8 * fxOne * gain) →
      (outWord r sum gain).1.toInt = max (-32768) (min 32767 v)
        ∧ ((outWord r sum gain).2 = true ↔ v < -32768 ∨ 32767 < v))
    ∧ (s.flag Fld.rxCfg_align p.val = true → (s.rawWord p t c).toInt = c.toInt)
    ∧ (s.flag Fld.rxCfg_align p.val = false → s.fld Fld.rxCfg_rawTag p.val = 0 → (s.rawWord p t c).toInt = 4 * c.toInt)
    ∧ (s.flag Fld.rxCfg_align p.val = false → s.fld Fld.rxCfg_rawTag p.val = 1 →
      (s.rawWord p t c).toInt / 4 = c.toInt ∧ (s.rawWord p t c).getLsbD 1 = clipped c.toInt)
    ∧ (width ≤ 7 → filterResp 0 width = 0) ∧ (8 ≤ width → width ≤ 14 → filterResp 0 width = 1)
    ∧ (15 ≤ width → filterResp 0 width = 2) ∧ filterResp 1 width = 0 ∧ filterResp 2 width = 1 ∧ filterResp 3 width = 2

/-- R156 to R164, R201: a gauge sample is formed from the outputs of its gauge's bins in its frame once its codes are
complete; it joins the queue of the port's cluster with its position, and the gauge's memory is the former's. A
sample with a bin at or after the acceptance of the fault that shut its port while its frame was in flight carries GAP, also once
the fault has been cleared, and so do those of a window cycle's positions. -/
def Obligations.GaugeSampleIsFormed : Prop :=
  ∀ (dt : Nat) (p : Port) (x : GaugeIn) (s : State) (f : Frame) (g : GapPos), s.runs = true →
    let u := s.elapse dt
    let m0 := (Tab.find? (s.port p).gauge.mem x.gauge).getD freshGauge
    let m := if f.restart then { m0 with align := vmod m0.align f.slot (fun _ => none) } else m0
    let len := s.fld Fld.gaugeCfg_gaugeLen p.val
    let pitch := s.fld Fld.gaugeCfg_pitch p.val
    let ends := f.start + u.dRxNs p + 10 * ((x.gauge + 1) * pitch)
    let bins := (List.range ((x.gauge + 1) * pitch - (x.gauge * pitch - len))).map (fun i =>
      u.binOut p f x.tFirst x.xs x.ys (x.gauge * pitch - len + i))
    let joins (pos : Nat) (y : Formed) : Prop :=
      ∃ t, exec (.gaugeSample dt p x) s = .next t ∧ Tab.find? (t.port p).gauge.mem x.gauge = some y.mem
        ∧ (t.port p).queue.samples = (s.port p).queue.samples ++ [⟨x.gauge, pos, y.inc, y.quality⟩]
        ∧ (∀ r : Port, r ≠ p → t.port r = s.port r)
    (x.gauge < u.gauges p → (s.port p).queue.taking = true →
    (u.frameOf p x = some f → u.sampleReady p f x = true → (s.port p).queue.era = f.era →
      ((∀ t, f.cutAt = some t → ends ≤ t) →
        joins f.pos (formSample (gaugeView len pitch (len - x.gauge * pitch) bins) f.rank f.slot f.cycle f.shift
          (s.fld Fld.gaugeCfg_fadeLogamp p.val) (s.flag Fld.gaugeCfg_fadeHold p.val) (Config.arctanError s.free) m))
      ∧ (∀ t, f.cutAt = some t → t < ends → joins f.pos ⟨0, 0x80, true, m⟩))
    ∧ (u.frameOf p x = none → u.gapOf p x = some g → (s.port p).queue.era = g.era → joins g.pos ⟨0, 0x80, true, m0⟩))

/-- R174 to R181: a bias fault comes once the common mode of an input has lain outside its window for 10 µs, and goes once it has
lain inside for 100 ms; a recording that ends, with 64 baseline codes of each input, is accumulated, dropped where the bias was
faulty, or in a RAMAN step joins one of its two accumulations; a period that closes is converted when its last recording has
ended. -/
def Obligations.RamanEvents : Prop :=
  ∀ (dt : Nat) (p : Port) (b : BiasReading) (s : State) (baseS baseA codesS codesA : List Half) (x : RamanRec) (c : RamanConv)
    (t0 t1 : Nat) (swap : Bool), s.runs = true →
    let u := s.elapse dt
    let n := u.recLen p
    let faulty := if b.input = 0 then (s.raman p).biasStk else (s.raman p).biasAst
    let baseStk := baseS.map BitVec.toInt
    let baseAst := baseA.map BitVec.toInt
    let stk := (codesS.take n).map BitVec.toInt
    let ast := (codesA.take n).map BitVec.toInt
    let corrected (gain : Nat) (base codes : List Int) : List Int := correctCodes gain 64 (codeSum base) n 0 codes
    let complete : Prop := (s.raman p).recording = some x ∧ x.pumpAt + (u.ramanCoef p).dRam + 10 * n ≤ u.tb
      ∧ baseS.length = 64 ∧ baseA.length = 64 ∧ n ≤ codesS.length ∧ n ≤ codesA.length
    let clean : Prop := x.bias = false ∧ (s.raman p).biasStk = false ∧ (s.raman p).biasAst = false
    let ended := (u.setRaman p (fun y => { y with recording := none })).count Ctr.ramanStats_satSamples p.val
      ((baseStk ++ baseAst ++ stk ++ ast).filter codeSat).length
    (portEnabled (s.port p).seq = true → faulty = false → (b.common < 700000 ∨ 1100000 < b.common) → 10000 ≤ b.held →
      (s.raman p).biasAt[b.input] + 10000 ≤ s.clk + dt →
      exec (.biasFaultSet dt p b) s =
        .next ((u.setRaman p (fun y =>
          { y with biasStk := y.biasStk || b.input = 0, biasAst := y.biasAst || b.input = 1,
                   biasAt := vmod y.biasAt b.input (fun _ => s.clk + dt),
                   recording := y.recording.map (fun z => { z with bias := true }) })).event evRamanBias p.val b.input.val []))
    ∧ (portEnabled (s.port p).seq = true → faulty = true → 700000 ≤ b.common → b.common ≤ 1100000 → 100000000 ≤ b.held →
      (s.raman p).biasAt[b.input] + 100000000 ≤ s.clk + dt →
      exec (.biasFaultClear dt p b) s =
        .next ((u.setRaman p (fun y =>
          { y with biasAt := vmod y.biasAt b.input (fun _ => s.clk + dt), biasStk := y.biasStk && b.input ≠ 0,
                   biasAst := y.biasAst && b.input ≠ 1, biasEnd := some (s.clk + dt) })).event evRamanBiasClear p.val b.input.val
          []))
    ∧ (complete → (x.bias = true ∨ (s.raman p).biasStk = true ∨ (s.raman p).biasAst = true) →
      exec (.ramanRecordingEnd dt p baseS baseA codesS codesA) s =
        .next ((ended.accAt p x.pumpAt (fun a => { a with biasDrop := true })).count Ctr.ramanStats_dropped p.val 1))
    ∧ (complete → clean → x.cal = false →
      exec (.ramanRecordingEnd dt p baseS baseA codesS codesA) s =
        .next ((ended.accAt p x.pumpAt (fun a =>
              { a with windows := a.windows + 1,
                       stk := addBins a.stk (corrected (s.raman p).gainStk baseStk stk),
                       ast := addBins a.ast (corrected (s.raman p).gainAst baseAst ast),
                       sat := orBins a.sat ((List.range n).map
                         (fun k => codeSat (stk.getD k 0) || codeSat (ast.getD k 0))) })).count
          Ctr.ramanStats_windows p.val 1))
    ∧ (complete → clean → x.cal = true → x.swap = some swap → u.calOn .raman p = true →
      exec (.ramanRecordingEnd dt p baseS baseA codesS codesA) s =
        .next (((ended.accAt p x.pumpAt (fun a => a)).count Ctr.ramanStats_dropped p.val 1).calWindow p swap
          (corrected 32768 baseStk stk) (corrected 32768 baseAst ast)))
    ∧ (u.closing p = some (t0, t1) →
      ∃ t, exec (.ramanPeriodClose dt p) s = .next t ∧ (t.raman p).period = none ∧ (t.raman p).closedAt = t1)
    ∧ ((s.raman p).conv = some c → u.recPending p c.acc.stop = false →
      exec (.profileReady dt p) s = .next (u.convert p c))

/-- R393 to R402: HK-A's sequence at a 10 ms boundary, a job of HK-B at its period or after launches, the check of both at a
whole second, each once; a result delivered to its channel's word when its entry has dwelt; the eighth restart of a settle count
gives an entry up; the end of a reference's settling. R183 to R187, R394, R400, R401: a pulse on the RTD starts when it is due
and no other runs, with HK-B's gain and reference; when it ends its settled outputs are stored in HK.24 and HK.25 and judged,
unless HK-B carries FAULT, and HK-B starts what waited. -/
def Obligations.HousekeepingAndRtdPulses : Prop :=
  ∀ (dt : Nat) (s : State) (i : Fin 2) (e : HkEntry) (es : List HkEntry) (outs : List Int) (clip : Bool) (at_ : Nat)
    (due : List Nat) (p : Port) (t : Nat) (x : RtdPulse) (rds : List RtdOutput), s.runs = true →
    let u := (s.elapse dt).refHoldsEnd
    let b := s.elapse dt
    let now := s.clk + dt
    let y : RtdPulse :=
      ⟨t, s.fld Fld.rtdCfg_pulse p.val, b.rtdCurrent p (s.flag Fld.rtdCfg_current p.val), s.fld Fld.rtdCfg_delay p.val,
       (s.hk 1).calHold, b.hkGain 1, b.hkVref 1, (s.hk 1).refSettling, 0⟩
    (u.timeRuns = true → u.tb / 10000000 ≠ (u.hk 0).tickAt →
      exec (.hkaSequence dt) s = .next ((u.setHk 0 (fun x => { x with tickAt := u.tb / 10000000 })).hkTrigger 0))
    ∧ (u.timeRuns = true → u.flag Fld.hkCfg_en 1 = true → u.fld Fld.hkCfg_trig 1 = 0 → 1 ≤ u.fld Fld.hkCfg_periodMs 1 →
      u.tb / (u.fld Fld.hkCfg_periodMs 1 * 1000000) ≠ (u.hk 1).tickAt →
      exec (.hkbJobTrigger dt) s =
        .next ((u.setHk 1 (fun x => { x with tickAt := u.tb / (u.fld Fld.hkCfg_periodMs 1 * 1000000) })).hkTrigger 1))
    ∧ (u.timeRuns = true → u.flag Fld.hkCfg_en 1 = true → u.fld Fld.hkCfg_trig 1 ≠ 0 → (u.hk 1).due = at_ :: due → at_ ≤ u.clk →
      exec (.hkbJobTrigger dt) s = .next ((u.setHk 1 (fun x => { x with due := due })).hkTrigger 1))
    ∧ (u.timeRuns = true → u.tb / 1000000000 ≠ (u.hk 0).checkAt →
      exec (.hkCheckTrigger dt) s =
        .next ((((u.setHouse (fun h =>
          { h with checkStep := (h.checkStep + 1) % 3,
                   hk := h.hk.map (fun x => { x with lastCheck := none, checkAt := u.tb / 1000000000 }) })).checkTrigger
          0).checkTrigger 1).hkbStart (u.hk 1).checkDue true))
    ∧ ((u.hk i).work = e :: es → (u.hk i).calHold = false → e.check = false → outs.length = e.n → 1 ≤ e.n →
      (u.hk i).frontAt + dwellUs e.preset e.n * 1000 ≤ u.clk →
      let w := resultWord e.format (e.gain * outs.foldl (· + ·) 0) (32768 * e.n)
        (bitNat (u.hk i).overrunDue + 2 * bitNat e.late + 4 * bitNat e.settling + 8 * bitNat clip + 16 * bitNat (u.hk i).fault)
      exec (.hkEntryResult dt i (some (outs, clip))) s =
        .next (((((u.hkStore i e w).setHk i (fun y =>
              { y with overrunDue := false, neverSettled := y.neverSettled &&& ~~~(1#32 <<< e.channel) })).countIf Ctr.hkStats_late
            i.val e.late).countIf Ctr.hkStats_clipped i.val clip).hkAdvance i es))
    ∧ ((u.hk i).work = e :: es → e.channel < 32 → (u.hk i).restarts = 7 →
      u.clk < (u.hk i).frontAt + (settleUs e.preset + 2) * 1000 →
      ((u.refChanged i).hk i).neverSettled.getLsbD e.channel = true)
    ∧ ((s.hk i).refSettling = true → (s.hk i).settlingSince + 2000000 ≤ now →
      exec (.refSettlingEnd dt i) s = .next ((s.elapse dt).setHk i (fun x => { x with refSettling := false })))
    ∧ (b.rtdStart p = some t → t ≤ b.tb → (∀ q : Port, (s.raman q).pulse = none) → (s.raman p).lastPulse = none →
      exec (.rtdPulseStart dt p) s =
        .next (((b.setRaman p (fun z => { z with lastPulse := some t, pulse := some y })).setHk 1 (fun z =>
          { z with frontAt := if z.work = [] then z.frontAt else s.clk + dt + y.pulseMs * msNs })).count
            Ctr.ramanStats_rtdPulses p.val 1))
    ∧ (let v := u.setRaman p (fun r => { r with pulse := none })
       let settled := v.rtdSettled x rds
       let os := readingOf x settled
       let r0 := u32At (u.raman p).lastRecord 0x168
       let stored := match settled.getLast? with
         | some o => v.rtdStore x o
         | none => v
       (u.raman p).pulse = some x → x.start + x.pulseMs * msNs ≤ u.tb → x.held = false → u.house.hk[1].calHold = false →
        (os = [] ∨ (u.hk 1).fault = true →
          exec (.rtdPulseEnd dt p rds) s = .next ((stored.rtdBad p .unsettled).hkbStart true true))
        ∧ (os ≠ [] → (u.hk 1).fault = false → rtdJudge x os r0 = none →
          exec (.rtdPulseEnd dt p rds) s =
            .next ((stored.rtdGood p x.start (rtdTemp (50000 * sumVolts x os).toNat (x.current * r0 * os.length * rtdUnit.toNat)
              + 10 * u.sfld Fld.calTrim_rtdOffset p.val)).hkbStart true true))
        ∧ (∀ c, os ≠ [] → (u.hk 1).fault = false → rtdJudge x os r0 = some c →
          exec (.rtdPulseEnd dt p rds) s = .next ((stored.rtdBad p c).hkbStart true true)))

/-! ## Blocks, zones, snapshots, Sumac -/

/-- R201 to R213, R425: a block whose last sample is usable in the cluster joins the queue; an idle engine takes the earliest; a
block not committed by its cut-off becomes a gap, all that while the clusters' clocks run; an engine busy 5 ms and more past the
cut-off faults; the thermal steps of a cluster. -/
def Obligations.BlockQueueEvents : Prop :=
  ∀ (dt : Nat) (p : Port) (j : Nat) (eng : EngineId) (s : State) (b : Block) (temp : Int) (m : Nat), s.runs = true →
    let u := s.elapse dt
    let q := (s.port p).queue
    (s.clocked = true → q.taking = true → j < u.columns p → u.blockUsable p j = true →
      exec (.blockReady dt p j) s = .next (u.blockJoins p j))
    ∧ (s.clocked = true → u.engineIdle eng = true → u.grantOf eng = some (p, b) →
      ∃ t, exec (.engineRequest dt eng) s = .next t ∧ (t.engine eng).mode = .copying p b.column b.index
        ∧ (t.engine eng).busySince = s.clk + dt ∧ (t.engine eng).dmem = (s.engine eng).dmem
        ∧ (∀ x ∈ q.blocks, x.era = b.era → x.column = b.column → x.index = b.index →
            { x with mode := .taken eng } ∈ (t.port p).queue.blocks)
        ∧ (∀ r : Port, r ≠ p → t.port r = s.port r) ∧ (∀ e : EngineId, e ≠ eng → t.engine e = s.engine e))
    ∧ (s.clocked = true → (s.engine eng).mode = .copying p j m →
      q.blocks.find? (fun b => b.column = j && b.index = m && (b.mode = .taken eng)) = some b →
      let restart := b.first || (q.state.getD j (none, [])).1 ≠ some (m - 1)
      exec (.blockCopied dt eng) s =
        .next ((u.setQueue p (mapBlocks (fun x =>
          if x.mode = .taken eng ∧ x.column = j ∧ x.index = m then { b with restart := restart } else x))).copyBlock eng p
            { b with restart := restart }))
    ∧ (s.clocked = true → q.blocks.find? (fun b => b.column = j && isOpen b && decide (b.tCutoff ≤ u.tb)) = some b →
      exec (.blockCutoff dt p j) s = .next ((u.gapBlock p b (if isReady b then .noEngine else .late)).release p))
    ∧ (s.engineRuns eng = true → (s.engine eng).cutoff + s.fld Fld.cloveCfg_watchdog 0 * 1000000 ≤ u.tb →
      exec (.engineWatchdog dt eng) s = .next (u.engineFault eng faultWatchdog))
    ∧ exec (.clusterTempSample dt p temp) s =
        .next ((u.setCluster p (clusterSample temp)).throttleNote p (u.clusterClock p))

/-- R245 to R253, R269, R270, R275 to R290: a sample of a vibration or temperature zone is judged by the configuration of its
time; the summaries of every group go out together at a whole second; a complete snapshot that waits for no CONFIRM is
published; a group armed for its time takes one by itself; a holdoff ends; the next released block goes to the streams and
rings; codes that follow those before them become raw words, which wait for the end of their record; a share out of room is
marked. -/
def Obligations.ZonesAndSnapshots : Prop :=
  ∀ (dt : Nat) (z : ZoneId) (prof : List Byte) (g : GroupId) (id i m : Nat) (n : Snapshot) (p : Port) (b : Block)
    (rest : List Block) (us vs : List Half) (xs ys : List Code) (t0 : Nat) (s : State), s.runs = true →
    let u := s.elapse dt
    let x := s.zone z
    let on : Prop := s.detect.off = false ∧ s.flag Fld.zone_en z.val = true
    (on → u.zoneTurn z = true → s.zoneTemp z = false → portLaunches (s.port (s.zonePort z)).seq = true → u.sampleBlock z = some m →
      let pos := u.sampleLast z m
      let tLast := (u.posTime (s.zonePort z) pos).toNat
      let j := judgeAt (s.zoneJudge z) tLast x.reconfig
      exec (.vibrationZoneSample dt z m) s =
        .next (((u.setZone z (fun y => { y with nextBlock := m + 1 })).zoneSample z tLast pos j
          (x.reconfig.any (fun e => e.1 ≤ tLast)) (x.reconfig.filter (fun e => tLast < e.1))
          (fun t => t.vibView z j (t.zoneBands z m)) false).forgetBlocks (s.zonePort z)))
    ∧ (on → u.zoneTurn z = true → s.zoneTemp z = true → (s.port (s.zonePort z)).raman.profile = some prof →
      x.profSeq ≠ some (u32At prof 4) →
      let j := s.zoneJudge z
      exec (.temperatureZoneSample dt z) s =
        .next ((u.setZone z (fun y => { y with profSeq := some (u32At prof 4) })).zoneSample z (u64At prof 0x10) (-1) j
          (x.reconfig ≠ []) [] (fun t => t.tempView z j prof) ((u8At prof 3).testBit 1)))
    ∧ (u.tb % 1000000000 < 100000 → u.tb / 1000000000 ≠ s.detect.periodicAt →
      exec (.summaryPeriodic dt) s =
        .next (allGroups.foldl (fun t g => t.sendSummary g true)
          (u.setDetect (fun d => { d with periodicAt := u.tb / 1000000000 }))))
    ∧ (s.capture.snapshots.find? (fun n => n.id = id) = some n → n.published = false → n.unconfirmed = false →
      (∀ q ∈ n.parts, q.done = true) → exec (.snapshotPublish dt id) s = .next (u.publish n))
    ∧ (s.snapOn g = true → s.flag Fld.snapCfg_autoEn g.val = true → (s.group g).snapMode = .armed →
      (s.group g).autoDone = false →
      (s.group g).armedAt + s.fld Fld.snapCfg_autoTimeout g.val * 1000000000 ≤ s.clk + dt →
      exec (.autoTimeout dt g) s =
        .next ((u.setGroup g (fun y => { y with autoDone := true })).takeSnap g u.tb 0 0 (-1) none true))
    ∧ ((s.group g).snapMode = .holdoff → s.fld Fld.snapCfg_holdoffMode g.val = 1 →
      (s.group g).since + s.fld Fld.snapCfg_holdoff g.val * 1000000 ≤ s.clk + dt →
      exec (.holdoffEnd dt g) s =
        .next (u.setGroup g (fun y =>
          { y with snapMode := .armed, since := s.clk + dt, armedAt := s.clk + dt, autoDone := false })))
    ∧ ((s.port p).queue.released = b :: rest →
      exec (.recordEnqueue dt (.block p)) s =
        .next (((u.setQueue p (fun q => { q with released := rest })).enqueueBlock p b).forgetBlocks p))
    ∧ ((s.port p).rx.raw = some (t0, us, vs) → us.length = vs.length → xs.length = ys.length →
      t0 + us.length + xs.length ≤ u.tb →
      let wx := us ++ u.rawWords p (t0 + us.length) xs
      let wy := vs ++ u.rawWords p (t0 + us.length) ys
      let k := 32768 - t0 % 32768
      (us.length + xs.length < k →
        ∃ t, exec (.recordEnqueue dt (.raw p (t0 + us.length) xs ys)) s = .next t ∧ (t.port p).rx.raw = some (t0, wx, wy)
          ∧ t.capture = s.capture ∧ (∀ q : Port, q ≠ p → t.port q = s.port q))
      ∧ (us.length + xs.length = k →
        ∃ v : State, exec (.recordEnqueue dt (.raw p (t0 + us.length) xs ys)) s =
            .next ((v.enqueueRaw p t0 wx wy).setRx p (fun x => { x with raw := some (t0 + k, [], []) }))
          ∧ v.capture = s.capture))
    ∧ (s.flag Fld.stream_en i = true → s.shareBytes i ≠ 0 → s.quota < recsBytes (s.stream i).queue →
      exec (.spillWriteTimeout dt i) s = .next (u.setStream i (fun x => { x with shareFull := true })))

/-- R278 to R280, R293, R427: the devices that are supported and their capacity; a training that the reference lets run ends well
or fails with its channel and step; the periodic calibration and the self-refresh of capture memory; a mask trace whose frames
have all returned is evaluated and leaves, with no stop where the trace before had no run; a mask stop leaves the mask stopped. -/
def Obligations.CaptureMemoryEvents : Prop :=
  ∀ (dt : Nat) (p : Port) (r : CapTrain) (d : CapDevice) (ds : List CapDevice) (ch st : Nat) (rq : Req) (tr : MaskTrace)
    (later : List MaskTrace) (s : State), s.runs = true →
    let u := s.elapse dt
    let m := s.capture.mem
    (deviceOk d = true → deviceFails (List.replicate 4 d) = none ∧ 2 * capacity (List.replicate 4 d) = d.densityGb * d.ranks)
    ∧ (deviceOk d = false → trainFails ⟨d :: ds, r.failed⟩ = some (0, 1))
    ∧ (m.training = some none → m.due = false → trainFails r = none →
      ∃ t, exec (.capmemTrainDone dt r) s = .next t ∧ t.capture.mem.trained = true ∧ t.capture.mem.gib = capacity r.devices
        ∧ t.capture.mem.training = none ∧ t.capture.mem.rate = s.fld Fld.capmemCfg_rate 0)
    ∧ (m.training = some (some rq) → m.due = false → trainFails r = some (ch, st) →
      exec (.capmemTrainDone dt r) s =
        .next (((u.setMem (fun m => { m with trained := false, training := none })).event evCapmemFail noUnit noUnit
          [ch, st]).completeResult rq .ok (leBytes 1 ch ++ leBytes 1 st ++ zeros 2)))
    ∧ (m.trained = true → m.lastCal + 64000000 ≤ s.clk + dt →
      exec (.capmemPeriodicCal dt) s = .next (u.setMem (fun m => { m with lastCal := s.clk + dt })))
    ∧ (s.power.mode = .standby → m.trained = true → m.lastAccess + 1000000 ≤ s.clk + dt →
      exec (.capmemSelfRefresh dt) s = .next (u.setMem (fun m => { m with selfRefresh := true })))
    ∧ (s.flag Fld.mask_en p.val = true → (s.mask p).stopped = false → (s.port p).seq.mode = .running →
      (s.mask p).lastRuns = [] → (s.mask p).traces = tr :: later → 2 ^ s.fld Fld.mask_avg p.val ≤ tr.taken →
      tr.lastEnd + u.dRxNs p ≤ u.tb →
      ∃ t, exec (.maskTraceEval dt p (u.tb - (tr.lastEnd + u.dRxNs p)) tr.taken) s = .next t
        ∧ (t.mask p).traces = later ∧ (t.mask p).stopped = false
        ∧ t.free = s.free + s.maskBins p ∧ t.ports = s.ports ∧ t.mbox = s.mbox)
    ∧ (∀ (v : State) (run : Nat × Nat × Bool × Bool) (t0 : Nat), v.flag Fld.mask_action p.val = false →
      ((v.maskStop p run t0).mask p).stopped = true ∧ ((v.maskStop p run t0).mask p).lastRuns = [])

/-- R306 to R313: jobs of Sumac: a stream's first job on a lane becomes a record; a COMPRESS job on a lane completes by how its
blocks fit; the first decompression waiting ends, with its image applied or refused. -/
def Obligations.SumacJobsEnd : Prop :=
  ∀ (dt i ref n : Nat) (tag : BitVec 6) (r : Rec) (rq : Req) (d input : List Byte) (j : DecJob) (rest : List DecJob)
    (jobs : List (Nat × Rec × Nat × Nat × Bool)) (s : State), s.runs = true →
    let u := s.elapse dt
    let v := u.setSumac (fun x => { x with decJobs := rest })
    (s.sumac.streamJobs = (i, r, ref, n, false) :: jobs → (∀ j ∈ jobs, j.1 ≠ i) → i ∈ s.sumac.laneStreams →
      let out := encodeStream ref (r.payload.drop n)
      ∃ w : State, exec (.streamJobDone dt i) s = .next ((w.pushData i r.typ r.flags (r.payload.take n ++ out.1)).setSumac SumacSt.fillLanes)
        ∧ w.sumac.streamJobs = jobs ∧ w.capture = s.capture)
    ∧ (s.sumac.blockJobs.find? (fun j => j.1.tag = tag) = some (rq, d, input) → tag ∈ s.sumac.laneBlocks → chainBytes d < 16 →
      ∃ w : State, exec (.compressBlockDone dt tag) s =
          .next (w.completeResult rq .chainExhausted (leBytes 4 (u32At d 0x10) ++ leBytes 4 0))
        ∧ w.sumac.blockJobs = s.sumac.blockJobs.filter (fun j => j.1.tag ≠ tag) ∧ w.mbox = s.mbox)
    ∧ (s.sumac.blockJobs.find? (fun j => j.1.tag = tag) = some (rq, d, input) → tag ∈ s.sumac.laneBlocks →
      ∃ t, exec (.compressBlockDone dt tag) s = .next t
        ∧ t.sumac.blockJobs = s.sumac.blockJobs.filter (fun j => j.1.tag ≠ tag)
        ∧ t.mbox.flights = s.mbox.flights.filter (fun f => f.tag != rq.tag))
    ∧ (s.sumac.decJobs = j :: rest →
      (∀ d, j.use = .job d → exec (.decompressDone dt) s = .next (v.decJobDone j.req d j.coded))
      ∧ ((∀ d, j.use ≠ .job d) →
        let x := decompress (decLimit j.use) j.coded
        let w := v.decCount x.status
        (x.status ≠ .ok → exec (.decompressDone dt) s = .next (w.complete j.req x.status))
        ∧ (x.status = .ok →
          exec (.decompressDone dt) s = .next ((w.applyImage j.use x.bytes).2.complete j.req (w.applyImage j.use x.bytes).1))))

/-! ## The Cherex link -/

/-- R319, R321, R329 to R332: what is sent next, after which a shutdown that waited for it may begin; a CREDIT taken, stale or
bad; a repeat of the own CREDIT after 100 ms; blocks and frames discarded and counted. -/
def Obligations.LinkTraffic : Prop :=
  ∀ (dt i stream total n : Nat) (k : Fin 8) (sync : BitVec 2) (bytes : List Byte) (s : State), s.runs = true →
    s.link.stage = .active →
    let u := s.elapse dt
    let g := (Tab.find? s.link.granted stream).getD 0
    let ahead := (total % 16777216 + 16777216 - g) % 16777216
    let send (x : SendNext) (t : State) : Prop :=
      s.link.txPm = .awake → s.link.idleSince = none → s.link.txReadyAt ≤ s.clk + dt → s.sendNext = some x →
        exec (.frameSelect dt) s = .next t.shutGo
    send .credit (u.setLink (fun l => { l with creditDue := false, creditAt := s.clk + dt, txIdleSince := s.clk + dt,
                                               txBlocks := [creditBlock 0 l.hostTotal] }))
    ∧ send .zero u.sendZero
    ∧ send (.urgent i) ((u.sendStream i).setLink (fun l => { l with lastHigh := i }))
    ∧ send (.other i) ((u.sendStream i).setLink (fun l => { l with lastLow := i }))
    ∧ (s.link.rxPm ≠ .sleep → s.link.rxReadyAt ≤ s.clk + dt →
      (2048 < stream → exec (.creditReceived dt stream total) s = .next (u.rxWake.count Ctr.linkStats_creditBad 0 1))
      ∧ (stream ≤ 2048 → 8388608 ≤ ahead →
        exec (.creditReceived dt stream total) s = .next (u.rxWake.count Ctr.linkStats_creditStale 0 1))
      ∧ (stream ≤ 2048 → ahead < 8388608 →
        exec (.creditReceived dt stream total) s =
          .next (u.rxWake.setLink (fun l => { l with granted := Tab.put l.granted stream (total % 16777216) })))
      ∧ exec (.hostFrameDiscard dt (.bad n)) s =
          .next ((u.rxWake.count Ctr.linkStats_crcErr 0 1).freeUnits (ceilDiv n 32))
      ∧ (n ≠ 0 → exec (.hostFrameDiscard dt (.stream n)) s = .next (u.rxWake.count Ctr.linkStats_rxDiscard 0 1)))
    ∧ (s.link.rxPm = .sleep ∨ s.clk + dt < s.link.rxReadyAt →
      exec (.creditReceived dt stream total) s = .next u ∧ exec (.hostFrameDiscard dt (.bad n)) s = .next u
      ∧ exec (.hostFrameDiscard dt (.stream n)) s = .next u)
    ∧ (s.link.creditAt + 100000000 ≤ s.clk + dt →
      exec (.creditRepeat dt) s = .next (u.setLink (fun l => { l with creditDue := true })))
    ∧ (k.val < s.link.width → sync = 0 ∨ sync = 3 →
      exec (.blockDiscard dt k sync bytes) s = .next (u.count (laneCtr Ctr.linkStats_badSync0 k) 0 1))
    ∧ (k.val < s.link.width → blockGood bytes = false →
      exec (.blockDiscard dt k 2 bytes) s = .next (u.count Ctr.linkStats_badBlock 0 1))
    ∧ (k.val < s.link.width → sync = 1 ∨ (sync = 2 ∧ blockGood bytes = true) →
      exec (.blockDiscard dt k sync bytes) s = .next u)

/-- R323, R324, R327, R328: detection needs ten good checks in a row, 100 µs apart; training frames begin 1 ms after; a
lane trains by the frames it gets; capability blocks go out and come in. -/
def Obligations.LinkBringUpSteps : Prop :=
  ∀ (dt : Nat) (k : Fin 8) (found polarity : Byte) (control status : Half) (own : Bool) (bytes : List Byte) (s : State),
    s.runs = true →
    let u := s.elapse dt
    let l := s.link
    let ok (m : BitVec 8) : Bool := s.allowedWidths.any (lanesFrom m)
    let now := s.clk + dt
    let again : Prop := l.stage = .detect ∧ l.idleSince = none ∧ max l.since l.checkAt + 100000 ≤ now
    (again → ok found = false → l.goodChecks = 0 ∨ ok (l.lanesSeen &&& found) = false →
      exec (.detectCheck dt found) s = .next (u.setLink (fun l => { l with goodChecks := 0, checkAt := now, lanesSeen := found })))
    ∧ (again → ok (l.lanesSeen &&& found) = true → 1 ≤ l.goodChecks → l.goodChecks < 9 →
      exec (.detectCheck dt found) s =
        .next (u.setLink (fun x => { x with goodChecks := l.goodChecks + 1, checkAt := now, lanesSeen := l.lanesSeen &&& found })))
    ∧ (again → ok found = true → l.goodChecks = 0 ∨ ok (l.lanesSeen &&& found) = false →
      exec (.detectCheck dt found) s = .next (u.setLink (fun x => { x with goodChecks := 1, checkAt := now, lanesSeen := found })))
    ∧ (again → ok (l.lanesSeen &&& found) = true → 9 ≤ l.goodChecks →
      ∃ t, exec (.detectCheck dt found) s = .next t ∧ t.link.stage = .train ∧ t.link.since = s.clk + dt
        ∧ t.link.width = (s.allowedWidths.find? (lanesFrom (l.lanesSeen &&& found))).getD 1
        ∧ t.link.rate = s.fld Fld.linkCfg_rate 0 ∧ t.link.framesSince = none)
    ∧ (l.stage = .train → l.framesSince = none → l.since + 1000000 ≤ s.clk + dt →
      exec (.trainingFramesStart dt polarity) s =
        .next (u.setLink (fun l =>
          { l with framesSince := some (s.clk + dt), polarity := polarity &&& BitVec.ofNat 8 (2 ^ l.width - 1) })))
    ∧ (∀ since, l.stage = .train → l.framesSince = some since → k.val < l.width →
      let v := u.setLane k (laneTrain control status own)
      let all : Prop := ∀ j : Fin 8, j.val < l.width → 8 ≤ (v.link.lanes[j]).readyFrames
      (all → exec (.trainingFrameRx dt k control status own) s =
        .next (v.setLink (fun l => { l with stage := .lock, since := s.clk + dt, lockCause := causeBlockLock })))
      ∧ (¬ all → exec (.trainingFrameRx dt k control status own) s = .next v))
    ∧ (l.stage = .exchange →
      exec (.capabilitySend dt) s =
        .next (((u.setLink (fun l =>
          { l with ownCrc := u32At u.capBlock 0x3C, seenSent := l.seenSent || l.peerCap.isSome,
                   fseqCap := (l.fseqCap + 1) % 256, txBlocks := frameBlocks 0xFFF l.fseqCap 0 u.capBlock })).count
          Ctr.linkStats_framesTx 0 1).exchangeCheck))
    ∧ (l.stage = .exchange → bytes.length = 64 → u32At bytes 0x3C = crc32 (bytesAt bytes 0 60) →
      let v := u.count Ctr.linkStats_framesRx 0 1
      (v.capMismatch bytes = true → exec (.capabilityRx dt bytes) s = .next (v.stageFail causeMismatch))
      ∧ (v.capMismatch bytes = false →
        let ack := u8At bytes 2 = 1 && (u8At bytes 3) % 2 = 1 && u32At bytes 0x18 = l.ownCrc
        exec (.capabilityRx dt bytes) s =
          .next ((v.setLink (fun l => { l with peerCap := some bytes, acked := l.acked || ack })).exchangeCheck)))

/-- R317, R320, R323, R326: what a lane scrambles is descrambled by a receiver in step, and from the 59th bit on by one that
started with any register; a marker period on the lanes in use, in every stage: what each lane notes and counts; LOCK passes
to EXCHANGE by two good periods on every lane, or notes the check that fails; ACTIVE is left by two bad periods on a lane, the
marker count going on over a bad one; a shutdown that waits for its completion begins once the link cannot carry it. -/
def Obligations.LanesDescrambleAndAlign : Prop :=
  (∀ (r q : LaneBits) (bits : List Bool),
    descramble r (scramble r bits).1 = (bits, (scramble r bits).2)
    ∧ ((descramble q (scramble r bits).1).1).drop 58 = bits.drop 58)
  ∧ ∀ (dt : Nat) (k : Fin 8) (locked : Byte) (seen : Vector (Option AlignIn) 8) (s : State), s.runs = true →
    let u := s.elapse dt
    let l := s.link
    let v := u.alignLanes locked seen
    let active : Bool := decide (l.stage = .active)
    (k.val < l.width → v.link.lanes[k] =
      laneAlign (alignGood l.stage l.width k l.lanes[k] seen[k]) (locked.getLsbD k.val)
        (active && decide (l.rxPm = .awake)) seen[k] l.lanes[k])
    ∧ (l.width ≤ k.val → v.link.lanes[k] = l.lanes[k])
    ∧ (l.stage = .lock →
      (∀ c, lockFails s.linkLanes locked seen = some c → exec (.alignRx dt locked seen) s =
        .next (v.setLink (fun x => { x with lockCause := c, lanes := x.lanes.map (fun y => { y with goodMarks := 0 }) })).shutGo)
      ∧ (lockFails s.linkLanes locked seen = none → (∀ j ∈ s.linkLanes, 2 ≤ (v.link.lanes[j]).goodMarks) →
        exec (.alignRx dt locked seen) s =
          .next (v.setLink (fun x =>
            { x with stage := .exchange, since := s.clk + dt, peerCap := none, acked := false, seenSent := false })).shutGo)
      ∧ (lockFails s.linkLanes locked seen = none → (∃ j ∈ s.linkLanes, (v.link.lanes[j]).goodMarks < 2) →
        exec (.alignRx dt locked seen) s = .next v.shutGo))
    ∧ (l.stage = .exchange → exec (.alignRx dt locked seen) s = .next v.shutGo)
    ∧ (l.stage = .active →
      ((∃ j ∈ s.linkLanes, 2 ≤ (v.link.lanes[j]).badMarks) →
        exec (.alignRx dt locked seen) s = .next (v.leaveActive causeMarkerLoss).shutGo)
      ∧ ((∀ j ∈ s.linkLanes, (v.link.lanes[j]).badMarks < 2) → exec (.alignRx dt locked seen) s = .next v.shutGo))
    ∧ (l.stage = .disabled ∨ l.stage = .detect ∨ l.stage = .train ∨ l.stage = .down ∨ l.stage = .loop →
      exec (.alignRx dt locked seen) s = .next u.shutGo)

/-- R320, R325, R326, R475: how a stage fails by its timeout, and how the link leaves ACTIVE by loss of block lock, of signal
or of the lane PLL, each with its cause; RETRIES failures and DOWN; the check of a second in DOWN; the idle millisecond after
a failure. -/
def Obligations.LinkFailures : Prop :=
  ∀ (dt t0 : Nat) (k : Fin 8) (found locked : Byte) (seen : Vector (Option AlignIn) 8) (s : State), s.runs = true →
    let u := s.elapse dt
    let l := s.link
    let now := s.clk + dt
    (l.stage = .detect → l.idleSince = none → l.since + 100000000 ≤ now →
      exec (.bringupStageTimeout dt) s = .next (u.stageFail causeNoPartner))
    ∧ (l.stage = .train → l.framesSince = some t0 → t0 + 500000000 ≤ now →
      exec (.bringupStageTimeout dt) s = .next (u.stageFail causeTrainTimeout))
    ∧ (l.stage = .lock → l.since + 10000000 ≤ now →
      exec (.bringupStageTimeout dt) s = .next (u.stageFail l.lockCause))
    ∧ (l.stage = .exchange → l.since + 20000000 ≤ now →
      exec (.bringupStageTimeout dt) s = .next (u.stageFail causeNoCapability))
    ∧ (l.idleSince = some t0 → t0 + 1000000 ≤ now →
      exec (.linkFailIdleEnd dt) s = .next (u.setLink (fun l => { l with idleSince := none, since := now, goodChecks := 0 })))
    ∧ (l.stage = .down → l.since + 1000000000 ≤ now →
      (lanesFrom found (2 ^ s.fld Fld.linkCfg_minWidth 0) = true → exec (.downCheck dt found) s = .next (u.bringUp true))
      ∧ (lanesFrom found (2 ^ s.fld Fld.linkCfg_minWidth 0) = false →
        exec (.downCheck dt found) s = .next (u.setLink (fun l => { l with since := now }))))
    ∧ (l.stage = .active → k.val < l.width →
      exec (.blockLockLoss dt k) s =
        .next (((u.setLane k (fun x => { x with blockLock := false, goodMarks := 0 })).count
          (laneCtr Ctr.linkStats_lockLoss0 k) 0 1).leaveActive causeBlockLock).shutGo
      ∧ (l.rxPm = .awake → exec (.idleLoss dt k) s = .next (u.leaveActive causeIdleLoss).shutGo)
      ∧ exec (.lrefUnlock dt) s = .next (u.leaveActive causeBlockLock).shutGo)
    ∧ (l.stage = .loop → s.loopFrames k = true →
      exec (.blockLockLoss dt k) s =
        .next ((u.setLane k (fun x => { x with blockLock := false, goodMarks := 0 })).count
          (laneCtr Ctr.linkStats_lockLoss0 k) 0 1).shutGo)
    ∧ (l.stage = .train ∨ l.stage = .lock ∨ l.stage = .exchange →
      exec (.lrefUnlock dt) s = .next (u.stageFail causeBlockLock).shutGo)
    ∧ (l.stage = .lock → s.life.shutNext = none →
      (∀ j ∈ s.linkLanes, (seen[j]).isSome = true ∧ locked.getLsbD j.val = false) → s.linkLanes ≠ [] →
      ∃ t, exec (.alignRx dt locked seen) s = .next t ∧ t.link.lockCause = causeBlockLock ∧ t.link.stage = .lock
        ∧ (∀ j : Fin 8, (t.link.lanes[j]).goodMarks = 0))
    ∧ (l.fromDown = false → s.fld Fld.linkCfg_retries 0 ≤ min 15 (l.failCount + 1) →
      ∀ c, (u.stageFail c).link.stage = .down ∧ (u.stageFail c).link.failCause = c
        ∧ (u.stageFail c).link.failCount = min 15 (l.failCount + 1) ∧ (u.stageFail c).link.failStage = linkCode l.stage)

/-- R334 to R338: the low-power states of both directions and the test loop: their entries, refresh, exits, the lock of
a loop's checkers, and the frames of a PATTERN 1 loop. -/
def Obligations.LinkPowerAndLoops : Prop :=
  ∀ (dt errors n : Nat) (k : Fin 8) (locked : Bool) (r : LoopRun) (s : State), s.runs = true →
    let u := s.elapse dt
    let l := s.link
    let now := s.clk + dt
    (l.stage = .active →
      exec (.pmBlockRx dt 1) s = .next (u.setLink (fun l => { l with rxPm := .quiet }))
      ∧ exec (.pmBlockRx dt 2) s = .next (u.setLink (fun l => { l with rxPm := .sleep }))
      ∧ (l.txPm = .awake → s.flag Fld.linkCfg_quietEn 0 = true → s.peerFlags.testBit 1 = true → s.sendNext = none →
        l.txIdleSince + s.fld Fld.linkCfg_quietIdle 0 * 1000 ≤ now →
        exec (.txQuietEntry dt) s =
          .next ((u.setLink (fun l => { l with txPm := .quiet, refreshAt := now, txBlocks := pmBlocks 1 })).count
            Ctr.linkStats_quietEntries 0 1))
      ∧ (l.txPm ≠ .sleep → s.flag Fld.linkCfg_sleepEn 0 = true → s.peerFlags.testBit 2 = true → s.sendNext = none →
        l.txIdleSince + s.fld Fld.linkCfg_sleepIdle 0 * 1000000 ≤ now →
        exec (.txSleepEntry dt) s =
          .next ((u.setLink (fun l => { l with txPm := .sleep, txBlocks := pmBlocks 2 })).count Ctr.linkStats_sleepEntries 0 1))
      ∧ (s.sendNext ≠ none → exec (.txPmExit dt) s = .next u.txExit)
      ∧ (l.rxPm = .sleep →
        exec (.rxSleepExit dt) s = .next (u.setLink (fun l => { l with rxPm := .awake, rxReadyAt := now + 40000 }))))
    ∧ (l.txPm = .quiet → l.refreshAt + 1000000 ≤ now →
      exec (.quietRefresh dt) s = .next (u.setLink (fun l => { l with refreshAt := now })))
    ∧ (l.loop = some r →
      (l.stage ≠ .loop → l.stage ≠ .disabled → r.awaits = none → r.startAt ≤ now → exec (.linkLoopStart dt) s = .next u.loopBegin)
      ∧ (l.stage = .loop → l.since + r.timeMs * 1000000 ≤ now → exec (.linkLoopEnd dt) s = .next (u.bringUp false))
      ∧ (l.stage = .loop → r.pattern = 0 → r.lanes.getLsbD k.val = true → (l.lanes[k]).prbsLock = true →
        exec (.loopCheckerLock dt k locked errors) s =
          .next ((u.count (laneCtr Ctr.linkStats_prbsErr0 k) 0 errors).setLane k (fun x => { x with prbsLock := locked })))
      ∧ (l.stage = .loop → r.pattern = 0 → r.lanes.getLsbD k.val = true → (l.lanes[k]).prbsLock = false →
        exec (.loopCheckerLock dt k locked errors) s = .next (u.setLane k (fun x => { x with prbsLock := locked })))
      ∧ (l.stage = .loop → r.pattern = 1 → r.out = false →
        exec (.frameSelect dt) s =
          .next ((u.setLink (fun l =>
            { l with txBlocks := loopFrame r.fseq, loop := some { r with fseq := (r.fseq + 1) % 256, out := true } })).count
              Ctr.linkStats_framesTx 0 1).shutGo)
      ∧ (l.stage = .loop → r.out = true →
        exec (.hostFrameDiscard dt (.bad n)) s =
          .next ((u.setLink (fun l => { l with loop := some { r with out := false } })).count Ctr.linkStats_crcErr 0 1)))

/-! ## Time base, intervals, housekeeping, outputs, calibration -/

/-- R373 to R378, R474: the reference is qualified after 100 ms of edges within 200 ppm where the crystal is good, lost and found again; the OCXO's level of 10 ms;
a PPS edge with its offset and the drift after three far edges; PPS lost; the PPS output. -/
def Obligations.ReferenceAndPps : Prop :=
  ∀ (dt : Nat) (ppm : Int) (x : Stamp) (level : Bool) (s : State), s.runs = true →
    let u := s.elapse dt
    let now := s.clk + dt
    let qualifies : Prop := s.refPresent = true ∧ s.time.refSince + 100000000 ≤ now ∧
      (ppm.natAbs ≤ 200 ∨ s.start.xtalFault = true)
    (qualifies → s.time.refState = .free ∨ s.time.refState = .acquiring →
      exec (.refQualified ⟨dt, ppm⟩) s = .next (u.trainStart.setTime (fun t => { t with refState := .locked })))
    ∧ (qualifies → s.time.refState = .holdover →
      exec (.refQualified ⟨dt, ppm⟩) s =
        .next ((u.trainStart.setTime (fun t =>
          { t with refState := .locked, holdoverS := (now - t.holdoverAt) / 1000000000 })).event evRefLocked noUnit noUnit []))
    ∧ (¬ qualifies → exec (.refQualified ⟨dt, ppm⟩) s = .next u)
    ∧ (s.time.refState = .locked →
      exec (.refLost dt) s =
        .next (((u.setTime (fun t => { t with refState := .holdover, refSince := now, holdoverAt := now, holdoverS := 0 })).event
          evRefHoldover noUnit noUnit []).count Ctr.timeStats_refLosses 0 1))
    ∧ (s.time.refState = .free ∨ s.time.refState = .acquiring →
      exec (.refLost dt) s = .next (u.setTime (fun t => { t with refSince := now })))
    ∧ (s.bankUp .tb = true → s.time.ocxoSince + 10000000 ≤ now → s.time.ocxoReady ≠ level →
      s.flag Fld.timeCfg_ocxoUse 0 = true →
      exec (.ocxoRdyChange dt level) s =
        .next ((u.setTime (fun t => { t with ocxoReady := level, ocxoSince := now })).event evOcxoChange noUnit noUnit []))
    ∧ (s.bankUp .tb = true → s.time.ocxoSince + 10000000 ≤ now → s.time.ocxoReady ≠ level →
      s.flag Fld.timeCfg_ocxoUse 0 = false →
      exec (.ocxoRdyChange dt level) s = .next (u.setTime (fun t => { t with ocxoReady := level, ocxoSince := now })))
    ∧ (s.bankUp .tb = false → exec (.ocxoRdyChange dt level) s = exec (.ocxoRdyChange dt false) s)
    ∧ (now < s.time.ocxoSince + 10000000 → exec (.ocxoRdyChange dt level) s = .next u)
    ∧ (s.flag Fld.timeCfg_ppsEn 0 = true → s.timeRuns = true → s.bankUp .tb = true →
      exec (.ppsEdge dt x false) s = .next (u.count Ctr.timeStats_ppsRejected 0 1))
    ∧ (s.flag Fld.timeCfg_ppsEn 0 = true → s.timeRuns = true → s.bankUp .tb = true →
      s.time.ppsLast = none ∨ s.time.ppsFresh = true → s.anyEnabled = true →
      let stamp := fine (u.stampNs x) x.frac.toNat
      let off := ppsOffsetOf stamp
      let far : Prop := 256 * s.fld Fld.timeCfg_ppsTol 0 < off.natAbs
      let arrived (n : Nat) (drift : Bool) : State := u.setTime (fun t =>
        { t with ppsPresent := true, ppsFresh := false, ppsLast := some (stamp, fine (now - x.ago) x.frac.toNat), ppsOver := n,
                 ppsOffset := off, ppsDrift := drift })
      (¬ far → exec (.ppsEdge dt x true) s = .next (arrived 0 false))
      ∧ (far → s.time.ppsOver < 2 → exec (.ppsEdge dt x true) s = .next (arrived (s.time.ppsOver + 1) s.time.ppsDrift))
      ∧ (far → 2 ≤ s.time.ppsOver → s.time.ppsDrift = false →
        exec (.ppsEdge dt x true) s = .next ((arrived (s.time.ppsOver + 1) true).event evPpsDrift noUnit noUnit [])))
    ∧ (∀ a b, s.time.ppsPresent = true → s.time.ppsLast = some (a, b) → b + 384000000000 ≤ 256 * now →
      exec (.ppsTimeout dt) s =
        .next (((u.setTime (fun t => { t with ppsPresent := false })).event evPpsLost noUnit noUnit []).count
          Ctr.timeStats_ppsMissing 0 1))
    ∧ (s.flag Fld.timeCfg_ppsOutEn 0 = true → s.timeRuns = true → u.tb % 1000000000 < 1000000 → s.time.ppsOutFrom ≤ u.tb →
      exec (.ppsOutSecond dt) s = .next (u.setTime (fun t => { t with ppsOutAt := some (now - u.tb % 1000000000) })))

/-- R379, R380: a marker whose 72 periods spell no second with its CRC is counted; markers in ALIGNING, LOCKED and HOLDOVER
are judged; the offset is worked off by 1/256 ns a step; HOLDOVER after 1.5 s without a marker. -/
def Obligations.SiteSynchronisation : Prop :=
  ∀ (dt n a b : Nat) (x : Stamp) (falls : List Nat) (s : State), s.runs = true → s.timeRuns = true →
    let u := s.elapse dt
    let now := s.clk + dt
    let ps := falls.map periodClass
    let note (t : State) : State :=
      t.setTime (fun v => { v with lastMarker := some (fine (t.stampNs x) x.frac.toNat, fine (now - x.ago) x.frac.toNat) })
    (s.slave = true →
      (markerCount ps = none → exec (.syncMarker dt x falls) s = .next (u.count Ctr.timeStats_syncCrcErr 0 1))
      ∧ (markerCount ps = some n → s.time.site = .aligning ∨ s.time.site = .locked ∨ s.time.site = .holdover →
        exec (.syncMarker dt x falls) s = .next (note (u.goodMarker s.time.site x n)))
      ∧ (markerCount ps = some n → s.time.site = .seeking → s.anyEnabled = false →
        s.time.lastMarker = some (a, b) → secondApart b (fine (now - x.ago) x.frac.toNat) = true →
        exec (.syncMarker dt x falls) s = .next (note (u.siteLoad x n))))
    ∧ (s.time.site = .locked → s.time.lastMarker = some (a, b) → b + 384000000000 ≤ 256 * now →
      exec (.syncTimeout dt) s =
        .next ((u.setTime (fun t => { t with site := .holdover })).count Ctr.timeStats_syncLosses 0 1))
    ∧ (now < s.time.stepAt + 1000000 → exec (.syncPhaseStep dt) s = .next u)
    ∧ (s.time.site = .aligning ∨ s.time.site = .locked → s.time.stepAt + 1000000 ≤ now → 0 < s.time.syncOffset →
      s.tbFrac < 256 → 0 < u.tb * 256 + s.tbFrac →
      ∃ t, exec (.syncPhaseStep dt) s = .next t ∧ t.tb * 256 + t.tbFrac + 1 = u.tb * 256 + s.tbFrac
        ∧ t.time.syncOffset = s.time.syncOffset - 1)
    ∧ (∀ v : State, v.time.site = .aligning → ∀ m : Nat,
      let e : Int := 100 * (fine (v.stampNs x) x.frac.toNat : Nat) - v.inDelay
      let own := divHalfUp e siteSecond.toNat
      let off := to256 (e - siteSecond * own)
      own = m → off.natAbs ≤ 64 → 2 ≤ v.time.syncGood →
      v.goodMarker .aligning x m =
        ((v.setTime (fun t => { t with syncOffset := off })).setTime (fun t =>
          { t with syncGood := v.time.syncGood + 1 })).siteLock)

/-- R385 to R387: a start edge opens a measurement, a stop is stamped and takes its place among the others, one within 2 ns of the
last is not, one beyond STOPS is counted, an echo comparator re-arms below half its level, the window closes the measurement, the
frequency gate ends with its edges counted. -/
def Obligations.TimeIntervals : Prop :=
  ∀ (dt edges interval : Nat) (i : Fin 12) (e : TiEdge) (cx cy : Int) (x : Stamp) (a b : TiArm) (m : TiMeas) (s : State),
    s.runs = true → s.time.ti.arm = some a →
    let u := s.elapse dt
    let t := fine (u.stampNs x) x.frac.toNat
    let start := fine m.ns m.frac
    let inside (c : TiArm) : Prop :=
      c.src ≠ tiFreq ∧ start ≤ t ∧ t ≤ start + 256 * c.windowNs ∧ (i.val < 4 ∨ start + 256 * c.blankNs ≤ t)
    (a.src = tiPin → s.bankUp .tb = true → s.time.ti.meas = none →
      exec (.tiStartEdge dt (.pin (a.flags.testBit 0)) x) s = .next (u.tiOpen (u.stampNs x) x.frac.toNat 0x00 0 0xFF))
    ∧ (a.src = tiPin → s.bankUp .tb = true → s.time.ti.meas = some m →
      exec (.tiStartEdge dt (.pin (a.flags.testBit 0)) x) s = .next (u.count Ctr.timeStats_startIgnored 0 1))
    ∧ (a.src = tiFreq → s.time.ti.meas = none →
      exec (.tiStartEdge dt .freq x) s = .next (u.tiOpen (u.stampNs x) x.frac.toNat 0x30 0 0xFF))
    ∧ (s.time.ti.meas = some m → u.stopTaken a i e = true → inside a → nearLast m.last i.val t = false →
      let k := m.stops + 1
      let v := u.echoNote a i e
      let taken := stopInsert (t, stopInput i,
        tiRecord (u.stampNs x) x.frac.toNat (stopInput i) k 0 v.time.ti.number 0 0xFF) m.taken
      let stamped (done : Bool) : State := (v.tiWrite (zeros 24)).setTi (fun w =>
        { w with ring := w.ring.take (w.ring.length - k) ++ stopRecords done taken,
                 meas := some { m with stops := k, last := Tab.put m.last i.val t, taken := taken } })
      (k < a.stops → exec (.tiStopEdge dt i e x) s = .next (stamped false))
      ∧ (a.stops ≤ k → exec (.tiStopEdge dt i e x) s = .next ((stamped true).tiClose true)))
    ∧ (s.time.ti.meas = some m → u.stopTaken a i e = true → inside a → nearLast m.last i.val t = true →
      exec (.tiStopEdge dt i e x) s =
        .next ((u.echoNote a i e).setTi (fun v => { v with meas := some { m with last := Tab.put m.last i.val t } })))
    ∧ (s.time.ti.meas = none → s.time.ti.excess = some (m, b) → u.stopTaken b i e = true → inside b →
      exec (.tiStopEdge dt i e x) s =
        .next (((u.echoNote b i e).setTi (fun v =>
          { v with excess := some ({ m with last := Tab.put m.last i.val t }, b) })).countIf Ctr.timeStats_stopOverflow 0
            (!nearLast m.last i.val t)))
    ∧ (s.time.ti.meas = some m → 4 ≤ i.val → portLaunches (s.port (echoPort i)).seq = true → echoRearms a.level cx cy = true →
      exec (.tiStopEdge dt i (.echo cx cy) x) s =
        .next (u.setTi (fun v => { v with fired := v.fired &&& ~~~(1#8 <<< (echoPort i).val) })))
    ∧ (s.time.ti.meas = some m → a.src ≠ tiFreq → m.ns + a.windowNs ≤ u.tb →
      exec (.tiWindowEnd dt) s = .next ((u.setTi (fun t => { t with ring := shortLast t.ring })).tiClose false))
    ∧ (let n := edges / max 1 a.prescale
       let gate := start + 256 * a.gateNs
       s.time.ti.meas = some m → a.src = tiFreq → gate ≤ t → t < gate + interval → 0 < n → edges % max 1 a.prescale = 0 →
      exec (.tiFreqGateEnd dt x edges interval) s =
        .next ((u.tiWrite (tiRecord (u.stampNs x) x.frac.toNat 0x30 1 (1 + 8 * bitNat (decide (t - start < 1024 * n)))
          s.time.ti.number n 0xFF)).tiClose false))

/-- R404 to R409: the outputs are judged at a tick of 1 ms; a loop's fault causes set, clear and are retried; a contact's overload
opens it, is retried after 100 ms and clears after a second. -/
def Obligations.OutputEvents : Prop :=
  ∀ (dt : Nat) (n : Fin 8) (x : LoopReading) (ms : Vector Nat 8) (s : State), s.runs = true →
    let u := s.elapse dt
    let m := x.measuredUa
    let ua := (s.loop n).commandUa
    let v := u.setLoop n (fun l => { l with measuredUa := m })
    let now := s.clk + dt
    let read := allOutputs.foldl (fun t k => t.setLoop k (fun l => { l with measuredUa := ms[k] })) u
    (u.tb % 1000000 = 0 → exec (.loopTick ⟨dt, ms⟩) s = .next read.outputsEval)
    ∧ (u.tb % 1000000 ≠ 0 → exec (.loopTick ⟨dt, ms⟩) s = .next read)
    ∧ exec (.alarmMinActiveEnd dt n) s = .next (u.alarmEval n)
    ∧ (s.loopJudged n = true → m < 1000 → 3600 ≤ ua → 21 * x.cmpUv < 1500000 → 50 ≤ x.heldMs → (s.loop n).openC = false →
      exec (.loopCauseSet dt n 0 x) s =
        .next (((v.setLoop n (fun x => { x with openC := true })).event evLoopFault n.val noUnit [causeOpen]).count
          loopOpenCtr n.val 1))
    ∧ (s.loopJudged n = true → 1000 ≤ m → m + 200 < ua → 21 * x.cmpUv < 1500000 → 50 ≤ x.heldMs →
      (s.loop n).compliance = false →
      exec (.loopCauseSet dt n 1 x) s =
        .next (((v.setLoop n (fun x => { x with compliance := true })).event evLoopFault n.val noUnit [causeCompliance]).count
          Ctr.outStats_word1 n.val 1))
    ∧ (s.loopJudged n = true → ua + 500 < m ∨ 23000 < m → 5 ≤ x.heldMs → (s.loop n).overCurrent = false →
      exec (.loopCauseSet dt n 2 x) s =
        .next ((((v.setLoop n (fun x => { x with overCurrent := true, driveOn := false, retryAt := now })).event evLoopFault
          n.val noUnit [causeOverCurrent]).count Ctr.outStats_word2 n.val 1).loopEval n))
    ∧ (s.loopJudged n = true → ua + 500 < m ∨ 23000 < m → 5 ≤ x.heldMs → (s.loop n).overCurrent = true →
      exec (.loopCauseSet dt n 2 x) s =
        .next ((v.setLoop n (fun x => { x with overCurrent := true, driveOn := false, retryAt := now })).loopEval n))
    ∧ (1000 ≤ m ∨ ua < 3600 ∨ 1500000 ≤ 21 * x.cmpUv → 1000 ≤ x.heldMs → (s.loop n).openC = true →
      exec (.loopCauseClear dt n 0 x) s =
        .next ((v.setLoop n (fun l => { l with openC := false })).event evLoopClear n.val noUnit [causeOpen]))
    ∧ (m ≤ ua + 500 → m ≤ 23000 → 1000 ≤ x.heldMs → (s.loop n).overCurrent = true → (s.loop n).driveOn = true →
      1000000000 ≤ now - (s.loop n).retryAt →
      exec (.loopCauseClear dt n 2 x) s =
        .next (((v.setLoop n (fun l => { l with overCurrent := false })).event evLoopClear n.val noUnit
          [causeOverCurrent]).loopEval n))
    ∧ ((s.loop n).overCurrent = true → (s.loop n).driveOn = false → u.loopJudged n = true →
      1000000000 ≤ now - (s.loop n).retryAt →
      exec (.loopDriveRetry dt n) s = .next ((u.setLoop n (fun l => { l with driveOn := true, retryAt := now })).loopEval n))
    ∧ ((s.alarm n).conducting = true → (s.alarm n).overload = false →
      exec (.alarmOverload dt n) s =
        .next (((u.setAlarm n (fun x => { x with conducting := false, tripped := true, overload := true, tripAt := now })).count
          Ctr.outStats_word1 (alarmInst n) 1).event evAlarmOverload (alarmInst n) noUnit []))
    ∧ ((s.alarm n).tripped = true → 100000000 ≤ now - (s.alarm n).tripAt →
      exec (.alarmRetry dt n) s = .next ((u.setAlarm n (fun x => { x with tripped := false })).alarmEval n))
    ∧ ((s.alarm n).overload = true → 1000000000 ≤ now - (s.alarm n).tripAt →
      exec (.alarmOverloadClear dt n) s =
        .next (((u.setAlarm n (fun x => { x with overload := false, tripped := false })).event evAlarmClear (alarmInst n) noUnit
          []).alarmEval n))

/-- R412 to R421: the automatic check without a reason to run; the ends of the four steps on all their ports, not before they have
lasted and with whole measurements; the end of a run, which applies its results, releases what it held and reports to the CAL_RUN
that asked for it, after which a first start's run that waits begins. -/
def Obligations.CalibrationEvents : Prop :=
  ∀ (dt ga gb echo conn : Nat) (uv : Int) (slots pols : List Nat) (ms : List RefMeasure) (cs : List ConvMeasure)
    (rs : List RamanMeasure) (r : CalRun) (n : CalNow) (rq : Req) (s : State), s.runs = true →
    let b := s.elapse dt
    let u := b.refHoldsEnd
    let go (t : State) : State := State.nextStep 12 t
    let ends (m : CalMeasure) (st : CalStep) : Prop :=
      u.cal.run = some r ∧ r.now = some n ∧ n.step = st ∧ n.ports ≠ 0 ∧ u.stepLasted n = true ∧ measureWhole n m = true
    (s.flag Fld.calCfg_autoEn 0 = true → s.power.mode = .active → s.anyEnabled = false →
      s.cal.run = none → (∀ t, s.cal.lastCheck = some t → t + 1000000000 ≤ s.clk + dt) →
      ∃ t, exec (.calAutoCheck dt) s = .next t ∧ t.cal.run = none ∧ t.cal.lastCheck = some (s.clk + dt)
        ∧ t.ports = s.ports ∧ t.cfg = s.cfg)
    ∧ (ends (.ref uv ga gb ms) .ref →
      (∀ y, u.refResult uv ga gb ms = some y →
        exec (.calStepEnd dt (.ref uv ga gb ms)) s =
          .next (go (((u.refFree true).setRun (fun z => { z with results := z.results ++ [y] })).refOutcome r.ports .done)))
      ∧ (u.refResult uv ga gb ms = none →
        exec (.calStepEnd dt (.ref uv ga gb ms)) s = .next (go ((u.refFree true).refOutcome r.ports .limits))))
    ∧ (ends .noRefin .ref →
      exec (.calStepEnd dt .noRefin) s = .next (go ((u.refOutcome r.ports .notPossible).refFree false)))
    ∧ (∀ m, u.cal.run = some r → r.now = some n → n.ports ≠ 0 → u.stepLasted n = false ∨ measureWhole n m = false →
      exec (.calStepEnd dt m) s = .next u)
    ∧ (ends (.skew echo slots pols conn) .skew →
      exec (.calStepEnd dt (.skew echo slots pols conn)) s =
        .next (go ((maskPorts n.ports).foldl (fun t p =>
          (t.portStepEnds .skew p (u.skewResult p echo slots pols conn)).skewStops p) u)))
    ∧ (ends (.conv cs) .conv →
      exec (.calStepEnd dt (.conv cs)) s =
        .next (go ((maskPorts n.ports).foldl (fun t p =>
          t.portStepEnds .conv p ((cs.find? (fun x => x.port = p)).bind convResult)) u)))
    ∧ (ends (.raman rs) .raman →
      exec (.calStepEnd dt (.raman rs)) s =
        .next (go ((maskPorts n.ports).foldl (fun t p =>
          t.portStepEnds .raman p ((rs.find? (fun x => x.port = p)).bind u.ramanResult)) u)))
    ∧ (s.cal.run = some r → r.now = none → r.todo = [] →
      let done := (r.results.foldl (fun t x => t.applyResult x) b).runOver r
      (r.req = none → exec (.calRunEnd dt) s = .next done.firstRuns)
      ∧ (r.req = some rq → exec (.calRunEnd dt) s = .next (done.completeWith rq .ok noFlags [] (runReport r)).firstRuns))

/-! ## Start, power, test -/

/-- R43, R466 to R472: a reset from each cause: RESET_N, a supply trip, DEVICE_RESET, the watchdog; what starts again is known
from the first cause alone; volatile state is as at reset, and the ports are dark. -/
def Obligations.ResetCauses : Prop :=
  ∀ (dt : Nat) (rail : Rail) (s : State),
    let u := s.elapse dt
    let reset (i : Instr) (hold : ResetHold) (cause : StartCause) (r : Option Rail) : Prop :=
      ∃ t, exec i s = .next t ∧ t.start.holds = [hold] ∧ t.start.nextCause = cause ∧ t.start.nextRail = r
        ∧ t.start.boot = .reset ∧ t.ports = State.reset.ports ∧ t.mbox = State.reset.mbox ∧ t.pend = [] ∧ t.held = []
        ∧ t.link = State.reset.link ∧ t.tb = 0 ∧ (s.start.flashWrite = none → t.flash = s.flash) ∧ t.banks = s.banks
        ∧ t.life.state = s.life.state
        ∧ t.life.otpMap = s.life.otpMap ∧ t.pending = s.pending
    (s.start.holds = [] →
      (s.power.mode ≠ .off → reset (.resetAssert dt) .pin .resetPin none)
      ∧ (s.power.mode = .active ∨ s.power.mode = .standby ∨ s.power.mode = .entering →
        reset (.supplyTrip dt rail) .supply .supply (some rail))
      ∧ (s.power.mode ≠ .off → s.start.resetPending ≠ none → reset (.deviceResetTrigger dt) .internal .deviceReset none)
      ∧ (s.runs = true → reset (.watchdogExpiry dt) .internal .watchdog none)
      ∧ (s.power.mode = .active → ∀ temp : Int, 1250 < temp → (∀ n, s.start.dieAt = some n → n + 1000000 ≤ s.clk + dt) →
        reset (.dieTempSample dt temp) .thermal .thermal none))
    ∧ (s.start.holds = [.pin] → s.power.mode = .active →
      ∃ t, exec (.supplyTrip dt rail) s = .next t ∧ t.start.holds = [.pin, .supply] ∧ t.start.nextCause = s.start.nextCause
        ∧ t.start.nextRail = s.start.nextRail)
    ∧ (s.start.tripAt + 1000000 ≤ s.clk + dt → exec (.supplyRelease dt) s =
        .next ((u.setStart (fun t => { t with holds := t.holds.filter (· ≠ .supply) })).setPower (fun w => { w with railsOut := [] })))
    ∧ (s.clk + dt < s.start.tripAt + 1000000 → exec (.supplyRelease dt) s = .next u)

/-- R426, R467 to R471: VAON comes and goes; a cold start finds its image or waits for the host; the image is checked; the
firmware is up and says so, after a brown-out with every bank lost. -/
def Obligations.ColdStart : Prop :=
  ∀ (dt n : Nat) (src : BootSrc) (good : Byte) (tj : Int) (i : RunningImage) (rq : Req) (e : Nat) (st : Status) (s : State),
    let u := s.elapse dt
    (s.power.mode = .off →
      ∃ t, exec (.vaonRise dt) s = .next t ∧ t.power.mode = .active ∧ t.start.holds = [.pin] ∧ t.start.nextCause = .powerOn)
    ∧ (∃ t, exec (.vaonLoss dt) s = .next t ∧ t.power.mode = .off ∧ t.ports = State.reset.ports ∧ t.cfg = [] ∧ t.stats = []
        ∧ (∀ b : IoBank, t.bankUp b = false) ∧ t.flash = s.flash ∧ t.life.otpMap = s.life.otpMap 
        ∧ t.life.keyHash = s.life.keyHash ∧ t.pending = s.pending)
    ∧ (s.start.boot = .reset → s.life.shutDown = false → s.power.mode = .active → s.start.holds = [] → s.power.railsOut = [] →
      s.life.state ≠ .retired → s.life.unrepaired = [] → s.start.nextCause = .powerOn →
      (∃ t, exec (.coldStart dt .flash true) s = .next t ∧ t.start.boot = .loading ∧ t.start.load = .flash
        ∧ t.start.cause = .powerOn ∧ t.start.bootSrc = .flash ∧ t.start.starts = (s.start.starts + 1) % 4294967296
        ∧ t.start.nextCause = .powerOn ∧ t.life.failures = 0)
      ∧ (s.bankUp .cb = true → ∃ t, exec (.coldStart dt .host true) s = .next t ∧ t.start.boot = .waitHost ∧ t.start.bootErr = 0
        ∧ t.mbox.irq = s.mbox.irq ||| irqBootDone))
    ∧ (s.start.boot = .reset → s.life.shutDown = false → s.power.mode = .active → s.start.holds = [.supply] →
      exec (.coldStart dt src true) s = .next u)
    ∧ (s.start.load = .flash → s.bankUp .cb = true →
      (u.flashCheck true = .good i → exec (.bootImageChecked dt true) s = .next (u.imageStarts i))
      ∧ (u.flashCheck true = .error e st → exec (.bootImageChecked dt true) s = .next (u.waitHost e)))
    ∧ (s.start.load = .download rq n → 128 ≤ n → n = imageBytes (u.staged 0 n) →
      (imageCheck s.life.state s.life.keyHash n none (u.staged 0 n) = .good i →
        exec (.bootImageChecked dt true) s = .next ((u.complete rq .ok).imageStarts i))
      ∧ (imageCheck s.life.state s.life.keyHash n none (u.staged 0 n) = .error e st →
        exec (.bootImageChecked dt true) s =
          .next ((u.setStart (fun t => { t with load := .none, bootErr := e })).complete rq st)))
    ∧ (s.start.boot = .fwInit → s.power.mode = .active →
      let ms := divRound (s.clk + dt - s.start.releasedAt) msNs
      let w := if s.start.cause = .brownout then (List.range 7).foldl (fun t b => t.loseBank b) u else u
      let v := (w.firmwareUp.fatalNow.setStart (fun t => { t with readyAt := some (s.clk + dt), startMs := ms })).event evStart
        noUnit noUnit [causeCode s.start.cause, ms]
      exec (.fwInitDone dt good tj) s = .next v.brownoutEvents
      ∧ (s.start.cause ≠ .brownout → exec (.fwInitDone dt good tj) s = .next v))

/-- R37, R38, R371, R470, R473, R474: supplies of the banks, the die, the crystal, the calibration of a start, and a write of
the boot flash. -/
def Obligations.DeviceSupervision : Prop :=
  ∀ (dt mv : Nat) (b : IoBank) (p : Port) (temp err : Int) (w : FlashWrite) (s : State), s.runs = true →
    let u := s.elapse dt
    let sampled : Prop := ∀ n, s.start.dieAt = some n → n + 1000000 ≤ s.clk + dt
    let measured : Prop := ∀ n, s.start.xtalAt = some n → n + 1000000000 ≤ s.clk + dt
    (s.banks[bankIx b] = .absent →
      let v := u.setBank b (bankModeOf mv)
      (b = .cb ∨ b = .ab → exec (.bankSupplyRise dt b mv) s = .next v)
      ∧ (b = .tb → exec (.bankSupplyRise dt b mv) s = .next v.refBegins)
      ∧ (b = .hb p → bankModeOf mv = .v18 ∨ bankModeOf mv = .v33 → exec (.bankSupplyRise dt b mv) s = .next (v.filtersBegin p))
      ∧ (b = .hb p → bankModeOf mv = .absent ∨ bankModeOf mv = .fault → exec (.bankSupplyRise dt b mv) s = .next v))
    ∧ (s.banks[bankIx b] ≠ .absent →
      let v := u.setBank b .absent
      let down := (v.portFault p causeInterlock).setHead p (fun h => { h with ilkClosed := false })
      (b = .cb ∨ b = .ab → exec (.bankSupplyFall dt b) s = .next v)
      ∧ (b = .tb → exec (.bankSupplyFall dt b) s = .next (v.ocxoLevel false))
      ∧ (b = .hb p → s.banks[bankIx b] = .fault → exec (.bankSupplyFall dt b) s = .next v)
      ∧ (b = .hb p → s.bankUp b = true → (s.port p).head.present = false → exec (.bankSupplyFall dt b) s = .next down)
      ∧ (b = .hb p → s.bankUp b = true → (s.port p).head.present = true →
        exec (.bankSupplyFall dt b) s = .next (down.loseHead p)))
    ∧ ((∃ n, s.start.dieAt = some n ∧ s.clk + dt < n + 1000000) → exec (.dieTempSample dt temp) s = .next u)
    ∧ (sampled → 1000 < temp → temp ≤ 1100 →
      exec (.dieTempSample dt temp) s =
        .next ((u.setStart (fun x => { x with dieAt := some (s.clk + dt) })).setStart (fun x =>
          { x with dieAbove110 := 0, dieBelow100 := 0 })))
    ∧ (sampled → 1100 < temp → temp ≤ 1250 → s.start.dieAbove110 = 9 → s.start.dieHot = false →
      exec (.dieTempSample dt temp) s =
        .next ((forPorts allPorts State.portStop (((u.setStart (fun x => { x with dieAt := some (s.clk + dt) })).setStart (fun x =>
          { x with dieAbove110 := 10, dieBelow100 := 0 })).setStart (fun x => { x with dieHot := true }))).event evDieHot noUnit noUnit []))
    ∧ (measured → s.time.refState = .locked → err < -500 ∨ 500 < err → s.start.xtalBad = 0 →
      exec (.xtalCheck dt (.ppm err)) s = .next (u.setStart (fun t =>
        { t with xtalAt := some (s.clk + dt), xtalBad := 1, xtalGood := 0 })))
    ∧ ((∃ n, s.start.xtalAt = some n ∧ s.clk + dt < n + 1000000000) → exec (.xtalCheck dt (.ppm err)) s = .next u)
    ∧ (s.clk + dt < s.start.vaonAt + 1000000000 → exec (.xtalCheck dt .noEdge) s = .next u)
    ∧ (measured → s.time.refState = .locked → err < -500 ∨ 500 < err → s.start.xtalBad = 1 → s.start.xtalFault = false →
      exec (.xtalCheck dt (.ppm err)) s =
        .next (((u.setStart (fun t => { t with xtalAt := some (s.clk + dt), xtalBad := 2, xtalGood := 0 })).setStart (fun t =>
          { t with xtalFault := true, xtalGood := 0 })).event evXtalFault noUnit noUnit []))
    ∧ (∀ t0, s.start.readyAt = some t0 → s.power.mode = .active → s.start.startCalBegun = false → s.cal.run = none →
      s.startCalReady = true →
      exec (.startUpCalBegin dt) s =
        .next ((u.setStart (fun x => { x with startCalBegun := true })).runStart (portMask (fun p => (s.record p).isSome))
          (BitVec.ofNat 4 (s.fld Fld.calCfg_startSteps 0)) none false false true))
    ∧ (s.start.flashWrite = some w → s.bankUp .cb = false → exec (.flashWriteDone dt) s = .next u)
    ∧ (s.start.flashWrite = some w → s.bankUp .cb = true → w.offset ≠ 0 → w.final = false →
      exec (.flashWriteDone dt) s =
        .next (((u.flashPut (imageSlotBase s.idleSlot + w.offset) w.data).setStart (fun t =>
          { t with flashWrite := none, flashNext := w.offset + w.data.length })).complete w.req .ok))

/-- R427, R428, R434 to R436: the moves into STANDBY and back, the arming of an entry into RETAIN and its commit point. -/
def Obligations.PowerMoves : Prop :=
  ∀ (dt since t0 : Nat) (rq : Req) (r : RetainSt) (s : State),
    let u := s.elapse dt
    (s.power.move = some (rq, .standby, since) → allPorts.all u.portDark = true →
      exec (.standbyGated dt) s =
        .next ((((((u.setPower (fun w => { w with mode := .standby, move := none })).setMem (fun m =>
          { m with selfRefresh := m.trained, lastAccess := s.clk + dt })).count Ctr.powerStats_standbyEntries 0 1).groupsEval
          allGroups).outputsEval).complete rq .ok))
    ∧ (s.power.move = some (rq, .active, since) → s.power.portsAtStandby = 0 →
      exec (.clocksUngated dt) s =
        .next (((((u.setPower (fun w => { w with mode := .active, move := none })).setMem (fun m =>
          { m with selfRefresh := false })).groupsEval allGroups).outputsEval).completeResult rq .ok (leBytes 1 0)))
    ∧ (s.power.retain = some r → s.power.mode = .entering → r.armedAt = none →
      r.acceptedAt + 40960 * bankCount r.banks ≤ s.clk + dt → (∀ n, r.noisyAt = some n → n + 100000 ≤ s.clk + dt) →
      ∃ t, exec (.retainArm dt) s = .next t ∧ t.power.retain = some { r with armedAt := some (s.clk + dt) }
        ∧ t.link.stage = (if s.link.stage = .active then .active else .disabled) ∧ t.link.idleSince = some (s.clk + dt)
        ∧ t.ports = s.ports ∧ t.cfg = s.cfg
        ∧ (∀ b : Fin 8, hasBank r.banks b.val = false → t.power.signatures[b] = 0))
    ∧ (s.power.retain = some r → s.power.mode = .entering → r.armedAt = none →
      s.clk + dt < r.acceptedAt + 40960 * bankCount r.banks ∨ (∃ n, r.noisyAt = some n ∧ s.clk + dt < n + 100000) →
      exec (.retainArm dt) s = .next u)
    ∧ (s.power.retain = some r → s.power.mode = .entering → r.armedAt = some t0 → s.clk + dt < t0 + 61000 →
      exec (.commitPoint dt) s = .next u)
    ∧ (s.power.retain = some r → s.power.mode = .entering → r.armedAt = some t0 → t0 + 61000 ≤ s.clk + dt →
      ∃ t, exec (.commitPoint dt) s = .next t ∧ t.power.mode = .retain ∧ t.power.isolated = true ∧ t.power.pwrRet = true
        ∧ t.start.boot = .reset ∧ t.cfg = s.cfg ∧ t.mbox.flights = s.mbox.flights ∧ t.link = State.reset.link
        ∧ (∀ p : Port, (t.port p).head = { State.reset.ports[p].head with headChanged := (s.port p).head.headChanged }
            ∧ (t.port p).seq = State.reset.ports[p].seq ∧ (t.port p).drive = State.reset.ports[p].drive))

/-- R429, R437 to R440, R433: a wake at once, latched, replayed and aborting; brown-out; supplies good for 1.0 ms; the serial of a
head, by its transaction of up to four attempts; the end of a wake. -/
def Obligations.WakeEvents : Prop :=
  ∀ (dt t0 : Nat) (p : Port) (r : RetainSt) (xs ys : List WakeSource) (attempts : List (Option IdAttempt)) (s : State),
    s.power.retain = some r →
    let u := s.elapse dt
    (u.wakeSources xs = ys → ys ≠ [] →
      (s.power.mode = .entering → r.armedAt ≠ none → exec (.wakeEvent dt xs) s = .next (u.abortEntry r ys))
      ∧ (s.power.mode = .entering → r.armedAt = none →
        exec (.wakeEvent dt xs) s = .next (u.setRetain (fun x => { x with noisyAt := some (s.clk + dt) })))
      ∧ (s.power.mode = .retain → r.commitAt = some t0 → r.latched = none → s.clk + dt < t0 + 122071 →
        exec (.wakeEvent dt xs) s = .next (u.setRetain (fun x => { x with latched := some ys })))
      ∧ (s.power.mode = .retain → r.commitAt = some t0 → r.latched = none → t0 + 122071 ≤ s.clk + dt →
        exec (.wakeEvent dt xs) s = .next (u.wakeNow r 1 ys)))
    ∧ (s.power.mode = .retain → r.commitAt = some t0 → r.latched = some ys → t0 + 122071 ≤ s.clk + dt →
      exec (.wakeReplay dt) s = .next ((u.count Ctr.powerStats_replayed 0 1).wakeNow r 2 ys))
    ∧ (s.power.mode = .retain → r.commitAt = some t0 → r.brownout = false →
      exec (.brownout dt) s =
        .next (((u.setPower (fun w => { w with brownout := true, brownoutAt := aonCycles (s.clk + dt - t0) })).setRetain
          (fun x => { x with brownout := true })).count Ctr.powerStats_brownouts 0 1))
    ∧ (s.power.mode = .waking → r.suppliesGood = false → r.wokenAt = some t0 →
      let v := ((u.setPower (fun w => { w with isolated := false, railsOut := [] })).setRetain (fun x =>
          { x with suppliesGood := true,
                   report := { x.report with supplyWaitUs := (s.clk + dt - t0) / 1000 } })).headFilters.refBegins
      (s.clk + dt < t0 + 1000000 → exec (.wakeSuppliesGood dt) s = .next u)
      ∧ (t0 + 1000000 ≤ s.clk + dt → s.memoryBad = false → exec (.wakeSuppliesGood dt) s = .next v.bootLoad)
      ∧ (t0 + 1000000 ≤ s.clk + dt → s.memoryBad = true → exec (.wakeSuppliesGood dt) s = .next (v.waitHost 8)))
    ∧ (s.runs = true → maskHas r.serialChecks p = true → (s.port p).head.present = true →
      (s.port p).head.idState = .reading → (s.port p).head.read = none → serialWhole attempts = true →
      (s.port p).head.presAt + (10 + 25 * (attempts.filter (·.isNone)).length) * 1000000 ≤ s.clk + dt →
      ∃ t, exec (.wakeSerialCheck dt p attempts) s = .next t ∧ t.cfg = s.cfg ∧ (t.port p).head.bus = serialBus attempts
        ∧ (serialOf attempts = some (bytesAt r.kept[p] 8 16) →
          (t.port p).head.idState = .accepted ∧ (t.port p).head.record = r.kept[p])
        ∧ (serialOf attempts ≠ some (bytesAt r.kept[p] 8 16) → (t.port p).head.idState = .reading
          ∧ (t.port p).head.read = some (newRead ((s.port p).head.presAt + 100000000) none)))
    ∧ (s.power.mode = .waking → s.wakeReady = true → u.wakeResumes r = false →
      let rep := { r.report with
        resumed := false, presChanged := portMask (fun p => (s.port p).head.present != maskHas r.presence p) }
      let v := ((u.setPower (fun w => { w with mode := .standby, retain := none, lastWake := rep })).count
        Ctr.powerStats_standbyEntries 0 1).setMem (fun m => { m with selfRefresh := m.trained, lastAccess := s.clk + dt })
      exec (.wakeComplete dt) s =
        .next ((((v.groupsEval allGroups).outputsEval).completeWith r.req .ok noFlags [] (reportBytes rep)).event evWake noUnit
          noUnit [rep.kind, rep.cause, rep.banksFailed.toNat]))

/-- R447 to R460: the end of a shutdown self-test and of a per-block test; a life-cycle move is programmed; the test port. -/
def Obligations.SelfTestAndLifeCycle : Prop :=
  ∀ (dt since : Nat) (res : TestResult) (rq : Req) (target : LifeCycle) (hash : List Byte) (j : JtagInstr) (bits : List Bool)
    (s : State),
    let u := s.elapse dt
    (s.life.test = .shutdown since → since + shutdownTestNs s.life.otpMap (res.repairs.take 512) ≤ s.clk + dt →
      (∀ y ∈ res.records, shutdownTests y.memId = true ∧ recordOk 0 y = true) →
      ∃ t, exec (.shutdownSelftestDone dt res) s = .next t ∧ t.life.shutDown = true ∧ t.life.test = .none
        ∧ t.start.boot = .reset ∧ t.life.outcome = outcomeOf res.records ∧ t.life.aonMap = res.repairs.take 512
        ∧ t.life.shutRecords = res.records.take 256 ∧ t.life.setBit = false ∧ t.life.startsSince = 0
        ∧ t.life.otpMap = (addEntries s.life.otpMap (res.repairs.take 512)).take 512 ∧ t.life.unrepaired = badMemories res.records)
    ∧ (s.life.test = .shutdown since → s.clk + dt < since + 85000000 → exec (.shutdownSelftestDone dt res) s = .next u)
    ∧ (∀ memId inst pat, s.life.test = .block rq memId inst pat since → (pat = 3 → since + 100000000 ≤ s.clk + dt) →
      res.records.any beyondRepair = false →
      (∀ y ∈ res.records, y.memId = memId ∧ y.inst = inst ∧ recordOk pat y = true) →
      ∃ v : State, exec (.selftestBlockDone dt res) s =
          .next ((v.event evSelftestDone noUnit noUnit
            [memId, inst, (res.records.filter (fun x => x.kind = 3)).length]).completeResult rq .ok
            (leBytes 4 (min 256 res.records.length) ++ leBytes 4 (res.records.filter (fun x => x.kind = 3)).length
              ++ leBytes 4 (divRound (s.clk + dt - since) msNs)))
        ∧ v.life.test = .none ∧ v.life.blockRecords = res.records.take 256 ∧ v.life.setBit = true
        ∧ v.life.outcome = outcomeOf res.records ∧ v.life.aonMap = (addEntries s.life.aonMap res.repairs).take 512
        ∧ v.life.applied = addEntries s.life.applied res.repairs ∧ v.life.otpMap = s.life.otpMap)
    ∧ (s.life.setting = some (rq, target, hash) → (target = .retired → allPorts.all u.portDark = true) →
      ∃ t, exec (.lifecycleProgrammed dt) s = .next t ∧ t.life.state = target ∧ t.life.keyHash = hash ∧ t.life.setting = none
        ∧ (target = .retired → t.start.resetPending = some (s.clk + dt))
        ∧ (target = .deployed → t.life.blockRecords = [] ∧ t.life.rawBitmap = []))
    ∧ (s.life.setting = some (rq, .retired, hash) → allPorts.all u.portDark = false →
      exec (.lifecycleProgrammed dt) s = .next u)
    ∧ exec (.boundaryScanAccess dt .reset) s =
        .next (u.setLife (fun l => { l with jtagIr := .idcode, jtagDr := idcodeBits }))
    ∧ (s.bankUp .cb = true → jtagAllowed s.life.state j = true →
      exec (.boundaryScanAccess dt (.instruction j)) s =
        .next (u.setLife (fun l => { l with jtagIr := j, jtagDr := jtagCapture j })))
    ∧ (s.bankUp .cb = true → jtagAllowed s.life.state j = false →
      exec (.boundaryScanAccess dt (.instruction j)) s =
        .next (u.setLife (fun l => { l with jtagIr := .bypass, jtagDr := [false] })))
    ∧ (s.bankUp .cb = true → exec (.boundaryScanAccess dt (.shift bits)) s =
        .next (u.setLife (fun l => { l with jtagDr := (l.jtagDr ++ bits).drop bits.length })))
    ∧ (s.bankUp .cb = false → ∀ op, exec (.boundaryScanAccess dt op) s =
        .next (u.setLife (fun l => { l with jtagIr := .idcode, jtagDr := idcodeBits })))

/-- R37, R41 to R44, R46 to R49, R53: the level of every ball without a supply of its own, in a reset, behind an engaged clamp;
RESET_N low puts all outputs in their Reset states, and the commit point all clamped ones in their Clamp states, PWR_RET high.
-/
def Obligations.LevelsAtTheBalls : Prop :=
  ∀ (dt t0 : Nat) (b : Ball) (l : Level) (r : RetainSt) (s : State),
    let dead (t : State) : Prop :=
      (∃ k, b.bank = some k ∧ t.bankUp k = false) ∨ (∃ x ∈ b.rails, x ∈ t.power.railsOut) ∨ t.power.mode = .off
    (dead s → s.ballLevel b = .highZ)
    ∧ (¬ dead s → s.start.holds ≠ [] → s.ballLevel b = b.reset)
    ∧ (¬ dead s → s.start.holds = [] → s.life.shutDown = false → s.shutTest = false → b.clamp = some l →
      s.power.isolated = true ∨ (∃ p, b.slice = some p ∧ s.accepts p = false) → s.ballLevel b = l)
    ∧ (s.start.holds = [] → s.power.mode ≠ .off →
      ∃ t, exec (.resetAssert dt) s = .next t ∧ (dead t ↔ dead s) ∧ (¬ dead t → t.ballLevel b = b.reset))
    ∧ (s.power.retain = some r → s.power.mode = .entering → r.armedAt = some t0 → t0 + 61000 ≤ s.clk + dt →
      s.start.holds = [] → s.life.shutDown = false →
      ∃ t, exec (.commitPoint dt) s = .next t ∧ (dead t ↔ dead s) ∧ (¬ dead t → b.clamp = some l → t.ballLevel b = l)
        ∧ (¬ dead t → b = .pwrRet → t.ballLevel b = .high))

/-! ## Commands of the host -/

/-- R345, R347, R349, R351, R356, R357: a command of the table, with its own parameters and a timeout within its row, begins
on a ready device with no command in flight; one that the state, its parameters or the timeout refuse completes at once with
its status. -/
def Obligations.HostCommandBegins : Prop :=
  ∀ (dt : Nat) (rq : Req) (code : Nat) (row : CmdRow) (params ps : List Byte) (body : State → State) (s : State),
    let u := s.elapse dt
    s.mbox.flights = [] → u.serving rq.route = .full → cmdRow code = some row →
    (u.gate rq code = none → paramsOf row.shape params = none → s.runCmd dt rq code params body = u.complete rq .badParam)
    ∧ (paramsOf row.shape params = some ps →
    (∀ st, u.gate rq code = some st → s.runCmd dt rq code params body = u.complete rq st)
    ∧ (u.gate rq code = none → row.most < rq.timeout.toNat → s.runCmd dt rq code params body = u.complete rq .badParam)
    ∧ (u.gate rq code = none → rq.timeout.toNat ≤ row.most → params = ps →
      let f : Flight := ⟨rq.tag, rq.seq, rq.route, code, ps, if rq.timeout = 0 then row.dflt else rq.timeout.toNat, s.clk + dt, true⟩
      s.began dt rq code params = some (u.setMbox (fun m => { m with flights := [f] }))
        ∧ s.runCmd dt rq code params body = body (u.setMbox (fun m => { m with flights := [f] }))))

/-- R355, R358, R364, R388, R453, R492, R496: the commands that only read, and what they answer. -/
def Obligations.HostReads : Prop :=
  ∀ (dt : Nat) (rq : Req) (first index : Word) (count : Byte) (block inst word h : Half) (b : BlockDesc) (s u : State),
    (s.began dt rq 0x01 [] = some u →
      exec (.identify dt rq) s =
        .next (u.completeWith rq .ok noFlags []
          (leBytes 4 0x1086404C ++ leBytes 4 u.fwId ++ leBytes 4 (lifeCode u.life.state) ++ deviceSerial
            ++ allPorts.flatMap u.serialOf)))
    ∧ (s.began dt rq 0x02 [] = some u → u.romAnswers = false →
      exec (.status dt rq) s =
        .next (u.completeResult rq .ok (leBytes 2 u.devState
          ++ allPorts.map (fun p => BitVec.ofNat 8 (modeCode (s.port p).seq.mode)) ++ leBytes 1 (linkCode s.link.stage)
          ++ zeros 1)))
    ∧ (s.began dt rq 0x03 (param 4 first.toNat ++ param 1 count.toNat) = some u →
      let ring := s.detect.ring
      let back := (s.detect.nextRun - first).toNat
      let oldest := s.detect.nextRun - BitVec.ofNat 32 ring.length
      let bounds (k : Nat) : List Byte := leBytes 4 oldest.toNat ++ leBytes 4 s.detect.nextRun.toNat ++ leBytes 4 k
      let got := (ring.drop (ring.length - back)).take count.toNat
      (count.toNat = 0 ∨ 7 < count.toNat → exec (.eventQuery dt rq first count) s = .next (u.complete rq .badParam))
      ∧ (1 ≤ count.toNat → count.toNat ≤ 7 → ring.length < back →
        exec (.eventQuery dt rq first count) s = .next (u.completeResult rq .badParam (bounds 0)))
      ∧ (1 ≤ count.toNat → count.toNat ≤ 7 → back ≤ ring.length →
        exec (.eventQuery dt rq first count) s = .next (u.completeWith rq .ok noFlags (bounds got.length) got.flatten)))
    ∧ (s.began dt rq 0x10 (leBytes 2 block.toNat ++ leBytes 2 inst.toNat ++ leBytes 2 word.toNat ++ leBytes 1 count.toNat ++ [0])
        = some u → blockOf block.toNat = some b → hasInst b inst.toNat = true → block.toNat ≠ 0x1E → 1 ≤ count.toNat →
      count.toNat ≤ 28 → word.toNat + count.toNat ≤ b.words →
      let held := shadowBits b s.held inst.toNat word.toNat count.toNat
      let pend := shadowBits b (s.pend ++ s.held) inst.toNat word.toNat count.toNat
      let ws := u.blockWords b inst.toNat word.toNat count.toNat
      exec (.paramRead dt rq block inst word count) s =
        .next (u.completeWith rq .ok ⟨pend ≠ 0, held ≠ 0⟩ []
          (leBytes 4 pend ++ leBytes 4 held ++ ws.1.flatMap (leBytes 4) ++ ws.2.flatMap (leBytes 4))))
    ∧ (s.began dt rq 0x91 (param 2 h.toNat ++ param 1 count.toNat) = some u →
      let r := tiReadOf s.time.ti h.toNat count.toNat
      exec (.tiRead dt rq h count) s = .next (u.completeWith rq r.1 noFlags r.2.1 r.2.2))
    ∧ (s.began dt rq 0x74 (param 4 0) = some u → s.life.state ≠ .retired →
      exec (.selftestResult dt rq 0) s = .next (u.completeResult rq .ok u.testSummary))
    ∧ (s.began dt rq 0x74 (param 4 index.toNat) = some u → s.life.state ≠ .retired → 1 ≤ index.toNat → index.toNat ≤ 256 →
      index.toNat ≤ s.life.shutRecords.length →
      exec (.selftestResult dt rq index) s =
        .next (u.completeWith rq .ok noFlags [] (((s.life.shutRecords.drop (index.toNat - 1)).take 14).flatMap failRecord)))

/-- R355, R359 to R365: PARAM_WRITE of words that pass every check takes effect, waits or is held, and one that fails a check
changes nothing but the mailbox; COMMIT judges all held values and releases them together; COMMIT and DISCARD of held values;
CLEAR_STATS. -/
def Obligations.HostParameters : Prop :=
  ∀ (dt : Nat) (rq : Req) (block inst word : Half) (flags : Byte) (words : List (Word × Word)) (b : BlockDesc)
    (ws : List FieldWrite) (st : Status) (s u : State),
    (s.began dt rq 0x11 (paramWriteBytes block inst word flags words) = some u → flags.toNat ≤ 1 →
      writeShape block.toNat inst.toNat word.toNat words.length = none → blockOf block.toNat = some b →
      fieldWrites b inst.toNat (writeNums word.toNat words) = some ws → u.writeTested ws = false →
      (u.fieldFails ws = some st → exec (.paramWrite dt rq block inst word flags words) s = .next (u.complete rq st))
      ∧ (∀ z, u.fieldFails ws = none → u.writeFails ws (judgedPlaces (flags.toNat = 1) (placesOf (ws.map FieldWrite.at_))) = some (st, z) →
        exec (.paramWrite dt rq block inst word flags words) s = .next (u.complete rq st))
      ∧ (u.fieldFails ws = none → u.writeFails ws (judgedPlaces (flags.toNat = 1) (placesOf (ws.map FieldWrite.at_))) = none →
        let r := u.applyWrites ws (flags.toNat = 1)
        exec (.paramWrite dt rq block inst word flags words) s = .next (r.1.completeWith rq .ok ⟨false, r.2⟩ [] [])))
    ∧ (s.began dt rq 0x12 (param 1 1) = some u →
      exec (.commit dt rq 1) s = .next ({ u with held := [] }.completeResult rq .ok (leBytes 4 s.held.length)))
    ∧ (s.began dt rq 0x12 (param 1 0) = some u → s.held = [] →
      ∃ v : State, exec (.commit dt rq 0) s = .next (v.completeResult rq .ok (leBytes 4 0)) ∧ v.cfg = s.cfg ∧ v.pend = s.pend)
    ∧ (s.began dt rq 0x12 (param 1 0) = some u →
      let hs := s.held.filterMap (fun e => (fieldAt e.1).map (fun f => (⟨f, keyInst e.1, e.2⟩ : FieldWrite)))
      u.writeTested hs = false →
      (∀ c i, u.writeFails hs (placesOf (hs.map FieldWrite.at_)) = some (st, c, i) →
        exec (.commit dt rq 0) s = .next (u.completeResult rq st (zeros 4 ++ leBytes 2 c ++ leBytes 2 i)))
      ∧ (u.writeFails hs (placesOf (hs.map FieldWrite.at_)) = none →
        exec (.commit dt rq 0) s =
          .next ((({ u with held := [] } : State).shadow s.held).completeResult rq .ok (leBytes 4 s.held.length))))
    ∧ (s.began dt rq 0x04 (param 2 0xFFFF ++ param 2 0xFFFF) = some u →
      ∃ t, exec (.clearStats dt rq 0xFFFF 0xFFFF) s = .next t
        ∧ (∀ p : Port, (t.port p).rx.clipSeen = false ∧ (t.port p).rx.ovldSeen = false)
        ∧ (∀ e ∈ t.stats, (paramBlocks.filter (fun b => b.kind = .stats)).any (fun b => e.1 / 4194304 = b.id) = false))

/-- R73, R101, R109, R110, R121, R495: PORT_START, PORT_STOP, HEAD_RESCAN, CLEAR_FAULT and LAUNCH_SHOT. -/
def Obligations.HostPorts : Prop :=
  ∀ (dt : Nat) (rq : Req) (ports : Byte) (p : Port) (k : Fin 4) (z : Nat) (st : Status) (s u : State),
    let pb : Byte := BitVec.ofNat 8 p.val
    (s.began dt rq 0x20 (param 1 ports.toNat) = some u →
      ((∀ q ∈ maskPorts ports, u.enableFails q = none) →
        exec (.portStart dt rq ports) s = .next (((maskPorts ports).foldl (fun t q => t.portEnable q) u).complete rq .ok))
      ∧ (∀ qs, maskPorts ports = p :: qs → u.enableFails p = some (st, z) →
        (st ≠ .busySelftest ∨ qs ≠ [] →
          exec (.portStart dt rq ports) s = .next (u.completeResult rq st (leBytes 4 p.val ++ leBytes 4 z)))
        ∧ (st = .busySelftest → qs = [] → exec (.portStart dt rq ports) s = .next (u.busyTest rq))))
    ∧ (s.began dt rq 0x21 (param 1 ports.toNat) = some u →
      exec (.portStop dt rq ports) s = .next ((forPorts (maskPorts ports) State.portStop u).complete rq .ok))
    ∧ (s.began dt rq 0x22 (param 1 pb.toNat) = some u → (s.port p).head.present = true →
      (s.port p).head.idState ≠ .reading → (s.port p).seq.mode = .stopped ∨ (s.port p).seq.mode = .shut →
      exec (.headRescan dt rq pb) s =
        .next (u.setHead p (fun x =>
          { x with idState := .reading, rejectCause := 0, badOffset := 0, read := some (newRead (s.clk + dt) (some rq)) })))
    ∧ (s.began dt rq 0x23 (param 1 pb.toNat) = some u →
      ((s.port p).drive.latched = false → exec (.clearFault dt rq pb) s = .next (u.complete rq .ok))
      ∧ ((s.port p).drive.latched = true → (∀ c : Fin 10, (s.port p).drive.causeMask.getLsbD c.val = true →
          u.clearable p (c.val + 1) = true) →
        exec (.clearFault dt rq pb) s =
          .next (((u.setDrive p (fun x => { x with latched := false, firstCause := 0, emitter := 0, causeMask := 0 })).setSeq p
            (fun q => { q with mode := .stopped })).complete rq .ok))
      ∧ (∀ c : Fin 10, (s.port p).drive.latched = true → (s.port p).drive.causeMask.getLsbD c.val = true →
        u.clearable p (c.val + 1) = false → exec (.clearFault dt rq pb) s = .next (u.complete rq .faultPresent)))
    ∧ (s.began dt rq 0x24 (param 1 pb.toNat ++ param 1 k.val) = some u →
      (∀ f, u.inActive = true → u.flightOf rq.tag = some f →
        exec (.launchShot dt rq pb (BitVec.ofNat 8 k.val)) s =
          .next (u.setSeq p (fun q =>
            { q with requests := q.requests ++ [⟨rq, k, up10 (u.tb - (s.clk + dt - f.acceptedAt) + 1000), false⟩] })))
      ∧ (u.inActive = false →
        exec (.launchShot dt rq pb (BitVec.ofNat 8 k.val)) s = .next (u.complete rq .badState)))

/-- R214 to R216, R238, R246, R292, R306, R370, R371: images and jobs are checked and taken as the command is accepted; the
work goes on without it. -/
def Obligations.HostLoads : Prop :=
  ∀ (dt : Nat) (rq : Req) (slot pb : Byte) (off n : Word) (prog : Program) (desc : List Byte) (p : Port) (st : Status)
    (s u : State),
    let release := match s.start.image with
      | some i => i.release
      | none => 0
    let img := u.staged off.toNat n.toNat
    let verdict := programCheck s.life.state s.life.keyHash release (codeTotal (Tab.erase s.clove.programs slot.toNat)) img
    let waits (use : DecUse) : State := u.setSumac (fun x => { x with decJobs := x.decJobs ++ [⟨rq, use, img⟩] })
    (s.began dt rq 0x30 (param 1 slot.toNat ++ param 4 off.toNat ++ param 4 n.toNat) = some u → 8 ≤ slot.toNat →
      slot.toNat ≤ 15 → off.toNat + n.toNat ≤ stagingMapped → s.programUsed slot.toNat = false → s.clove.load = none →
      (verdict = .bad st → exec (.loadProgram dt rq slot off n) s = .next (u.complete rq st))
      ∧ (verdict = .good prog → exec (.loadProgram dt rq slot off n) s = .next (u.loadBegin rq slot.toNat prog)))
    ∧ (s.began dt rq 0x31 (param 1 slot.toNat) = some u → 8 ≤ slot.toNat → slot.toNat ≤ 15 →
      s.programUsed slot.toNat = false → s.clove.load = none →
      exec (.unloadProgram dt rq slot) s =
        .next ((u.setClove (fun c => { c with programs := Tab.erase c.programs slot.toNat })).relayEngines.complete rq .ok))
    ∧ (s.began dt rq 0x40 (param 4 off.toNat ++ param 4 n.toNat) = some u → u.testOn 0x06 0 = false →
      off.toNat + n.toNat ≤ stagingMapped → exec (.loadZonePack dt rq off n) s = .next (waits .zonePack))
    ∧ (s.began dt rq 0x41 (param 4 off.toNat ++ param 4 n.toNat) = some u → off.toNat + n.toNat ≤ stagingMapped →
      exec (.loadBaselines dt rq off n) s = .next (waits .baselines))
    ∧ (s.began dt rq 0x52 (param 1 pb.toNat ++ param 4 off.toNat ++ param 4 n.toNat) = some u → pb.toNat = p.val →
      off.toNat + n.toNat ≤ stagingMapped →
      (s.flag Fld.mask_en p.val = false → exec (.loadMask dt rq pb off n) s = .next (waits (.mask p)))
      ∧ (s.flag Fld.mask_en p.val = true → exec (.loadMask dt rq pb off n) s = .next (u.complete rq .locked)))
    ∧ (s.began dt rq 0x55 desc = some u → desc.length = 224 →
      (u.jobOk desc = false → exec (.sumacJob dt rq desc) s = .next (u.complete rq .badParam))
      ∧ (u.jobOk desc = true → u8At desc 0 = 1 →
        ∃ t, exec (.sumacJob dt rq desc) s = .next t
          ∧ t.sumac = SumacSt.fillLanes
              { s.sumac with blockJobs := s.sumac.blockJobs ++ [(rq, desc, u.devRead (u64At desc 8) (u32At desc 4))] }
          ∧ t.mbox = u.mbox))
    ∧ (s.began dt rq 0xA0 (param 4 n.toNat) = some u → s.start.boot = .waitHost → s.start.bootErr ≠ 8 →
      s.life.state ≠ .retired → s.start.load = .none → n.toNat ≤ imageSlotBytes →
      exec (.fwDownload dt rq n) s = .next (u.setStart (fun t => { t with load := .download rq n.toNat })))
    ∧ (s.began dt rq 0xA1 (param 4 off.toNat ++ param 4 n.toNat ++ param 1 1) = some u → s.start.flashWrite = none →
      1 ≤ n.toNat → n.toNat ≤ stagingMapped → off.toNat + n.toNat ≤ imageSlotBytes →
      off.toNat = 0 ∨ off.toNat = s.start.flashNext →
      exec (.fwFlashWrite dt rq off n 1) s =
        .next (u.setStart (fun t => { t with flashWrite := some ⟨rq, off.toNat, u.staged 0 n.toNat, true⟩ })))

/-- R213, R259, R280, R291, R295: ENGINE_RESET of an idle engine, ACK_GROUP, SNAP_READ, SNAP_RELEASE, MASK_REARM and
CAPMEM_RETRAIN. -/
def Obligations.HostDetection : Prop :=
  ∀ (dt : Nat) (rq : Req) (cl en g pb : Byte) (id : Word) (stream : Half) (n : Snapshot) (e : EngineId) (gr : GroupId)
    (p : Port) (s u : State),
    (s.began dt rq 0x32 (param 1 cl.toNat ++ param 1 en.toNat) = some u → cl.toNat ≤ 7 → en.toNat ≤ 3 →
      e.val = 4 * cl.toNat + en.toNat → u.testOn 0x01 e.val = false → u.testOn 0x02 e.val = false → (s.engine e).mode = .idle →
      exec (.engineReset dt rq cl en) s =
        .next ((u.setEngine e (fun y =>
          { EngineSt.reset with pmem := y.pmem, holds := y.holds, dmem := y.dmem, cycles := y.cycles,
                                busySince := y.busySince, mode := y.mode })).complete rq .ok))
    ∧ (s.began dt rq 0x42 (param 1 g.toNat) = some u → g.toNat = gr.val →
      ((s.group gr).activeZones ≠ 0 → exec (.ackGroup dt rq g) s = .next (u.complete rq .busy))
      ∧ ((s.group gr).activeZones = 0 → (s.group gr).latched = false → exec (.ackGroup dt rq g) s = .next (u.complete rq .ok))
      ∧ ((s.group gr).activeZones = 0 → (s.group gr).latched = true →
        exec (.ackGroup dt rq g) s =
          .next ((((u.setGroup gr (fun y => { y with active := false, latched := false })).sendSummary gr false).outputsEval).complete
            rq .ok)))
    ∧ (s.began dt rq 0x50 (param 4 id.toNat ++ param 2 stream.toNat ++ param 1 0) = some u →
      s.capture.snapshots.find? (fun n => n.id = id.toNat) = some n → s.flag Fld.stream_en stream.toNat = true →
      s.streamClass stream.toNat = clsSnapshot → n.published = true →
      s.capture.readouts.any (fun r => r.stream = stream.toNat) = false →
      let recs := u.snapRecords n
      exec (.snapRead dt rq id stream 0) s =
        .next ((u.setCapture (fun c =>
          { c with readouts := c.readouts ++ [⟨rq, id.toNat, stream.toNat, false,
              ⟨typSnapHeader, 0xFF, 0, 0, stream.toNat, snapHeader n (recsBytes recs)⟩ :: recs, 0, 0, false⟩] })).readoutStep
            stream.toNat))
    ∧ (s.began dt rq 0x51 (param 4 id.toNat) = some u → s.capture.snapshots.find? (fun n => n.id = id.toNat) = some n →
      n.published = true → s.capture.readouts.any (fun r => r.snapId = id.toNat) = false →
      exec (.snapRelease dt rq id) s = .next ((u.freeSnap id.toNat).complete rq .ok))
    ∧ (s.began dt rq 0x53 (param 1 pb.toNat) = some u → pb.toNat = p.val →
      ((s.mask p).snapId ≠ none → exec (.maskRearm dt rq pb) s = .next (u.complete rq .busy))
      ∧ ((s.mask p).snapId = none → (∀ k : RingKind, (s.ring p k).mode ≠ .frozen) → (s.port p).seq.mode ≠ .halted →
        exec (.maskRearm dt rq pb) s =
          .next ((u.setMask p (fun x =>
            { x with stopped := false, traces := [], taking := false, owed := false, lastRuns := [] })).complete
              rq .ok)))
    ∧ (s.began dt rq 0x54 [] = some u →
      (u.captureInUse = true → exec (.capmemRetrain dt rq) s = .next (u.complete rq .locked))
      ∧ (u.captureInUse = false → s.capture.mem.training = none →
        exec (.capmemRetrain dt rq) s =
          .next (u.setMem (fun m => { m with trained := false, training := some (some rq) }))))

/-- R323, R325, R337, R426 to R428, R434, R468: LINK_RESTART, LINK_LOOP, POWER_STATE and DEVICE_RESET. -/
def Obligations.HostLinkAndPower : Prop :=
  ∀ (dt : Nat) (rq : Req) (mode pattern lanes : Byte) (time : Half) (banks : Byte) (s u : State),
    (s.began dt rq 0x60 [] = some u → exec (.linkRestart dt rq) s = .next (u.complete rq .ok).linkRestart)
    ∧ (s.began dt rq 0x61 (param 1 mode.toNat ++ param 1 pattern.toNat ++ param 1 lanes.toNat ++ param 2 time.toNat) = some u →
      1 ≤ mode.toNat → mode.toNat ≤ 3 → pattern.toNat = 0 → 1 ≤ time.toNat → s.link.stage ≠ .disabled →
      let run (tag : Option (BitVec 6)) : State := u.setLink (fun l =>
        { l with loop := some ⟨mode.toNat, 0, BitVec.ofNat 8 lanes.toNat, time.toNat, tag, s.clk + dt, 0, false⟩ })
      (rq.route = .link →
        exec (.linkLoop dt rq mode pattern lanes time) s = .next ((run (some rq.tag)).complete rq .ok).loopSent)
      ∧ (rq.route = .controlPort → exec (.linkLoop dt rq mode pattern lanes time) s = .next ((run none).loopBegin.complete rq .ok)))
    ∧ (s.began dt rq 0x70 (param 1 1 ++ param 1 0) = some u → u.blockTest = false → s.power.move = none →
      (s.power.mode = .active → exec (.powerState dt rq 1 0) s = .next (u.toStandby rq))
      ∧ (s.power.mode = .standby → exec (.powerState dt rq 1 0) s = .next (u.complete rq .ok)))
    ∧ (s.began dt rq 0x70 (param 1 0 ++ param 1 0) = some u → u.blockTest = false → s.power.move = none →
      s.power.mode = .standby →
      exec (.powerState dt rq 0 0) s = .next (u.setPower (fun w => { w with move := some (rq, .active, s.clk + dt) })))
    ∧ (s.began dt rq 0x70 (param 1 2 ++ param 1 banks.toNat) = some u → u.blockTest = false → s.power.move = none →
      (∀ st, u.retainFails rq banks = some st → exec (.powerState dt rq 2 banks) s = .next (u.complete rq st))
      ∧ (u.retainFails rq banks = none → exec (.powerState dt rq 2 banks) s = .next (u.toRetain rq banks))
      ∧ (s.power.mode ≠ .standby → u.retainFails rq banks = some .badState))
    ∧ (s.began dt rq 0x05 [] = some u →
      exec (.deviceReset dt rq) s =
        .next ((u.complete rq .ok).setStart (fun t => { t with resetPending := some (s.clk + dt) })))

/-- R446 to R448, R455, R459 to R462: SHUTDOWN, ABORT_SELFTEST, SELFTEST_RUN, SERVICE_CHALLENGE, SERVICE_RESPONSE and
LIFECYCLE_SET. -/
def Obligations.HostTestAndLife : Prop :=
  ∀ (dt : Nat) (rq test : Req) (block : Half) (pattern : Byte) (sig : List Byte) (m i q t0 n : Nat) (s u : State),
    (∀ f : Byte, f.toNat ≤ 1 → s.began dt rq 0x71 (param 1 f.toNat) = some u → s.power.mode = .standby → s.power.move = none →
      u.blockTest = false →
      (rq.route = .controlPort →
        exec (.shutdown dt rq f) s = .next ((u.complete rq .ok).shutBegin (u.acceptedAt rq) (f.toNat = 1)))
      ∧ (rq.route = .link →
        exec (.shutdown dt rq f) s =
          .next ((u.complete rq .ok).setLife (fun l =>
            { l with shutNext := some (rq.tag, u.acceptedAt rq, decide (f.toNat = 1)) })).shutGo))
    ∧ (s.began dt rq 0x72 [] = some u →
      (s.life.test = .none → exec (.abortSelftest dt rq) s = .next (u.complete rq .badState))
      ∧ (s.life.test = .block test m i q t0 →
        exec (.abortSelftest dt rq) s = .next ((u.stopBlockTest.complete test .aborted).complete rq .ok))
      ∧ (s.life.test = .shutdown t0 →
        exec (.abortSelftest dt rq) s =
          .next (((u.setLife (fun l => { l with outcome := 4 })).complete rq .ok).shutDownNow)))
    ∧ (s.began dt rq 0x73 (param 2 block.toNat ++ param 1 pattern.toNat) = some u → openLife s.life.state = true →
      s.power.mode = .active ∨ s.power.mode = .standby → blockInstances (block.toNat / 256) = some n →
      block.toNat % 256 < n → pattern.toNat ≤ 3 → u.blockTest = false →
      (u.blockFree (block.toNat / 256) (block.toNat % 256) = true →
        exec (.selftestRun dt rq block pattern) s =
          .next (u.setLife (fun l =>
            { l with test := .block rq (block.toNat / 256) (block.toNat % 256) pattern.toNat (s.clk + dt) })))
      ∧ (u.blockFree (block.toNat / 256) (block.toNat % 256) = false →
        exec (.selftestRun dt rq block pattern) s = .next (u.complete rq .locked)))
    ∧ (s.began dt rq 0x75 [] = some u → s.life.state = .deployed →
      (s.life.failures < 5 → ∃ v : State, ∃ c,
        exec (.serviceChallenge dt rq) s = .next (v.completeWith rq .ok noFlags [] c)
          ∧ v.life = { s.life with challenge := some (c, s.clk + dt) } ∧ v.mbox = u.mbox)
      ∧ (5 ≤ s.life.failures → exec (.serviceChallenge dt rq) s = .next (u.complete rq .denied)))
    ∧ (s.began dt rq 0x76 sig = some u →
      exec (.serviceResponse dt rq sig) s =
        .next (if u.responseGood sig then
            ((u.setLife (fun l => { l with state := .service, challenge := none })).event evLifecycle noUnit noUnit
              [lifeCode .service]).complete rq .ok
          else
            (u.setLife (fun l => { l with challenge := none, failures := l.failures + 1 })).complete rq .denied))
    ∧ (s.began dt rq 0x77 (param 1 1) = some u → u.blockTest = false → s.life.setting = none → s.life.state = .blank →
      let key := u.staged 0 64
      (onP256 (beNat (key.take 32)) (beNat (key.drop 32)) = true →
        exec (.lifecycleSet dt rq 1) s = .next (u.setLife (fun l => { l with setting := some (rq, .factory, sha256 key) })))
      ∧ (onP256 (beNat (key.take 32)) (beNat (key.drop 32)) = false →
        exec (.lifecycleSet dt rq 1) s = .next (u.complete rq .badParam)))

/-- R384, R415, R416, R420, R421: CAL_RUN, CAL_SET_REFRES, CAL_SET_BATH and TI_ARM. -/
def Obligations.HostCalibration : Prop :=
  ∀ (dt : Nat) (rq : Req) (ports pb : Byte) (steps : Half) (v temp : Word) (params : List Byte) (a : TiArm) (p : Port)
    (r : List Byte) (s u : State),
    (s.began dt rq 0x80 (param 1 ports.toNat ++ param 2 steps.toNat) = some u → s.cal.run = none → u.inActive = true →
      ports ≠ 0 → 1 ≤ steps.toNat → steps.toNat < 16 → (∀ q ∈ maskPorts ports, s.record q ≠ none) →
      let t := if rq.timeout = 0 then 10000 else rq.timeout.toNat
      let sm := BitVec.ofNat 4 steps.toNat
      (u.calEstimate ports sm ≤ t * 1000000 →
        exec (.calRun dt rq ports steps) s = .next (u.runStart ports sm (some rq) false false false))
      ∧ (t * 1000000 < u.calEstimate ports sm → exec (.calRun dt rq ports steps) s = .next (u.complete rq .badParam)))
    ∧ (s.began dt rq 0x81 (param 4 v.toNat) = some u → s.cal.run = none →
      (95000 ≤ v.toNat → v.toNat ≤ 105000 →
        exec (.calSetRefres dt rq v) s = .next ((u.setFld Fld.calCfg_refresMohm 0 v.toNat).complete rq .ok))
      ∧ (v.toNat < 95000 ∨ 105000 < v.toNat → exec (.calSetRefres dt rq v) s = .next (u.complete rq .badParam)))
    ∧ (s.began dt rq 0x82 (param 1 pb.toNat ++ param 4 temp.toNat) = some u → pb.toNat = p.val → s.record p = some r →
      -40000 ≤ temp.toInt → temp.toInt ≤ 85000 →
      s.fld Fld.calPort_bathFirst p.val + 15 ≤ s.fld Fld.calPort_bathLast p.val →
      s.fld Fld.calPort_bathLast p.val < s.fld Fld.seqPort_fibreLen p.val →
      10000 * s.fld Fld.seqPort_groupIndex p.val ≤ (twiceFromCoil (s.ramanCoef p) (s.fld Fld.calPort_bathFirst p.val)
        (s.fld Fld.calPort_bathLast p.val)).natAbs * 14989623 →
      u.calOn .raman p = false →
      exec (.calSetBath dt rq pb temp) s =
        .next (((u.setCalPort p (fun c => { c with bath := some temp.toInt, coefSerial := bytesAt r 8 16 })).setHead p
          (fun h => { h with headChanged := false })).complete rq .ok))
    ∧ (s.began dt rq 0x90 params = some u → params.length = 28 → tiParams params = some a → u.skewRuns = false →
      u.inActive = true →
      (a.src = 0 →
        exec (.tiArm dt rq params) s = .next ((u.setTi (fun t => { t with arm := none, meas := none, excess := none, fired := 0 })).complete rq .ok))
      ∧ (a.src ≠ 0 → s.time.ti.arm = none →
        exec (.tiArm dt rq params) s =
          .next ((u.setTi (fun t => { t with arm := some a, meas := none, excess := none, fired := 0, number := 0 })).complete rq .ok))
      ∧ (a.src ≠ 0 → s.time.ti.arm ≠ none → exec (.tiArm dt rq params) s = .next (u.complete rq .busy)))

/-- R341 to R343, R345, R350, R352: what the host writes: DOORBELL with a free slot, CQ_HEAD, IRQ_STATUS, the transactions of the
control port by the levels of its lines, the messages of stream 0; and what follows when a command's timeout passes (R356): TIMEOUT, counted. -/
def Obligations.MailboxWrites : Prop :=
  ∀ (dt khz addr : Nat) (v : Word) (b : Byte) (mask : BitVec 7) (clocks data : List (BitVec 4)) (o : PortOp) (msg : List Byte)
    (tag : BitVec 6) (f : Flight) (s : State),
    let u := s.elapse dt
    (u.portAnswers = true →
      (64 ≤ v.toNat →
        exec (.doorbell dt v) s =
          .next (((u.count Ctr.mboxStats_doorbells 0 1).setIrq irqLostDoorbell).count Ctr.mboxStats_lostDoorbell 0 1))
      ∧ (v.toNat < 64 →
        let slot := memReadAll blankByte s.mbox.window (256 * v.toNat) 256
        let tag := BitVec.ofNat 6 v.toNat
        exec (.doorbell dt v) s =
          .next ((u.count Ctr.mboxStats_doorbells 0 1).submit
            ⟨tag, BitVec.ofNat 32 (u32At slot 8), BitVec.ofNat 16 (u16At slot 6), .controlPort⟩ (u16At slot 0)
            (slotOk tag slot) (bytesAt slot 16 (min 240 (u16At slot 4)))))
      ∧ (s.cqUsed < (b - s.mbox.cqHead).toNat → exec (.cqHeadWrite dt b) s = .next (u.setIrq irqCqErr))
      ∧ ((b - s.mbox.cqHead).toNat ≤ s.cqUsed →
        ∃ t, exec (.cqHeadWrite dt b) s = .next t ∧ t.mbox.cqHead = b ∧ t.ports = s.ports ∧ t.cfg = s.cfg)
      ∧ (let t := u.setMbox (fun m => { m with irq := m.irq &&& ~~~mask })
        (u.fatal = t.fatal → exec (.irqStatusClear dt mask) s = .next t)
        ∧ (u.fatal ≠ t.fatal → exec (.irqStatusClear dt mask) s = .next t.outputsEval))
      ∧ (portParse clocks = none → exec (.registerWrite dt khz clocks) s = .next u)
      ∧ (portParse clocks = some (o, addr, data) → khz ≤ 1000 * o.mhz → addr % 4 = 0 →
        (o.write = false →
          exec (.registerWrite dt khz clocks) s = .next (u.setMbox (fun m =>
            { m with portOut := ((u.portReadBytes addr (data.length * o.lines / 32 + 1)).flatMap (byteClocks o.lines)).take
                        data.length })))
        ∧ (o.write = true → clockBytes o.lines data = leBytes 4 v.toNat →
          (addr = 0x28 → exec (.registerWrite dt khz clocks) s = .next (u.setMbox (fun m => { m with scratch := v })))
          ∧ (addr = 0x20 →
            exec (.registerWrite dt khz clocks) s = .next (u.setMbox (fun m => { m with irqEnable := v.setWidth 7 })))
          ∧ (0x4000 ≤ addr → addr < 0x8000 →
            exec (.registerWrite dt khz clocks) s =
              .next (u.setMbox (fun m =>
                { m with window := memWriteAll blankByte m.window (addr - 0x4000) (leBytes 4 v.toNat) })))
          ∧ (0x8000 ≤ addr → addr < 0xA000 → exec (.registerWrite dt khz clocks) s = .next u))))
    ∧ (u.takesMessages = true → messageOk 1 24 msg = false →
      exec (.stream0Command dt msg) s = .next ((u.hostBytes msg.length).count Ctr.linkStats_rxDiscard 0 1))
    ∧ (u.takesMessages = true → messageOk 1 24 msg = true → u8At (msg.drop 8) 2 ≤ 63 →
      let h := msg.drop 8
      let tag := BitVec.ofNat 6 (u8At h 2)
      exec (.stream0Command dt msg) s =
        .next ((u.hostBytes msg.length).submit
          ⟨tag, BitVec.ofNat 32 (u32At h 8), BitVec.ofNat 16 (u16At h 6), .link⟩ (u16At h 0)
          (slotOk tag h && u16At h 4 + 24 = msg.length && bytesAt msg 1 3 = zeros 3) (h.drop 16)))
    ∧ (u.takesMessages = true → messageOk 4 12 msg = true →
      let w := u.hostBytes msg.length
      let off := u32At msg 8
      let data := (msg.drop 12).take (w.stagingWindow - off)
      exec (.stageWrite dt msg) s =
        .next (w.setMbox (fun x => { x with staging := memWriteAll blankByte x.staging off data })))
    ∧ (s.flightOf tag = some f → f.acceptedAt + f.timeoutMs * 1000000 ≤ s.clk + dt →
    (f.started = false → exec (.commandTimeout dt tag) s = .next ((u.count Ctr.mboxStats_timeouts 0 1).complete f.req .timeout))
    ∧ (f.code ≠ 0x70 ∨ u.powerTimes = true →
      ∃ v : State, exec (.commandTimeout dt tag) s = .next (v.complete f.req .timeout)
        ∧ (f.started = true → v = (u.stopWork f).count Ctr.mboxStats_timeouts 0 1)))

/-! ## The whole machine -/

/-- A step with a command in front of the queue runs that command on the state with the queue's rest; on an empty queue it
changes nothing (the model's own choice, log 32). -/
def Obligations.StepRunsFrontCommand : Prop :=
  ∀ (c : Instr) (rest : List Instr) (s : State),
    step { s with pending := c :: rest } = exec c { s with pending := rest }
      ∧ (s.pending = [] → step s = .next s)

/-- Every step answers a next state whose queue is the old one without its front, so no run stops, whatever waits in it. -/
def Obligations.StepsAnswerInOrder : Prop :=
  (∀ s : State, ∃ t, step s = .next t ∧ t.pending = s.pending.tail) ∧ (∀ s : State, Safe s)

/-- Every step keeps the invariant: the memories stay canonical, FLG [15:8] of every engine reads as zero (R225), and BEXP stays
at most 24 (R200, R229). -/
def Obligations.EveryStepKeepsInv : Prop := ∀ s t : State, s.Inv → step s = .next t → t.Inv

/-- The invariant holds at reset, and the state then is as the spec says (R43, R467): BOOT reads RESET, the ports are STOPPED
with every emitter dark, no head has been found, the link is DISABLED, no shadowed value waits, no zone, program or snapshot
stands, every field of every block reads its reset value and every counter 0 (log 1). -/
def Obligations.ResetState : Prop :=
  let s := State.reset
  s.Inv ∧ s.start.boot = .reset ∧ s.link.stage = .disabled ∧ s.pend = [] ∧ s.held = [] ∧ s.capture.snapshots = []
    ∧ s.clove.programs = [] ∧ s.detect.zones = []
    ∧ s.capture.mem.trained = false ∧ s.mbox.irqEnable = 0x7F ∧ s.mbox.fullBusy = true ∧ s.irqStatus = 0
    ∧ (∀ p : Port, (s.port p).seq.mode = .stopped ∧ (s.port p).head.idState = .absent ∧ (s.port p).drive.latched = false
        ∧ ∀ e : Emitter, (s.emitter p e).code = 0 ∧ (s.emitter p e).timing = false)
    ∧ (∀ e : EngineId, (s.engine e).mode = .idle)
    ∧ (∀ (f : Fld) (i : Nat), s.fld f i = f.reset)
    ∧ (∀ (c : Ctr) (i : Nat), s.ctr c i = 0)

/-- R348, R350: a completion on the control port: the entry stands at CQ_TAIL, which advances; the other entries read as before;
the result data stand in the slot from byte 16; the tag has left flight; nothing else of the device changes. -/
def Obligations.CompletionEntry : Prop :=
  ∀ (rq : Req) (st : Status) (fl : CompFlags) (result more : List Byte) (s : State), s.memsOk → rq.route = .controlPort →
    more.length ≤ 240 →
    let t := s.completeWith rq st fl result more
    let flags := bitNat (!more.isEmpty) + 2 * bitNat fl.pending + 4 * bitNat fl.held
    let tail := s.mbox.cqTail
    memReadAll blankByte t.mbox.cq (32 * tail.toNat) 32
        = cqEntry 1 rq.tag.toNat (statusCode st) rq.seq.toNat s.tb flags result
      ∧ t.mbox.cqTail = tail + 1
      ∧ (∀ i : Byte, i ≠ tail → memReadAll blankByte t.mbox.cq (32 * i.toNat) 32 = memReadAll blankByte s.mbox.cq (32 * i.toNat) 32)
      ∧ memReadAll blankByte t.mbox.window (256 * rq.tag.toNat + 16) more.length = more
      ∧ (∀ a, a < 256 * rq.tag.toNat + 16 ∨ 256 * rq.tag.toNat + 16 + more.length ≤ a →
          memRead blankByte t.mbox.window a = memRead blankByte s.mbox.window a)
      ∧ t.mbox.flights = s.mbox.flights.filter (fun f => f.tag != rq.tag)
      ∧ (∃ m, t = { s with mbox := m })
end

