-- ==== Sys2Proof/Laws/Memory.lean ====
section
/-! SUPPORT. Laws of the memories: a read after a write, and every operation keeps the canonical form. -/

namespace Sys2Proof.Machine

/-- An entry that may stand before a canonical memory. -/
def memBelow (a : Nat) : Memory → Prop
  | [] => True
  | (b, _) :: _ => a < b

theorem wf_cons_iff (blank : Byte) (a : Nat) (b : Byte) (m : Memory) :
    Memory.wf blank ((a, b) :: m) = true ↔ b ≠ blank ∧ memBelow a m ∧ Memory.wf blank m = true := by
  cases m with
  | nil => simp [Memory.wf, memBelow]
  | cons c m => obtain ⟨a', b'⟩ := c; simp [Memory.wf, memBelow, and_assoc]

theorem wf_nil (blank : Byte) : Memory.wf blank [] = true := rfl

theorem memBelow_trans {a b : Nat} (m : Memory) (h : a < b) (hb : memBelow b m) : memBelow a m := by
  cases m with
  | nil => trivial
  | cons c m => exact Nat.lt_trans h hb

/-- Whatever stands before a canonical memory stands before what is left of it. -/
theorem memBelow_erase (blank : Byte) (a x : Nat) (m : Memory) (hw : Memory.wf blank m = true) (h : memBelow a m) :
    memBelow a (memErase m x) := by
  cases m with
  | nil => trivial
  | cons c m =>
    obtain ⟨b, v⟩ := c
    rw [wf_cons_iff] at hw
    simp only [memErase]
    split
    · exact memBelow_trans m h hw.2.1
    · exact h

theorem memErase_wf (blank : Byte) (m : Memory) (x : Nat) (h : Memory.wf blank m = true) :
    Memory.wf blank (memErase m x) = true := by
  induction m with
  | nil => rfl
  | cons c m ih =>
    obtain ⟨a, b⟩ := c
    have h' := (wf_cons_iff ..).1 h
    simp only [memErase]
    split
    · exact h'.2.2
    · exact (wf_cons_iff ..).2 ⟨h'.1, memBelow_erase blank a x m h'.2.2 h'.2.1, ih h'.2.2⟩

theorem memBelow_insert (a x : Nat) (v : Byte) (m : Memory) (hx : a < x) (h : memBelow a m) :
    memBelow a (memInsert m x v) := by
  cases m with
  | nil => exact hx
  | cons c m =>
    obtain ⟨b, w⟩ := c
    simp only [memInsert]
    split
    · exact hx
    · split
      · exact hx
      · exact h

theorem memInsert_wf (blank : Byte) (m : Memory) (x : Nat) (v : Byte) (hv : v ≠ blank) (h : Memory.wf blank m = true) :
    Memory.wf blank (memInsert m x v) = true := by
  induction m with
  | nil => simp [memInsert, Memory.wf, hv]
  | cons c m ih =>
    obtain ⟨a, b⟩ := c
    have h' := (wf_cons_iff ..).1 h
    simp only [memInsert]
    split
    · rename_i hlt
      exact (wf_cons_iff ..).2 ⟨hv, hlt, h⟩
    · split
      · rename_i heq
        subst heq
        exact (wf_cons_iff ..).2 ⟨hv, h'.2.1, h'.2.2⟩
      · rename_i hlt hne
        exact (wf_cons_iff ..).2 ⟨h'.1, memBelow_insert a x v m (by omega) h'.2.1, ih h'.2.2⟩

@[simp] theorem memWrite_wf (blank : Byte) (m : Memory) (x : Nat) (v : Byte) (h : Memory.wf blank m = true) :
    Memory.wf blank (memWrite blank m x v) = true := by
  unfold memWrite
  split
  · exact memErase_wf blank m x h
  · rename_i hv
    exact memInsert_wf blank m x v hv h

@[simp] theorem memWriteAll_wf (blank : Byte) (vs : List Byte) (m : Memory) (x : Nat) (h : Memory.wf blank m = true) :
    Memory.wf blank (memWriteAll blank m x vs) = true := by
  induction vs generalizing m x with
  | nil => exact h
  | cons v vs ih => exact ih _ _ (memWrite_wf blank m x v h)

theorem memBelow_filter (p : Nat × Byte → Bool) (blank : Byte) (a : Nat) (m : Memory) (hw : Memory.wf blank m = true)
    (h : memBelow a m) : memBelow a (m.filter p) := by
  induction m with
  | nil => trivial
  | cons c m ih =>
    obtain ⟨b, v⟩ := c
    rw [wf_cons_iff] at hw
    rw [List.filter_cons]
    split
    · exact h
    · exact ih hw.2.2 (memBelow_trans m h hw.2.1)

theorem filter_wf (p : Nat × Byte → Bool) (blank : Byte) (m : Memory) (h : Memory.wf blank m = true) :
    Memory.wf blank (m.filter p) = true := by
  induction m with
  | nil => rfl
  | cons c m ih =>
    obtain ⟨a, b⟩ := c
    have h' := (wf_cons_iff ..).1 h
    rw [List.filter_cons]
    split
    · exact (wf_cons_iff ..).2 ⟨h'.1, memBelow_filter p blank a m h'.2.2 h'.2.1, ih h'.2.2⟩
    · exact ih h'.2.2

@[simp] theorem memClear_wf (blank : Byte) (m : Memory) (x n : Nat) (h : Memory.wf blank m = true) :
    Memory.wf blank (memClear m x n) = true := filter_wf _ blank m h

/-! ## Reads -/

/-- Below the first entry of a canonical memory everything is blank. -/
theorem memRead_below (blank : Byte) (m : Memory) (x : Nat) (hw : Memory.wf blank m = true) (h : memBelow x m) :
    memRead blank m x = blank := by
  induction m with
  | nil => rfl
  | cons c m ih =>
    obtain ⟨a, b⟩ := c
    rw [wf_cons_iff] at hw
    have hlt : x < a := h
    simp only [memRead]
    rw [if_neg (by omega)]
    exact ih hw.2.2 (memBelow_trans m hlt hw.2.1)

theorem memRead_erase (blank : Byte) (m : Memory) (x y : Nat) (hw : Memory.wf blank m = true) :
    memRead blank (memErase m x) y = if x = y then blank else memRead blank m y := by
  induction m with
  | nil => simp [memErase, memRead]
  | cons c m ih =>
    obtain ⟨a, b⟩ := c
    rw [wf_cons_iff] at hw
    by_cases hax : a = x
    · subst hax
      simp only [memErase, memRead]
      by_cases hay : a = y
      · subst hay
        simp [memRead_below blank m a hw.2.2 hw.2.1]
      · simp [hay]
    · simp only [memErase, if_neg hax, memRead, ih hw.2.2]
      by_cases hxy : x = y
      · subst hxy; simp [hax]
      · simp [hxy]

theorem memRead_insert (blank : Byte) (m : Memory) (x y : Nat) (v : Byte) :
    memRead blank (memInsert m x v) y = if x = y then v else memRead blank m y := by
  induction m with
  | nil => simp [memInsert, memRead]
  | cons c m ih =>
    obtain ⟨a, b⟩ := c
    simp only [memInsert]
    split
    · simp [memRead]
    · split
      · rename_i h; subst h; simp only [memRead]; split <;> rfl
      · rename_i h1 h2
        simp only [memRead, ih]
        by_cases hay : a = y
        · subst hay; simp [h2]
        · simp [hay]

/-- A read after a write: the byte written, and every other byte as before. -/
theorem memRead_write (blank : Byte) (m : Memory) (x y : Nat) (v : Byte) (hw : Memory.wf blank m = true) :
    memRead blank (memWrite blank m x v) y = if x = y then v else memRead blank m y := by
  unfold memWrite
  split
  · rename_i h; rw [memRead_erase blank m x y hw, h]
  · exact memRead_insert blank m x y v

/-- Writing bytes leaves every byte outside them as it was. -/
theorem memRead_writeAll_other (blank : Byte) (vs : List Byte) (m : Memory) (x y : Nat) (hw : Memory.wf blank m = true)
    (h : y < x ∨ x + vs.length ≤ y) : memRead blank (memWriteAll blank m x vs) y = memRead blank m y := by
  induction vs generalizing m x with
  | nil => rfl
  | cons v vs ih =>
    simp only [List.length_cons] at h
    simp only [memWriteAll]
    rw [ih (memWrite blank m x v) (x + 1) (memWrite_wf blank m x v hw) (by omega), memRead_write blank m x y v hw,
      if_neg (by omega)]

/-- Writing bytes makes them read so. -/
theorem memRead_writeAll_here (blank : Byte) (vs : List Byte) (m : Memory) (x i : Nat) (hw : Memory.wf blank m = true)
    (h : i < vs.length) : memRead blank (memWriteAll blank m x vs) (x + i) = vs[i] := by
  induction vs generalizing m x i with
  | nil => simp at h
  | cons v vs ih =>
    simp only [memWriteAll]
    cases i with
    | zero =>
      rw [memRead_writeAll_other blank vs _ (x + 1) (x + 0) (memWrite_wf blank m x v hw) (by omega),
        memRead_write blank m x (x + 0) v hw]
      simp
    | succ i =>
      have := ih (memWrite blank m x v) (x + 1) i (memWrite_wf blank m x v hw) (by simpa using h)
      rw [show x + (i + 1) = x + 1 + i by omega, this]
      simp

end Sys2Proof.Machine
end

