-- ==== Sys2Proof/Laws/Inv.lean ====
section
/-! SUPPORT. The invariant and the primitive updates of the state: each keeps it where it keeps the part it changes. -/

namespace Sys2Proof.Machine

/-- The invariant holds, and `q` waits in the queue. -/
def State.Kept (q : List Instr) (s : State) : Prop := s.Inv ∧ s.pending = q

variable {q : List Instr}

/-- The invariant and the queue are seven places of the state. -/
theorem inv_of_eq {s t : State} (h : s.Kept q) (h1 : t.mbox.window = s.mbox.window) (h2 : t.mbox.staging = s.mbox.staging)
    (h3 : t.mbox.cq = s.mbox.cq) (h4 : t.capture.mem.content = s.capture.mem.content) (h5 : t.flash = s.flash)
    (h6 : t.clove.engines = s.clove.engines) (h7 : t.pending = s.pending) : t.Kept q := by
  unfold State.Kept State.Inv State.memsOk State.enginesOk at *
  rw [h1, h2, h3, h4, h5, h6, h7]
  exact h

@[simp] theorem inv_ite (c : Prop) [Decidable c] (a b : State) (ha : a.Kept q) (hb : b.Kept q) : (if c then a else b).Kept q := by
  split <;> assumption

@[simp] theorem inv_val (t : {t : State // t.Kept q}) : t.1.Kept q := t.2

@[simp] theorem inv_foldl {α : Type} (g : State → α → State) (l : List α) (s : State)
    (hg : ∀ (t : {t : State // t.Kept q}) a, (g t.1 a).Kept q) (h : s.Kept q) : (l.foldl g s).Kept q := by
  induction l generalizing s with
  | nil => exact h
  | cons a l ih => exact ih _ (hg ⟨s, h⟩ a)

@[simp] theorem setFld_inv (s : State) (f : Fld) (i v : Nat) (h : s.Kept q) : (s.setFld f i v).Kept q :=
  inv_of_eq h rfl rfl rfl rfl rfl rfl rfl
@[simp] theorem count_inv (s : State) (c : Ctr) (i n : Nat) (h : s.Kept q) : (s.count c i n).Kept q :=
  inv_of_eq h rfl rfl rfl rfl rfl rfl rfl
@[simp] theorem countIf_inv (s : State) (c : Ctr) (i : Nat) (b : Bool) (h : s.Kept q) : (s.countIf c i b).Kept q := by
  unfold State.countIf; split <;> simp (maxDischargeDepth := 40) [h]
@[simp] theorem raise_inv (s : State) (c : Ctr) (i v : Nat) (h : s.Kept q) : (s.raise c i v).Kept q :=
  inv_of_eq h rfl rfl rfl rfl rfl rfl rfl
@[simp] theorem takeFree_inv (s : State) (w : Nat) (h : s.Kept q) : (s.takeFree w).2.Kept q :=
  inv_of_eq h rfl rfl rfl rfl rfl rfl rfl
@[simp] theorem setPort_inv (s : State) (p : Port) (f : PortSt → PortSt) (h : s.Kept q) : (s.setPort p f).Kept q :=
  inv_of_eq h rfl rfl rfl rfl rfl rfl rfl
@[simp] theorem setHead_inv (s : State) (p : Port) (f : HeadSt → HeadSt) (h : s.Kept q) : (s.setHead p f).Kept q :=
  inv_of_eq h rfl rfl rfl rfl rfl rfl rfl
@[simp] theorem setDrive_inv (s : State) (p : Port) (f : DriveSt → DriveSt) (h : s.Kept q) : (s.setDrive p f).Kept q :=
  inv_of_eq h rfl rfl rfl rfl rfl rfl rfl
@[simp] theorem setSeq_inv (s : State) (p : Port) (f : SeqSt → SeqSt) (h : s.Kept q) : (s.setSeq p f).Kept q :=
  inv_of_eq h rfl rfl rfl rfl rfl rfl rfl
@[simp] theorem setRx_inv (s : State) (p : Port) (f : RxSt → RxSt) (h : s.Kept q) : (s.setRx p f).Kept q :=
  inv_of_eq h rfl rfl rfl rfl rfl rfl rfl
@[simp] theorem setGauge_inv (s : State) (p : Port) (f : GaugeSt → GaugeSt) (h : s.Kept q) : (s.setGauge p f).Kept q :=
  inv_of_eq h rfl rfl rfl rfl rfl rfl rfl
@[simp] theorem setQueue_inv (s : State) (p : Port) (f : QueueSt → QueueSt) (h : s.Kept q) : (s.setQueue p f).Kept q :=
  inv_of_eq h rfl rfl rfl rfl rfl rfl rfl
@[simp] theorem setPower_inv (s : State) (f : PowerSt → PowerSt) (h : s.Kept q) : (s.setPower f).Kept q :=
  inv_of_eq h rfl rfl rfl rfl rfl rfl rfl
@[simp] theorem setStart_inv (s : State) (f : StartSt → StartSt) (h : s.Kept q) : (s.setStart f).Kept q :=
  inv_of_eq h rfl rfl rfl rfl rfl rfl rfl
@[simp] theorem setLife_inv (s : State) (f : LifeSt → LifeSt) (h : s.Kept q) : (s.setLife f).Kept q :=
  inv_of_eq h rfl rfl rfl rfl rfl rfl rfl
@[simp] theorem setDetect_inv (s : State) (f : DetectSt → DetectSt) (h : s.Kept q) : (s.setDetect f).Kept q :=
  inv_of_eq h rfl rfl rfl rfl rfl rfl rfl
@[simp] theorem setHouse_inv (s : State) (f : HouseSt → HouseSt) (h : s.Kept q) : (s.setHouse f).Kept q :=
  inv_of_eq h rfl rfl rfl rfl rfl rfl rfl
@[simp] theorem setGrid_inv (s : State) (i : Fin 12) (f : Grid → Grid) (h : s.Kept q) : (s.setGrid i f).Kept q :=
  inv_of_eq h rfl rfl rfl rfl rfl rfl rfl
@[simp] theorem elapse_inv (s : State) (dt : Nat) (h : s.Kept q) : (s.elapse dt).Kept q :=
  inv_of_eq h rfl rfl rfl rfl rfl rfl rfl

/-- The memories of the mailbox are canonical. -/
def MboxSt.ok (m : MboxSt) : Prop :=
  Memory.wf blankByte m.window = true ∧ Memory.wf blankByte m.staging = true ∧ Memory.wf blankByte m.cq = true

@[simp] theorem mbox_ok_iff (m : MboxSt) : m.ok ↔ Memory.wf blankByte m.window = true ∧ Memory.wf blankByte m.staging = true
    ∧ Memory.wf blankByte m.cq = true := Iff.rfl
@[simp] theorem mbox_window (m : {m : MboxSt // m.ok}) : Memory.wf blankByte m.1.window = true := m.2.1
@[simp] theorem mbox_staging (m : {m : MboxSt // m.ok}) : Memory.wf blankByte m.1.staging = true := m.2.2.1
@[simp] theorem mbox_cq (m : {m : MboxSt // m.ok}) : Memory.wf blankByte m.1.cq = true := m.2.2.2

@[simp] theorem setMbox_inv (s : State) (f : MboxSt → MboxSt) (h : s.Kept q) (hf : ∀ m : {m : MboxSt // m.ok}, (f m.1).ok) :
    (s.setMbox f).Kept q :=
  have hm := hf ⟨s.mbox, h.1.1.1, h.1.1.2.1, h.1.1.2.2.1⟩
  ⟨⟨⟨hm.1, hm.2.1, hm.2.2, h.1.1.2.2.2.1, h.1.1.2.2.2.2⟩, h.1.2⟩, h.2⟩

/-- The content of the capture memory is canonical. -/
def CaptureSt.ok (c : CaptureSt) : Prop := Memory.wf blankByte c.mem.content = true

@[simp] theorem capture_ok_iff (c : CaptureSt) : c.ok ↔ Memory.wf blankByte c.mem.content = true := Iff.rfl
@[simp] theorem capture_content (c : {c : CaptureSt // c.ok}) : Memory.wf blankByte c.1.mem.content = true := c.2

@[simp] theorem setCapture_inv (s : State) (f : CaptureSt → CaptureSt) (h : s.Kept q)
    (hf : ∀ c : {c : CaptureSt // c.ok}, (f c.1).ok) : (s.setCapture f).Kept q :=
  ⟨⟨⟨h.1.1.1, h.1.1.2.1, h.1.1.2.2.1, hf ⟨s.capture, h.1.1.2.2.2.1⟩, h.1.1.2.2.2.2⟩, h.1.2⟩, h.2⟩

@[simp] theorem setMask_inv (s : State) (p : Port) (f : MaskSt → MaskSt) (h : s.Kept q) : (s.setMask p f).Kept q :=
  setCapture_inv s _ h (fun c => c.2)

theorem setClove_inv (s : State) (f : CloveSt → CloveSt) (h : s.Kept q)
    (h1 : ∀ e : EngineId, EngineSt.ok (f s.clove).engines[e]) : (s.setClove f).Kept q := ⟨⟨h.1.1, h1⟩, h.2⟩

theorem inv_window {s : State} (h : s.Kept q) : Memory.wf blankByte s.mbox.window = true := h.1.1.1
theorem inv_staging {s : State} (h : s.Kept q) : Memory.wf blankByte s.mbox.staging = true := h.1.1.2.1
theorem inv_cq {s : State} (h : s.Kept q) : Memory.wf blankByte s.mbox.cq = true := h.1.1.2.2.1
theorem inv_content {s : State} (h : s.Kept q) : Memory.wf blankByte s.capture.mem.content = true := h.1.1.2.2.2.1
theorem inv_flash {s : State} (h : s.Kept q) : Memory.wf flashBlank s.flash = true := h.1.1.2.2.2.2
theorem inv_engine {s : State} (h : s.Kept q) (e : EngineId) : EngineSt.ok s.clove.engines[e] := h.1.2 e

/-! Updates of single fields -/

@[simp] theorem inv_free (s : State) (n : Nat) (h : s.Kept q) : ({ s with free := n } : State).Kept q :=
  inv_of_eq h rfl rfl rfl rfl rfl rfl rfl
@[simp] theorem inv_tb (s : State) (n m : Nat) (h : s.Kept q) : ({ s with tb := n, tbFrac := m } : State).Kept q :=
  inv_of_eq h rfl rfl rfl rfl rfl rfl rfl
@[simp] theorem inv_pend (s : State) (x : Tab Nat) (h : s.Kept q) : ({ s with pend := x } : State).Kept q :=
  inv_of_eq h rfl rfl rfl rfl rfl rfl rfl
@[simp] theorem inv_held (s : State) (x : Tab Nat) (h : s.Kept q) : ({ s with held := x } : State).Kept q :=
  inv_of_eq h rfl rfl rfl rfl rfl rfl rfl
@[simp] theorem inv_pend_held (s : State) (x y : Tab Nat) (h : s.Kept q) : ({ s with pend := x, held := y } : State).Kept q :=
  inv_of_eq h rfl rfl rfl rfl rfl rfl rfl
@[simp] theorem inv_stats (s : State) (x : Tab Nat) (h : s.Kept q) : ({ s with stats := x } : State).Kept q :=
  inv_of_eq h rfl rfl rfl rfl rfl rfl rfl
@[simp] theorem inv_cal (s : State) (x : CalSt) (h : s.Kept q) : ({ s with cal := x } : State).Kept q :=
  inv_of_eq h rfl rfl rfl rfl rfl rfl rfl
@[simp] theorem inv_wake (s : State) (n : Nat) (x y z : Tab Nat) (h : s.Kept q) :
    ({ s with tb := n, pend := x, held := y, cfg := z } : State).Kept q := inv_of_eq h rfl rfl rfl rfl rfl rfl rfl
theorem inv_flash_put (s : State) (x : Memory) (h : s.Kept q) (hx : Memory.wf flashBlank x = true) :
    ({ s with flash := x } : State).Kept q := ⟨⟨⟨h.1.1.1, h.1.1.2.1, h.1.1.2.2.1, h.1.1.2.2.2.1, hx⟩, h.1.2⟩, h.2⟩

/-- The engines as reset leaves them. -/
theorem reset_engines (e : EngineId) : EngineSt.ok CloveSt.reset.engines[e] := by
  have : CloveSt.reset.engines[e] = EngineSt.reset := by simp [CloveSt.reset]
  rw [this]
  exact ⟨rfl, rfl, by decide, by decide⟩

/-- The machine after reset keeps the invariant whatever flash it is given. -/
theorem reset_inv_of (t : State) (h1 : t.mbox.window = []) (h2 : t.mbox.staging = []) (h3 : t.mbox.cq = [])
    (h4 : t.capture.mem.content = []) (h5 : Memory.wf flashBlank t.flash = true)
    (h6 : t.clove.engines = CloveSt.reset.engines) (h7 : t.pending = q) : t.Kept q := by
  unfold State.Kept State.Inv State.memsOk State.enginesOk
  rw [h1, h2, h3, h4, h6]
  exact ⟨⟨⟨rfl, rfl, rfl, rfl, h5⟩, reset_engines⟩, h7⟩

@[simp] theorem forPorts_inv (ps : List Port) (f : Port → State → State) (s : State)
    (hf : ∀ p (t : {t : State // t.Kept q}), (f p t.1).Kept q) (h : s.Kept q) : (forPorts ps f s).Kept q :=
  inv_foldl _ ps s (fun t p => hf p t) h

end Sys2Proof.Machine
end

