-- ==== Sys2Proof/Laws/InvMailbox.lean ====
section
/-! SUPPORT. The functions of Machine/Mailbox.lean keep the invariant and the queue. -/

namespace Sys2Proof.Machine

variable {q : List Instr}

@[simp] theorem setIrq_inv (s : State) (bits : BitVec 7) (h : s.Kept q) : (State.setIrq s bits).Kept q := by
  unfold State.setIrq
  try dsimp only
  repeat' split
  all_goals first
    | (with_reducible exact h)
    | (simp (maxDischargeDepth := 40) [*]; done)
    | (refine inv_of_eq h ?_ ?_ ?_ ?_ ?_ ?_ ?_ <;> with_reducible rfl)

@[simp] theorem cqPush_inv (s : State) (entry : List Byte) (h : s.Kept q) : (State.cqPush s entry).Kept q := by
  unfold State.cqPush
  try dsimp only
  repeat' split
  all_goals first
    | (with_reducible exact h)
    | (simp (maxDischargeDepth := 40) [*]; done)
    | (refine inv_of_eq h ?_ ?_ ?_ ?_ ?_ ?_ ?_ <;> with_reducible rfl)

@[simp] theorem toHost_inv (s : State) (typ : Nat) (body : List Byte) (h : s.Kept q) : (State.toHost s typ body).Kept q := by
  unfold State.toHost
  try dsimp only
  repeat' split
  all_goals first
    | (with_reducible exact h)
    | (simp (maxDischargeDepth := 40) [*]; done)
    | (refine inv_of_eq h ?_ ?_ ?_ ?_ ?_ ?_ ?_ <;> with_reducible rfl)

@[simp] theorem drainEvents_inv (x0 : Nat) (x1 : State) (h : x1.Kept q) : (State.drainEvents x0 x1).Kept q := by
  induction x0 generalizing x1 with
  | zero => exact h
  | succ n ih =>
    simp only [State.drainEvents]
    split
    · exact h
    · split
      · exact ih _ (by simp (maxDischargeDepth := 40) [*])
      · split
        · exact h
        · exact ih _ (by simp (maxDischargeDepth := 40) [*])

@[simp] theorem eventToQueue_inv (s : State) (e : EventRec) (h : s.Kept q) : (State.eventToQueue s e).Kept q := by
  unfold State.eventToQueue
  try dsimp only
  repeat' split
  all_goals first
    | (with_reducible exact h)
    | (simp (maxDischargeDepth := 40) [*]; done)
    | (refine inv_of_eq h ?_ ?_ ?_ ?_ ?_ ?_ ?_ <;> with_reducible rfl)

@[simp] theorem event_inv (s : State) (code unit sub : Nat) (values : List Nat)
    (h : s.Kept q) : (State.event s code unit sub values).Kept q := by
  unfold State.event
  try dsimp only
  repeat' split
  all_goals first
    | (with_reducible exact h)
    | (simp (maxDischargeDepth := 40) [*]; done)
    | (refine inv_of_eq h ?_ ?_ ?_ ?_ ?_ ?_ ?_ <;> with_reducible rfl)

@[simp] theorem completeWith_inv (s : State) (rq : Req) (st : Status) (fl : CompFlags) (result more : List Byte)
    (h : s.Kept q) : (State.completeWith s rq st fl result more).Kept q := by
  unfold State.completeWith
  try dsimp only
  repeat' split
  all_goals first
    | (with_reducible exact h)
    | (simp (maxDischargeDepth := 40) [*]; done)
    | (refine inv_of_eq h ?_ ?_ ?_ ?_ ?_ ?_ ?_ <;> with_reducible rfl)

@[simp] theorem complete_inv (s : State) (rq : Req) (st : Status) (h : s.Kept q) : (State.complete s rq st).Kept q := by
  unfold State.complete
  try dsimp only
  repeat' split
  all_goals first
    | (with_reducible exact h)
    | (simp (maxDischargeDepth := 40) [*]; done)
    | (refine inv_of_eq h ?_ ?_ ?_ ?_ ?_ ?_ ?_ <;> with_reducible rfl)

@[simp] theorem completeResult_inv (s : State) (rq : Req) (st : Status) (result : List Byte)
    (h : s.Kept q) : (State.completeResult s rq st result).Kept q := by
  unfold State.completeResult
  try dsimp only
  repeat' split
  all_goals first
    | (with_reducible exact h)
    | (simp (maxDischargeDepth := 40) [*]; done)
    | (refine inv_of_eq h ?_ ?_ ?_ ?_ ?_ ?_ ?_ <;> with_reducible rfl)

end Sys2Proof.Machine
end

