-- ==== Sys2Proof/Laws/InvStreams.lean ====
section
/-! SUPPORT. The functions of Machine/Streams.lean keep the invariant and the queue. -/

namespace Sys2Proof.Machine

variable {q : List Instr}

@[simp] theorem setStream_inv (s : State) (i : Nat) (f : StreamSt → StreamSt)
    (h : s.Kept q) : (State.setStream s i f).Kept q := by
  unfold State.setStream
  try dsimp only
  repeat' split
  all_goals first
    | (with_reducible exact h)
    | (simp (maxDischargeDepth := 40) [*]; done)
    | (refine inv_of_eq h ?_ ?_ ?_ ?_ ?_ ?_ ?_ <;> with_reducible rfl)

@[simp] theorem setMem_inv (s : State) (f : CapMemSt → CapMemSt)
    (h : s.Kept q)
    (hf : ∀ c : {c : CaptureSt // c.ok}, Memory.wf blankByte (f c.1.mem).content = true) : (State.setMem s f).Kept q := by
  exact setCapture_inv s _ h hf

@[simp] theorem memAccess_inv (s : State) (h : s.Kept q) : (State.memAccess s).Kept q := by
  unfold State.memAccess
  try dsimp only
  repeat' split
  all_goals first
    | (with_reducible exact h)
    | (simp (maxDischargeDepth := 40) [*]; done)
    | (refine inv_of_eq h ?_ ?_ ?_ ?_ ?_ ?_ ?_ <;> with_reducible rfl)

@[simp] theorem spillNote_inv (s : State) (i : Nat) (h : s.Kept q) : (State.spillNote s i).Kept q := by
  unfold State.spillNote
  try dsimp only
  repeat' split
  all_goals first
    | (with_reducible exact h)
    | (simp (maxDischargeDepth := 40) [*]; done)
    | (refine inv_of_eq h ?_ ?_ ?_ ?_ ?_ ?_ ?_ <;> with_reducible rfl)

@[simp] theorem pushStream_inv (s : State) (i typ flags : Nat) (payload : List Byte)
    (h : s.Kept q) : (State.pushStream s i typ flags payload).Kept q := by
  unfold State.pushStream
  try dsimp only
  repeat' split
  all_goals first
    | (with_reducible exact h)
    | (simp (maxDischargeDepth := 40) [*]; done)
    | (refine inv_of_eq h ?_ ?_ ?_ ?_ ?_ ?_ ?_ <;> with_reducible rfl)

@[simp] theorem pushData_inv (s : State) (i typ flags : Nat) (payload : List Byte)
    (h : s.Kept q) : (State.pushData s i typ flags payload).Kept q := by
  unfold State.pushData
  try dsimp only
  repeat' split
  all_goals first
    | (with_reducible exact h)
    | (simp (maxDischargeDepth := 40) [*]; done)
    | (refine inv_of_eq h ?_ ?_ ?_ ?_ ?_ ?_ ?_ <;> with_reducible rfl)

@[simp] theorem placeMark_inv (s : State) (i typ : Nat) (payload : List Byte)
    (h : s.Kept q) : (State.placeMark s i typ payload).Kept q := by
  unfold State.placeMark
  try dsimp only
  repeat' split
  all_goals first
    | (with_reducible exact h)
    | (simp (maxDischargeDepth := 40) [*]; done)
    | (refine inv_of_eq h ?_ ?_ ?_ ?_ ?_ ?_ ?_ <;> with_reducible rfl)

@[simp] theorem pushMark_inv (s : State) (i typ : Nat) (payload : List Byte)
    (h : s.Kept q) : (State.pushMark s i typ payload).Kept q := by
  unfold State.pushMark
  try dsimp only
  repeat' split
  all_goals first
    | (with_reducible exact h)
    | (simp (maxDischargeDepth := 40) [*]; done)
    | (refine inv_of_eq h ?_ ?_ ?_ ?_ ?_ ?_ ?_ <;> with_reducible rfl)

@[simp] theorem dropJob_inv (s : State) (i : Nat) (h : s.Kept q) : (State.dropJob s i).Kept q := by
  unfold State.dropJob
  try dsimp only
  repeat' split
  all_goals first
    | (with_reducible exact h)
    | (simp (maxDischargeDepth := 40) [*]; done)
    | (refine inv_of_eq h ?_ ?_ ?_ ?_ ?_ ?_ ?_ <;> with_reducible rfl)

@[simp] theorem marksPass_inv (i : Nat) (x0 : Nat) (x1 : State) (h : x1.Kept q) : (State.marksPass i x0 x1).Kept q := by
  induction x0 generalizing x1 with
  | zero => exact h
  | succ n ih =>
    simp only [State.marksPass]
    repeat' split
    all_goals first
      | exact h
      | (refine ih _ ?_; simp (maxDischargeDepth := 40) [*])

@[simp] theorem setRing_inv (s : State) (p : Port) (k : RingKind) (f : RingSt → RingSt)
    (h : s.Kept q) : (State.setRing s p k f).Kept q := by
  unfold State.setRing
  try dsimp only
  repeat' split
  all_goals first
    | (with_reducible exact h)
    | (simp (maxDischargeDepth := 40) [*]; done)
    | (refine inv_of_eq h ?_ ?_ ?_ ?_ ?_ ?_ ?_ <;> with_reducible rfl)

@[simp] theorem ringStop_inv (s : State) (p : Port) (k : RingKind) (h : s.Kept q) : (State.ringStop s p k).Kept q := by
  unfold State.ringStop
  try dsimp only
  repeat' split
  all_goals first
    | (with_reducible exact h)
    | (simp (maxDischargeDepth := 40) [*]; done)
    | (refine inv_of_eq h ?_ ?_ ?_ ?_ ?_ ?_ ?_ <;> with_reducible rfl)

@[simp] theorem cutParts_inv (s : State) (p : Port) (k : RingKind) (h : s.Kept q) : (State.cutParts s p k).Kept q := by
  unfold State.cutParts
  try dsimp only
  repeat' split
  all_goals first
    | (with_reducible exact h)
    | (simp (maxDischargeDepth := 40) [*]; done)
    | (refine inv_of_eq h ?_ ?_ ?_ ?_ ?_ ?_ ?_ <;> with_reducible rfl)

@[simp] theorem pushRing_inv (s : State) (p : Port) (k : RingKind) (typ : Nat) (payload : List Byte) (t0 t1 : Nat)
    (h : s.Kept q) : (State.pushRing s p k typ payload t0 t1).Kept q := by
  unfold State.pushRing
  try dsimp only
  repeat' split
  all_goals first
    | (with_reducible exact h)
    | (simp (maxDischargeDepth := 40) [*]; done)
    | (refine inv_of_eq h ?_ ?_ ?_ ?_ ?_ ?_ ?_ <;> with_reducible rfl)

@[simp] theorem pushRingData_inv (s : State) (p : Port) (k : RingKind) (typ : Nat) (payload : List Byte) (t0 t1 : Nat)
    (h : s.Kept q) : (State.pushRingData s p k typ payload t0 t1).Kept q := by
  unfold State.pushRingData
  try dsimp only
  repeat' split
  all_goals first
    | (with_reducible exact h)
    | (simp (maxDischargeDepth := 40) [*]; done)
    | (refine inv_of_eq h ?_ ?_ ?_ ?_ ?_ ?_ ?_ <;> with_reducible rfl)

@[simp] theorem ringResume_inv (s : State) (p : Port) (k : RingKind) (h : s.Kept q) : (State.ringResume s p k).Kept q := by
  unfold State.ringResume
  try dsimp only
  repeat' split
  all_goals first
    | (with_reducible exact h)
    | (simp (maxDischargeDepth := 40) [*]; done)
    | (refine inv_of_eq h ?_ ?_ ?_ ?_ ?_ ?_ ?_ <;> with_reducible rfl)

@[simp] theorem markStreams_inv (s : State) (p : Port) (classes : List Nat) (m : Mark)
    (h : s.Kept q) : (State.markStreams s p classes m).Kept q := by
  unfold State.markStreams
  try dsimp only
  repeat' split
  all_goals first
    | (with_reducible exact h)
    | (simp (maxDischargeDepth := 40) [*]; done)
    | (refine inv_of_eq h ?_ ?_ ?_ ?_ ?_ ?_ ?_ <;> with_reducible rfl)

@[simp] theorem markRings_inv (s : State) (p : Port) (kinds : List RingKind) (m : Mark)
    (h : s.Kept q) : (State.markRings s p kinds m).Kept q := by
  unfold State.markRings
  try dsimp only
  repeat' split
  all_goals first
    | (with_reducible exact h)
    | (simp (maxDischargeDepth := 40) [*]; done)
    | (refine inv_of_eq h ?_ ?_ ?_ ?_ ?_ ?_ ?_ <;> with_reducible rfl)

@[simp] theorem headerDueRings_inv (s : State) (p : Port) (h : s.Kept q) : (State.headerDueRings s p).Kept q := by
  unfold State.headerDueRings
  try dsimp only
  repeat' split
  all_goals first
    | (with_reducible exact h)
    | (simp (maxDischargeDepth := 40) [*]; done)
    | (refine inv_of_eq h ?_ ?_ ?_ ?_ ?_ ?_ ?_ <;> with_reducible rfl)

@[simp] theorem markStart_inv (s : State) (p : Port) (cause : Nat) (h : s.Kept q) : (State.markStart s p cause).Kept q := by
  unfold State.markStart
  try dsimp only
  repeat' split
  all_goals first
    | (with_reducible exact h)
    | (simp (maxDischargeDepth := 40) [*]; done)
    | (refine inv_of_eq h ?_ ?_ ?_ ?_ ?_ ?_ ?_ <;> with_reducible rfl)

@[simp] theorem markStop_inv (s : State) (p : Port) (cause : Nat) (h : s.Kept q) : (State.markStop s p cause).Kept q := by
  unfold State.markStop
  try dsimp only
  repeat' split
  all_goals first
    | (with_reducible exact h)
    | (simp (maxDischargeDepth := 40) [*]; done)
    | (refine inv_of_eq h ?_ ?_ ?_ ?_ ?_ ?_ ?_ <;> with_reducible rfl)

@[simp] theorem headerDueAll_inv (s : State) (p : Port) (h : s.Kept q) : (State.headerDueAll s p).Kept q := by
  unfold State.headerDueAll
  try dsimp only
  repeat' split
  all_goals first
    | (with_reducible exact h)
    | (simp (maxDischargeDepth := 40) [*]; done)
    | (refine inv_of_eq h ?_ ?_ ?_ ?_ ?_ ?_ ?_ <;> with_reducible rfl)

@[simp] theorem markSchedule_inv (s : State) (p : Port) (h : s.Kept q) : (State.markSchedule s p).Kept q := by
  unfold State.markSchedule
  try dsimp only
  repeat' split
  all_goals first
    | (with_reducible exact h)
    | (simp (maxDischargeDepth := 40) [*]; done)
    | (refine inv_of_eq h ?_ ?_ ?_ ?_ ?_ ?_ ?_ <;> with_reducible rfl)

@[simp] theorem ringsStart_inv (s : State) (p : Port) (h : s.Kept q) : (State.ringsStart s p).Kept q := by
  unfold State.ringsStart
  try dsimp only
  repeat' split
  all_goals first
    | (with_reducible exact h)
    | (simp (maxDischargeDepth := 40) [*]; done)
    | (refine inv_of_eq h ?_ ?_ ?_ ?_ ?_ ?_ ?_ <;> with_reducible rfl)

@[simp] theorem ringsStop_inv (s : State) (p : Port) (h : s.Kept q) : (State.ringsStop s p).Kept q := by
  unfold State.ringsStop
  try dsimp only
  repeat' split
  all_goals first
    | (with_reducible exact h)
    | (simp (maxDischargeDepth := 40) [*]; done)
    | (refine inv_of_eq h ?_ ?_ ?_ ?_ ?_ ?_ ?_ <;> with_reducible rfl)

end Sys2Proof.Machine
end

