-- ==== Sys2Proof/Laws/InvCapture.lean ====
section
/-! SUPPORT. The functions of Machine/Capture.lean keep the invariant and the queue. -/

namespace Sys2Proof.Machine

variable {q : List Instr}

@[simp] theorem setGroup_inv (s : State) (g : GroupId) (f : GroupSt → GroupSt)
    (h : s.Kept q) : (State.setGroup s g f).Kept q := by
  unfold State.setGroup
  try dsimp only
  repeat' split
  all_goals first
    | (with_reducible exact h)
    | (simp (maxDischargeDepth := 40) [*]; done)
    | (refine inv_of_eq h ?_ ?_ ?_ ?_ ?_ ?_ ?_ <;> with_reducible rfl)

@[simp] theorem openSnap_inv (s : State) (g : GroupId) (tTrig eventId location : Nat) (zone : Option (Fin 4096)) (forced spec : Bool) (pos : Int)
    (h : s.Kept q) : (State.openSnap s g tTrig eventId location zone forced spec pos).Kept q := by
  unfold State.openSnap
  try dsimp only
  repeat' split
  all_goals first
    | (with_reducible exact h)
    | (simp (maxDischargeDepth := 40) [*]; done)
    | (refine inv_of_eq h ?_ ?_ ?_ ?_ ?_ ?_ ?_ <;> with_reducible rfl)

@[simp] theorem markTrigger_inv (s : State) (g : GroupId) (pos : Int) (id cause flags eventId location : Nat)
    (h : s.Kept q) : (State.markTrigger s g pos id cause flags eventId location).Kept q := by
  unfold State.markTrigger
  try dsimp only
  repeat' split
  all_goals first
    | (with_reducible exact h)
    | (simp (maxDischargeDepth := 40) [*]; done)
    | (refine inv_of_eq h ?_ ?_ ?_ ?_ ?_ ?_ ?_ <;> with_reducible rfl)

@[simp] theorem takeSnap_inv (s : State) (g : GroupId) (tTrig eventId location : Nat) (pos : Int) (zone : Option (Fin 4096)) (forced : Bool)
    (h : s.Kept q) : (State.takeSnap s g tTrig eventId location pos zone forced).Kept q := by
  unfold State.takeSnap
  try dsimp only
  repeat' split
  all_goals first
    | (with_reducible exact h)
    | (simp (maxDischargeDepth := 40) [*]; done)
    | (refine inv_of_eq h ?_ ?_ ?_ ?_ ?_ ?_ ?_ <;> with_reducible rfl)

@[simp] theorem setSnap_inv (s : State) (id : Nat) (f : Snapshot → Snapshot)
    (h : s.Kept q) : (State.setSnap s id f).Kept q := by
  unfold State.setSnap
  try dsimp only
  repeat' split
  all_goals first
    | (with_reducible exact h)
    | (simp (maxDischargeDepth := 40) [*]; done)
    | (refine inv_of_eq h ?_ ?_ ?_ ?_ ?_ ?_ ?_ <;> with_reducible rfl)

@[simp] theorem freeSnap_inv (s : State) (id : Nat) (h : s.Kept q) : (State.freeSnap s id).Kept q := by
  unfold State.freeSnap
  try dsimp only
  repeat' split
  all_goals first
    | (with_reducible exact h)
    | (simp (maxDischargeDepth := 40) [*]; done)
    | (refine inv_of_eq h ?_ ?_ ?_ ?_ ?_ ?_ ?_ <;> with_reducible rfl)

@[simp] theorem discardSnap_inv (s : State) (g : GroupId) (id : Nat) (h : s.Kept q) : (State.discardSnap s g id).Kept q := by
  unfold State.discardSnap
  try dsimp only
  repeat' split
  all_goals first
    | (with_reducible exact h)
    | (simp (maxDischargeDepth := 40) [*]; done)
    | (refine inv_of_eq h ?_ ?_ ?_ ?_ ?_ ?_ ?_ <;> with_reducible rfl)

@[simp] theorem snapProvisional_inv (s : State) (g : GroupId) (tSample eventId location : Nat) (pos : Int) (zone : Fin 4096)
    (h : s.Kept q) : (State.snapProvisional s g tSample eventId location pos zone).Kept q := by
  unfold State.snapProvisional
  try dsimp only
  repeat' split
  all_goals first
    | (with_reducible exact h)
    | (simp (maxDischargeDepth := 40) [*]; done)
    | (refine inv_of_eq h ?_ ?_ ?_ ?_ ?_ ?_ ?_ <;> with_reducible rfl)

@[simp] theorem snapRetract_inv (s : State) (g : GroupId) (eventId : Nat)
    (h : s.Kept q) : (State.snapRetract s g eventId).Kept q := by
  unfold State.snapRetract
  try dsimp only
  repeat' split
  all_goals first
    | (with_reducible exact h)
    | (simp (maxDischargeDepth := 40) [*]; done)
    | (refine inv_of_eq h ?_ ?_ ?_ ?_ ?_ ?_ ?_ <;> with_reducible rfl)

@[simp] theorem suppressTrigger_inv (s : State) (g : GroupId) (cause eventId location : Nat) (pos : Int)
    (h : s.Kept q) : (State.suppressTrigger s g cause eventId location pos).Kept q := by
  unfold State.suppressTrigger
  try dsimp only
  repeat' split
  all_goals first
    | (with_reducible exact h)
    | (simp (maxDischargeDepth := 40) [*]; done)
    | (refine inv_of_eq h ?_ ?_ ?_ ?_ ?_ ?_ ?_ <;> with_reducible rfl)

@[simp] theorem confirmTrigger_inv (s : State) (g : GroupId) (tSample eventId location : Nat) (pos : Int) (zone : Fin 4096)
    (h : s.Kept q) : (State.confirmTrigger s g tSample eventId location pos zone).Kept q := by
  unfold State.confirmTrigger
  try dsimp only
  repeat' split
  all_goals first
    | (with_reducible exact h)
    | (simp (maxDischargeDepth := 40) [*]; done)
    | (refine inv_of_eq h ?_ ?_ ?_ ?_ ?_ ?_ ?_ <;> with_reducible rfl)

@[simp] theorem snapConfirm_inv (s : State) (g : GroupId) (tSample eventId location : Nat) (pos : Int) (zone : Fin 4096)
    (h : s.Kept q) : (State.snapConfirm s g tSample eventId location pos zone).Kept q := by
  unfold State.snapConfirm
  try dsimp only
  repeat' split
  all_goals first
    | (with_reducible exact h)
    | (simp (maxDischargeDepth := 40) [*]; done)
    | (refine inv_of_eq h ?_ ?_ ?_ ?_ ?_ ?_ ?_ <;> with_reducible rfl)

@[simp] theorem publish_inv (s : State) (n : Snapshot) (h : s.Kept q) : (State.publish s n).Kept q := by
  unfold State.publish
  try dsimp only
  repeat' split
  all_goals first
    | (with_reducible exact h)
    | (simp (maxDischargeDepth := 40) [*]; done)
    | (refine inv_of_eq h ?_ ?_ ?_ ?_ ?_ ?_ ?_ <;> with_reducible rfl)

@[simp] theorem maskSnap_inv (s : State) (p : Port) (tTrig : Nat) (h : s.Kept q) : (State.maskSnap s p tTrig).Kept q := by
  unfold State.maskSnap
  try dsimp only
  repeat' split
  all_goals first
    | (with_reducible exact h)
    | (simp (maxDischargeDepth := 40) [*]; done)
    | (refine inv_of_eq h ?_ ?_ ?_ ?_ ?_ ?_ ?_ <;> with_reducible rfl)

end Sys2Proof.Machine
end

