-- ==== Sys2Proof/Laws/InvOutputs.lean ====
section
/-! SUPPORT. The functions of Machine/Outputs.lean keep the invariant and the queue. -/

namespace Sys2Proof.Machine

variable {q : List Instr}

@[simp] theorem setLoop_inv (s : State) (n : Fin 8) (f : LoopSt → LoopSt) (h : s.Kept q) : (State.setLoop s n f).Kept q := by
  unfold State.setLoop
  try dsimp only
  repeat' split
  all_goals first
    | (with_reducible exact h)
    | (simp (maxDischargeDepth := 40) [*]; done)
    | (refine inv_of_eq h ?_ ?_ ?_ ?_ ?_ ?_ ?_ <;> with_reducible rfl)

@[simp] theorem setAlarm_inv (s : State) (n : Fin 8) (f : AlarmSt → AlarmSt)
    (h : s.Kept q) : (State.setAlarm s n f).Kept q := by
  unfold State.setAlarm
  try dsimp only
  repeat' split
  all_goals first
    | (with_reducible exact h)
    | (simp (maxDischargeDepth := 40) [*]; done)
    | (refine inv_of_eq h ?_ ?_ ?_ ?_ ?_ ?_ ?_ <;> with_reducible rfl)

@[simp] theorem loopClear_inv (s : State) (n : Fin 8) (cause : Nat) (h : s.Kept q) : (State.loopClear s n cause).Kept q := by
  unfold State.loopClear
  try dsimp only
  repeat' split
  all_goals first
    | (with_reducible exact h)
    | (simp (maxDischargeDepth := 40) [*]; done)
    | (refine inv_of_eq h ?_ ?_ ?_ ?_ ?_ ?_ ?_ <;> with_reducible rfl)

@[simp] theorem loopUnjudge_inv (s : State) (n : Fin 8) (h : s.Kept q) : (State.loopUnjudge s n).Kept q := by
  unfold State.loopUnjudge
  try dsimp only
  repeat' split
  all_goals first
    | (with_reducible exact h)
    | (simp (maxDischargeDepth := 40) [*]; done)
    | (refine inv_of_eq h ?_ ?_ ?_ ?_ ?_ ?_ ?_ <;> with_reducible rfl)

@[simp] theorem loopEval_inv (n : Fin 8) (s : State) (h : s.Kept q) : (State.loopEval n s).Kept q := by
  unfold State.loopEval
  try dsimp only
  repeat' split
  all_goals first
    | (with_reducible exact h)
    | (simp (maxDischargeDepth := 40) [*]; done)
    | (refine inv_of_eq h ?_ ?_ ?_ ?_ ?_ ?_ ?_ <;> with_reducible rfl)

@[simp] theorem alarmEval_inv (n : Fin 8) (s : State) (h : s.Kept q) : (State.alarmEval n s).Kept q := by
  unfold State.alarmEval
  try dsimp only
  repeat' split
  all_goals first
    | (with_reducible exact h)
    | (simp (maxDischargeDepth := 40) [*]; done)
    | (refine inv_of_eq h ?_ ?_ ?_ ?_ ?_ ?_ ?_ <;> with_reducible rfl)

@[simp] theorem outputsEval_inv (s : State) (h : s.Kept q) : (State.outputsEval s).Kept q := by
  unfold State.outputsEval
  try dsimp only
  repeat' split
  all_goals first
    | (with_reducible exact h)
    | (simp (maxDischargeDepth := 40) [*]; done)
    | (refine inv_of_eq h ?_ ?_ ?_ ?_ ?_ ?_ ?_ <;> with_reducible rfl)

@[simp] theorem loopMeasured_inv (s : State) (n : Fin 8) (ua : Nat) (h : s.Kept q) : (State.loopMeasured s n ua).Kept q := by
  unfold State.loopMeasured
  try dsimp only
  repeat' split
  all_goals first
    | (with_reducible exact h)
    | (simp (maxDischargeDepth := 40) [*]; done)
    | (refine inv_of_eq h ?_ ?_ ?_ ?_ ?_ ?_ ?_ <;> with_reducible rfl)

@[simp] theorem loopTick_inv (dt : Nat) (measured : Vector Nat 8) (s0 : State)
    (h : s0.Kept q) : (loopTick dt measured s0).Kept q := by
  unfold loopTick
  try dsimp only
  repeat' split
  all_goals first
    | (with_reducible exact h)
    | (simp (maxDischargeDepth := 40) [*]; done)
    | (refine inv_of_eq h ?_ ?_ ?_ ?_ ?_ ?_ ?_ <;> with_reducible rfl)

@[simp] theorem loopCauseSet_inv (dt : Nat) (n : Fin 8) (cause : Fin 3) (x : LoopReading) (s0 : State)
    (h : s0.Kept q) : (loopCauseSet dt n cause x s0).Kept q := by
  unfold loopCauseSet
  try dsimp only
  repeat' split
  all_goals first
    | (with_reducible exact h)
    | (simp (maxDischargeDepth := 40) [*]; done)
    | (refine inv_of_eq h ?_ ?_ ?_ ?_ ?_ ?_ ?_ <;> with_reducible rfl)

@[simp] theorem loopCauseClear_inv (dt : Nat) (n : Fin 8) (cause : Fin 3) (x : LoopReading) (s0 : State)
    (h : s0.Kept q) : (loopCauseClear dt n cause x s0).Kept q := by
  unfold loopCauseClear
  try dsimp only
  repeat' split
  all_goals first
    | (with_reducible exact h)
    | (simp (maxDischargeDepth := 40) [*]; done)
    | (refine inv_of_eq h ?_ ?_ ?_ ?_ ?_ ?_ ?_ <;> with_reducible rfl)

@[simp] theorem loopDriveRetry_inv (dt : Nat) (n : Fin 8) (s0 : State) (h : s0.Kept q) : (loopDriveRetry dt n s0).Kept q := by
  unfold loopDriveRetry
  try dsimp only
  repeat' split
  all_goals first
    | (with_reducible exact h)
    | (simp (maxDischargeDepth := 40) [*]; done)
    | (refine inv_of_eq h ?_ ?_ ?_ ?_ ?_ ?_ ?_ <;> with_reducible rfl)

@[simp] theorem alarmOverload_inv (dt : Nat) (n : Fin 8) (s0 : State) (h : s0.Kept q) : (alarmOverload dt n s0).Kept q := by
  unfold alarmOverload
  try dsimp only
  repeat' split
  all_goals first
    | (with_reducible exact h)
    | (simp (maxDischargeDepth := 40) [*]; done)
    | (refine inv_of_eq h ?_ ?_ ?_ ?_ ?_ ?_ ?_ <;> with_reducible rfl)

@[simp] theorem alarmRetry_inv (dt : Nat) (n : Fin 8) (s0 : State) (h : s0.Kept q) : (alarmRetry dt n s0).Kept q := by
  unfold alarmRetry
  try dsimp only
  repeat' split
  all_goals first
    | (with_reducible exact h)
    | (simp (maxDischargeDepth := 40) [*]; done)
    | (refine inv_of_eq h ?_ ?_ ?_ ?_ ?_ ?_ ?_ <;> with_reducible rfl)

@[simp] theorem alarmOverloadClear_inv (dt : Nat) (n : Fin 8) (s0 : State)
    (h : s0.Kept q) : (alarmOverloadClear dt n s0).Kept q := by
  unfold alarmOverloadClear
  try dsimp only
  repeat' split
  all_goals first
    | (with_reducible exact h)
    | (simp (maxDischargeDepth := 40) [*]; done)
    | (refine inv_of_eq h ?_ ?_ ?_ ?_ ?_ ?_ ?_ <;> with_reducible rfl)

@[simp] theorem alarmMinActiveEnd_inv (dt : Nat) (n : Fin 8) (s : State)
    (h : s.Kept q) : (alarmMinActiveEnd dt n s).Kept q := by
  unfold alarmMinActiveEnd
  try dsimp only
  repeat' split
  all_goals first
    | (with_reducible exact h)
    | (simp (maxDischargeDepth := 40) [*]; done)
    | (refine inv_of_eq h ?_ ?_ ?_ ?_ ?_ ?_ ?_ <;> with_reducible rfl)

end Sys2Proof.Machine
end

