-- ==== Sys2Proof/Laws/InvZones.lean ====
section
/-! SUPPORT. The functions of Machine/Zones.lean keep the invariant and the queue. -/

namespace Sys2Proof.Machine

variable {q : List Instr}

@[simp] theorem setZone_inv (s : State) (z : ZoneId) (f : ZoneSt → ZoneSt) (h : s.Kept q) : (State.setZone s z f).Kept q := by
  unfold State.setZone
  try dsimp only
  repeat' split
  all_goals first
    | (with_reducible exact h)
    | (simp (maxDischargeDepth := 40) [*]; done)
    | (refine inv_of_eq h ?_ ?_ ?_ ?_ ?_ ?_ ?_ <;> with_reducible rfl)

@[simp] theorem toClass_inv (s : State) (cls typ : Nat) (payload : List Byte)
    (h : s.Kept q) : (State.toClass s cls typ payload).Kept q := by
  unfold State.toClass
  try dsimp only
  repeat' split
  all_goals first
    | (with_reducible exact h)
    | (simp (maxDischargeDepth := 40) [*]; done)
    | (refine inv_of_eq h ?_ ?_ ?_ ?_ ?_ ?_ ?_ <;> with_reducible rfl)

@[simp] theorem toQuery_inv (s : State) (r : List Byte) (h : s.Kept q) : (State.toQuery s r).Kept q := by
  unfold State.toQuery
  try dsimp only
  repeat' split
  all_goals first
    | (with_reducible exact h)
    | (simp (maxDischargeDepth := 40) [*]; done)
    | (refine inv_of_eq h ?_ ?_ ?_ ?_ ?_ ?_ ?_ <;> with_reducible rfl)

@[simp] theorem emitRecord_inv (s : State) (z : ZoneId) (kind : EventKind) (flags cause : Nat)
    (h : s.Kept q) : (State.emitRecord s z kind flags cause).Kept q := by
  unfold State.emitRecord
  try dsimp only
  repeat' split
  all_goals first
    | (with_reducible exact h)
    | (simp (maxDischargeDepth := 40) [*]; done)
    | (refine inv_of_eq h ?_ ?_ ?_ ?_ ?_ ?_ ?_ <;> with_reducible rfl)

@[simp] theorem takeEventId_inv (s : State) (h : s.Kept q) : (State.takeEventId s).2.Kept q := by
  unfold State.takeEventId
  try dsimp only
  repeat' split
  all_goals first
    | (with_reducible exact h)
    | (simp (maxDischargeDepth := 40) [*]; done)
    | (refine inv_of_eq h ?_ ?_ ?_ ?_ ?_ ?_ ?_ <;> with_reducible rfl)

@[simp] theorem sendSummary_inv (s : State) (g : GroupId) (periodic : Bool)
    (h : s.Kept q) : (State.sendSummary s g periodic).Kept q := by
  unfold State.sendSummary
  try dsimp only
  repeat' split
  all_goals first
    | (with_reducible exact h)
    | (simp (maxDischargeDepth := 40) [*]; done)
    | (refine inv_of_eq h ?_ ?_ ?_ ?_ ?_ ?_ ?_ <;> with_reducible rfl)

@[simp] theorem groupEval_inv (g : GroupId) (s : State) (h : s.Kept q) : (State.groupEval g s).Kept q := by
  unfold State.groupEval
  try dsimp only
  repeat' split
  all_goals first
    | (with_reducible exact h)
    | (simp (maxDischargeDepth := 40) [*]; done)
    | (refine inv_of_eq h ?_ ?_ ?_ ?_ ?_ ?_ ?_ <;> with_reducible rfl)

@[simp] theorem groupsEval_inv (s : State) (gs : List GroupId) (h : s.Kept q) : (State.groupsEval s gs).Kept q := by
  unfold State.groupsEval
  try dsimp only
  repeat' split
  all_goals first
    | (with_reducible exact h)
    | (simp (maxDischargeDepth := 40) [*]; done)
    | (refine inv_of_eq h ?_ ?_ ?_ ?_ ?_ ?_ ?_ <;> with_reducible rfl)

@[simp] theorem zoneCarry_inv (s : State) (z : ZoneId) (refHeld : Bool)
    (h : s.Kept q) : (State.zoneCarry s z refHeld).Kept q := by
  unfold State.zoneCarry
  try dsimp only
  repeat' split
  all_goals first
    | (with_reducible exact h)
    | (simp (maxDischargeDepth := 40) [*]; done)
    | (refine inv_of_eq h ?_ ?_ ?_ ?_ ?_ ?_ ?_ <;> with_reducible rfl)

@[simp] theorem snapsRetract_inv (s : State) (eventId : Nat) (h : s.Kept q) : (State.snapsRetract s eventId).Kept q := by
  unfold State.snapsRetract
  try dsimp only
  repeat' split
  all_goals first
    | (with_reducible exact h)
    | (simp (maxDischargeDepth := 40) [*]; done)
    | (refine inv_of_eq h ?_ ?_ ?_ ?_ ?_ ?_ ?_ <;> with_reducible rfl)

@[simp] theorem zoneClose_inv (z : ZoneId) (cause : Nat) (dest : ZoneMode) (s0 : State)
    (h : s0.Kept q) : (State.zoneClose z cause dest s0).Kept q := by
  unfold State.zoneClose
  try dsimp only
  repeat' split
  all_goals first
    | (with_reducible exact h)
    | (simp (maxDischargeDepth := 40) [*]; done)
    | (refine inv_of_eq h ?_ ?_ ?_ ?_ ?_ ?_ ?_ <;> with_reducible rfl)

@[simp] theorem zonesPortStop_inv (s : State) (p : Port) (h : s.Kept q) : (State.zonesPortStop s p).Kept q := by
  unfold State.zonesPortStop
  try dsimp only
  repeat' split
  all_goals first
    | (with_reducible exact h)
    | (simp (maxDischargeDepth := 40) [*]; done)
    | (refine inv_of_eq h ?_ ?_ ?_ ?_ ?_ ?_ ?_ <;> with_reducible rfl)

@[simp] theorem zonesPortStart_inv (s : State) (p : Port) (h : s.Kept q) : (State.zonesPortStart s p).Kept q := by
  unfold State.zonesPortStart
  try dsimp only
  repeat' split
  all_goals first
    | (with_reducible exact h)
    | (simp (maxDischargeDepth := 40) [*]; done)
    | (refine inv_of_eq h ?_ ?_ ?_ ?_ ?_ ?_ ?_ <;> with_reducible rfl)

@[simp] theorem zoneEnable_inv (s : State) (z : ZoneId) (h : s.Kept q) : (State.zoneEnable s z).Kept q := by
  unfold State.zoneEnable
  try dsimp only
  repeat' split
  all_goals first
    | (with_reducible exact h)
    | (simp (maxDischargeDepth := 40) [*]; done)
    | (refine inv_of_eq h ?_ ?_ ?_ ?_ ?_ ?_ ?_ <;> with_reducible rfl)

@[simp] theorem zoneDisable_inv (s : State) (z : ZoneId) (h : s.Kept q) : (State.zoneDisable s z).Kept q := by
  unfold State.zoneDisable
  try dsimp only
  repeat' split
  all_goals first
    | (with_reducible exact h)
    | (simp (maxDischargeDepth := 40) [*]; done)
    | (refine inv_of_eq h ?_ ?_ ?_ ?_ ?_ ?_ ?_ <;> with_reducible rfl)

@[simp] theorem detectionOff_inv (s : State) (h : s.Kept q) : (State.detectionOff s).Kept q := by
  unfold State.detectionOff
  try dsimp only
  repeat' split
  all_goals first
    | (with_reducible exact h)
    | (simp (maxDischargeDepth := 40) [*]; done)
    | (refine inv_of_eq h ?_ ?_ ?_ ?_ ?_ ?_ ?_ <;> with_reducible rfl)

@[simp] theorem zonesLost_inv (s : State) (h : s.Kept q) : (State.zonesLost s).Kept q := by
  unfold State.zonesLost
  try dsimp only
  repeat' split
  all_goals first
    | (with_reducible exact h)
    | (simp (maxDischargeDepth := 40) [*]; done)
    | (refine inv_of_eq h ?_ ?_ ?_ ?_ ?_ ?_ ?_ <;> with_reducible rfl)

@[simp] theorem zoneNote_inv (s : State) (z : ZoneId) (j : ZoneJudge) (v : ZoneView) (refHeld : Bool)
    (h : s.Kept q) : (State.zoneNote s z j v refHeld).Kept q := by
  unfold State.zoneNote
  try dsimp only
  repeat' split
  all_goals first
    | (with_reducible exact h)
    | (simp (maxDischargeDepth := 40) [*]; done)
    | (refine inv_of_eq h ?_ ?_ ?_ ?_ ?_ ?_ ?_ <;> with_reducible rfl)

@[simp] theorem zoneRetract_inv (s : State) (z : ZoneId) (cause : Nat)
    (h : s.Kept q) : (State.zoneRetract s z cause).Kept q := by
  unfold State.zoneRetract
  try dsimp only
  repeat' split
  all_goals first
    | (with_reducible exact h)
    | (simp (maxDischargeDepth := 40) [*]; done)
    | (refine inv_of_eq h ?_ ?_ ?_ ?_ ?_ ?_ ?_ <;> with_reducible rfl)

@[simp] theorem zoneConfirm_inv (s : State) (z : ZoneId) (noProv : Bool) (pos : Int)
    (h : s.Kept q) : (State.zoneConfirm s z noProv pos).Kept q := by
  unfold State.zoneConfirm
  try dsimp only
  repeat' split
  all_goals first
    | (with_reducible exact h)
    | (simp (maxDischargeDepth := 40) [*]; done)
    | (refine inv_of_eq h ?_ ?_ ?_ ?_ ?_ ?_ ?_ <;> with_reducible rfl)

@[simp] theorem zoneMachine_inv (s : State) (z : ZoneId) (j : ZoneJudge) (c : Cond) (hold : Bool) (pos : Int)
    (h : s.Kept q) : (State.zoneMachine s z j c hold pos).Kept q := by
  unfold State.zoneMachine
  try dsimp only
  repeat' split
  all_goals first
    | (with_reducible exact h)
    | (simp (maxDischargeDepth := 40) [*]; done)
    | (refine inv_of_eq h ?_ ?_ ?_ ?_ ?_ ?_ ?_ <;> with_reducible rfl)

@[simp] theorem zoneBase_inv (s : State) (z : ZoneId) (v : ZoneView) (h : s.Kept q) : (State.zoneBase s z v).Kept q := by
  unfold State.zoneBase
  try dsimp only
  repeat' split
  all_goals first
    | (with_reducible exact h)
    | (simp (maxDischargeDepth := 40) [*]; done)
    | (refine inv_of_eq h ?_ ?_ ?_ ?_ ?_ ?_ ?_ <;> with_reducible rfl)

@[simp] theorem zoneSample_inv (s : State) (z : ZoneId) (tSample : Nat) (pos : Int) (j : ZoneJudge) (reconfigured : Bool) (later : List (Nat × ZoneJudge)) (view : State → ZoneView) (refHeld : Bool)
    (h : s.Kept q) : (State.zoneSample s z tSample pos j reconfigured later view refHeld).Kept q := by
  unfold State.zoneSample
  try dsimp only
  repeat' split
  all_goals first
    | (with_reducible exact h)
    | (simp (maxDischargeDepth := 40) [*]; done)
    | (refine inv_of_eq h ?_ ?_ ?_ ?_ ?_ ?_ ?_ <;> with_reducible rfl)

@[simp] theorem forgetBlocks_inv (s : State) (p : Port) (h : s.Kept q) : (State.forgetBlocks s p).Kept q := by
  unfold State.forgetBlocks
  try dsimp only
  repeat' split
  all_goals first
    | (with_reducible exact h)
    | (simp (maxDischargeDepth := 40) [*]; done)
    | (refine inv_of_eq h ?_ ?_ ?_ ?_ ?_ ?_ ?_ <;> with_reducible rfl)

@[simp] theorem vibrationZoneSample_inv (dt : Nat) (z : ZoneId) (block : Nat) (s0 : State)
    (h : s0.Kept q) : (vibrationZoneSample dt z block s0).Kept q := by
  unfold vibrationZoneSample
  try dsimp only
  repeat' split
  all_goals first
    | (with_reducible exact h)
    | (simp (maxDischargeDepth := 40) [*]; done)
    | (refine inv_of_eq h ?_ ?_ ?_ ?_ ?_ ?_ ?_ <;> with_reducible rfl)

@[simp] theorem temperatureZoneSample_inv (dt : Nat) (z : ZoneId) (s0 : State)
    (h : s0.Kept q) : (temperatureZoneSample dt z s0).Kept q := by
  unfold temperatureZoneSample
  try dsimp only
  repeat' split
  all_goals first
    | (with_reducible exact h)
    | (simp (maxDischargeDepth := 40) [*]; done)
    | (refine inv_of_eq h ?_ ?_ ?_ ?_ ?_ ?_ ?_ <;> with_reducible rfl)

@[simp] theorem summaryPeriodic_inv (dt : Nat) (s0 : State) (h : s0.Kept q) : (summaryPeriodic dt s0).Kept q := by
  unfold summaryPeriodic
  try dsimp only
  repeat' split
  all_goals first
    | (with_reducible exact h)
    | (simp (maxDischargeDepth := 40) [*]; done)
    | (refine inv_of_eq h ?_ ?_ ?_ ?_ ?_ ?_ ?_ <;> with_reducible rfl)

@[simp] theorem ackGroup_inv (s : State) (g : GroupId) (h : s.Kept q) : (State.ackGroup s g).2.Kept q := by
  unfold State.ackGroup
  try dsimp only
  repeat' split
  all_goals first
    | (with_reducible exact h)
    | (simp (maxDischargeDepth := 40) [*]; done)
    | (refine inv_of_eq h ?_ ?_ ?_ ?_ ?_ ?_ ?_ <;> with_reducible rfl)

end Sys2Proof.Machine
end

