-- ==== Sys2Proof/Laws/InvQueue.lean ====
section
/-! SUPPORT. The functions of Machine/Queue.lean keep the invariant and the queue. -/

namespace Sys2Proof.Machine

variable {q : List Instr}

/-- An engine whose memories, FLG and BEXP are as before is as it should be. -/
@[simp] theorem ok_iff (x : EngineSt) : EngineSt.ok x ↔ Memory.wf blankByte x.pmem = true ∧
    Memory.wf blankByte x.dmem = true ∧ x.flg.toNat < 256 ∧ x.bexp.toNat ≤ 24 := Iff.rfl

theorem engine_pmem {s : State} (h : s.Kept q) (e : EngineId) : Memory.wf blankByte (s.engine e).pmem = true := (h.1.2 e).1

theorem engine_dmem {s : State} (h : s.Kept q) (e : EngineId) : Memory.wf blankByte (s.engine e).dmem = true := (h.1.2 e).2.1

theorem engine_flg {s : State} (h : s.Kept q) (e : EngineId) : (s.engine e).flg.toNat < 256 := (h.1.2 e).2.2.1

theorem engine_bexp {s : State} (h : s.Kept q) (e : EngineId) : (s.engine e).bexp.toNat ≤ 24 := (h.1.2 e).2.2.2

@[simp] theorem val_pmem (x : {x : EngineSt // EngineSt.ok x}) : Memory.wf blankByte x.1.pmem = true := x.2.1

@[simp] theorem val_dmem (x : {x : EngineSt // EngineSt.ok x}) : Memory.wf blankByte x.1.dmem = true := x.2.2.1

@[simp] theorem val_flg (x : {x : EngineSt // EngineSt.ok x}) : x.1.flg.toNat < 256 := x.2.2.2.1

@[simp] theorem val_bexp (x : {x : EngineSt // EngineSt.ok x}) : x.1.bexp.toNat ≤ 24 := x.2.2.2.2

theorem setEngine_at (s : State) (e : EngineId) (f : EngineSt → EngineSt) (h : s.Kept q)
    (hf : EngineSt.ok (f (s.engine e))) : (State.setEngine s e f).Kept q := by
  refine setClove_inv s _ h (fun i => ?_)
  by_cases hi : i = e
  · subst hi
    simpa [vmod, State.engine] using hf
  · have := h.1.2 i
    simpa [vmod, Vector.getElem_set, Fin.val_ne_of_ne (Ne.symm hi)] using this

/-- A change of CloveSt that leaves the engines alone. -/
@[simp] theorem setClove_same_inv (s : State) (f : CloveSt → CloveSt) (h : s.Kept q)
    (hf : ∀ c, (f c).engines = c.engines) : (s.setClove f).Kept q :=
  inv_of_eq h rfl rfl rfl rfl rfl (hf s.clove) rfl

/-- The code of the programs, in a canonical memory. -/
@[simp] theorem programMemory_wf (ps : Tab Program) : Memory.wf blankByte (programMemory ps) = true := by
  have key : ∀ (l : Tab Program) (m : Memory), Memory.wf blankByte m = true →
      Memory.wf blankByte (l.foldl (fun m e => memWriteAll blankByte m (codeBase ps e.1) e.2.code) m) = true := by
    intro l
    induction l with
    | nil => exact fun m h => h
    | cons a l ih => exact fun m h => ih _ (memWriteAll_wf _ _ _ _ h)
  exact key ps [] rfl

@[simp] theorem setEngine_inv (s : State) (e : EngineId) (f : EngineSt → EngineSt)
    (h : s.Kept q)
    (hf : ∀ x : {x : EngineSt // EngineSt.ok x}, EngineSt.ok (f x.1)) : (State.setEngine s e f).Kept q := by
  exact setEngine_at s e f h (hf ⟨s.engine e, h.1.2 e⟩)

@[simp] theorem setCluster_inv (s : State) (c : Port) (f : ClusterSt → ClusterSt)
    (h : s.Kept q) : (State.setCluster s c f).Kept q := by
  unfold State.setCluster
  try dsimp only
  repeat' split
  all_goals first
    | (with_reducible exact h)
    | (simp (maxDischargeDepth := 40) [*]; done)
    | (refine inv_of_eq h ?_ ?_ ?_ ?_ ?_ ?_ ?_ <;> with_reducible rfl)

@[simp] theorem gapBlock_inv (s : State) (p : Port) (b : Block) (c : GapCause)
    (h : s.Kept q) : (State.gapBlock s p b c).Kept q := by
  unfold State.gapBlock
  try dsimp only
  repeat' split
  all_goals first
    | (with_reducible exact h)
    | (simp (maxDischargeDepth := 40) [*]; done)
    | (refine inv_of_eq h ?_ ?_ ?_ ?_ ?_ ?_ ?_ <;> with_reducible rfl)

@[simp] theorem releaseBlocks_inv (p : Port) (x0 : Nat) (x1 : State)
    (h : x1.Kept q) : (State.releaseBlocks p x0 x1).Kept q := by
  induction x0 generalizing x1 with
  | zero => exact h
  | succ n ih =>
    simp only [State.releaseBlocks]
    split
    · exact h
    · split
      · exact ih _ (by simp (maxDischargeDepth := 40) [*])
      · exact h

@[simp] theorem release_inv (s : State) (p : Port) (h : s.Kept q) : (State.release s p).Kept q := by
  unfold State.release
  try dsimp only
  repeat' split
  all_goals first
    | (with_reducible exact h)
    | (simp (maxDischargeDepth := 40) [*]; done)
    | (refine inv_of_eq h ?_ ?_ ?_ ?_ ?_ ?_ ?_ <;> with_reducible rfl)

@[simp] theorem blockJoins_inv (s : State) (p : Port) (j : Nat) (h : s.Kept q) : (State.blockJoins s p j).Kept q := by
  unfold State.blockJoins
  try dsimp only
  repeat' split
  all_goals first
    | (with_reducible exact h)
    | (simp (maxDischargeDepth := 40) [*]; done)
    | (refine inv_of_eq h ?_ ?_ ?_ ?_ ?_ ?_ ?_ <;> with_reducible rfl)

@[simp] theorem queueStart_inv (s : State) (p : Port) (h : s.Kept q) : (State.queueStart s p).Kept q := by
  unfold State.queueStart
  try dsimp only
  repeat' split
  all_goals first
    | (with_reducible exact h)
    | (simp (maxDischargeDepth := 40) [*]; done)
    | (refine inv_of_eq h ?_ ?_ ?_ ?_ ?_ ?_ ?_ <;> with_reducible rfl)

@[simp] theorem closeColumn_inv (p : Port) (j : Nat) (x0 : Nat) (x1 : State)
    (h : x1.Kept q) : (State.closeColumn p j x0 x1).Kept q := by
  induction x0 generalizing x1 with
  | zero => exact h
  | succ n ih =>
    simp only [State.closeColumn]
    split
    · exact ih _ (by simp (maxDischargeDepth := 40) [*])
    · exact h

@[simp] theorem queueStop_inv (s : State) (p : Port) (h : s.Kept q) : (State.queueStop s p).Kept q := by
  unfold State.queueStop
  try dsimp only
  repeat' split
  all_goals first
    | (with_reducible exact h)
    | (simp (maxDischargeDepth := 40) [*]; done)
    | (refine inv_of_eq h ?_ ?_ ?_ ?_ ?_ ?_ ?_ <;> with_reducible rfl)

@[simp] theorem loadDone_inv (s : State) (h : s.Kept q) : (State.loadDone s).Kept q := by
  unfold State.loadDone
  try dsimp only
  repeat' split
  all_goals first
    | (with_reducible exact h)
    | (simp (maxDischargeDepth := 40) [*]; done)
    | (refine inv_of_eq h ?_ ?_ ?_ ?_ ?_ ?_ ?_ <;> with_reducible rfl)

@[simp] theorem engineBoundary_inv (s : State) (e : EngineId) (h : s.Kept q) : (State.engineBoundary s e).Kept q := by
  unfold State.engineBoundary
  try dsimp only
  repeat' split
  all_goals first
    | (with_reducible exact h)
    | (simp (maxDischargeDepth := 40) [*]; done)
    | (refine inv_of_eq h ?_ ?_ ?_ ?_ ?_ ?_ ?_ <;> with_reducible rfl)

@[simp] theorem relayEngines_inv (s : State) (h : s.Kept q) : (State.relayEngines s).Kept q := by
  unfold State.relayEngines
  refine inv_foldl _ _ _ (fun t e => ?_) h
  split <;> simp (maxDischargeDepth := 40) [*]

@[simp] theorem loadBegin_inv (s : State) (rq : Req) (slot : Nat) (prog : Program)
    (h : s.Kept q) : (State.loadBegin s rq slot prog).Kept q := by
  unfold State.loadBegin
  refine loadDone_inv _ (inv_foldl _ _ _ (fun t e => ?_) (by simp (maxDischargeDepth := 40) [*]))
  split <;> simp (maxDischargeDepth := 40) [*]

@[simp] theorem engineIdles_inv (s : State) (e : EngineId) (dest : EngineMode)
    (h : s.Kept q) : (State.engineIdles s e dest).Kept q := by
  unfold State.engineIdles
  try dsimp only
  repeat' split
  all_goals first
    | (with_reducible exact h)
    | (simp (maxDischargeDepth := 40) [*]; done)
    | (refine inv_of_eq h ?_ ?_ ?_ ?_ ?_ ?_ ?_ <;> with_reducible rfl)

@[simp] theorem engineFault_inv (s : State) (e : EngineId) (cause : Nat)
    (h : s.Kept q) : (State.engineFault s e cause).Kept q := by
  have hz : EngineSt.reset.flg.toNat < 256 := by decide
  have hb : EngineSt.reset.bexp.toNat ≤ 24 := by decide
  unfold State.engineFault
  dsimp only
  refine event_inv _ _ _ _ _ (countIf_inv _ _ _ _ (count_inv _ _ _ _ (engineIdles_inv _ _ _ (setEngine_inv _ _ _ ?_
    (fun x => ⟨x.2.1, x.2.2.1, hz, hb⟩)))))
  repeat' split
  all_goals simp (maxDischargeDepth := 40) [*]

theorem repeatOp_ok (f : EngineSt → Option EngineSt) (hf : ∀ x y, EngineSt.ok x → f x = some y → EngineSt.ok y) (n : Nat)
    (x y : EngineSt) (hx : EngineSt.ok x) (h : repeatOp f n x = some y) : EngineSt.ok y := by
  induction n generalizing x with
  | zero => simp only [repeatOp, Option.some.injEq] at h; exact h ▸ hx
  | succ n ih =>
    simp only [repeatOp] at h
    split at h
    · rename_i z hz; exact ih z (hf x z hx hz) h
    · cases h

@[simp] theorem cloveRun_inv (s : State) (e : EngineId) (fs : List WordField) (mayRepeat : Bool) (cycles : Nat)
    (first : EngineSt → EngineSt) (f : EngineSt → Option EngineSt)
    (hfirst : ∀ x, EngineSt.ok x → EngineSt.ok (first x)) (hf : ∀ x y, EngineSt.ok x → f x = some y → EngineSt.ok y)
   
    (h : s.Kept q) : (State.cloveRun s e fs mayRepeat cycles first f).Kept q := by
  unfold State.cloveRun
  dsimp only
  repeat' split
  any_goals simp (maxDischargeDepth := 40) [*]
  rename_i y hy
  have ho := repeatOp_ok f hf _ _ y (hfirst (ahead (s.engine e)) (h.1.2 e)) hy
  exact setEngine_at s e _ h ho

@[simp] theorem cloveOp_inv (s : State) (e : EngineId) (fs : List WordField) (mayRepeat : Bool) (cycles : Nat)
    (f : EngineSt → Option EngineSt) (hf : ∀ x y, EngineSt.ok x → f x = some y → EngineSt.ok y)
    (h : s.Kept q) :
    (State.cloveOp s e fs mayRepeat cycles f).Kept q := by
  exact cloveRun_inv s e fs mayRepeat cycles id f (fun x hx => hx) hf h

@[simp] theorem clovePlain_inv (s : State) (e : EngineId) (fs : List WordField) (cycles : Nat) (f : EngineSt → EngineSt)
    (hf : ∀ x, EngineSt.ok x → EngineSt.ok (f x))
    (h : s.Kept q) : (State.clovePlain s e fs cycles f).Kept q := by
  exact cloveOp_inv s e fs false cycles _ (fun x y hx hy => by cases hy; exact hf x hx) h

@[simp] theorem copyBlock_inv (s0 : State) (e : EngineId) (p : Port) (b : Block)
    (h : s0.Kept q) : (State.copyBlock s0 e p b).Kept q := by
  have hs := engineBoundary_inv s0 e h
  unfold State.copyBlock
  dsimp only
  split
  · simp (maxDischargeDepth := 40) [*]
  · refine setEngine_at _ e _ hs ?_
    have h0 : ∀ (c : Prop) [Decidable c] (a b : Memory), Memory.wf blankByte a = true → Memory.wf blankByte b = true →
        Memory.wf blankByte (if c then a else b) = true := fun c _ a b ha hb => by split <;> assumption
    have hd := engine_dmem hs e
    refine ⟨engine_pmem hs e, ?_, engine_flg hs e, Nat.zero_le 24⟩
    exact memWriteAll_wf _ _ _ _ (memWriteAll_wf _ _ _ _ (memWriteAll_wf _ _ _ _ (h0 _ _ _ hd (memWriteAll_wf _ _ _ _ hd))))

@[simp] theorem commitBlock_inv (s : State) (e : EngineId) (p : Port) (j m : Nat)
    (h : s.Kept q) : (State.commitBlock s e p j m).Kept q := by
  unfold State.commitBlock
  try dsimp only
  repeat' split
  all_goals first
    | (with_reducible exact h)
    | (simp (maxDischargeDepth := 40) [*]; done)
    | (refine inv_of_eq h ?_ ?_ ?_ ?_ ?_ ?_ ?_ <;> with_reducible rfl)

@[simp] theorem streamData_inv (s : State) (i typ : Nat) (sub data : List Byte) (refDist : Nat)
    (h : s.Kept q) : (State.streamData s i typ sub data refDist).Kept q := by
  unfold State.streamData
  try dsimp only
  repeat' split
  all_goals first
    | (with_reducible exact h)
    | (simp (maxDischargeDepth := 40) [*]; done)
    | (refine inv_of_eq h ?_ ?_ ?_ ?_ ?_ ?_ ?_ <;> with_reducible rfl)

@[simp] theorem enqueueBlock_inv (s : State) (p : Port) (b : Block) (h : s.Kept q) : (State.enqueueBlock s p b).Kept q := by
  unfold State.enqueueBlock
  try dsimp only
  repeat' split
  all_goals first
    | (with_reducible exact h)
    | (simp (maxDischargeDepth := 40) [*]; done)
    | (refine inv_of_eq h ?_ ?_ ?_ ?_ ?_ ?_ ?_ <;> with_reducible rfl)

@[simp] theorem enqueueRaw_inv (s : State) (p : Port) (tFirst : Nat) (xs ys : List Half)
    (h : s.Kept q) : (State.enqueueRaw s p tFirst xs ys).Kept q := by
  unfold State.enqueueRaw
  try dsimp only
  repeat' split
  all_goals first
    | (with_reducible exact h)
    | (simp (maxDischargeDepth := 40) [*]; done)
    | (refine inv_of_eq h ?_ ?_ ?_ ?_ ?_ ?_ ?_ <;> with_reducible rfl)

@[simp] theorem rawFill_inv (p : Port) (x0 : Nat) (x1 : State) (h : x1.Kept q) : (State.rawFill p x0 x1).Kept q := by
  induction x0 generalizing x1 with
  | zero => exact h
  | succ n ih =>
    simp only [State.rawFill]
    repeat' split
    all_goals first
      | exact h
      | (dsimp only; split)
      | skip
    all_goals first
      | exact h
      | (refine ih _ ?_; simp (maxDischargeDepth := 40) [*])

@[simp] theorem rawStart_inv (s : State) (p : Port) (h : s.Kept q) : (State.rawStart s p).Kept q := by
  unfold State.rawStart
  try dsimp only
  repeat' split
  all_goals first
    | (with_reducible exact h)
    | (simp (maxDischargeDepth := 40) [*]; done)
    | (refine inv_of_eq h ?_ ?_ ?_ ?_ ?_ ?_ ?_ <;> with_reducible rfl)

@[simp] theorem rawEnd_inv (s : State) (p : Port) (h : s.Kept q) : (State.rawEnd s p).Kept q := by
  unfold State.rawEnd
  try dsimp only
  repeat' split
  all_goals first
    | (with_reducible exact h)
    | (simp (maxDischargeDepth := 40) [*]; done)
    | (refine inv_of_eq h ?_ ?_ ?_ ?_ ?_ ?_ ?_ <;> with_reducible rfl)

@[simp] theorem rawJoin_inv (s : State) (p : Port) (tFirst : Nat) (xs ys : List Half)
    (h : s.Kept q) : (State.rawJoin s p tFirst xs ys).Kept q := by
  unfold State.rawJoin
  try dsimp only
  repeat' split
  all_goals first
    | (with_reducible exact h)
    | (simp (maxDischargeDepth := 40) [*]; done)
    | (refine inv_of_eq h ?_ ?_ ?_ ?_ ?_ ?_ ?_ <;> with_reducible rfl)

@[simp] theorem throttleNote_inv (s : State) (c : Port) (old : Nat) (h : s.Kept q) : (State.throttleNote s c old).Kept q := by
  unfold State.throttleNote
  try dsimp only
  repeat' split
  all_goals first
    | (with_reducible exact h)
    | (simp (maxDischargeDepth := 40) [*]; done)
    | (refine inv_of_eq h ?_ ?_ ?_ ?_ ?_ ?_ ?_ <;> with_reducible rfl)

@[simp] theorem blockReady_inv (dt : Nat) (p : Port) (j : Nat) (s0 : State)
    (h : s0.Kept q) : (blockReady dt p j s0).Kept q := by
  unfold blockReady
  try dsimp only
  repeat' split
  all_goals first
    | (with_reducible exact h)
    | (simp (maxDischargeDepth := 40) [*]; done)
    | (refine inv_of_eq h ?_ ?_ ?_ ?_ ?_ ?_ ?_ <;> with_reducible rfl)

@[simp] theorem engineRequest_inv (dt : Nat) (e : EngineId) (s0 : State)
    (h : s0.Kept q) : (engineRequest dt e s0).Kept q := by
  unfold engineRequest
  try dsimp only
  repeat' split
  all_goals first
    | (with_reducible exact h)
    | (simp (maxDischargeDepth := 40) [*]; done)
    | (refine inv_of_eq h ?_ ?_ ?_ ?_ ?_ ?_ ?_ <;> with_reducible rfl)

@[simp] theorem blockCopied_inv (dt : Nat) (e : EngineId) (s0 : State) (h : s0.Kept q) : (blockCopied dt e s0).Kept q := by
  unfold blockCopied
  try dsimp only
  repeat' split
  all_goals first
    | (with_reducible exact h)
    | (simp (maxDischargeDepth := 40) [*]; done)
    | (refine inv_of_eq h ?_ ?_ ?_ ?_ ?_ ?_ ?_ <;> with_reducible rfl)

@[simp] theorem blockCutoff_inv (dt : Nat) (p : Port) (j : Nat) (s0 : State)
    (h : s0.Kept q) : (blockCutoff dt p j s0).Kept q := by
  unfold blockCutoff
  try dsimp only
  repeat' split
  all_goals first
    | (with_reducible exact h)
    | (simp (maxDischargeDepth := 40) [*]; done)
    | (refine inv_of_eq h ?_ ?_ ?_ ?_ ?_ ?_ ?_ <;> with_reducible rfl)

@[simp] theorem engineWatchdog_inv (dt : Nat) (e : EngineId) (s0 : State)
    (h : s0.Kept q) : (engineWatchdog dt e s0).Kept q := by
  unfold engineWatchdog
  try dsimp only
  repeat' split
  all_goals first
    | (with_reducible exact h)
    | (simp (maxDischargeDepth := 40) [*]; done)
    | (refine inv_of_eq h ?_ ?_ ?_ ?_ ?_ ?_ ?_ <;> with_reducible rfl)

@[simp] theorem clusterTempSample_inv (dt : Nat) (c : Port) (t : Int) (s0 : State)
    (h : s0.Kept q) : (clusterTempSample dt c t s0).Kept q := by
  unfold clusterTempSample
  try dsimp only
  repeat' split
  all_goals first
    | (with_reducible exact h)
    | (simp (maxDischargeDepth := 40) [*]; done)
    | (refine inv_of_eq h ?_ ?_ ?_ ?_ ?_ ?_ ?_ <;> with_reducible rfl)

@[simp] theorem undefinedOpcode_inv (e : EngineId) (s : State) (h : s.Kept q) : (undefinedOpcode e s).Kept q := by
  unfold undefinedOpcode
  try dsimp only
  repeat' split
  all_goals first
    | (with_reducible exact h)
    | (simp (maxDischargeDepth := 40) [*]; done)
    | (refine inv_of_eq h ?_ ?_ ?_ ?_ ?_ ?_ ?_ <;> with_reducible rfl)

@[simp] theorem cloveDone_inv (e : EngineId) (s : State) (h : s.Kept q) : (cloveDone e s).Kept q := by
  unfold cloveDone
  try dsimp only
  repeat' split
  all_goals first
    | (with_reducible exact h)
    | (simp (maxDischargeDepth := 40) [*]; done)
    | (refine inv_of_eq h ?_ ?_ ?_ ?_ ?_ ?_ ?_ <;> with_reducible rfl)

@[simp] theorem cloveRep_inv (e : EngineId) (n : BitVec 16) (s : State) (h : s.Kept q) : (cloveRep e n s).Kept q := by
  unfold cloveRep
  dsimp only
  repeat' split
  all_goals first
    | exact h
    | exact setEngine_inv s e _ h (fun x => x.2)
    | simp (maxDischargeDepth := 40) [*]

end Sys2Proof.Machine
end

