-- ==== Sys2Proof/Laws/InvEngine.lean ====
section
/-! SUPPORT. What an instruction does to its engine keeps its memories canonical, FLG [15:8] zero and BEXP at most 24. -/

namespace Sys2Proof.Machine

theorem ok_of_eq {x y : EngineSt} (h : EngineSt.ok x) (h1 : y.pmem = x.pmem) (h2 : y.dmem = x.dmem) (h3 : y.flg = x.flg)
    (h4 : y.bexp = x.bexp) : EngineSt.ok y := by
  unfold EngineSt.ok at *
  rw [h1, h2, h3, h4]
  exact h

theorem setV_ok (x : EngineSt) (d : VReg) (y : Vec) (h : EngineSt.ok x) : EngineSt.ok (setV x d y) :=
  ok_of_eq h rfl rfl rfl rfl
theorem setAcc_ok (x : EngineSt) (d : AccReg) (y : Acc) (h : EngineSt.ok x) : EngineSt.ok (setAcc x d y) :=
  ok_of_eq h rfl rfl rfl rfl
theorem setAr_ok (x : EngineSt) (k : AReg) (y : BitVec 18) (h : EngineSt.ok x) : EngineSt.ok (setAr x k y) :=
  ok_of_eq h rfl rfl rfl rfl
theorem jump_ok (x : EngineSt) (y : Int) (h : EngineSt.ok x) : EngineSt.ok (jump x y) := ok_of_eq h rfl rfl rfl rfl
theorem postMod_ok (x : EngineSt) (k : AReg) (h : EngineSt.ok x) : EngineSt.ok (postMod x k) := ok_of_eq h rfl rfl rfl rfl
theorem setSel_ok (x : EngineSt) (sel : Fin 4) (k : AReg) (y : BitVec 18) (h : EngineSt.ok x) :
    EngineSt.ok (setSel x sel k y) := by
  unfold setSel
  split <;> exact ok_of_eq h rfl rfl rfl rfl

theorem setFlag_ok (x : EngineSt) (i : Nat) (b : Bool) (hi : i < 8) (h : EngineSt.ok x) : EngineSt.ok (setFlag x i b) := by
  have hf : x.flg.toNat < 2 ^ 8 := h.2.2.1
  refine ⟨h.1, h.2.1, ?_, h.2.2.2⟩
  unfold setFlag
  cases b with
  | true =>
    simp only [if_true, BitVec.toNat_or, BitVec.toNat_shiftLeft]
    refine Nat.or_lt_two_pow (n := 8) hf ?_
    refine Nat.lt_of_le_of_lt (Nat.mod_le _ _) ?_
    simp only [BitVec.toNat_ofNat, Nat.shiftLeft_eq]
    calc 1 % 2 ^ 16 * 2 ^ i ≤ 1 * 2 ^ 7 := Nat.mul_le_mul (by decide) (Nat.pow_le_pow_right (by decide) (by omega))
      _ < 2 ^ 8 := by decide
  | false =>
    simp only [Bool.false_eq_true, if_false, BitVec.toNat_and]
    exact Nat.lt_of_le_of_lt Nat.and_le_left hf

theorem stick_ok (x : EngineSt) (i : Nat) (b : Bool) (hi : i < 8) (h : EngineSt.ok x) : EngineSt.ok (stick x i b) := by
  unfold stick
  split
  · exact setFlag_ok x i true hi h
  · exact h

theorem addrFlags_ok (x : EngineSt) (r : BitVec 18) (c v : Bool) (h : EngineSt.ok x) : EngineSt.ok (addrFlags x r c v) :=
  setFlag_ok _ _ _ (by decide) (setFlag_ok _ _ _ (by decide) (setFlag_ok _ _ _ (by decide) (setFlag_ok _ _ _ (by decide) h)))

theorem putLanes_ok (x : EngineSt) (d : VReg) (f : Lane → Int) (h : EngineSt.ok x) : EngineSt.ok (putLanes x d f) :=
  stick_ok _ _ _ (by decide) (setV_ok _ _ _ h)

theorem accumulate_ok (x : EngineSt) (d : AccReg) (f : Lane → Int) (h : EngineSt.ok x) : EngineSt.ok (accumulate x d f) :=
  stick_ok _ _ _ (by decide) (setAcc_ok _ _ _ h)

theorem dput_ok (x : EngineSt) (a : Nat) (y : BitVec 16) (h : EngineSt.ok x) : EngineSt.ok (dput x a y) :=
  ⟨h.1, memWriteAll_wf _ _ _ _ h.2.1, h.2.2⟩

theorem storeVec_ok (x : EngineSt) (ea : Ea) (y : Vec) (h : EngineSt.ok x) : EngineSt.ok (storeVec x ea y) := by
  have key : ∀ (l : List Lane) (t : EngineSt), EngineSt.ok t →
      EngineSt.ok (l.foldl (fun t i => dput t (ea.part x 2 i.val) y[i]) t) := by
    intro l
    induction l with
    | nil => exact fun t ht => ht
    | cons a l ih => exact fun t ht => ih _ (dput_ok _ _ _ ht)
  exact key _ _ h

theorem eaMod_ok (x : EngineSt) (ea : Ea) (h : EngineSt.ok x) : EngineSt.ok (ea.mod x) := by
  cases ea with
  | disp k d => exact h
  | post k => exact postMod_ok x k h

theorem eaLaneMod_ok (x : EngineSt) (ea : EaLane) (h : EngineSt.ok x) : EngineSt.ok (ea.mod x) := by
  cases ea with
  | disp k d => exact h
  | post k => exact postMod_ok x k h

theorem postMod2_ok (x : EngineSt) (k j : AReg) (h : EngineSt.ok x) : EngineSt.ok (postMod2 x k j) := by
  unfold postMod2
  split
  · exact postMod_ok x k h
  · exact postMod_ok _ j (postMod_ok x k h)

theorem search_ok (b : Bool) (x : EngineSt) (d : VReg) (y : Vec) (h : EngineSt.ok x) : EngineSt.ok (search b x d y) :=
  stick_ok _ _ _ (by decide) (setV_ok _ _ _ h)

theorem opAdda_ok (x : EngineSt) (k : AReg) (imm : BitVec 18) (h : EngineSt.ok x) : EngineSt.ok (opAdda x k imm) :=
  addrFlags_ok _ _ _ _ (setAr_ok _ _ _ h)
theorem opCmpa_ok (x : EngineSt) (k : AReg) (imm : BitVec 18) (h : EngineSt.ok x) : EngineSt.ok (opCmpa x k imm) :=
  addrFlags_ok _ _ _ _ h
theorem opGets_ok (x : EngineSt) (k : AReg) (w : Fin 3) (h : EngineSt.ok x) : EngineSt.ok (opGets x k w) := by
  unfold opGets
  split <;> exact setAr_ok _ _ _ h
theorem opPuts_ok (x : EngineSt) (w : Fin 2) (k : AReg) (h : EngineSt.ok x) : EngineSt.ok (opPuts x w k) := by
  unfold opPuts
  split
  · refine ⟨h.1, h.2.1, ?_, h.2.2.2⟩
    have h1 : (x.ar[k].extractLsb' 0 8).toNat < 2 ^ 8 := (x.ar[k].extractLsb' 0 8).isLt
    simp only [BitVec.toNat_setWidth]
    exact Nat.lt_of_le_of_lt (Nat.mod_le _ _) h1
  · refine ⟨h.1, h.2.1, h.2.2.1, ?_⟩
    simp only [BitVec.toNat_ofNat]
    exact Nat.le_trans (Nat.mod_le _ _) (Nat.min_le_right _ _)
theorem opVcmpgt_ok (x : EngineSt) (d a b : VReg) (h : EngineSt.ok x) : EngineSt.ok (opVcmpgt x d a b) :=
  setFlag_ok _ _ _ (by decide) (setV_ok _ _ _ h)
theorem opVshuf_ok (x : EngineSt) (d a b : VReg) (p : Fin 4) (h : EngineSt.ok x) : EngineSt.ok (opVshuf x d a b p) :=
  setV_ok _ _ _ h
theorem opMvaFixed_ok (x : EngineSt) (d : VReg) (a : AccReg) (n : Nat) (h : EngineSt.ok x) :
    EngineSt.ok (opMvaFixed x d a n) := putLanes_ok _ _ _ h

theorem shiftNeed_le (a : Acc) (fuel n : Nat) : shiftNeed a fuel n ≤ n + fuel := by
  induction fuel generalizing n with
  | zero => exact Nat.le_refl n
  | succ k ih =>
    simp only [shiftNeed]
    split
    · omega
    · have := ih (n + 1); omega

theorem opMvaAuto_ok (x : EngineSt) (d : VReg) (a : AccReg) (h : EngineSt.ok x) : EngineSt.ok (opMvaAuto x d a) := by
  refine ⟨h.1, h.2.1, h.2.2.1, ?_⟩
  have h1 := shiftNeed_le x.acc[a] 24 0
  have h2 := h.2.2.2
  simp only [opMvaAuto, BitVec.toNat_ofNat]
  refine Nat.le_trans (Nat.mod_le _ _) ?_
  omega

theorem opAreds_ok (x : EngineSt) (d a : AccReg) (h : EngineSt.ok x) : EngineSt.ok (opAreds x d a) :=
  stick_ok _ _ _ (by decide) (setAcc_ok _ _ _ h)

/-! Operations that fault at an odd address -/

theorem opVld_ok (x y : EngineSt) (d : VReg) (ea : Ea) (h : EngineSt.ok x) (he : opVld x d ea = some y) : EngineSt.ok y := by
  unfold opVld at he; split at he <;> cases he; exact eaMod_ok _ _ (setV_ok _ _ _ h)
theorem opVst_ok (x y : EngineSt) (v : VReg) (ea : Ea) (h : EngineSt.ok x) (he : opVst x ea v = some y) : EngineSt.ok y := by
  unfold opVst at he; split at he <;> cases he; exact eaMod_ok _ _ (storeVec_ok _ _ _ h)
theorem opVldb_ok (x y : EngineSt) (d : VReg) (ea : Ea) (h : EngineSt.ok x) (he : opVldb x d ea = some y) : EngineSt.ok y := by
  unfold opVldb at he; split at he <;> cases he; exact eaMod_ok _ _ (setV_ok _ _ _ h)
theorem opVldq_ok (x y : EngineSt) (d : VReg) (ea : Ea) (h : EngineSt.ok x) (he : opVldq x d ea = some y) : EngineSt.ok y := by
  unfold opVldq at he; cases he; exact eaMod_ok _ _ (setV_ok _ _ _ h)
theorem opEld_ok (x y : EngineSt) (d : VReg) (l : Lane) (ea : EaLane) (h : EngineSt.ok x) (he : opEld x d l ea = some y) :
    EngineSt.ok y := by
  unfold opEld at he; split at he <;> cases he; exact eaLaneMod_ok _ _ (setV_ok _ _ _ h)
theorem opEst_ok (x y : EngineSt) (v : VReg) (l : Lane) (ea : EaLane) (h : EngineSt.ok x) (he : opEst x ea v l = some y) :
    EngineSt.ok y := by
  unfold opEst at he; split at he <;> cases he; exact eaLaneMod_ok _ _ (dput_ok _ _ _ h)
theorem opVcpy_ok (x y : EngineSt) (k j : AReg) (h : EngineSt.ok x) (he : opVcpy x k j = some y) : EngineSt.ok y := by
  unfold opVcpy at he; split at he <;> cases he; exact postMod2_ok _ _ _ (storeVec_ok _ _ _ h)
theorem opVmacb_ok (x y : EngineSt) (d : AccReg) (k j : AReg) (h : EngineSt.ok x) (he : opVmacb x d k j = some y) :
    EngineSt.ok y := by
  unfold opVmacb at he; split at he <;> cases he; exact postMod2_ok _ _ _ (accumulate_ok _ _ _ h)
theorem opVsqa_ok (x y : EngineSt) (d : AccReg) (ea : Ea) (h : EngineSt.ok x) (he : opVsqa x d ea = some y) :
    EngineSt.ok y := by
  unfold opVsqa at he; split at he <;> cases he; exact eaMod_ok _ _ (accumulate_ok _ _ _ h)
theorem opVpwr_ok (x y : EngineSt) (d : AccReg) (ea : Ea) (h : EngineSt.ok x) (he : opVpwr x d ea = some y) :
    EngineSt.ok y := by
  unfold opVpwr at he; split at he <;> cases he; exact eaMod_ok _ _ (accumulate_ok _ _ _ h)
theorem opVbfly_ok (x y : EngineSt) (a b : VReg) (k : AReg) (h : EngineSt.ok x) (he : opVbfly x a b k = some y) :
    EngineSt.ok y := by
  unfold opVbfly at he; split at he <;> cases he
  exact postMod_ok _ _ (stick_ok _ _ _ (by decide) (setV_ok _ _ _ (setV_ok _ _ _ h)))
theorem opSearchMem_ok (b : Bool) (x y : EngineSt) (d : VReg) (ea : Ea) (h : EngineSt.ok x)
    (he : opSearchMem b x d ea = some y) : EngineSt.ok y := by
  unfold opSearchMem at he; split at he <;> cases he; exact eaMod_ok _ _ (search_ok _ _ _ _ h)

end Sys2Proof.Machine
end

