-- ==== Sys2Proof/Laws/InvCalCore.lean ====
section
/-! SUPPORT. The functions of Machine/CalCore.lean keep the invariant and the queue. -/

namespace Sys2Proof.Machine

variable {q : List Instr}

@[simp] theorem setCal_inv (s : State) (f : CalSt → CalSt) (h : s.Kept q) : (State.setCal s f).Kept q := by
  unfold State.setCal
  try dsimp only
  repeat' split
  all_goals first
    | (with_reducible exact h)
    | (simp (maxDischargeDepth := 40) [*]; done)
    | (refine inv_of_eq h ?_ ?_ ?_ ?_ ?_ ?_ ?_ <;> with_reducible rfl)

@[simp] theorem setCalPort_inv (s : State) (p : Port) (f : CalPortSt → CalPortSt)
    (h : s.Kept q) : (State.setCalPort s p f).Kept q := by
  unfold State.setCalPort
  try dsimp only
  repeat' split
  all_goals first
    | (with_reducible exact h)
    | (simp (maxDischargeDepth := 40) [*]; done)
    | (refine inv_of_eq h ?_ ?_ ?_ ?_ ?_ ?_ ?_ <;> with_reducible rfl)

@[simp] theorem setRun_inv (s : State) (f : CalRun → CalRun) (h : s.Kept q) : (State.setRun s f).Kept q := by
  unfold State.setRun
  try dsimp only
  repeat' split
  all_goals first
    | (with_reducible exact h)
    | (simp (maxDischargeDepth := 40) [*]; done)
    | (refine inv_of_eq h ?_ ?_ ?_ ?_ ?_ ?_ ?_ <;> with_reducible rfl)

@[simp] theorem calOutcome_inv (s : State) (st : CalStep) (p : Port) (o : CalOutcome)
    (h : s.Kept q) : (State.calOutcome s st p o).Kept q := by
  unfold State.calOutcome
  try dsimp only
  repeat' split
  all_goals first
    | (with_reducible exact h)
    | (simp (maxDischargeDepth := 40) [*]; done)
    | (refine inv_of_eq h ?_ ?_ ?_ ?_ ?_ ?_ ?_ <;> with_reducible rfl)

@[simp] theorem calAbortPort_inv (s : State) (p : Port) (h : s.Kept q) : (State.calAbortPort s p).Kept q := by
  unfold State.calAbortPort
  try dsimp only
  repeat' split
  all_goals first
    | (with_reducible exact h)
    | (simp (maxDischargeDepth := 40) [*]; done)
    | (refine inv_of_eq h ?_ ?_ ?_ ?_ ?_ ?_ ?_ <;> with_reducible rfl)

end Sys2Proof.Machine
end

