-- ==== Sys2Proof/Laws/InvPortFlow.lean ====
section
/-! SUPPORT. The functions of Machine/PortFlow.lean keep the invariant and the queue. -/

namespace Sys2Proof.Machine

variable {q : List Instr}

@[simp] theorem setKey_inv (s : State) (k v : Nat) (h : s.Kept q) : (State.setKey s k v).Kept q := by
  unfold State.setKey
  try dsimp only
  repeat' split
  all_goals first
    | (with_reducible exact h)
    | (simp (maxDischargeDepth := 40) [*]; done)
    | (refine inv_of_eq h ?_ ?_ ?_ ?_ ?_ ?_ ?_ <;> with_reducible rfl)

@[simp] theorem applyFields_inv (s : State) (es : Tab Nat) (h : s.Kept q) : (State.applyFields s es).Kept q := by
  unfold State.applyFields
  try dsimp only
  repeat' split
  all_goals first
    | (with_reducible exact h)
    | (simp (maxDischargeDepth := 40) [*]; done)
    | (refine inv_of_eq h ?_ ?_ ?_ ?_ ?_ ?_ ?_ <;> with_reducible rfl)

@[simp] theorem applyPending_inv (s : State) (p : Port) (t : Nat) (h : s.Kept q) : (State.applyPending s p t).Kept q := by
  unfold State.applyPending
  try dsimp only
  repeat' split
  all_goals first
    | (with_reducible exact h)
    | (simp (maxDischargeDepth := 40) [*]; done)
    | (refine inv_of_eq h ?_ ?_ ?_ ?_ ?_ ?_ ?_ <;> with_reducible rfl)

@[simp] theorem takeShadow_inv (s : State) (p : Port) (t : Nat) (h : s.Kept q) : (State.takeShadow s p t).Kept q := by
  unfold State.takeShadow
  try dsimp only
  repeat' split
  all_goals first
    | (with_reducible exact h)
    | (simp (maxDischargeDepth := 40) [*]; done)
    | (refine inv_of_eq h ?_ ?_ ?_ ?_ ?_ ?_ ?_ <;> with_reducible rfl)

@[simp] theorem portLeaves_inv (s : State) (p : Port) (mode : PortMode) (cause : Nat)
    (h : s.Kept q) : (State.portLeaves s p mode cause).Kept q := by
  unfold State.portLeaves
  dsimp only
  split
  · simp (maxDischargeDepth := 40) [*]
  · refine calAbortPort_inv _ _ (zonesPortStop_inv _ _ ?_)
    have h3 : ∀ (c d : Prop) [Decidable c] [Decidable d] (u : State), u.Kept q →
        (if c then (if d then ((u.rawEnd p).markStop p cause).queueStop p else u)
          else (if d then ((u.rawEnd p).markStop p cause).queueStop p else u).ringsStop p).Kept q := fun c d _ _ u hu => by
      split <;> split <;> simp (maxDischargeDepth := 40) [*]
    exact h3 _ _ _ (by simp (maxDischargeDepth := 40) [*])

@[simp] theorem calStart_inv (s : State) (p : Port) (h : s.Kept q) : (State.calStart s p).Kept q := by
  unfold State.calStart
  try dsimp only
  repeat' split
  all_goals first
    | (with_reducible exact h)
    | (simp (maxDischargeDepth := 40) [*]; done)
    | (refine inv_of_eq h ?_ ?_ ?_ ?_ ?_ ?_ ?_ <;> with_reducible rfl)

@[simp] theorem portBegins_inv (s0 : State) (p : Port) (mode : PortMode) (cause : Nat)
    (h : s0.Kept q) : (State.portBegins s0 p mode cause).Kept q := by
  have h0 : (if cause = 3 then s0.takeShadow p s0.tb else s0.applyPending p s0.tb).Kept q := by split <;> simp (maxDischargeDepth := 40) [*]
  have h1 : ∀ (c : Prop) [Decidable c] (u v : State), u.Kept q → v.Kept q → (if c then u else v).Kept q := fun c _ u v hu hv => by
    split <;> assumption
  have h4 : ∀ u : State, u.Kept q → (if mode = .running then u.rawStart p else u).Kept q := fun u hu => h1 _ _ _ (by simp (maxDischargeDepth := 40) [*]) hu
  unfold State.portBegins
  dsimp only
  generalize (if cause = 3 then s0.takeShadow p s0.tb else s0.applyPending p s0.tb) = s at h0 ⊢
  refine h4 _ (markStart_inv _ _ _ (zonesPortStart_inv _ _ (ringsStart_inv _ _ (queueStart_inv _ _ (setMask_inv _ _ _ (h1 _ _ _ ?_ ?_))))))
  all_goals simp (maxDischargeDepth := 40) [*]

end Sys2Proof.Machine
end

