-- ==== Sys2Proof/Laws/InvDrive.lean ====
section
/-! SUPPORT. The functions of Machine/Drive.lean keep the invariant and the queue. -/

namespace Sys2Proof.Machine

variable {q : List Instr}

@[simp] theorem setEmitter_inv (s : State) (p : Port) (e : Emitter) (f : EmitterSt → EmitterSt)
    (h : s.Kept q) : (State.setEmitter s p e f).Kept q := by
  unfold State.setEmitter
  try dsimp only
  repeat' split
  all_goals first
    | (with_reducible exact h)
    | (simp (maxDischargeDepth := 40) [*]; done)
    | (refine inv_of_eq h ?_ ?_ ?_ ?_ ?_ ?_ ?_ <;> with_reducible rfl)

@[simp] theorem rampTo_inv (s : State) (p : Port) (target : Nat) (e : Emitter)
    (h : s.Kept q) : (State.rampTo s p target e).Kept q := by
  unfold State.rampTo
  try dsimp only
  repeat' split
  all_goals first
    | (with_reducible exact h)
    | (simp (maxDischargeDepth := 40) [*]; done)
    | (refine inv_of_eq h ?_ ?_ ?_ ?_ ?_ ?_ ?_ <;> with_reducible rfl)

@[simp] theorem setpointWritten_inv (s : State) (p : Port) (e : Emitter)
    (h : s.Kept q) : (State.setpointWritten s p e).Kept q := by
  unfold State.setpointWritten
  try dsimp only
  repeat' split
  all_goals first
    | (with_reducible exact h)
    | (simp (maxDischargeDepth := 40) [*]; done)
    | (refine inv_of_eq h ?_ ?_ ?_ ?_ ?_ ?_ ?_ <;> with_reducible rfl)

@[simp] theorem caseDelivered_inv (s0 : State) (p : Port) (h : s0.Kept q) : (State.caseDelivered s0 p).Kept q := by
  unfold State.caseDelivered
  try dsimp only
  repeat' split
  all_goals first
    | (with_reducible exact h)
    | (simp (maxDischargeDepth := 40) [*]; done)
    | (refine inv_of_eq h ?_ ?_ ?_ ?_ ?_ ?_ ?_ <;> with_reducible rfl)

@[simp] theorem caseTempUpdate_inv (dt : Nat) (p : Port) (s0 : State) (h : s0.Kept q) : (caseTempUpdate dt p s0).Kept q := by
  unfold caseTempUpdate
  try dsimp only
  repeat' split
  all_goals first
    | (with_reducible exact h)
    | (simp (maxDischargeDepth := 40) [*]; done)
    | (refine inv_of_eq h ?_ ?_ ?_ ?_ ?_ ?_ ?_ <;> with_reducible rfl)

@[simp] theorem updateEmitter_inv (p : Port) (e : Emitter) (s : State)
    (h : s.Kept q) : (State.updateEmitter p e s).Kept q := by
  unfold State.updateEmitter
  try dsimp only
  repeat' split
  all_goals first
    | (with_reducible exact h)
    | (simp (maxDischargeDepth := 40) [*]; done)
    | (refine inv_of_eq h ?_ ?_ ?_ ?_ ?_ ?_ ?_ <;> with_reducible rfl)

@[simp] theorem groupEpoch_inv (s : State) (g : Fin 4) (h : s.Kept q) : (State.groupEpoch s g).Kept q := by
  unfold State.groupEpoch
  try dsimp only
  repeat' split
  all_goals first
    | (with_reducible exact h)
    | (simp (maxDischargeDepth := 40) [*]; done)
    | (refine inv_of_eq h ?_ ?_ ?_ ?_ ?_ ?_ ?_ <;> with_reducible rfl)

@[simp] theorem rampsDone_inv (s0 : State) (p : Port) (h : s0.Kept q) : (State.rampsDone s0 p).Kept q := by
  unfold State.rampsDone
  try dsimp only
  repeat' split
  all_goals first
    | (with_reducible exact h)
    | (simp (maxDischargeDepth := 40) [*]; done)
    | (refine inv_of_eq h ?_ ?_ ?_ ?_ ?_ ?_ ?_ <;> with_reducible rfl)

@[simp] theorem afterUpdate_inv (p : Port) (s : State) (h : s.Kept q) : (State.afterUpdate p s).Kept q := by
  unfold State.afterUpdate
  try dsimp only
  repeat' split
  all_goals first
    | (with_reducible exact h)
    | (simp (maxDischargeDepth := 40) [*]; done)
    | (refine inv_of_eq h ?_ ?_ ?_ ?_ ?_ ?_ ?_ <;> with_reducible rfl)

@[simp] theorem portUpdate_inv (p : Port) (s : State) (h : s.Kept q) : (State.portUpdate p s).Kept q := by
  unfold State.portUpdate
  try dsimp only
  repeat' split
  all_goals first
    | (with_reducible exact h)
    | (simp (maxDischargeDepth := 40) [*]; done)
    | (refine inv_of_eq h ?_ ?_ ?_ ?_ ?_ ?_ ?_ <;> with_reducible rfl)

@[simp] theorem driveUpdate_inv (dt : Nat) (s : State) (h : s.Kept q) : (driveUpdate dt s).Kept q := by
  unfold driveUpdate
  try dsimp only
  repeat' split
  all_goals first
    | (with_reducible exact h)
    | (simp (maxDischargeDepth := 40) [*]; done)
    | (refine inv_of_eq h ?_ ?_ ?_ ?_ ?_ ?_ ?_ <;> with_reducible rfl)

@[simp] theorem shutPort_inv (s : State) (p : Port) (causes : BitVec 10) (e : Option Emitter)
    (h : s.Kept q) : (State.shutPort s p causes e).Kept q := by
  unfold State.shutPort
  try dsimp only
  repeat' split
  all_goals first
    | (with_reducible exact h)
    | (simp (maxDischargeDepth := 40) [*]; done)
    | (refine inv_of_eq h ?_ ?_ ?_ ?_ ?_ ?_ ?_ <;> with_reducible rfl)

@[simp] theorem acceptFaults_inv (s : State) (fs : List FaultReport) (h : s.Kept q) : (State.acceptFaults s fs).Kept q := by
  unfold State.acceptFaults
  try dsimp only
  repeat' split
  all_goals first
    | (with_reducible exact h)
    | (simp (maxDischargeDepth := 40) [*]; done)
    | (refine inv_of_eq h ?_ ?_ ?_ ?_ ?_ ?_ ?_ <;> with_reducible rfl)

@[simp] theorem emitterFaultAccept_inv (dt : Nat) (rs : List FaultReading) (s0 : State)
    (h : s0.Kept q) : (emitterFaultAccept dt rs s0).Kept q := by
  unfold emitterFaultAccept
  try dsimp only
  repeat' split
  all_goals first
    | (with_reducible exact h)
    | (simp (maxDischargeDepth := 40) [*]; done)
    | (refine inv_of_eq h ?_ ?_ ?_ ?_ ?_ ?_ ?_ <;> with_reducible rfl)

@[simp] theorem portFault_inv (s : State) (p : Port) (cause : Nat) (h : s.Kept q) : (State.portFault s p cause).Kept q := by
  unfold State.portFault
  try dsimp only
  repeat' split
  all_goals first
    | (with_reducible exact h)
    | (simp (maxDischargeDepth := 40) [*]; done)
    | (refine inv_of_eq h ?_ ?_ ?_ ?_ ?_ ?_ ?_ <;> with_reducible rfl)

@[simp] theorem caseStaleTimeout_inv (dt : Nat) (p : Port) (s0 : State)
    (h : s0.Kept q) : (caseStaleTimeout dt p s0).Kept q := by
  unfold caseStaleTimeout
  try dsimp only
  repeat' split
  all_goals first
    | (with_reducible exact h)
    | (simp (maxDischargeDepth := 40) [*]; done)
    | (refine inv_of_eq h ?_ ?_ ?_ ?_ ?_ ?_ ?_ <;> with_reducible rfl)

@[simp] theorem caseRangeTimeout_inv (dt : Nat) (p : Port) (s0 : State)
    (h : s0.Kept q) : (caseRangeTimeout dt p s0).Kept q := by
  unfold caseRangeTimeout
  try dsimp only
  repeat' split
  all_goals first
    | (with_reducible exact h)
    | (simp (maxDischargeDepth := 40) [*]; done)
    | (refine inv_of_eq h ?_ ?_ ?_ ?_ ?_ ?_ ?_ <;> with_reducible rfl)

@[simp] theorem overtempTimeout_inv (dt : Nat) (p : Port) (s0 : State)
    (h : s0.Kept q) : (overtempTimeout dt p s0).Kept q := by
  unfold overtempTimeout
  try dsimp only
  repeat' split
  all_goals first
    | (with_reducible exact h)
    | (simp (maxDischargeDepth := 40) [*]; done)
    | (refine inv_of_eq h ?_ ?_ ?_ ?_ ?_ ?_ ?_ <;> with_reducible rfl)

@[simp] theorem proofOverdue_inv (s : State) (p : Port) (h : s.Kept q) : (State.proofOverdue s p).Kept q := by
  unfold State.proofOverdue
  try dsimp only
  repeat' split
  all_goals first
    | (with_reducible exact h)
    | (simp (maxDischargeDepth := 40) [*]; done)
    | (refine inv_of_eq h ?_ ?_ ?_ ?_ ?_ ?_ ?_ <;> with_reducible rfl)

@[simp] theorem proofDue_inv (dt : Nat) (p : Port) (s0 : State) (h : s0.Kept q) : (proofDue dt p s0).Kept q := by
  unfold proofDue
  try dsimp only
  repeat' split
  all_goals first
    | (with_reducible exact h)
    | (simp (maxDischargeDepth := 40) [*]; done)
    | (refine inv_of_eq h ?_ ?_ ?_ ?_ ?_ ?_ ?_ <;> with_reducible rfl)

@[simp] theorem proofPulse_inv (dt : Nat) (p : Port) (x : EmitterReading) (s0 : State)
    (h : s0.Kept q) : (proofPulse dt p x s0).Kept q := by
  unfold proofPulse
  try dsimp only
  repeat' split
  all_goals first
    | (with_reducible exact h)
    | (simp (maxDischargeDepth := 40) [*]; done)
    | (refine inv_of_eq h ?_ ?_ ?_ ?_ ?_ ?_ ?_ <;> with_reducible rfl)

@[simp] theorem proofMoved_inv (s : State) (p : Port) (h : s.Kept q) : (State.proofMoved s p).Kept q := by
  unfold State.proofMoved
  try dsimp only
  repeat' split
  all_goals first
    | (with_reducible exact h)
    | (simp (maxDischargeDepth := 40) [*]; done)
    | (refine inv_of_eq h ?_ ?_ ?_ ?_ ?_ ?_ ?_ <;> with_reducible rfl)

@[simp] theorem pumpNrgSample_inv (dt : Nat) (p : Port) (mv : Nat) (s0 : State)
    (h : s0.Kept q) : (pumpNrgSample dt p mv s0).Kept q := by
  unfold pumpNrgSample
  try dsimp only
  repeat' split
  all_goals first
    | (with_reducible exact h)
    | (simp (maxDischargeDepth := 40) [*]; done)
    | (refine inv_of_eq h ?_ ?_ ?_ ?_ ?_ ?_ ?_ <;> with_reducible rfl)

@[simp] theorem clearFault_inv (s : State) (p : Port) (h : s.Kept q) : (State.clearFault s p).2.Kept q := by
  unfold State.clearFault
  try dsimp only
  repeat' split
  all_goals first
    | (with_reducible exact h)
    | (simp (maxDischargeDepth := 40) [*]; done)
    | (refine inv_of_eq h ?_ ?_ ?_ ?_ ?_ ?_ ?_ <;> with_reducible rfl)

end Sys2Proof.Machine
end

