-- ==== Sys2Proof/Laws/InvReceive.lean ====
section
/-! SUPPORT. The functions of Machine/Receive.lean keep the invariant and the queue. -/

namespace Sys2Proof.Machine

variable {q : List Instr}

@[simp] theorem rangeControl_inv (s : State) (p : Port) (t : Nat) (h : s.Kept q) : (State.rangeControl s p t).Kept q := by
  unfold State.rangeControl
  try dsimp only
  repeat' split
  all_goals first
    | (with_reducible exact h)
    | (simp (maxDischargeDepth := 40) [*]; done)
    | (refine inv_of_eq h ?_ ?_ ?_ ?_ ?_ ?_ ?_ <;> with_reducible rfl)

@[simp] theorem rangeSwitch_inv (dt : Nat) (p : Port) (s0 : State) (h : s0.Kept q) : (rangeSwitch dt p s0).Kept q := by
  unfold rangeSwitch
  try dsimp only
  repeat' split
  all_goals first
    | (with_reducible exact h)
    | (simp (maxDischargeDepth := 40) [*]; done)
    | (refine inv_of_eq h ?_ ?_ ?_ ?_ ?_ ?_ ?_ <;> with_reducible rfl)

@[simp] theorem ovldOnset_inv (dt : Nat) (p : Port) (i : Fin 2) (held : Nat) (s0 : State)
    (h : s0.Kept q) : (ovldOnset dt p i held s0).Kept q := by
  unfold ovldOnset
  try dsimp only
  repeat' split
  all_goals first
    | (with_reducible exact h)
    | (simp (maxDischargeDepth := 40) [*]; done)
    | (refine inv_of_eq h ?_ ?_ ?_ ?_ ?_ ?_ ?_ <;> with_reducible rfl)

@[simp] theorem pairBegin_inv (s : State) (p : Port) (w : Nat) (h : s.Kept q) : (State.pairBegin s p w).Kept q := by
  unfold State.pairBegin
  try dsimp only
  repeat' split
  all_goals first
    | (with_reducible exact h)
    | (simp (maxDischargeDepth := 40) [*]; done)
    | (refine inv_of_eq h ?_ ?_ ?_ ?_ ?_ ?_ ?_ <;> with_reducible rfl)

@[simp] theorem takeCodes_inv (s : State) (p : Port) (tFirst : Nat) (xs ys : List Code)
    (h : s.Kept q) : (State.takeCodes s p tFirst xs ys).Kept q := by
  unfold State.takeCodes
  try dsimp only
  repeat' split
  all_goals first
    | (with_reducible exact h)
    | (simp (maxDischargeDepth := 40) [*]; done)
    | (refine inv_of_eq h ?_ ?_ ?_ ?_ ?_ ?_ ?_ <;> with_reducible rfl)

@[simp] theorem pairClear_inv (s : State) (p : Port) (h : s.Kept q) : (State.pairClear s p).Kept q := by
  unfold State.pairClear
  try dsimp only
  repeat' split
  all_goals first
    | (with_reducible exact h)
    | (simp (maxDischargeDepth := 40) [*]; done)
    | (refine inv_of_eq h ?_ ?_ ?_ ?_ ?_ ?_ ?_ <;> with_reducible rfl)

@[simp] theorem pairVerdict_inv (s : State) (p : Port) (xs ys : List Int)
    (h : s.Kept q) : (State.pairVerdict s p xs ys).Kept q := by
  unfold State.pairVerdict
  try dsimp only
  repeat' split
  all_goals first
    | (with_reducible exact h)
    | (simp (maxDischargeDepth := 40) [*]; done)
    | (refine inv_of_eq h ?_ ?_ ?_ ?_ ?_ ?_ ?_ <;> with_reducible rfl)

@[simp] theorem pairCheckEnd_inv (dt : Nat) (p : Port) (xs ys : List Code) (s0 : State)
    (h : s0.Kept q) : (pairCheckEnd dt p xs ys s0).Kept q := by
  unfold pairCheckEnd
  try dsimp only
  repeat' split
  all_goals first
    | (with_reducible exact h)
    | (simp (maxDischargeDepth := 40) [*]; done)
    | (refine inv_of_eq h ?_ ?_ ?_ ?_ ?_ ?_ ?_ <;> with_reducible rfl)

end Sys2Proof.Machine
end

