-- ==== Sys2Proof/Laws/InvMace.lean ====
section
/-! SUPPORT. The functions of Machine/Mace.lean keep the invariant and the queue. -/

namespace Sys2Proof.Machine

variable {q : List Instr}

@[simp] theorem maskAdd_inv (s : State) (p : Port) (c first : Nat) (bins : List BinOut)
    (h : s.Kept q) : (State.maskAdd s p c first bins).Kept q := by
  unfold State.maskAdd
  try dsimp only
  repeat' split
  all_goals first
    | (with_reducible exact h)
    | (simp (maxDischargeDepth := 40) [*]; done)
    | (refine inv_of_eq h ?_ ?_ ?_ ?_ ?_ ?_ ?_ <;> with_reducible rfl)

@[simp] theorem maceDeliver_inv (s : State) (p : Port) (f : Frame) (tFirst : Nat) (xs ys : List Code)
    (h : s.Kept q) : (State.maceDeliver s p f tFirst xs ys).Kept q := by
  unfold State.maceDeliver
  try dsimp only
  repeat' split
  all_goals first
    | (with_reducible exact h)
    | (simp (maxDischargeDepth := 40) [*]; done)
    | (refine inv_of_eq h ?_ ?_ ?_ ?_ ?_ ?_ ?_ <;> with_reducible rfl)

end Sys2Proof.Machine
end

