-- ==== Sys2Proof/Laws/InvInterval.lean ====
section
/-! SUPPORT. The functions of Machine/Interval.lean keep the invariant and the queue. -/

namespace Sys2Proof.Machine

variable {q : List Instr}

@[simp] theorem setTime_inv (s : State) (f : TimeSt → TimeSt) (h : s.Kept q) : (State.setTime s f).Kept q := by
  unfold State.setTime
  try dsimp only
  repeat' split
  all_goals first
    | (with_reducible exact h)
    | (simp (maxDischargeDepth := 40) [*]; done)
    | (refine inv_of_eq h ?_ ?_ ?_ ?_ ?_ ?_ ?_ <;> with_reducible rfl)

@[simp] theorem setTi_inv (s : State) (f : TiSt → TiSt) (h : s.Kept q) : (State.setTi s f).Kept q := by
  unfold State.setTi
  try dsimp only
  repeat' split
  all_goals first
    | (with_reducible exact h)
    | (simp (maxDischargeDepth := 40) [*]; done)
    | (refine inv_of_eq h ?_ ?_ ?_ ?_ ?_ ?_ ?_ <;> with_reducible rfl)

@[simp] theorem refBegins_inv (s : State) (h : s.Kept q) : (State.refBegins s).Kept q := by
  unfold State.refBegins
  try dsimp only
  repeat' split
  all_goals first
    | (with_reducible exact h)
    | (simp (maxDischargeDepth := 40) [*]; done)
    | (refine inv_of_eq h ?_ ?_ ?_ ?_ ?_ ?_ ?_ <;> with_reducible rfl)

@[simp] theorem tiWrite_inv (s : State) (r : List Byte) (h : s.Kept q) : (State.tiWrite s r).Kept q := by
  unfold State.tiWrite
  try dsimp only
  repeat' split
  all_goals first
    | (with_reducible exact h)
    | (simp (maxDischargeDepth := 40) [*]; done)
    | (refine inv_of_eq h ?_ ?_ ?_ ?_ ?_ ?_ ?_ <;> with_reducible rfl)

@[simp] theorem tiOpen_inv (s : State) (ns frac input flags slot : Nat)
    (h : s.Kept q) : (State.tiOpen s ns frac input flags slot).Kept q := by
  unfold State.tiOpen
  try dsimp only
  repeat' split
  all_goals first
    | (with_reducible exact h)
    | (simp (maxDischargeDepth := 40) [*]; done)
    | (refine inv_of_eq h ?_ ?_ ?_ ?_ ?_ ?_ ?_ <;> with_reducible rfl)

@[simp] theorem tiClose_inv (s : State) (byStops : Bool) (h : s.Kept q) : (State.tiClose s byStops).Kept q := by
  unfold State.tiClose
  try dsimp only
  repeat' split
  all_goals first
    | (with_reducible exact h)
    | (simp (maxDischargeDepth := 40) [*]; done)
    | (refine inv_of_eq h ?_ ?_ ?_ ?_ ?_ ?_ ?_ <;> with_reducible rfl)

@[simp] theorem tiLaunch_inv (s : State) (p : Port) (k : Fin 4) (t : Nat)
    (h : s.Kept q) : (State.tiLaunch s p k t).Kept q := by
  unfold State.tiLaunch
  try dsimp only
  repeat' split
  all_goals first
    | (with_reducible exact h)
    | (simp (maxDischargeDepth := 40) [*]; done)
    | (refine inv_of_eq h ?_ ?_ ?_ ?_ ?_ ?_ ?_ <;> with_reducible rfl)

@[simp] theorem tiStartEdge_inv (dt : Nat) (e : TiStart) (x : Stamp) (s0 : State)
    (h : s0.Kept q) : (tiStartEdge dt e x s0).Kept q := by
  unfold tiStartEdge
  try dsimp only
  repeat' split
  all_goals first
    | (with_reducible exact h)
    | (simp (maxDischargeDepth := 40) [*]; done)
    | (refine inv_of_eq h ?_ ?_ ?_ ?_ ?_ ?_ ?_ <;> with_reducible rfl)

@[simp] theorem echoNote_inv (s : State) (a : TiArm) (i : Fin 12) (e : TiEdge)
    (h : s.Kept q) : (State.echoNote s a i e).Kept q := by
  unfold State.echoNote
  try dsimp only
  repeat' split
  all_goals first
    | (with_reducible exact h)
    | (simp (maxDischargeDepth := 40) [*]; done)
    | (refine inv_of_eq h ?_ ?_ ?_ ?_ ?_ ?_ ?_ <;> with_reducible rfl)

@[simp] theorem tiStop_inv (s : State) (a : TiArm) (m : TiMeas) (i : Fin 12) (ns frac : Nat)
    (h : s.Kept q) : (State.tiStop s a m i ns frac).Kept q := by
  unfold State.tiStop
  try dsimp only
  repeat' split
  all_goals first
    | (with_reducible exact h)
    | (simp (maxDischargeDepth := 40) [*]; done)
    | (refine inv_of_eq h ?_ ?_ ?_ ?_ ?_ ?_ ?_ <;> with_reducible rfl)

@[simp] theorem tiStopEdge_inv (dt : Nat) (i : Fin 12) (e : TiEdge) (x : Stamp) (s0 : State)
    (h : s0.Kept q) : (tiStopEdge dt i e x s0).Kept q := by
  unfold tiStopEdge
  try dsimp only
  repeat' split
  all_goals first
    | (with_reducible exact h)
    | (simp (maxDischargeDepth := 40) [*]; done)
    | (refine inv_of_eq h ?_ ?_ ?_ ?_ ?_ ?_ ?_ <;> with_reducible rfl)

@[simp] theorem tiWindowEnd_inv (dt : Nat) (s0 : State) (h : s0.Kept q) : (tiWindowEnd dt s0).Kept q := by
  unfold tiWindowEnd
  try dsimp only
  repeat' split
  all_goals first
    | (with_reducible exact h)
    | (simp (maxDischargeDepth := 40) [*]; done)
    | (refine inv_of_eq h ?_ ?_ ?_ ?_ ?_ ?_ ?_ <;> with_reducible rfl)

@[simp] theorem tiFreqGateEnd_inv (dt : Nat) (x : Stamp) (edges interval : Nat) (s0 : State)
    (h : s0.Kept q) : (tiFreqGateEnd dt x edges interval s0).Kept q := by
  unfold tiFreqGateEnd
  try dsimp only
  repeat' split
  all_goals first
    | (with_reducible exact h)
    | (simp (maxDischargeDepth := 40) [*]; done)
    | (refine inv_of_eq h ?_ ?_ ?_ ?_ ?_ ?_ ?_ <;> with_reducible rfl)

@[simp] theorem tiArmed_inv (s : State) (b : List Byte) (h : s.Kept q) : (State.tiArmed s b).2.Kept q := by
  unfold State.tiArmed
  try dsimp only
  repeat' split
  all_goals first
    | (with_reducible exact h)
    | (simp (maxDischargeDepth := 40) [*]; done)
    | (refine inv_of_eq h ?_ ?_ ?_ ?_ ?_ ?_ ?_ <;> with_reducible rfl)

end Sys2Proof.Machine
end

