-- ==== Sys2Proof/Laws/InvSequencer.lean ====
section
/-! SUPPORT. The functions of Machine/Sequencer.lean keep the invariant and the queue. -/

namespace Sys2Proof.Machine

variable {q : List Instr}

@[simp] theorem hkLaunch_inv (s : State) (p : Port) (trig t : Nat) (h : s.Kept q) : (State.hkLaunch s p trig t).Kept q := by
  unfold State.hkLaunch
  try dsimp only
  repeat' split
  all_goals first
    | (with_reducible exact h)
    | (simp (maxDischargeDepth := 40) [*]; done)
    | (refine inv_of_eq h ?_ ?_ ?_ ?_ ?_ ?_ ?_ <;> with_reducible rfl)

@[simp] theorem launch_inv (s : State) (p : Port) (k : Fin 4) (t stop cycle pos rank : Nat)
    (h : s.Kept q) : (State.launch s p k t stop cycle pos rank).Kept q := by
  unfold State.launch
  try dsimp only
  repeat' split
  all_goals first
    | (with_reducible exact h)
    | (simp (maxDischargeDepth := 40) [*]; done)
    | (refine inv_of_eq h ?_ ?_ ?_ ?_ ?_ ?_ ?_ <;> with_reducible rfl)

@[simp] theorem gridLaunch_inv (dt : Nat) (p : Port) (k : Fin 4) (s0 : State)
    (h : s0.Kept q) : (gridLaunch dt p k s0).Kept q := by
  unfold gridLaunch
  try dsimp only
  repeat' split
  all_goals first
    | (with_reducible exact h)
    | (simp (maxDischargeDepth := 40) [*]; done)
    | (refine inv_of_eq h ?_ ?_ ?_ ?_ ?_ ?_ ?_ <;> with_reducible rfl)

@[simp] theorem requestShot_inv (s : State) (rq : Req) (p : Port) (k : Fin 4) (ago : Nat)
    (h : s.Kept q) : (State.requestShot s rq p k ago).Kept q := by
  unfold State.requestShot
  try dsimp only
  repeat' split
  all_goals first
    | (with_reducible exact h)
    | (simp (maxDischargeDepth := 40) [*]; done)
    | (refine inv_of_eq h ?_ ?_ ?_ ?_ ?_ ?_ ?_ <;> with_reducible rfl)

@[simp] theorem singleShot_inv (s : State) (p : Port) (k : Fin 4) (t : Nat)
    (h : s.Kept q) : (State.singleShot s p k t).Kept q := by
  unfold State.singleShot
  try dsimp only
  repeat' split
  all_goals first
    | (with_reducible exact h)
    | (simp (maxDischargeDepth := 40) [*]; done)
    | (refine inv_of_eq h ?_ ?_ ?_ ?_ ?_ ?_ ?_ <;> with_reducible rfl)

@[simp] theorem arbitrate_inv (s : State) (p : Port) (r : LaunchReq) (h : s.Kept q) : (State.arbitrate s p r).Kept q := by
  unfold State.arbitrate
  try dsimp only
  repeat' split
  all_goals first
    | (with_reducible exact h)
    | (simp (maxDischargeDepth := 40) [*]; done)
    | (refine inv_of_eq h ?_ ?_ ?_ ?_ ?_ ?_ ?_ <;> with_reducible rfl)

@[simp] theorem hostLaunchRequest_inv (dt : Nat) (p : Port) (s0 : State)
    (h : s0.Kept q) : (hostLaunchRequest dt p s0).Kept q := by
  unfold hostLaunchRequest
  try dsimp only
  repeat' split
  all_goals first
    | (with_reducible exact h)
    | (simp (maxDischargeDepth := 40) [*]; done)
    | (refine inv_of_eq h ?_ ?_ ?_ ?_ ?_ ?_ ?_ <;> with_reducible rfl)

@[simp] theorem launchDeferredRetry_inv (dt : Nat) (p : Port) (s0 : State)
    (h : s0.Kept q) : (launchDeferredRetry dt p s0).Kept q := by
  unfold launchDeferredRetry
  try dsimp only
  repeat' split
  all_goals first
    | (with_reducible exact h)
    | (simp (maxDischargeDepth := 40) [*]; done)
    | (refine inv_of_eq h ?_ ?_ ?_ ?_ ?_ ?_ ?_ <;> with_reducible rfl)

@[simp] theorem boundaryPort_inv (c : Nat) (p : Port) (s : State) (h : s.Kept q) : (State.boundaryPort c p s).Kept q := by
  unfold State.boundaryPort
  try dsimp only
  repeat' split
  all_goals first
    | (with_reducible exact h)
    | (simp (maxDischargeDepth := 40) [*]; done)
    | (refine inv_of_eq h ?_ ?_ ?_ ?_ ?_ ?_ ?_ <;> with_reducible rfl)

@[simp] theorem boundaryJoin_inv (fresh : Bool) (p : Port) (s : State)
    (h : s.Kept q) : (State.boundaryJoin fresh p s).Kept q := by
  unfold State.boundaryJoin
  try dsimp only
  repeat' split
  all_goals first
    | (with_reducible exact h)
    | (simp (maxDischargeDepth := 40) [*]; done)
    | (refine inv_of_eq h ?_ ?_ ?_ ?_ ?_ ?_ ?_ <;> with_reducible rfl)

@[simp] theorem noteSched_inv (p : Port) (s : State) (h : s.Kept q) : (State.noteSched p s).Kept q := by
  unfold State.noteSched
  try dsimp only
  repeat' split
  all_goals first
    | (with_reducible exact h)
    | (simp (maxDischargeDepth := 40) [*]; done)
    | (refine inv_of_eq h ?_ ?_ ?_ ?_ ?_ ?_ ?_ <;> with_reducible rfl)

@[simp] theorem noteCycle_inv (c : Nat) (p : Port) (s : State) (h : s.Kept q) : (State.noteCycle c p s).Kept q := by
  unfold State.noteCycle
  dsimp only
  repeat' split
  all_goals first
    | exact h
    | (simp (maxDischargeDepth := 40) [*]; done)
    | (simp only [apply_ite (State.setMask _ _)]; simp (maxDischargeDepth := 40) [*])

@[simp] theorem gridDither_inv (s : State) (g : Fin 12) (p : Port) (skip : Nat)
    (h : s.Kept q) : (State.gridDither s g p skip).Kept q := by
  unfold State.gridDither
  try dsimp only
  repeat' split
  all_goals first
    | (with_reducible exact h)
    | (simp (maxDischargeDepth := 40) [*]; done)
    | (refine inv_of_eq h ?_ ?_ ?_ ?_ ?_ ?_ ?_ <;> with_reducible rfl)

@[simp] theorem enterCycle_inv (s : State) (g : Fin 12) (p : Port) (c skip : Nat) (fresh : Bool)
    (h : s.Kept q) : (State.enterCycle s g p c skip fresh).Kept q := by
  unfold State.enterCycle
  try dsimp only
  repeat' split
  all_goals first
    | (with_reducible exact h)
    | (simp (maxDischargeDepth := 40) [*]; done)
    | (refine inv_of_eq h ?_ ?_ ?_ ?_ ?_ ?_ ?_ <;> with_reducible rfl)

@[simp] theorem cycleBoundary_inv (dt : Nat) (g : Fin 12) (s0 : State) (h : s0.Kept q) : (cycleBoundary dt g s0).Kept q := by
  unfold cycleBoundary
  try dsimp only
  repeat' split
  all_goals first
    | (with_reducible exact h)
    | (simp (maxDischargeDepth := 40) [*]; done)
    | (refine inv_of_eq h ?_ ?_ ?_ ?_ ?_ ?_ ?_ <;> with_reducible rfl)

@[simp] theorem openWindow_inv (s : State) (p : Port) (raman : Bool) (w close : Nat)
    (h : s.Kept q) : (State.openWindow s p raman w close).Kept q := by
  unfold State.openWindow
  try dsimp only
  repeat' split
  all_goals first
    | (with_reducible exact h)
    | (simp (maxDischargeDepth := 40) [*]; done)
    | (refine inv_of_eq h ?_ ?_ ?_ ?_ ?_ ?_ ?_ <;> with_reducible rfl)

@[simp] theorem windowOpen_inv (dt : Nat) (p : Port) (s0 : State) (h : s0.Kept q) : (windowOpen dt p s0).Kept q := by
  unfold windowOpen
  try dsimp only
  repeat' split
  all_goals first
    | (with_reducible exact h)
    | (simp (maxDischargeDepth := 40) [*]; done)
    | (refine inv_of_eq h ?_ ?_ ?_ ?_ ?_ ?_ ?_ <;> with_reducible rfl)

@[simp] theorem singleCheckWindow_inv (dt : Nat) (p : Port) (s0 : State)
    (h : s0.Kept q) : (singleCheckWindow dt p s0).Kept q := by
  unfold singleCheckWindow
  try dsimp only
  repeat' split
  all_goals first
    | (with_reducible exact h)
    | (simp (maxDischargeDepth := 40) [*]; done)
    | (refine inv_of_eq h ?_ ?_ ?_ ?_ ?_ ?_ ?_ <;> with_reducible rfl)

@[simp] theorem fall_inv (s : State) (p : Port) (h : s.Kept q) : (State.fall s p).Kept q := by
  unfold State.fall
  try dsimp only
  repeat' split
  all_goals first
    | (with_reducible exact h)
    | (simp (maxDischargeDepth := 40) [*]; done)
    | (refine inv_of_eq h ?_ ?_ ?_ ?_ ?_ ?_ ?_ <;> with_reducible rfl)

@[simp] theorem rise_inv (s : State) (p : Port) (h : s.Kept q) : (State.rise s p).Kept q := by
  unfold State.rise
  try dsimp only
  repeat' split
  all_goals first
    | (with_reducible exact h)
    | (simp (maxDischargeDepth := 40) [*]; done)
    | (refine inv_of_eq h ?_ ?_ ?_ ?_ ?_ ?_ ?_ <;> with_reducible rfl)

@[simp] theorem portStop_inv (p : Port) (s : State) (h : s.Kept q) : (State.portStop p s).Kept q := by
  unfold State.portStop
  try dsimp only
  repeat' split
  all_goals first
    | (with_reducible exact h)
    | (simp (maxDischargeDepth := 40) [*]; done)
    | (refine inv_of_eq h ?_ ?_ ?_ ?_ ?_ ?_ ?_ <;> with_reducible rfl)

@[simp] theorem stopFramesDrained_inv (dt : Nat) (p : Port) (s0 : State)
    (h : s0.Kept q) : (stopFramesDrained dt p s0).Kept q := by
  unfold stopFramesDrained
  try dsimp only
  repeat' split
  all_goals first
    | (with_reducible exact h)
    | (simp (maxDischargeDepth := 40) [*]; done)
    | (refine inv_of_eq h ?_ ?_ ?_ ?_ ?_ ?_ ?_ <;> with_reducible rfl)

@[simp] theorem portHalt_inv (s : State) (p : Port) (h : s.Kept q) : (State.portHalt s p).Kept q := by
  unfold State.portHalt
  try dsimp only
  repeat' split
  all_goals first
    | (with_reducible exact h)
    | (simp (maxDischargeDepth := 40) [*]; done)
    | (refine inv_of_eq h ?_ ?_ ?_ ?_ ?_ ?_ ?_ <;> with_reducible rfl)

end Sys2Proof.Machine
end

