-- ==== Sys2Proof/Laws/InvHead.lean ====
section
/-! SUPPORT. The functions of Machine/Head.lean keep the invariant and the queue. -/

namespace Sys2Proof.Machine

variable {q : List Instr}

@[simp] theorem rescanEnds_inv (s : State) (p : Port) (rq : Option Req) (st : Status)
    (h : s.Kept q) : (State.rescanEnds s p rq st).Kept q := by
  unfold State.rescanEnds
  try dsimp only
  repeat' split
  all_goals first
    | (with_reducible exact h)
    | (simp (maxDischargeDepth := 40) [*]; done)
    | (refine inv_of_eq h ?_ ?_ ?_ ?_ ?_ ?_ ?_ <;> with_reducible rfl)

@[simp] theorem newHead_inv (s : State) (p : Port) (serial : List Byte)
    (h : s.Kept q) : (State.newHead s p serial).Kept q := by
  unfold State.newHead
  try dsimp only
  repeat' split
  all_goals first
    | (with_reducible exact h)
    | (simp (maxDischargeDepth := 40) [*]; done)
    | (refine inv_of_eq h ?_ ?_ ?_ ?_ ?_ ?_ ?_ <;> with_reducible rfl)

@[simp] theorem readFaults_inv (s : State) (p : Port) (cause : Nat) (rq : Option Req)
    (h : s.Kept q) : (State.readFaults s p cause rq).Kept q := by
  unfold State.readFaults
  try dsimp only
  repeat' split
  all_goals first
    | (with_reducible exact h)
    | (simp (maxDischargeDepth := 40) [*]; done)
    | (refine inv_of_eq h ?_ ?_ ?_ ?_ ?_ ?_ ?_ <;> with_reducible rfl)

@[simp] theorem readDone_inv (s : State) (p : Port) (r : List Byte) (rq : Option Req)
    (h : s.Kept q) : (State.readDone s p r rq).Kept q := by
  unfold State.readDone
  try dsimp only
  repeat' split
  all_goals first
    | (with_reducible exact h)
    | (simp (maxDischargeDepth := 40) [*]; done)
    | (refine inv_of_eq h ?_ ?_ ?_ ?_ ?_ ?_ ?_ <;> with_reducible rfl)

@[simp] theorem attemptFails_inv (s : State) (p : Port) (x : IdRead) (cause : Nat)
    (h : s.Kept q) : (State.attemptFails s p x cause).Kept q := by
  unfold State.attemptFails
  try dsimp only
  repeat' split
  all_goals first
    | (with_reducible exact h)
    | (simp (maxDischargeDepth := 40) [*]; done)
    | (refine inv_of_eq h ?_ ?_ ?_ ?_ ?_ ?_ ?_ <;> with_reducible rfl)

@[simp] theorem lostEnds_inv (s : State) (p : Port) (x : IdRead) (bus : List BusOp)
    (h : s.Kept q) : (State.lostEnds s p x bus).Kept q := by
  unfold State.lostEnds
  try dsimp only
  repeat' split
  all_goals first
    | (with_reducible exact h)
    | (simp (maxDischargeDepth := 40) [*]; done)
    | (refine inv_of_eq h ?_ ?_ ?_ ?_ ?_ ?_ ?_ <;> with_reducible rfl)

@[simp] theorem filtersBegin_inv (s : State) (p : Port) (h : s.Kept q) : (State.filtersBegin s p).Kept q := by
  unfold State.filtersBegin
  try dsimp only
  repeat' split
  all_goals first
    | (with_reducible exact h)
    | (simp (maxDischargeDepth := 40) [*]; done)
    | (refine inv_of_eq h ?_ ?_ ?_ ?_ ?_ ?_ ?_ <;> with_reducible rfl)

@[simp] theorem headFilters_inv (s : State) (h : s.Kept q) : (State.headFilters s).Kept q := by
  unfold State.headFilters
  try dsimp only
  repeat' split
  all_goals first
    | (with_reducible exact h)
    | (simp (maxDischargeDepth := 40) [*]; done)
    | (refine inv_of_eq h ?_ ?_ ?_ ?_ ?_ ?_ ?_ <;> with_reducible rfl)

@[simp] theorem presAcceptLow_inv (dt : Nat) (p : Port) (s0 : State) (h : s0.Kept q) : (presAcceptLow dt p s0).Kept q := by
  unfold presAcceptLow
  try dsimp only
  repeat' split
  all_goals first
    | (with_reducible exact h)
    | (simp (maxDischargeDepth := 40) [*]; done)
    | (refine inv_of_eq h ?_ ?_ ?_ ?_ ?_ ?_ ?_ <;> with_reducible rfl)

@[simp] theorem loseHead_inv (s : State) (p : Port) (h : s.Kept q) : (State.loseHead s p).Kept q := by
  unfold State.loseHead
  try dsimp only
  repeat' split
  all_goals first
    | (with_reducible exact h)
    | (simp (maxDischargeDepth := 40) [*]; done)
    | (refine inv_of_eq h ?_ ?_ ?_ ?_ ?_ ?_ ?_ <;> with_reducible rfl)

@[simp] theorem presLoss_inv (dt : Nat) (p : Port) (s0 : State) (h : s0.Kept q) : (presLoss dt p s0).Kept q := by
  unfold presLoss
  try dsimp only
  repeat' split
  all_goals first
    | (with_reducible exact h)
    | (simp (maxDischargeDepth := 40) [*]; done)
    | (refine inv_of_eq h ?_ ?_ ?_ ?_ ?_ ?_ ?_ <;> with_reducible rfl)

@[simp] theorem ilkChange_inv (dt : Nat) (p : Port) (closed : Bool) (s0 : State)
    (h : s0.Kept q) : (ilkChange dt p closed s0).Kept q := by
  unfold ilkChange
  try dsimp only
  repeat' split
  all_goals first
    | (with_reducible exact h)
    | (simp (maxDischargeDepth := 40) [*]; done)
    | (refine inv_of_eq h ?_ ?_ ?_ ?_ ?_ ?_ ?_ <;> with_reducible rfl)

@[simp] theorem idReadStart_inv (dt : Nat) (p : Port) (s0 : State) (h : s0.Kept q) : (idReadStart dt p s0).Kept q := by
  unfold idReadStart
  try dsimp only
  repeat' split
  all_goals first
    | (with_reducible exact h)
    | (simp (maxDischargeDepth := 40) [*]; done)
    | (refine inv_of_eq h ?_ ?_ ?_ ?_ ?_ ?_ ?_ <;> with_reducible rfl)

@[simp] theorem transactionEnds_inv (s : State) (p : Port) (x : IdRead) (pulses : Nat) (r : IdResult)
    (h : s.Kept q) : (State.transactionEnds s p x pulses r).Kept q := by
  unfold State.transactionEnds
  try dsimp only
  repeat' split
  all_goals first
    | (with_reducible exact h)
    | (simp (maxDischargeDepth := 40) [*]; done)
    | (refine inv_of_eq h ?_ ?_ ?_ ?_ ?_ ?_ ?_ <;> with_reducible rfl)

@[simp] theorem idTransactionEnd_inv (dt : Nat) (p : Port) (pulses : Fin 10) (r : IdResult) (s0 : State)
    (h : s0.Kept q) : (idTransactionEnd dt p pulses r s0).Kept q := by
  unfold idTransactionEnd
  try dsimp only
  repeat' split
  all_goals first
    | (with_reducible exact h)
    | (simp (maxDischargeDepth := 40) [*]; done)
    | (refine inv_of_eq h ?_ ?_ ?_ ?_ ?_ ?_ ?_ <;> with_reducible rfl)

@[simp] theorem idTransactionTimeout_inv (dt : Nat) (p : Port) (pulses : Fin 10) (s0 : State)
    (h : s0.Kept q) : (idTransactionTimeout dt p pulses s0).Kept q := by
  unfold idTransactionTimeout
  try dsimp only
  repeat' split
  all_goals first
    | (with_reducible exact h)
    | (simp (maxDischargeDepth := 40) [*]; done)
    | (refine inv_of_eq h ?_ ?_ ?_ ?_ ?_ ?_ ?_ <;> with_reducible rfl)

@[simp] theorem headRescan_inv (s : State) (rq : Req) (p : Port) (h : s.Kept q) : (State.headRescan s rq p).Kept q := by
  unfold State.headRescan
  try dsimp only
  repeat' split
  all_goals first
    | (with_reducible exact h)
    | (simp (maxDischargeDepth := 40) [*]; done)
    | (refine inv_of_eq h ?_ ?_ ?_ ?_ ?_ ?_ ?_ <;> with_reducible rfl)

@[simp] theorem rescanTimeout_inv (s : State) (p : Port) (h : s.Kept q) : (State.rescanTimeout s p).Kept q := by
  unfold State.rescanTimeout
  try dsimp only
  repeat' split
  all_goals first
    | (with_reducible exact h)
    | (simp (maxDischargeDepth := 40) [*]; done)
    | (refine inv_of_eq h ?_ ?_ ?_ ?_ ?_ ?_ ?_ <;> with_reducible rfl)

end Sys2Proof.Machine
end

