-- ==== Sys2Proof/Laws/InvGauge.lean ====
section
/-! SUPPORT. The functions of Machine/Gauge.lean keep the invariant and the queue. -/

namespace Sys2Proof.Machine

variable {q : List Instr}

@[simp] theorem gaugeCount_inv (s : State) (p : Port) (f : Formed) (h : s.Kept q) : (State.gaugeCount s p f).Kept q := by
  unfold State.gaugeCount
  try dsimp only
  repeat' split
  all_goals first
    | (with_reducible exact h)
    | (simp (maxDischargeDepth := 40) [*]; done)
    | (refine inv_of_eq h ?_ ?_ ?_ ?_ ?_ ?_ ?_ <;> with_reducible rfl)

@[simp] theorem sampleOut_inv (s : State) (p : Port) (gauge pos era : Nat) (f : Formed)
    (h : s.Kept q) : (State.sampleOut s p gauge pos era f).Kept q := by
  unfold State.sampleOut
  try dsimp only
  repeat' split
  all_goals first
    | (with_reducible exact h)
    | (simp (maxDischargeDepth := 40) [*]; done)
    | (refine inv_of_eq h ?_ ?_ ?_ ?_ ?_ ?_ ?_ <;> with_reducible rfl)

@[simp] theorem formFrom_inv (s : State) (p : Port) (f : Frame) (x : GaugeIn)
    (h : s.Kept q) : (State.formFrom s p f x).Kept q := by
  unfold State.formFrom
  dsimp only
  exact sampleOut_inv _ _ _ _ _ _ (inv_free _ _ (by simp (maxDischargeDepth := 40) [*]))

@[simp] theorem formGap_inv (s : State) (p : Port) (g : GapPos) (gauge : Nat)
    (h : s.Kept q) : (State.formGap s p g gauge).Kept q := by
  unfold State.formGap
  try dsimp only
  repeat' split
  all_goals first
    | (with_reducible exact h)
    | (simp (maxDischargeDepth := 40) [*]; done)
    | (refine inv_of_eq h ?_ ?_ ?_ ?_ ?_ ?_ ?_ <;> with_reducible rfl)

@[simp] theorem gaugeSample_inv (dt : Nat) (p : Port) (x : GaugeIn) (s0 : State)
    (h : s0.Kept q) : (gaugeSample dt p x s0).Kept q := by
  unfold gaugeSample
  dsimp only
  split
  · simp (maxDischargeDepth := 40) [*]
  · split
    all_goals simp (maxDischargeDepth := 40) [*]

end Sys2Proof.Machine
end

