-- ==== Sys2Proof/Laws/InvRaman.lean ====
section
/-! SUPPORT. The functions of Machine/Raman.lean keep the invariant and the queue. -/

namespace Sys2Proof.Machine

variable {q : List Instr}

@[simp] theorem setRaman_inv (s : State) (p : Port) (f : RamanSt → RamanSt)
    (h : s.Kept q) : (State.setRaman s p f).Kept q := by
  unfold State.setRaman
  try dsimp only
  repeat' split
  all_goals first
    | (with_reducible exact h)
    | (simp (maxDischargeDepth := 40) [*]; done)
    | (refine inv_of_eq h ?_ ?_ ?_ ?_ ?_ ?_ ?_ <;> with_reducible rfl)

@[simp] theorem takeNextWindow_inv (s : State) (p : Port) (t : Nat) (h : s.Kept q) : (State.takeNextWindow s p t).Kept q := by
  unfold State.takeNextWindow
  try dsimp only
  repeat' split
  all_goals first
    | (with_reducible exact h)
    | (simp (maxDischargeDepth := 40) [*]; done)
    | (refine inv_of_eq h ?_ ?_ ?_ ?_ ?_ ?_ ?_ <;> with_reducible rfl)

@[simp] theorem pumpFires_inv (s : State) (p : Port) (w : Window) (t : Nat)
    (h : s.Kept q) : (State.pumpFires s p w t).Kept q := by
  unfold State.pumpFires
  try dsimp only
  repeat' split
  all_goals first
    | (with_reducible exact h)
    | (simp (maxDischargeDepth := 40) [*]; done)
    | (refine inv_of_eq h ?_ ?_ ?_ ?_ ?_ ?_ ?_ <;> with_reducible rfl)

@[simp] theorem pumpLaunch_inv (dt : Nat) (p : Port) (s0 : State) (h : s0.Kept q) : (pumpLaunch dt p s0).Kept q := by
  unfold pumpLaunch
  try dsimp only
  repeat' split
  all_goals first
    | (with_reducible exact h)
    | (simp (maxDischargeDepth := 40) [*]; done)
    | (refine inv_of_eq h ?_ ?_ ?_ ?_ ?_ ?_ ?_ <;> with_reducible rfl)

@[simp] theorem biasFaultSet_inv (dt : Nat) (p : Port) (x : BiasReading) (s0 : State)
    (h : s0.Kept q) : (biasFaultSet dt p x s0).Kept q := by
  unfold biasFaultSet
  try dsimp only
  repeat' split
  all_goals first
    | (with_reducible exact h)
    | (simp (maxDischargeDepth := 40) [*]; done)
    | (refine inv_of_eq h ?_ ?_ ?_ ?_ ?_ ?_ ?_ <;> with_reducible rfl)

@[simp] theorem biasFaultClear_inv (dt : Nat) (p : Port) (x : BiasReading) (s0 : State)
    (h : s0.Kept q) : (biasFaultClear dt p x s0).Kept q := by
  unfold biasFaultClear
  try dsimp only
  repeat' split
  all_goals first
    | (with_reducible exact h)
    | (simp (maxDischargeDepth := 40) [*]; done)
    | (refine inv_of_eq h ?_ ?_ ?_ ?_ ?_ ?_ ?_ <;> with_reducible rfl)

@[simp] theorem joinCarried_inv (s : State) (p : Port) (a : RamanAcc)
    (h : s.Kept q) : (State.joinCarried s p a).2.Kept q := by
  unfold State.joinCarried
  try dsimp only
  repeat' split
  all_goals first
    | (with_reducible exact h)
    | (simp (maxDischargeDepth := 40) [*]; done)
    | (refine inv_of_eq h ?_ ?_ ?_ ?_ ?_ ?_ ?_ <;> with_reducible rfl)

@[simp] theorem convert_inv (s : State) (p : Port) (c : RamanConv) (h : s.Kept q) : (State.convert s p c).Kept q := by
  unfold State.convert
  try dsimp only
  repeat' split
  all_goals first
    | (with_reducible exact h)
    | (simp (maxDischargeDepth := 40) [*]; done)
    | (refine inv_of_eq h ?_ ?_ ?_ ?_ ?_ ?_ ?_ <;> with_reducible rfl)

@[simp] theorem profileReady_inv (dt : Nat) (p : Port) (s0 : State) (h : s0.Kept q) : (profileReady dt p s0).Kept q := by
  unfold profileReady
  try dsimp only
  repeat' split
  all_goals first
    | (with_reducible exact h)
    | (simp (maxDischargeDepth := 40) [*]; done)
    | (refine inv_of_eq h ?_ ?_ ?_ ?_ ?_ ?_ ?_ <;> with_reducible rfl)

@[simp] theorem closePeriod_inv (s0 : State) (p : Port) (t0 t1 : Nat)
    (h : s0.Kept q) : (State.closePeriod s0 p t0 t1).Kept q := by
  unfold State.closePeriod
  try dsimp only
  repeat' split
  all_goals first
    | (with_reducible exact h)
    | (simp (maxDischargeDepth := 40) [*]; done)
    | (refine inv_of_eq h ?_ ?_ ?_ ?_ ?_ ?_ ?_ <;> with_reducible rfl)

@[simp] theorem ramanPeriodClose_inv (dt : Nat) (p : Port) (s0 : State)
    (h : s0.Kept q) : (ramanPeriodClose dt p s0).Kept q := by
  unfold ramanPeriodClose
  try dsimp only
  repeat' split
  all_goals first
    | (with_reducible exact h)
    | (simp (maxDischargeDepth := 40) [*]; done)
    | (refine inv_of_eq h ?_ ?_ ?_ ?_ ?_ ?_ ?_ <;> with_reducible rfl)

@[simp] theorem leavePeriod_inv (s : State) (p : Port) (t : Nat) (h : s.Kept q) : (State.leavePeriod s p t).Kept q := by
  unfold State.leavePeriod
  try dsimp only
  repeat' split
  all_goals first
    | (with_reducible exact h)
    | (simp (maxDischargeDepth := 40) [*]; done)
    | (refine inv_of_eq h ?_ ?_ ?_ ?_ ?_ ?_ ?_ <;> with_reducible rfl)

@[simp] theorem accAt_inv (s : State) (p : Port) (t : Nat) (f : RamanAcc → RamanAcc)
    (h : s.Kept q) : (State.accAt s p t f).Kept q := by
  unfold State.accAt
  try dsimp only
  repeat' split
  all_goals first
    | (with_reducible exact h)
    | (simp (maxDischargeDepth := 40) [*]; done)
    | (refine inv_of_eq h ?_ ?_ ?_ ?_ ?_ ?_ ?_ <;> with_reducible rfl)

@[simp] theorem calWindow_inv (s : State) (p : Port) (swap : Bool) (cs ca : List Int)
    (h : s.Kept q) : (State.calWindow s p swap cs ca).Kept q := by
  unfold State.calWindow
  try dsimp only
  repeat' split
  all_goals first
    | (with_reducible exact h)
    | (simp (maxDischargeDepth := 40) [*]; done)
    | (refine inv_of_eq h ?_ ?_ ?_ ?_ ?_ ?_ ?_ <;> with_reducible rfl)

@[simp] theorem ramanRecordingEnd_inv (dt : Nat) (p : Port) (baseS baseA codesS codesA : List Half) (s0 : State)
    (h : s0.Kept q) : (ramanRecordingEnd dt p baseS baseA codesS codesA s0).Kept q := by
  unfold ramanRecordingEnd
  try dsimp only
  repeat' split
  all_goals first
    | (with_reducible exact h)
    | (simp (maxDischargeDepth := 40) [*]; done)
    | (refine inv_of_eq h ?_ ?_ ?_ ?_ ?_ ?_ ?_ <;> with_reducible rfl)

end Sys2Proof.Machine
end

