-- ==== Sys2Proof/Laws/InvHouse.lean ====
section
/-! SUPPORT. The functions of Machine/House.lean keep the invariant and the queue. -/

namespace Sys2Proof.Machine

variable {q : List Instr}

@[simp] theorem setHk_inv (s : State) (i : Fin 2) (f : HkSt → HkSt) (h : s.Kept q) : (State.setHk s i f).Kept q := by
  unfold State.setHk
  try dsimp only
  repeat' split
  all_goals first
    | (with_reducible exact h)
    | (simp (maxDischargeDepth := 40) [*]; done)
    | (refine inv_of_eq h ?_ ?_ ?_ ?_ ?_ ?_ ?_ <;> with_reducible rfl)

@[simp] theorem startFront_inv (s : State) (i : Fin 2) (h : s.Kept q) : (State.startFront s i).Kept q := by
  unfold State.startFront
  try dsimp only
  repeat' split
  all_goals first
    | (with_reducible exact h)
    | (simp (maxDischargeDepth := 40) [*]; done)
    | (refine inv_of_eq h ?_ ?_ ?_ ?_ ?_ ?_ ?_ <;> with_reducible rfl)

@[simp] theorem hkaStart_inv (s : State) (late : Bool) (h : s.Kept q) : (State.hkaStart s late).Kept q := by
  unfold State.hkaStart
  try dsimp only
  repeat' split
  all_goals first
    | (with_reducible exact h)
    | (simp (maxDischargeDepth := 40) [*]; done)
    | (refine inv_of_eq h ?_ ?_ ?_ ?_ ?_ ?_ ?_ <;> with_reducible rfl)

@[simp] theorem hkbStart_inv (s : State) (lateCheck lateJob : Bool)
    (h : s.Kept q) : (State.hkbStart s lateCheck lateJob).Kept q := by
  unfold State.hkbStart
  try dsimp only
  repeat' split
  all_goals first
    | (with_reducible exact h)
    | (simp (maxDischargeDepth := 40) [*]; done)
    | (refine inv_of_eq h ?_ ?_ ?_ ?_ ?_ ?_ ?_ <;> with_reducible rfl)

@[simp] theorem hkWaiting_inv (s : State) (i : Fin 2) (h : s.Kept q) : (State.hkWaiting s i).Kept q := by
  unfold State.hkWaiting
  try dsimp only
  repeat' split
  all_goals first
    | (with_reducible exact h)
    | (simp (maxDischargeDepth := 40) [*]; done)
    | (refine inv_of_eq h ?_ ?_ ?_ ?_ ?_ ?_ ?_ <;> with_reducible rfl)

@[simp] theorem hkRelease_inv (s : State) (i : Fin 2) (h : s.Kept q) : (State.hkRelease s i).Kept q := by
  unfold State.hkRelease
  try dsimp only
  repeat' split
  all_goals first
    | (with_reducible exact h)
    | (simp (maxDischargeDepth := 40) [*]; done)
    | (refine inv_of_eq h ?_ ?_ ?_ ?_ ?_ ?_ ?_ <;> with_reducible rfl)

@[simp] theorem refHoldsEnd_inv (s : State) (h : s.Kept q) : (State.refHoldsEnd s).Kept q := by
  unfold State.refHoldsEnd
  try dsimp only
  repeat' split
  all_goals first
    | (with_reducible exact h)
    | (simp (maxDischargeDepth := 40) [*]; done)
    | (refine inv_of_eq h ?_ ?_ ?_ ?_ ?_ ?_ ?_ <;> with_reducible rfl)

@[simp] theorem hkTrigger_inv (s : State) (i : Fin 2) (h : s.Kept q) : (State.hkTrigger s i).Kept q := by
  unfold State.hkTrigger
  try dsimp only
  repeat' split
  all_goals first
    | (with_reducible exact h)
    | (simp (maxDischargeDepth := 40) [*]; done)
    | (refine inv_of_eq h ?_ ?_ ?_ ?_ ?_ ?_ ?_ <;> with_reducible rfl)

@[simp] theorem hkTick_inv (s : State) (i : Fin 2) (ms : Nat) (h : s.Kept q) : (State.hkTick s i ms).Kept q := by
  unfold State.hkTick
  try dsimp only
  repeat' split
  all_goals first
    | (with_reducible exact h)
    | (simp (maxDischargeDepth := 40) [*]; done)
    | (refine inv_of_eq h ?_ ?_ ?_ ?_ ?_ ?_ ?_ <;> with_reducible rfl)

@[simp] theorem hkRetick_inv (s : State) (h : s.Kept q) : (State.hkRetick s).Kept q := by
  unfold State.hkRetick
  try dsimp only
  repeat' split
  all_goals first
    | (with_reducible exact h)
    | (simp (maxDischargeDepth := 40) [*]; done)
    | (refine inv_of_eq h ?_ ?_ ?_ ?_ ?_ ?_ ?_ <;> with_reducible rfl)

@[simp] theorem hkaSequence_inv (dt : Nat) (s0 : State) (h : s0.Kept q) : (hkaSequence dt s0).Kept q := by
  unfold hkaSequence
  try dsimp only
  repeat' split
  all_goals first
    | (with_reducible exact h)
    | (simp (maxDischargeDepth := 40) [*]; done)
    | (refine inv_of_eq h ?_ ?_ ?_ ?_ ?_ ?_ ?_ <;> with_reducible rfl)

@[simp] theorem hkbJobTrigger_inv (dt : Nat) (s0 : State) (h : s0.Kept q) : (hkbJobTrigger dt s0).Kept q := by
  unfold hkbJobTrigger
  try dsimp only
  repeat' split
  all_goals first
    | (with_reducible exact h)
    | (simp (maxDischargeDepth := 40) [*]; done)
    | (refine inv_of_eq h ?_ ?_ ?_ ?_ ?_ ?_ ?_ <;> with_reducible rfl)

@[simp] theorem checkTrigger_inv (s : State) (i : Fin 2) (h : s.Kept q) : (State.checkTrigger s i).Kept q := by
  unfold State.checkTrigger
  try dsimp only
  repeat' split
  all_goals first
    | (with_reducible exact h)
    | (simp (maxDischargeDepth := 40) [*]; done)
    | (refine inv_of_eq h ?_ ?_ ?_ ?_ ?_ ?_ ?_ <;> with_reducible rfl)

@[simp] theorem hkCheckTrigger_inv (dt : Nat) (s0 : State) (h : s0.Kept q) : (hkCheckTrigger dt s0).Kept q := by
  unfold hkCheckTrigger
  try dsimp only
  repeat' split
  all_goals first
    | (with_reducible exact h)
    | (simp (maxDischargeDepth := 40) [*]; done)
    | (refine inv_of_eq h ?_ ?_ ?_ ?_ ?_ ?_ ?_ <;> with_reducible rfl)

@[simp] theorem judgeCheck_inv (s : State) (i : Fin 2) (code : Int) (h : s.Kept q) : (State.judgeCheck s i code).Kept q := by
  unfold State.judgeCheck
  try dsimp only
  repeat' split
  all_goals first
    | (with_reducible exact h)
    | (simp (maxDischargeDepth := 40) [*]; done)
    | (refine inv_of_eq h ?_ ?_ ?_ ?_ ?_ ?_ ?_ <;> with_reducible rfl)

@[simp] theorem judgeAgreement_inv (s : State) (h : s.Kept q) : (State.judgeAgreement s).Kept q := by
  unfold State.judgeAgreement
  try dsimp only
  repeat' split
  all_goals first
    | (with_reducible exact h)
    | (simp (maxDischargeDepth := 40) [*]; done)
    | (refine inv_of_eq h ?_ ?_ ?_ ?_ ?_ ?_ ?_ <;> with_reducible rfl)

@[simp] theorem hkAdvance_inv (s : State) (i : Fin 2) (es : List HkEntry)
    (h : s.Kept q) : (State.hkAdvance s i es).Kept q := by
  unfold State.hkAdvance
  try dsimp only
  repeat' split
  all_goals first
    | (with_reducible exact h)
    | (simp (maxDischargeDepth := 40) [*]; done)
    | (refine inv_of_eq h ?_ ?_ ?_ ?_ ?_ ?_ ?_ <;> with_reducible rfl)

@[simp] theorem neverSettles_inv (s : State) (i : Fin 2) (channels : List Nat)
    (h : s.Kept q) : (State.neverSettles s i channels).Kept q := by
  unfold State.neverSettles
  try dsimp only
  repeat' split
  all_goals first
    | (with_reducible exact h)
    | (simp (maxDischargeDepth := 40) [*]; done)
    | (refine inv_of_eq h ?_ ?_ ?_ ?_ ?_ ?_ ?_ <;> with_reducible rfl)

@[simp] theorem hkNeverSettles_inv (s : State) (i : Fin 2) (h : s.Kept q) : (State.hkNeverSettles s i).Kept q := by
  unfold State.hkNeverSettles
  try dsimp only
  repeat' split
  all_goals first
    | (with_reducible exact h)
    | (simp (maxDischargeDepth := 40) [*]; done)
    | (refine inv_of_eq h ?_ ?_ ?_ ?_ ?_ ?_ ?_ <;> with_reducible rfl)

@[simp] theorem hkStore_inv (s : State) (i : Fin 2) (e : HkEntry) (w : Word)
    (h : s.Kept q) : (State.hkStore s i e w).Kept q := by
  unfold State.hkStore
  try dsimp only
  repeat' split
  all_goals first
    | (with_reducible exact h)
    | (simp (maxDischargeDepth := 40) [*]; done)
    | (refine inv_of_eq h ?_ ?_ ?_ ?_ ?_ ?_ ?_ <;> with_reducible rfl)

@[simp] theorem hkEntryResult_inv (dt : Nat) (i : Fin 2) (result : Option (List Int × Bool)) (s0 : State)
    (h : s0.Kept q) : (hkEntryResult dt i result s0).Kept q := by
  unfold hkEntryResult
  try dsimp only
  repeat' split
  all_goals first
    | (with_reducible exact h)
    | (simp (maxDischargeDepth := 40) [*]; done)
    | (refine inv_of_eq h ?_ ?_ ?_ ?_ ?_ ?_ ?_ <;> with_reducible rfl)

@[simp] theorem pulseRefChanged_inv (s : State) (p : Port) (h : s.Kept q) : (State.pulseRefChanged s p).Kept q := by
  unfold State.pulseRefChanged
  try dsimp only
  repeat' split
  all_goals first
    | (with_reducible exact h)
    | (simp (maxDischargeDepth := 40) [*]; done)
    | (refine inv_of_eq h ?_ ?_ ?_ ?_ ?_ ?_ ?_ <;> with_reducible rfl)

@[simp] theorem refChanged_inv (s : State) (i : Fin 2) (h : s.Kept q) : (State.refChanged s i).Kept q := by
  unfold State.refChanged
  try dsimp only
  repeat' split
  all_goals first
    | (with_reducible exact h)
    | (simp (maxDischargeDepth := 40) [*]; done)
    | (refine inv_of_eq h ?_ ?_ ?_ ?_ ?_ ?_ ?_ <;> with_reducible rfl)

@[simp] theorem refSettlingEnd_inv (dt : Nat) (i : Fin 2) (s0 : State) (h : s0.Kept q) : (refSettlingEnd dt i s0).Kept q := by
  unfold refSettlingEnd
  try dsimp only
  repeat' split
  all_goals first
    | (with_reducible exact h)
    | (simp (maxDischargeDepth := 40) [*]; done)
    | (refine inv_of_eq h ?_ ?_ ?_ ?_ ?_ ?_ ?_ <;> with_reducible rfl)

@[simp] theorem hkDisabled_inv (s : State) (i : Fin 2) (h : s.Kept q) : (State.hkDisabled s i).Kept q := by
  unfold State.hkDisabled
  try dsimp only
  repeat' split
  all_goals first
    | (with_reducible exact h)
    | (simp (maxDischargeDepth := 40) [*]; done)
    | (refine inv_of_eq h ?_ ?_ ?_ ?_ ?_ ?_ ?_ <;> with_reducible rfl)

@[simp] theorem hkHold_inv (s : State) (i : Fin 2) (h : s.Kept q) : (State.hkHold s i).Kept q := by
  unfold State.hkHold
  try dsimp only
  repeat' split
  all_goals first
    | (with_reducible exact h)
    | (simp (maxDischargeDepth := 40) [*]; done)
    | (refine inv_of_eq h ?_ ?_ ?_ ?_ ?_ ?_ ?_ <;> with_reducible rfl)

@[simp] theorem rtdPulseStart_inv (dt : Nat) (p : Port) (s0 : State) (h : s0.Kept q) : (rtdPulseStart dt p s0).Kept q := by
  unfold rtdPulseStart
  try dsimp only
  repeat' split
  all_goals first
    | (with_reducible exact h)
    | (simp (maxDischargeDepth := 40) [*]; done)
    | (refine inv_of_eq h ?_ ?_ ?_ ?_ ?_ ?_ ?_ <;> with_reducible rfl)

@[simp] theorem rtdBad_inv (s : State) (p : Port) (c : RtdCause) (h : s.Kept q) : (State.rtdBad s p c).Kept q := by
  unfold State.rtdBad
  try dsimp only
  repeat' split
  all_goals first
    | (with_reducible exact h)
    | (simp (maxDischargeDepth := 40) [*]; done)
    | (refine inv_of_eq h ?_ ?_ ?_ ?_ ?_ ?_ ?_ <;> with_reducible rfl)

@[simp] theorem rtdGood_inv (s : State) (p : Port) (start : Nat) (t : Int)
    (h : s.Kept q) : (State.rtdGood s p start t).Kept q := by
  unfold State.rtdGood
  try dsimp only
  repeat' split
  all_goals first
    | (with_reducible exact h)
    | (simp (maxDischargeDepth := 40) [*]; done)
    | (refine inv_of_eq h ?_ ?_ ?_ ?_ ?_ ?_ ?_ <;> with_reducible rfl)

@[simp] theorem rtdStore_inv (s : State) (x : RtdPulse) (o : RtdOutput) (h : s.Kept q) : (State.rtdStore s x o).Kept q := by
  unfold State.rtdStore
  try dsimp only
  repeat' split
  all_goals first
    | (with_reducible exact h)
    | (simp (maxDischargeDepth := 40) [*]; done)
    | (refine inv_of_eq h ?_ ?_ ?_ ?_ ?_ ?_ ?_ <;> with_reducible rfl)

@[simp] theorem rtdRead_inv (s : State) (p : Port) (x : RtdPulse) (outs : List RtdOutput)
    (h : s.Kept q) : (State.rtdRead s p x outs).Kept q := by
  unfold State.rtdRead
  try dsimp only
  repeat' split
  all_goals first
    | (with_reducible exact h)
    | (simp (maxDischargeDepth := 40) [*]; done)
    | (refine inv_of_eq h ?_ ?_ ?_ ?_ ?_ ?_ ?_ <;> with_reducible rfl)

@[simp] theorem rtdPulseEnd_inv (dt : Nat) (p : Port) (outs : List RtdOutput) (s0 : State)
    (h : s0.Kept q) : (rtdPulseEnd dt p outs s0).Kept q := by
  unfold rtdPulseEnd
  try dsimp only
  repeat' split
  all_goals first
    | (with_reducible exact h)
    | (simp (maxDischargeDepth := 40) [*]; done)
    | (refine inv_of_eq h ?_ ?_ ?_ ?_ ?_ ?_ ?_ <;> with_reducible rfl)

end Sys2Proof.Machine
end

