-- ==== Sys2Proof/Laws/InvTimeBase.lean ====
section
/-! SUPPORT. The functions of Machine/TimeBase.lean keep the invariant and the queue. -/

namespace Sys2Proof.Machine

variable {q : List Instr}

@[simp] theorem trainStart_inv (s : State) (h : s.Kept q) : (State.trainStart s).Kept q := by
  unfold State.trainStart
  refine setMem_inv _ _ h (fun c => ?_)
  split <;> exact c.2

@[simp] theorem refQualified_inv (dt : Nat) (ppm : Int) (s0 : State) (h : s0.Kept q) : (refQualified dt ppm s0).Kept q := by
  unfold refQualified
  try dsimp only
  repeat' split
  all_goals first
    | (with_reducible exact h)
    | (simp (maxDischargeDepth := 40) [*]; done)
    | (refine inv_of_eq h ?_ ?_ ?_ ?_ ?_ ?_ ?_ <;> with_reducible rfl)

@[simp] theorem refLost_inv (dt : Nat) (s0 : State) (h : s0.Kept q) : (refLost dt s0).Kept q := by
  unfold refLost
  try dsimp only
  repeat' split
  all_goals first
    | (with_reducible exact h)
    | (simp (maxDischargeDepth := 40) [*]; done)
    | (refine inv_of_eq h ?_ ?_ ?_ ?_ ?_ ?_ ?_ <;> with_reducible rfl)

@[simp] theorem refSrcChanged_inv (s : State) (h : s.Kept q) : (State.refSrcChanged s).Kept q := by
  unfold State.refSrcChanged
  try dsimp only
  repeat' split
  all_goals first
    | (with_reducible exact h)
    | (simp (maxDischargeDepth := 40) [*]; done)
    | (refine inv_of_eq h ?_ ?_ ?_ ?_ ?_ ?_ ?_ <;> with_reducible rfl)

@[simp] theorem ocxoLevel_inv (s : State) (level : Bool) (h : s.Kept q) : (State.ocxoLevel s level).Kept q := by
  unfold State.ocxoLevel
  try dsimp only
  repeat' split
  all_goals first
    | (with_reducible exact h)
    | (simp (maxDischargeDepth := 40) [*]; done)
    | (refine inv_of_eq h ?_ ?_ ?_ ?_ ?_ ?_ ?_ <;> with_reducible rfl)

@[simp] theorem ocxoRdyChange_inv (dt : Nat) (level : Bool) (s0 : State)
    (h : s0.Kept q) : (ocxoRdyChange dt level s0).Kept q := by
  unfold ocxoRdyChange
  try dsimp only
  repeat' split
  all_goals first
    | (with_reducible exact h)
    | (simp (maxDischargeDepth := 40) [*]; done)
    | (refine inv_of_eq h ?_ ?_ ?_ ?_ ?_ ?_ ?_ <;> with_reducible rfl)

@[simp] theorem portMoved_inv (s : State) (p : Port) (ns : Nat) (h : s.Kept q) : (State.portMoved s p ns).Kept q := by
  unfold State.portMoved
  try dsimp only
  repeat' split
  all_goals first
    | (with_reducible exact h)
    | (simp (maxDischargeDepth := 40) [*]; done)
    | (refine inv_of_eq h ?_ ?_ ?_ ?_ ?_ ?_ ?_ <;> with_reducible rfl)

@[simp] theorem allMoved_inv (s : State) (ns : Nat) (h : s.Kept q) : (State.allMoved s ns).Kept q := by
  unfold State.allMoved
  dsimp only
  have h1 : (forPorts allPorts (fun p t => t.portMoved p ns) s).Kept q := by simp (maxDischargeDepth := 40) [*]
  generalize forPorts allPorts (fun p t => t.portMoved p ns) s = u at h1 ⊢
  refine inv_of_eq (setClove_inv u (fun c => { c with engines := c.engines.map (fun e =>
      { e with cutoff := moved s.tb ns e.cutoff }) }) h1 (fun i => ?_)) rfl rfl rfl rfl rfl rfl rfl
  have h2 := h1.1.2 i
  simpa [State.engine] using h2

@[simp] theorem loadTime_inv (s : State) (n : Nat) (h : s.Kept q) : (State.loadTime s n).Kept q := by
  unfold State.loadTime
  try dsimp only
  repeat' split
  all_goals first
    | (with_reducible exact h)
    | (simp (maxDischargeDepth := 40) [*]; done)
    | (refine inv_of_eq h ?_ ?_ ?_ ?_ ?_ ?_ ?_ <;> with_reducible rfl)

@[simp] theorem loadNow_inv (s : State) (h : s.Kept q) : (State.loadNow s).Kept q := by
  unfold State.loadNow
  try dsimp only
  repeat' split
  all_goals first
    | (with_reducible exact h)
    | (simp (maxDischargeDepth := 40) [*]; done)
    | (refine inv_of_eq h ?_ ?_ ?_ ?_ ?_ ?_ ?_ <;> with_reducible rfl)

@[simp] theorem ppsLoad_inv (s : State) (x : Stamp) (h : s.Kept q) : (State.ppsLoad s x).Kept q := by
  unfold State.ppsLoad
  try dsimp only
  repeat' split
  all_goals first
    | (with_reducible exact h)
    | (simp (maxDischargeDepth := 40) [*]; done)
    | (refine inv_of_eq h ?_ ?_ ?_ ?_ ?_ ?_ ?_ <;> with_reducible rfl)

@[simp] theorem ppsEdge_inv (dt : Nat) (x : Stamp) (high : Bool) (s0 : State)
    (h : s0.Kept q) : (ppsEdge dt x high s0).Kept q := by
  unfold ppsEdge
  try dsimp only
  repeat' split
  all_goals first
    | (with_reducible exact h)
    | (simp (maxDischargeDepth := 40) [*]; done)
    | (refine inv_of_eq h ?_ ?_ ?_ ?_ ?_ ?_ ?_ <;> with_reducible rfl)

@[simp] theorem ppsTimeout_inv (dt : Nat) (s0 : State) (h : s0.Kept q) : (ppsTimeout dt s0).Kept q := by
  unfold ppsTimeout
  try dsimp only
  repeat' split
  all_goals first
    | (with_reducible exact h)
    | (simp (maxDischargeDepth := 40) [*]; done)
    | (refine inv_of_eq h ?_ ?_ ?_ ?_ ?_ ?_ ?_ <;> with_reducible rfl)

@[simp] theorem ppsFirst_inv (s : State) (h : s.Kept q) : (State.ppsFirst s).Kept q := by
  unfold State.ppsFirst
  try dsimp only
  repeat' split
  all_goals first
    | (with_reducible exact h)
    | (simp (maxDischargeDepth := 40) [*]; done)
    | (refine inv_of_eq h ?_ ?_ ?_ ?_ ?_ ?_ ?_ <;> with_reducible rfl)

@[simp] theorem ppsOutSecond_inv (dt : Nat) (s0 : State) (h : s0.Kept q) : (ppsOutSecond dt s0).Kept q := by
  unfold ppsOutSecond
  try dsimp only
  repeat' split
  all_goals first
    | (with_reducible exact h)
    | (simp (maxDischargeDepth := 40) [*]; done)
    | (refine inv_of_eq h ?_ ?_ ?_ ?_ ?_ ?_ ?_ <;> with_reducible rfl)

@[simp] theorem roleChanged_inv (s : State) (h : s.Kept q) : (State.roleChanged s).Kept q := by
  unfold State.roleChanged
  try dsimp only
  repeat' split
  all_goals first
    | (with_reducible exact h)
    | (simp (maxDischargeDepth := 40) [*]; done)
    | (refine inv_of_eq h ?_ ?_ ?_ ?_ ?_ ?_ ?_ <;> with_reducible rfl)

@[simp] theorem siteLoad_inv (s : State) (x : Stamp) (count : Nat) (h : s.Kept q) : (State.siteLoad s x count).Kept q := by
  unfold State.siteLoad
  try dsimp only
  repeat' split
  all_goals first
    | (with_reducible exact h)
    | (simp (maxDischargeDepth := 40) [*]; done)
    | (refine inv_of_eq h ?_ ?_ ?_ ?_ ?_ ?_ ?_ <;> with_reducible rfl)

@[simp] theorem siteFault_inv (s : State) (h : s.Kept q) : (State.siteFault s).Kept q := by
  unfold State.siteFault
  try dsimp only
  repeat' split
  all_goals first
    | (with_reducible exact h)
    | (simp (maxDischargeDepth := 40) [*]; done)
    | (refine inv_of_eq h ?_ ?_ ?_ ?_ ?_ ?_ ?_ <;> with_reducible rfl)

@[simp] theorem siteLock_inv (s : State) (h : s.Kept q) : (State.siteLock s).Kept q := by
  unfold State.siteLock
  try dsimp only
  repeat' split
  all_goals first
    | (with_reducible exact h)
    | (simp (maxDischargeDepth := 40) [*]; done)
    | (refine inv_of_eq h ?_ ?_ ?_ ?_ ?_ ?_ ?_ <;> with_reducible rfl)

@[simp] theorem goodMarker_inv (s : State) (site : SiteState) (x : Stamp) (count : Nat)
    (h : s.Kept q) : (State.goodMarker s site x count).Kept q := by
  unfold State.goodMarker
  try dsimp only
  repeat' split
  all_goals first
    | (with_reducible exact h)
    | (simp (maxDischargeDepth := 40) [*]; done)
    | (refine inv_of_eq h ?_ ?_ ?_ ?_ ?_ ?_ ?_ <;> with_reducible rfl)

@[simp] theorem syncMarker_inv (dt : Nat) (x : Stamp) (falls : List Nat) (s0 : State)
    (h : s0.Kept q) : (syncMarker dt x falls s0).Kept q := by
  unfold syncMarker
  try dsimp only
  repeat' split
  all_goals first
    | (with_reducible exact h)
    | (simp (maxDischargeDepth := 40) [*]; done)
    | (refine inv_of_eq h ?_ ?_ ?_ ?_ ?_ ?_ ?_ <;> with_reducible rfl)

@[simp] theorem syncTimeout_inv (dt : Nat) (s0 : State) (h : s0.Kept q) : (syncTimeout dt s0).Kept q := by
  unfold syncTimeout
  try dsimp only
  repeat' split
  all_goals first
    | (with_reducible exact h)
    | (simp (maxDischargeDepth := 40) [*]; done)
    | (refine inv_of_eq h ?_ ?_ ?_ ?_ ?_ ?_ ?_ <;> with_reducible rfl)

@[simp] theorem syncPhaseStep_inv (dt : Nat) (s0 : State) (h : s0.Kept q) : (syncPhaseStep dt s0).Kept q := by
  unfold syncPhaseStep
  try dsimp only
  repeat' split
  all_goals first
    | (with_reducible exact h)
    | (simp (maxDischargeDepth := 40) [*]; done)
    | (refine inv_of_eq h ?_ ?_ ?_ ?_ ?_ ?_ ?_ <;> with_reducible rfl)

end Sys2Proof.Machine
end

