-- ==== Sys2Proof/Laws/InvCalib.lean ====
section
/-! SUPPORT. The functions of Machine/Calib.lean keep the invariant and the queue. -/

namespace Sys2Proof.Machine

variable {q : List Instr}

@[simp] theorem stepHolds_inv (s : State) (st : CalStep) (ports : BitVec 8)
    (h : s.Kept q) : (State.stepHolds s st ports).Kept q := by
  unfold State.stepHolds
  try dsimp only
  repeat' split
  all_goals first
    | (with_reducible exact h)
    | (simp (maxDischargeDepth := 40) [*]; done)
    | (refine inv_of_eq h ?_ ?_ ?_ ?_ ?_ ?_ ?_ <;> with_reducible rfl)

@[simp] theorem refOutcome_inv (s : State) (ports : BitVec 8) (o : CalOutcome)
    (h : s.Kept q) : (State.refOutcome s ports o).Kept q := by
  unfold State.refOutcome
  try dsimp only
  repeat' split
  all_goals first
    | (with_reducible exact h)
    | (simp (maxDischargeDepth := 40) [*]; done)
    | (refine inv_of_eq h ?_ ?_ ?_ ?_ ?_ ?_ ?_ <;> with_reducible rfl)

@[simp] theorem stepOutcome_inv (s : State) (st : CalStep) (ports : BitVec 8) (o : CalOutcome)
    (h : s.Kept q) : (State.stepOutcome s st ports o).Kept q := by
  unfold State.stepOutcome
  try dsimp only
  repeat' split
  all_goals first
    | (with_reducible exact h)
    | (simp (maxDischargeDepth := 40) [*]; done)
    | (refine inv_of_eq h ?_ ?_ ?_ ?_ ?_ ?_ ?_ <;> with_reducible rfl)

@[simp] theorem nextStep_inv (x0 : Nat) (x1 : State) (h : x1.Kept q) : (State.nextStep x0 x1).Kept q := by
  induction x0 generalizing x1 with
  | zero => exact h
  | succ n ih =>
    simp only [State.nextStep]
    repeat' split
    all_goals first
      | (with_reducible exact h)
      | (simp (maxDischargeDepth := 40) [*]; done)
      | (refine ih _ ?_; simp (maxDischargeDepth := 40) [*])

@[simp] theorem runStart_inv (s : State) (ports : BitVec 8) (steps : BitVec 4) (req : Option Req) (auto noSkew startUp : Bool)
    (h : s.Kept q) : (State.runStart s ports steps req auto noSkew startUp).Kept q := by
  unfold State.runStart
  try dsimp only
  repeat' split
  all_goals first
    | (with_reducible exact h)
    | (simp (maxDischargeDepth := 40) [*]; done)
    | (refine inv_of_eq h ?_ ?_ ?_ ?_ ?_ ?_ ?_ <;> with_reducible rfl)

@[simp] theorem portStepEnds_inv (s : State) (st : CalStep) (p : Port) (r : Option CalResult)
    (h : s.Kept q) : (State.portStepEnds s st p r).Kept q := by
  unfold State.portStepEnds
  try dsimp only
  repeat' split
  all_goals first
    | (with_reducible exact h)
    | (simp (maxDischargeDepth := 40) [*]; done)
    | (refine inv_of_eq h ?_ ?_ ?_ ?_ ?_ ?_ ?_ <;> with_reducible rfl)

@[simp] theorem refFree_inv (s : State) (measured : Bool) (h : s.Kept q) : (State.refFree s measured).Kept q := by
  unfold State.refFree
  try dsimp only
  repeat' split
  all_goals first
    | (with_reducible exact h)
    | (simp (maxDischargeDepth := 40) [*]; done)
    | (refine inv_of_eq h ?_ ?_ ?_ ?_ ?_ ?_ ?_ <;> with_reducible rfl)

@[simp] theorem skewStops_inv (s : State) (p : Port) (h : s.Kept q) : (State.skewStops s p).Kept q := by
  unfold State.skewStops
  try dsimp only
  repeat' split
  all_goals first
    | (with_reducible exact h)
    | (simp (maxDischargeDepth := 40) [*]; done)
    | (refine inv_of_eq h ?_ ?_ ?_ ?_ ?_ ?_ ?_ <;> with_reducible rfl)

@[simp] theorem calStepEnd_inv (dt : Nat) (m : CalMeasure) (s0 : State) (h : s0.Kept q) : (calStepEnd dt m s0).Kept q := by
  unfold calStepEnd
  try dsimp only
  repeat' split
  all_goals first
    | (with_reducible exact h)
    | (simp (maxDischargeDepth := 40) [*]; done)
    | (refine inv_of_eq h ?_ ?_ ?_ ?_ ?_ ?_ ?_ <;> with_reducible rfl)

@[simp] theorem applyResult_inv (s : State) (x : CalResult) (h : s.Kept q) : (State.applyResult s x).Kept q := by
  unfold State.applyResult
  try dsimp only
  repeat' split
  all_goals first
    | (with_reducible exact h)
    | (simp (maxDischargeDepth := 40) [*]; done)
    | (refine inv_of_eq h ?_ ?_ ?_ ?_ ?_ ?_ ?_ <;> with_reducible rfl)

@[simp] theorem runOver_inv (s : State) (r : CalRun) (h : s.Kept q) : (State.runOver s r).Kept q := by
  unfold State.runOver
  try dsimp only
  repeat' split
  all_goals first
    | (with_reducible exact h)
    | (simp (maxDischargeDepth := 40) [*]; done)
    | (refine inv_of_eq h ?_ ?_ ?_ ?_ ?_ ?_ ?_ <;> with_reducible rfl)

@[simp] theorem calRunEnd_inv (dt : Nat) (s0 : State) (h : s0.Kept q) : (calRunEnd dt s0).Kept q := by
  unfold calRunEnd
  try dsimp only
  repeat' split
  all_goals first
    | (with_reducible exact h)
    | (simp (maxDischargeDepth := 40) [*]; done)
    | (refine inv_of_eq h ?_ ?_ ?_ ?_ ?_ ?_ ?_ <;> with_reducible rfl)

@[simp] theorem stepAbort_inv (s : State) (h : s.Kept q) : (State.stepAbort s).Kept q := by
  unfold State.stepAbort
  try dsimp only
  repeat' split
  all_goals first
    | (with_reducible exact h)
    | (simp (maxDischargeDepth := 40) [*]; done)
    | (refine inv_of_eq h ?_ ?_ ?_ ?_ ?_ ?_ ?_ <;> with_reducible rfl)

@[simp] theorem calLeaveActive_inv (s : State) (h : s.Kept q) : (State.calLeaveActive s).Kept q := by
  unfold State.calLeaveActive
  try dsimp only
  repeat' split
  all_goals first
    | (with_reducible exact h)
    | (simp (maxDischargeDepth := 40) [*]; done)
    | (refine inv_of_eq h ?_ ?_ ?_ ?_ ?_ ?_ ?_ <;> with_reducible rfl)

@[simp] theorem calTimeout_inv (s : State) (h : s.Kept q) : (State.calTimeout s).Kept q := by
  unfold State.calTimeout
  try dsimp only
  repeat' split
  all_goals first
    | (with_reducible exact h)
    | (simp (maxDischargeDepth := 40) [*]; done)
    | (refine inv_of_eq h ?_ ?_ ?_ ?_ ?_ ?_ ?_ <;> with_reducible rfl)

@[simp] theorem calRunCmd_inv (s : State) (rq : Req) (ports steps : Nat)
    (h : s.Kept q) : (State.calRunCmd s rq ports steps).Kept q := by
  unfold State.calRunCmd
  try dsimp only
  repeat' split
  all_goals first
    | (with_reducible exact h)
    | (simp (maxDischargeDepth := 40) [*]; done)
    | (refine inv_of_eq h ?_ ?_ ?_ ?_ ?_ ?_ ?_ <;> with_reducible rfl)

@[simp] theorem setRefres_inv (s : State) (v : Nat) (h : s.Kept q) : (State.setRefres s v).2.Kept q := by
  unfold State.setRefres
  try dsimp only
  repeat' split
  all_goals first
    | (with_reducible exact h)
    | (simp (maxDischargeDepth := 40) [*]; done)
    | (refine inv_of_eq h ?_ ?_ ?_ ?_ ?_ ?_ ?_ <;> with_reducible rfl)

@[simp] theorem setBath_inv (s : State) (port : Nat) (t : Int) (h : s.Kept q) : (State.setBath s port t).2.Kept q := by
  unfold State.setBath
  try dsimp only
  repeat' split
  all_goals first
    | (with_reducible exact h)
    | (simp (maxDischargeDepth := 40) [*]; done)
    | (refine inv_of_eq h ?_ ?_ ?_ ?_ ?_ ?_ ?_ <;> with_reducible rfl)

@[simp] theorem attenWritten_inv (s : State) (p : Port) (h : s.Kept q) : (State.attenWritten s p).Kept q := by
  unfold State.attenWritten
  try dsimp only
  repeat' split
  all_goals first
    | (with_reducible exact h)
    | (simp (maxDischargeDepth := 40) [*]; done)
    | (refine inv_of_eq h ?_ ?_ ?_ ?_ ?_ ?_ ?_ <;> with_reducible rfl)

@[simp] theorem checksBegin_inv (s : State) (ps : List Port) (h : s.Kept q) : (State.checksBegin s ps).Kept q := by
  unfold State.checksBegin
  try dsimp only
  repeat' split
  all_goals first
    | (with_reducible exact h)
    | (simp (maxDischargeDepth := 40) [*]; done)
    | (refine inv_of_eq h ?_ ?_ ?_ ?_ ?_ ?_ ?_ <;> with_reducible rfl)

@[simp] theorem firstRuns_inv (s : State) (h : s.Kept q) : (State.firstRuns s).Kept q := by
  unfold State.firstRuns
  try dsimp only
  repeat' split
  all_goals first
    | (with_reducible exact h)
    | (simp (maxDischargeDepth := 40) [*]; done)
    | (refine inv_of_eq h ?_ ?_ ?_ ?_ ?_ ?_ ?_ <;> with_reducible rfl)

@[simp] theorem calAutoCheck_inv (dt : Nat) (s0 : State) (h : s0.Kept q) : (calAutoCheck dt s0).Kept q := by
  unfold calAutoCheck
  try dsimp only
  repeat' split
  all_goals first
    | (with_reducible exact h)
    | (simp (maxDischargeDepth := 40) [*]; done)
    | (refine inv_of_eq h ?_ ?_ ?_ ?_ ?_ ?_ ?_ <;> with_reducible rfl)

end Sys2Proof.Machine
end

