-- ==== Sys2Proof/Laws/InvSumac.lean ====
section
/-! SUPPORT. The functions of Machine/Sumac.lean keep the invariant and the queue. -/

namespace Sys2Proof.Machine

variable {q : List Instr}

@[simp] theorem devWrite_inv (s : State) (addr : Nat) (bs : List Byte)
    (h : s.Kept q) : (State.devWrite s addr bs).Kept q := by
  unfold State.devWrite
  try dsimp only
  repeat' split
  all_goals first
    | (with_reducible exact h)
    | (simp (maxDischargeDepth := 40) [*]; done)
    | (refine inv_of_eq h ?_ ?_ ?_ ?_ ?_ ?_ ?_ <;> with_reducible rfl)

@[simp] theorem chainWrite_inv (s : State) (links : List (Nat × Nat)) (bs : List Byte)
    (h : s.Kept q) : (State.chainWrite s links bs).Kept q := by
  unfold State.chainWrite
  have key : ∀ (l : List (Nat × Nat)) (x : State × List Byte), x.1.Kept q →
      (l.foldl (fun (x : State × List Byte) l => (x.1.devWrite l.1 (x.2.take l.2), x.2.drop l.2)) x).1.Kept q := by
    intro l
    induction l with
    | nil => exact fun x hx => hx
    | cons a l ih => exact fun x hx => ih _ (devWrite_inv _ _ _ hx)
  exact key links (s, bs) h

@[simp] theorem chainOpen_inv (s : State) (links : List (Nat × Nat)) (n : Nat)
    (h : s.Kept q) : (State.chainOpen s links n).Kept q := by
  unfold State.chainOpen
  try dsimp only
  repeat' split
  all_goals first
    | (with_reducible exact h)
    | (simp (maxDischargeDepth := 40) [*]; done)
    | (refine inv_of_eq h ?_ ?_ ?_ ?_ ?_ ?_ ?_ <;> with_reducible rfl)

@[simp] theorem setSumac_inv (s : State) (f : SumacSt → SumacSt) (h : s.Kept q) : (State.setSumac s f).Kept q := by
  unfold State.setSumac
  try dsimp only
  repeat' split
  all_goals first
    | (with_reducible exact h)
    | (simp (maxDischargeDepth := 40) [*]; done)
    | (refine inv_of_eq h ?_ ?_ ?_ ?_ ?_ ?_ ?_ <;> with_reducible rfl)

@[simp] theorem blockLeaves_inv (s : State) (tag : BitVec 6) (h : s.Kept q) : (State.blockLeaves s tag).Kept q := by
  unfold State.blockLeaves
  try dsimp only
  repeat' split
  all_goals first
    | (with_reducible exact h)
    | (simp (maxDischargeDepth := 40) [*]; done)
    | (refine inv_of_eq h ?_ ?_ ?_ ?_ ?_ ?_ ?_ <;> with_reducible rfl)

@[simp] theorem sumacJob_inv (s : State) (rq : Req) (d : List Byte) (h : s.Kept q) : (State.sumacJob s rq d).Kept q := by
  unfold State.sumacJob
  try dsimp only
  repeat' split
  all_goals first
    | (with_reducible exact h)
    | (simp (maxDischargeDepth := 40) [*]; done)
    | (refine inv_of_eq h ?_ ?_ ?_ ?_ ?_ ?_ ?_ <;> with_reducible rfl)

@[simp] theorem compressBlockDone_inv (dt : Nat) (tag : BitVec 6) (s0 : State)
    (h : s0.Kept q) : (compressBlockDone dt tag s0).Kept q := by
  unfold compressBlockDone
  try dsimp only
  repeat' split
  all_goals first
    | (with_reducible exact h)
    | (simp (maxDischargeDepth := 40) [*]; done)
    | (refine inv_of_eq h ?_ ?_ ?_ ?_ ?_ ?_ ?_ <;> with_reducible rfl)

@[simp] theorem decCount_inv (s : State) (st : Status) (h : s.Kept q) : (State.decCount s st).Kept q := by
  unfold State.decCount
  try dsimp only
  repeat' split
  all_goals first
    | (with_reducible exact h)
    | (simp (maxDischargeDepth := 40) [*]; done)
    | (refine inv_of_eq h ?_ ?_ ?_ ?_ ?_ ?_ ?_ <;> with_reducible rfl)

@[simp] theorem decJobDone_inv (s : State) (rq : Req) (d coded : List Byte)
    (h : s.Kept q) : (State.decJobDone s rq d coded).Kept q := by
  unfold State.decJobDone
  try dsimp only
  repeat' split
  all_goals first
    | (with_reducible exact h)
    | (simp (maxDischargeDepth := 40) [*]; done)
    | (refine inv_of_eq h ?_ ?_ ?_ ?_ ?_ ?_ ?_ <;> with_reducible rfl)

@[simp] theorem streamJobDone_inv (dt i : Nat) (s0 : State) (h : s0.Kept q) : (streamJobDone dt i s0).Kept q := by
  unfold streamJobDone
  try dsimp only
  repeat' split
  all_goals first
    | (with_reducible exact h)
    | (simp (maxDischargeDepth := 40) [*]; done)
    | (refine inv_of_eq h ?_ ?_ ?_ ?_ ?_ ?_ ?_ <;> with_reducible rfl)

@[simp] theorem sumacTimeout_inv (s : State) (tag : BitVec 6) (h : s.Kept q) : (State.sumacTimeout s tag).Kept q := by
  unfold State.sumacTimeout
  try dsimp only
  repeat' split
  all_goals first
    | (with_reducible exact h)
    | (simp (maxDischargeDepth := 40) [*]; done)
    | (refine inv_of_eq h ?_ ?_ ?_ ?_ ?_ ?_ ?_ <;> with_reducible rfl)

end Sys2Proof.Machine
end

