-- ==== Sys2Proof/Laws/InvChecks.lean ====
section
/-! SUPPORT. The functions of Machine/Checks.lean keep the invariant and the queue. -/

namespace Sys2Proof.Machine

variable {q : List Instr}

@[simp] theorem portEnable_inv (s : State) (p : Port) (h : s.Kept q) : (State.portEnable s p).Kept q := by
  unfold State.portEnable
  try dsimp only
  repeat' split
  all_goals first
    | (with_reducible exact h)
    | (simp (maxDischargeDepth := 40) [*]; done)
    | (refine inv_of_eq h ?_ ?_ ?_ ?_ ?_ ?_ ?_ <;> with_reducible rfl)

@[simp] theorem busyTest_inv (s : State) (rq : Req) (h : s.Kept q) : (State.busyTest s rq).Kept q := by
  unfold State.busyTest
  try dsimp only
  repeat' split
  all_goals first
    | (with_reducible exact h)
    | (simp (maxDischargeDepth := 40) [*]; done)
    | (refine inv_of_eq h ?_ ?_ ?_ ?_ ?_ ?_ ?_ <;> with_reducible rfl)

@[simp] theorem portStartCmd_inv (s : State) (rq : Req) (ports : BitVec 8)
    (h : s.Kept q) : (State.portStartCmd s rq ports).Kept q := by
  unfold State.portStartCmd
  try dsimp only
  repeat' split
  all_goals first
    | (with_reducible exact h)
    | (simp (maxDischargeDepth := 40) [*]; done)
    | (refine inv_of_eq h ?_ ?_ ?_ ?_ ?_ ?_ ?_ <;> with_reducible rfl)

end Sys2Proof.Machine
end

