-- ==== Sys2Proof/Laws/InvSnapshots.lean ====
section
/-! SUPPORT. The functions of Machine/Snapshots.lean keep the invariant and the queue. -/

namespace Sys2Proof.Machine

variable {q : List Instr}

@[simp] theorem snapshotPublish_inv (dt id : Nat) (s0 : State) (h : s0.Kept q) : (snapshotPublish dt id s0).Kept q := by
  unfold snapshotPublish
  try dsimp only
  repeat' split
  all_goals first
    | (with_reducible exact h)
    | (simp (maxDischargeDepth := 40) [*]; done)
    | (refine inv_of_eq h ?_ ?_ ?_ ?_ ?_ ?_ ?_ <;> with_reducible rfl)

@[simp] theorem autoTimeout_inv (dt : Nat) (g : GroupId) (s0 : State) (h : s0.Kept q) : (autoTimeout dt g s0).Kept q := by
  unfold autoTimeout
  try dsimp only
  repeat' split
  all_goals first
    | (with_reducible exact h)
    | (simp (maxDischargeDepth := 40) [*]; done)
    | (refine inv_of_eq h ?_ ?_ ?_ ?_ ?_ ?_ ?_ <;> with_reducible rfl)

@[simp] theorem holdoffEnd_inv (dt : Nat) (g : GroupId) (s0 : State) (h : s0.Kept q) : (holdoffEnd dt g s0).Kept q := by
  unfold holdoffEnd
  try dsimp only
  repeat' split
  all_goals first
    | (with_reducible exact h)
    | (simp (maxDischargeDepth := 40) [*]; done)
    | (refine inv_of_eq h ?_ ?_ ?_ ?_ ?_ ?_ ?_ <;> with_reducible rfl)

@[simp] theorem recordEnqueue_inv (dt : Nat) (item : EnqueueItem) (s0 : State)
    (h : s0.Kept q) : (recordEnqueue dt item s0).Kept q := by
  unfold recordEnqueue
  try dsimp only
  repeat' split
  all_goals first
    | (with_reducible exact h)
    | (simp (maxDischargeDepth := 40) [*]; done)
    | (refine inv_of_eq h ?_ ?_ ?_ ?_ ?_ ?_ ?_ <;> with_reducible rfl)

@[simp] theorem spillWriteTimeout_inv (dt i : Nat) (s0 : State) (h : s0.Kept q) : (spillWriteTimeout dt i s0).Kept q := by
  unfold spillWriteTimeout
  try dsimp only
  repeat' split
  all_goals first
    | (with_reducible exact h)
    | (simp (maxDischargeDepth := 40) [*]; done)
    | (refine inv_of_eq h ?_ ?_ ?_ ?_ ?_ ?_ ?_ <;> with_reducible rfl)

@[simp] theorem capmemRetrainCmd_inv (s : State) (rq : Req) (h : s.Kept q) : (State.capmemRetrainCmd s rq).Kept q := by
  unfold State.capmemRetrainCmd
  try dsimp only
  repeat' split
  all_goals first
    | (with_reducible exact h)
    | (simp (maxDischargeDepth := 40) [*]; done)
    | (refine inv_of_eq h ?_ ?_ ?_ ?_ ?_ ?_ ?_ <;> with_reducible rfl)

@[simp] theorem trainAnswer_inv (s : State) (rq : Option Req) (result : List Byte)
    (h : s.Kept q) : (State.trainAnswer s rq result).Kept q := by
  unfold State.trainAnswer
  try dsimp only
  repeat' split
  all_goals first
    | (with_reducible exact h)
    | (simp (maxDischargeDepth := 40) [*]; done)
    | (refine inv_of_eq h ?_ ?_ ?_ ?_ ?_ ?_ ?_ <;> with_reducible rfl)

@[simp] theorem capmemTrainDone_inv (dt : Nat) (r : CapTrain) (s0 : State)
    (h : s0.Kept q) : (capmemTrainDone dt r s0).Kept q := by
  unfold capmemTrainDone
  dsimp only
  repeat' split
  · simp (maxDischargeDepth := 40) [*]
  · refine trainAnswer_inv _ _ _ (forPorts_inv _ _ _ (fun p t => ?_) ?_)
    · simp (maxDischargeDepth := 40) [*]
    · exact setMem_inv _ _ (elapse_inv _ _ h) (fun _ => rfl)
  · exact trainAnswer_inv _ _ _ (event_inv _ _ _ _ _ (setMem_inv _ _ (elapse_inv _ _ h) (fun c => c.2)))

@[simp] theorem retrainTimeout_inv (s : State) (h : s.Kept q) : (State.retrainTimeout s).Kept q := by
  unfold State.retrainTimeout
  try dsimp only
  repeat' split
  all_goals first
    | (with_reducible exact h)
    | (simp (maxDischargeDepth := 40) [*]; done)
    | (refine inv_of_eq h ?_ ?_ ?_ ?_ ?_ ?_ ?_ <;> with_reducible rfl)

@[simp] theorem capmemPeriodicCal_inv (dt : Nat) (s0 : State) (h : s0.Kept q) : (capmemPeriodicCal dt s0).Kept q := by
  unfold capmemPeriodicCal
  try dsimp only
  repeat' split
  all_goals first
    | (with_reducible exact h)
    | (simp (maxDischargeDepth := 40) [*]; done)
    | (refine inv_of_eq h ?_ ?_ ?_ ?_ ?_ ?_ ?_ <;> with_reducible rfl)

@[simp] theorem capmemSelfRefresh_inv (dt : Nat) (s0 : State) (h : s0.Kept q) : (capmemSelfRefresh dt s0).Kept q := by
  unfold capmemSelfRefresh
  try dsimp only
  repeat' split
  all_goals first
    | (with_reducible exact h)
    | (simp (maxDischargeDepth := 40) [*]; done)
    | (refine inv_of_eq h ?_ ?_ ?_ ?_ ?_ ?_ ?_ <;> with_reducible rfl)

@[simp] theorem appendRec_inv (s : State) (i typ src flags : Nat) (payload : List Byte)
    (h : s.Kept q) : (State.appendRec s i typ src flags payload).Kept q := by
  unfold State.appendRec
  try dsimp only
  repeat' split
  all_goals first
    | (with_reducible exact h)
    | (simp (maxDischargeDepth := 40) [*]; done)
    | (refine inv_of_eq h ?_ ?_ ?_ ?_ ?_ ?_ ?_ <;> with_reducible rfl)

@[simp] theorem setReadout_inv (s : State) (i : Nat) (f : Readout → Readout)
    (h : s.Kept q) : (State.setReadout s i f).Kept q := by
  unfold State.setReadout
  try dsimp only
  repeat' split
  all_goals first
    | (with_reducible exact h)
    | (simp (maxDischargeDepth := 40) [*]; done)
    | (refine inv_of_eq h ?_ ?_ ?_ ?_ ?_ ?_ ?_ <;> with_reducible rfl)

@[simp] theorem snapEndRec_inv (s : State) (r : Readout) (h : s.Kept q) : (State.snapEndRec s r).Kept q := by
  unfold State.snapEndRec
  try dsimp only
  repeat' split
  all_goals first
    | (with_reducible exact h)
    | (simp (maxDischargeDepth := 40) [*]; done)
    | (refine inv_of_eq h ?_ ?_ ?_ ?_ ?_ ?_ ?_ <;> with_reducible rfl)

@[simp] theorem readoutFill_inv (i : Nat) (x0 : Nat) (x1 : State) (h : x1.Kept q) : (State.readoutFill i x0 x1).Kept q := by
  induction x0 generalizing x1 with
  | zero => exact h
  | succ n ih =>
    simp only [State.readoutFill]
    repeat' split
    all_goals first
      | (with_reducible exact h)
      | (refine ih _ ?_; simp (maxDischargeDepth := 40) [*])
      | (simp (maxDischargeDepth := 40) [*]; done)

@[simp] theorem readoutStep_inv (s : State) (i : Nat) (h : s.Kept q) : (State.readoutStep s i).Kept q := by
  unfold State.readoutStep
  try dsimp only
  repeat' split
  all_goals first
    | (with_reducible exact h)
    | (simp (maxDischargeDepth := 40) [*]; done)
    | (refine inv_of_eq h ?_ ?_ ?_ ?_ ?_ ?_ ?_ <;> with_reducible rfl)

@[simp] theorem snapReadCmd_inv (s : State) (rq : Req) (id i : Nat) (release : Bool)
    (h : s.Kept q) : (State.snapReadCmd s rq id i release).Kept q := by
  unfold State.snapReadCmd
  try dsimp only
  repeat' split
  all_goals first
    | (with_reducible exact h)
    | (simp (maxDischargeDepth := 40) [*]; done)
    | (refine inv_of_eq h ?_ ?_ ?_ ?_ ?_ ?_ ?_ <;> with_reducible rfl)

@[simp] theorem snapReadTimeout_inv (s : State) (tag : BitVec 6) (h : s.Kept q) : (State.snapReadTimeout s tag).Kept q := by
  unfold State.snapReadTimeout
  try dsimp only
  repeat' split
  all_goals first
    | (with_reducible exact h)
    | (simp (maxDischargeDepth := 40) [*]; done)
    | (refine inv_of_eq h ?_ ?_ ?_ ?_ ?_ ?_ ?_ <;> with_reducible rfl)

@[simp] theorem snapReleaseCmd_inv (s : State) (rq : Req) (id : Nat)
    (h : s.Kept q) : (State.snapReleaseCmd s rq id).Kept q := by
  unfold State.snapReleaseCmd
  try dsimp only
  repeat' split
  all_goals first
    | (with_reducible exact h)
    | (simp (maxDischargeDepth := 40) [*]; done)
    | (refine inv_of_eq h ?_ ?_ ?_ ?_ ?_ ?_ ?_ <;> with_reducible rfl)

@[simp] theorem freezeRing_inv (s : State) (p : Port) (k : RingKind) (h : s.Kept q) : (State.freezeRing s p k).Kept q := by
  unfold State.freezeRing
  try dsimp only
  repeat' split
  all_goals first
    | (with_reducible exact h)
    | (simp (maxDischargeDepth := 40) [*]; done)
    | (refine inv_of_eq h ?_ ?_ ?_ ?_ ?_ ?_ ?_ <;> with_reducible rfl)

@[simp] theorem maskStop_inv (s : State) (p : Port) (run : Nat × Nat × Bool × Bool) (tTrig : Nat)
    (h : s.Kept q) : (State.maskStop s p run tTrig).Kept q := by
  unfold State.maskStop
  try dsimp only
  repeat' split
  all_goals first
    | (with_reducible exact h)
    | (simp (maxDischargeDepth := 40) [*]; done)
    | (refine inv_of_eq h ?_ ?_ ?_ ?_ ?_ ?_ ?_ <;> with_reducible rfl)

@[simp] theorem maskTraceEval_inv (dt : Nat) (p : Port) (ago cycles : Nat) (s0 : State) (h : s0.Kept q) :
    (maskTraceEval dt p ago cycles s0).Kept q := by
  unfold maskTraceEval
  try dsimp only
  repeat' split
  all_goals first
    | (with_reducible exact h)
    | (simp (maxDischargeDepth := 40) [*]; done)
    | (refine inv_of_eq h ?_ ?_ ?_ ?_ ?_ ?_ ?_ <;> with_reducible rfl)

@[simp] theorem maskRearmCmd_inv (s : State) (rq : Req) (port : Nat)
    (h : s.Kept q) : (State.maskRearmCmd s rq port).Kept q := by
  unfold State.maskRearmCmd
  try dsimp only
  repeat' split
  all_goals first
    | (with_reducible exact h)
    | (simp (maxDischargeDepth := 40) [*]; done)
    | (refine inv_of_eq h ?_ ?_ ?_ ?_ ?_ ?_ ?_ <;> with_reducible rfl)

@[simp] theorem loadMaskCmd_inv (s : State) (rq : Req) (port off bytes : Nat)
    (h : s.Kept q) : (State.loadMaskCmd s rq port off bytes).Kept q := by
  unfold State.loadMaskCmd
  try dsimp only
  repeat' split
  all_goals first
    | (with_reducible exact h)
    | (simp (maxDischargeDepth := 40) [*]; done)
    | (refine inv_of_eq h ?_ ?_ ?_ ?_ ?_ ?_ ?_ <;> with_reducible rfl)

end Sys2Proof.Machine
end

