-- ==== Sys2Proof/Laws/InvLink.lean ====
section
/-! SUPPORT. The functions of Machine/Link.lean keep the invariant and the queue. -/

namespace Sys2Proof.Machine

variable {q : List Instr}

@[simp] theorem setLink_inv (s : State) (f : LinkSt → LinkSt) (h : s.Kept q) : (State.setLink s f).Kept q := by
  unfold State.setLink
  try dsimp only
  repeat' split
  all_goals first
    | (with_reducible exact h)
    | (simp (maxDischargeDepth := 40) [*]; done)
    | (refine inv_of_eq h ?_ ?_ ?_ ?_ ?_ ?_ ?_ <;> with_reducible rfl)

@[simp] theorem setLane_inv (s : State) (k : Fin 8) (f : LaneSt → LaneSt) (h : s.Kept q) : (State.setLane s k f).Kept q := by
  unfold State.setLane
  try dsimp only
  repeat' split
  all_goals first
    | (with_reducible exact h)
    | (simp (maxDischargeDepth := 40) [*]; done)
    | (refine inv_of_eq h ?_ ?_ ?_ ?_ ?_ ?_ ?_ <;> with_reducible rfl)

@[simp] theorem blockDiscard_inv (dt : Nat) (k : Fin 8) (sync : BitVec 2) (bytes : List Byte) (s0 : State)
    (h : s0.Kept q) : (blockDiscard dt k sync bytes s0).Kept q := by
  unfold blockDiscard
  try dsimp only
  repeat' split
  all_goals first
    | (with_reducible exact h)
    | (simp (maxDischargeDepth := 40) [*]; done)
    | (refine inv_of_eq h ?_ ?_ ?_ ?_ ?_ ?_ ?_ <;> with_reducible rfl)

@[simp] theorem dropPartial_inv (s : State) (i : Nat) (h : s.Kept q) : (State.dropPartial s i).Kept q := by
  unfold State.dropPartial
  try dsimp only
  repeat' split
  all_goals first
    | (with_reducible exact h)
    | (simp (maxDischargeDepth := 40) [*]; done)
    | (refine inv_of_eq h ?_ ?_ ?_ ?_ ?_ ?_ ?_ <;> with_reducible rfl)

@[simp] theorem reroute_inv (s : State) (m : List Byte) (h : s.Kept q) : (State.reroute s m).Kept q := by
  unfold State.reroute
  try dsimp only
  repeat' split
  all_goals first
    | (with_reducible exact h)
    | (simp (maxDischargeDepth := 40) [*]; done)
    | (refine inv_of_eq h ?_ ?_ ?_ ?_ ?_ ?_ ?_ <;> with_reducible rfl)

@[simp] theorem loopSent_inv (s : State) (h : s.Kept q) : (State.loopSent s).Kept q := by
  unfold State.loopSent
  try dsimp only
  repeat' split
  all_goals first
    | (with_reducible exact h)
    | (simp (maxDischargeDepth := 40) [*]; done)
    | (refine inv_of_eq h ?_ ?_ ?_ ?_ ?_ ?_ ?_ <;> with_reducible rfl)

@[simp] theorem loopReturns_inv (s : State) (h : s.Kept q) : (State.loopReturns s).Kept q := by
  unfold State.loopReturns
  try dsimp only
  repeat' split
  all_goals first
    | (with_reducible exact h)
    | (simp (maxDischargeDepth := 40) [*]; done)
    | (refine inv_of_eq h ?_ ?_ ?_ ?_ ?_ ?_ ?_ <;> with_reducible rfl)

@[simp] theorem linkLeaves_inv (s : State) (dest : LinkStage) (h : s.Kept q) : (State.linkLeaves s dest).Kept q := by
  unfold State.linkLeaves
  try dsimp only
  repeat' split
  all_goals first
    | (with_reducible exact h)
    | (simp (maxDischargeDepth := 40) [*]; done)
    | (refine inv_of_eq h ?_ ?_ ?_ ?_ ?_ ?_ ?_ <;> with_reducible rfl)

@[simp] theorem bringUp_inv (s : State) (fromDown : Bool) (h : s.Kept q) : (State.bringUp s fromDown).Kept q := by
  unfold State.bringUp
  try dsimp only
  repeat' split
  all_goals first
    | (with_reducible exact h)
    | (simp (maxDischargeDepth := 40) [*]; done)
    | (refine inv_of_eq h ?_ ?_ ?_ ?_ ?_ ?_ ?_ <;> with_reducible rfl)

@[simp] theorem leaveActive_inv (s : State) (cause : Nat) (h : s.Kept q) : (State.leaveActive s cause).Kept q := by
  unfold State.leaveActive
  try dsimp only
  repeat' split
  all_goals first
    | (with_reducible exact h)
    | (simp (maxDischargeDepth := 40) [*]; done)
    | (refine inv_of_eq h ?_ ?_ ?_ ?_ ?_ ?_ ?_ <;> with_reducible rfl)

@[simp] theorem stageFail_inv (s : State) (cause : Nat) (h : s.Kept q) : (State.stageFail s cause).Kept q := by
  unfold State.stageFail
  try dsimp only
  repeat' split
  all_goals first
    | (with_reducible exact h)
    | (simp (maxDischargeDepth := 40) [*]; done)
    | (refine inv_of_eq h ?_ ?_ ?_ ?_ ?_ ?_ ?_ <;> with_reducible rfl)

@[simp] theorem detectCheck_inv (dt : Nat) (found : BitVec 8) (s0 : State)
    (h : s0.Kept q) : (detectCheck dt found s0).Kept q := by
  unfold detectCheck
  try dsimp only
  repeat' split
  all_goals first
    | (with_reducible exact h)
    | (simp (maxDischargeDepth := 40) [*]; done)
    | (refine inv_of_eq h ?_ ?_ ?_ ?_ ?_ ?_ ?_ <;> with_reducible rfl)

@[simp] theorem downCheck_inv (dt : Nat) (found : BitVec 8) (s0 : State)
    (h : s0.Kept q) : (downCheck dt found s0).Kept q := by
  unfold downCheck
  try dsimp only
  repeat' split
  all_goals first
    | (with_reducible exact h)
    | (simp (maxDischargeDepth := 40) [*]; done)
    | (refine inv_of_eq h ?_ ?_ ?_ ?_ ?_ ?_ ?_ <;> with_reducible rfl)

@[simp] theorem linkFailIdleEnd_inv (dt : Nat) (s0 : State) (h : s0.Kept q) : (linkFailIdleEnd dt s0).Kept q := by
  unfold linkFailIdleEnd
  try dsimp only
  repeat' split
  all_goals first
    | (with_reducible exact h)
    | (simp (maxDischargeDepth := 40) [*]; done)
    | (refine inv_of_eq h ?_ ?_ ?_ ?_ ?_ ?_ ?_ <;> with_reducible rfl)

@[simp] theorem bringupStageTimeout_inv (dt : Nat) (s0 : State) (h : s0.Kept q) : (bringupStageTimeout dt s0).Kept q := by
  unfold bringupStageTimeout
  try dsimp only
  repeat' split
  all_goals first
    | (with_reducible exact h)
    | (simp (maxDischargeDepth := 40) [*]; done)
    | (refine inv_of_eq h ?_ ?_ ?_ ?_ ?_ ?_ ?_ <;> with_reducible rfl)

@[simp] theorem trainingFramesStart_inv (dt : Nat) (polarity : BitVec 8) (s0 : State)
    (h : s0.Kept q) : (trainingFramesStart dt polarity s0).Kept q := by
  unfold trainingFramesStart
  try dsimp only
  repeat' split
  all_goals first
    | (with_reducible exact h)
    | (simp (maxDischargeDepth := 40) [*]; done)
    | (refine inv_of_eq h ?_ ?_ ?_ ?_ ?_ ?_ ?_ <;> with_reducible rfl)

@[simp] theorem trainingFrameRx_inv (dt : Nat) (k : Fin 8) (control status : BitVec 16) (ownReady : Bool) (s0 : State)
    (h : s0.Kept q) : (trainingFrameRx dt k control status ownReady s0).Kept q := by
  unfold trainingFrameRx
  try dsimp only
  repeat' split
  all_goals first
    | (with_reducible exact h)
    | (simp (maxDischargeDepth := 40) [*]; done)
    | (refine inv_of_eq h ?_ ?_ ?_ ?_ ?_ ?_ ?_ <;> with_reducible rfl)

@[simp] theorem alignLanes_inv (locked : BitVec 8) (seen : Vector (Option AlignIn) 8) (s : State)
    (h : s.Kept q) : (State.alignLanes locked seen s).Kept q := by
  unfold State.alignLanes
  refine inv_foldl _ _ _ (fun t k => ?_) h
  dsimp only
  split <;> simp (maxDischargeDepth := 40) [*]

@[simp] theorem alignRx_inv (dt : Nat) (locked : BitVec 8) (seen : Vector (Option AlignIn) 8) (s0 : State)
    (h : s0.Kept q) : (alignRx dt locked seen s0).Kept q := by
  unfold alignRx
  dsimp only
  repeat' split
  all_goals simp (maxDischargeDepth := 40) [*]

@[simp] theorem blockLockLoss_inv (dt : Nat) (k : Fin 8) (s0 : State) (h : s0.Kept q) : (blockLockLoss dt k s0).Kept q := by
  unfold blockLockLoss
  try dsimp only
  repeat' split
  all_goals first
    | (with_reducible exact h)
    | (simp (maxDischargeDepth := 40) [*]; done)
    | (refine inv_of_eq h ?_ ?_ ?_ ?_ ?_ ?_ ?_ <;> with_reducible rfl)

@[simp] theorem idleLoss_inv (dt : Nat) (k : Fin 8) (s0 : State) (h : s0.Kept q) : (idleLoss dt k s0).Kept q := by
  unfold idleLoss
  try dsimp only
  repeat' split
  all_goals first
    | (with_reducible exact h)
    | (simp (maxDischargeDepth := 40) [*]; done)
    | (refine inv_of_eq h ?_ ?_ ?_ ?_ ?_ ?_ ?_ <;> with_reducible rfl)

@[simp] theorem lrefUnlock_inv (dt : Nat) (s0 : State) (h : s0.Kept q) : (lrefUnlock dt s0).Kept q := by
  unfold lrefUnlock
  try dsimp only
  repeat' split
  all_goals first
    | (with_reducible exact h)
    | (simp (maxDischargeDepth := 40) [*]; done)
    | (refine inv_of_eq h ?_ ?_ ?_ ?_ ?_ ?_ ?_ <;> with_reducible rfl)

@[simp] theorem linkUp_inv (s : State) (peer : List Byte) (h : s.Kept q) : (State.linkUp s peer).Kept q := by
  unfold State.linkUp
  try dsimp only
  repeat' split
  all_goals first
    | (with_reducible exact h)
    | (simp (maxDischargeDepth := 40) [*]; done)
    | (refine inv_of_eq h ?_ ?_ ?_ ?_ ?_ ?_ ?_ <;> with_reducible rfl)

@[simp] theorem exchangeCheck_inv (s : State) (h : s.Kept q) : (State.exchangeCheck s).Kept q := by
  unfold State.exchangeCheck
  try dsimp only
  repeat' split
  all_goals first
    | (with_reducible exact h)
    | (simp (maxDischargeDepth := 40) [*]; done)
    | (refine inv_of_eq h ?_ ?_ ?_ ?_ ?_ ?_ ?_ <;> with_reducible rfl)

@[simp] theorem capabilitySend_inv (dt : Nat) (s0 : State) (h : s0.Kept q) : (capabilitySend dt s0).Kept q := by
  unfold capabilitySend
  try dsimp only
  repeat' split
  all_goals first
    | (with_reducible exact h)
    | (simp (maxDischargeDepth := 40) [*]; done)
    | (refine inv_of_eq h ?_ ?_ ?_ ?_ ?_ ?_ ?_ <;> with_reducible rfl)

@[simp] theorem capabilityRx_inv (dt : Nat) (bytes : List Byte) (s0 : State)
    (h : s0.Kept q) : (capabilityRx dt bytes s0).Kept q := by
  unfold capabilityRx
  try dsimp only
  repeat' split
  all_goals first
    | (with_reducible exact h)
    | (simp (maxDischargeDepth := 40) [*]; done)
    | (refine inv_of_eq h ?_ ?_ ?_ ?_ ?_ ?_ ?_ <;> with_reducible rfl)

@[simp] theorem sendFrame_inv (s : State) (i n fseq rst : Nat) (payload : List Byte)
    (h : s.Kept q) : (State.sendFrame s i n fseq rst payload).Kept q := by
  unfold State.sendFrame
  try dsimp only
  repeat' split
  all_goals first
    | (with_reducible exact h)
    | (simp (maxDischargeDepth := 40) [*]; done)
    | (refine inv_of_eq h ?_ ?_ ?_ ?_ ?_ ?_ ?_ <;> with_reducible rfl)

@[simp] theorem sendZero_inv (s : State) (h : s.Kept q) : (State.sendZero s).Kept q := by
  unfold State.sendZero
  try dsimp only
  repeat' split
  all_goals first
    | (with_reducible exact h)
    | (simp (maxDischargeDepth := 40) [*]; done)
    | (refine inv_of_eq h ?_ ?_ ?_ ?_ ?_ ?_ ?_ <;> with_reducible rfl)

@[simp] theorem sendStream_inv (s : State) (i : Nat) (h : s.Kept q) : (State.sendStream s i).Kept q := by
  unfold State.sendStream
  try dsimp only
  repeat' split
  all_goals first
    | (with_reducible exact h)
    | (simp (maxDischargeDepth := 40) [*]; done)
    | (refine inv_of_eq h ?_ ?_ ?_ ?_ ?_ ?_ ?_ <;> with_reducible rfl)

@[simp] theorem sendLoop_inv (s : State) (h : s.Kept q) : (State.sendLoop s).Kept q := by
  unfold State.sendLoop
  try dsimp only
  repeat' split
  all_goals first
    | (with_reducible exact h)
    | (simp (maxDischargeDepth := 40) [*]; done)
    | (refine inv_of_eq h ?_ ?_ ?_ ?_ ?_ ?_ ?_ <;> with_reducible rfl)

@[simp] theorem frameSelect_inv (dt : Nat) (s0 : State) (h : s0.Kept q) : (frameSelect dt s0).Kept q := by
  unfold frameSelect
  try dsimp only
  repeat' split
  all_goals first
    | (with_reducible exact h)
    | (simp (maxDischargeDepth := 40) [*]; done)
    | (refine inv_of_eq h ?_ ?_ ?_ ?_ ?_ ?_ ?_ <;> with_reducible rfl)

@[simp] theorem rxWake_inv (s : State) (h : s.Kept q) : (State.rxWake s).Kept q := by
  unfold State.rxWake
  try dsimp only
  repeat' split
  all_goals first
    | (with_reducible exact h)
    | (simp (maxDischargeDepth := 40) [*]; done)
    | (refine inv_of_eq h ?_ ?_ ?_ ?_ ?_ ?_ ?_ <;> with_reducible rfl)

@[simp] theorem freeUnits_inv (s : State) (n : Nat) (h : s.Kept q) : (State.freeUnits s n).Kept q := by
  unfold State.freeUnits
  try dsimp only
  repeat' split
  all_goals first
    | (with_reducible exact h)
    | (simp (maxDischargeDepth := 40) [*]; done)
    | (refine inv_of_eq h ?_ ?_ ?_ ?_ ?_ ?_ ?_ <;> with_reducible rfl)

@[simp] theorem hostBytes_inv (s : State) (n : Nat) (h : s.Kept q) : (State.hostBytes s n).Kept q := by
  unfold State.hostBytes
  try dsimp only
  repeat' split
  all_goals first
    | (with_reducible exact h)
    | (simp (maxDischargeDepth := 40) [*]; done)
    | (refine inv_of_eq h ?_ ?_ ?_ ?_ ?_ ?_ ?_ <;> with_reducible rfl)

@[simp] theorem creditReceived_inv (dt stream total : Nat) (s0 : State)
    (h : s0.Kept q) : (creditReceived dt stream total s0).Kept q := by
  unfold creditReceived
  try dsimp only
  repeat' split
  all_goals first
    | (with_reducible exact h)
    | (simp (maxDischargeDepth := 40) [*]; done)
    | (refine inv_of_eq h ?_ ?_ ?_ ?_ ?_ ?_ ?_ <;> with_reducible rfl)

@[simp] theorem creditRepeat_inv (dt : Nat) (s0 : State) (h : s0.Kept q) : (creditRepeat dt s0).Kept q := by
  unfold creditRepeat
  try dsimp only
  repeat' split
  all_goals first
    | (with_reducible exact h)
    | (simp (maxDischargeDepth := 40) [*]; done)
    | (refine inv_of_eq h ?_ ?_ ?_ ?_ ?_ ?_ ?_ <;> with_reducible rfl)

@[simp] theorem loopBad_inv (s : State) (h : s.Kept q) : (State.loopBad s).Kept q := by
  unfold State.loopBad
  try dsimp only
  repeat' split
  all_goals first
    | (with_reducible exact h)
    | (simp (maxDischargeDepth := 40) [*]; done)
    | (refine inv_of_eq h ?_ ?_ ?_ ?_ ?_ ?_ ?_ <;> with_reducible rfl)

@[simp] theorem hostFrameDiscard_inv (dt : Nat) (why : FrameFault) (s0 : State)
    (h : s0.Kept q) : (hostFrameDiscard dt why s0).Kept q := by
  unfold hostFrameDiscard
  try dsimp only
  repeat' split
  all_goals first
    | (with_reducible exact h)
    | (simp (maxDischargeDepth := 40) [*]; done)
    | (refine inv_of_eq h ?_ ?_ ?_ ?_ ?_ ?_ ?_ <;> with_reducible rfl)

@[simp] theorem txQuietEntry_inv (dt : Nat) (s0 : State) (h : s0.Kept q) : (txQuietEntry dt s0).Kept q := by
  unfold txQuietEntry
  try dsimp only
  repeat' split
  all_goals first
    | (with_reducible exact h)
    | (simp (maxDischargeDepth := 40) [*]; done)
    | (refine inv_of_eq h ?_ ?_ ?_ ?_ ?_ ?_ ?_ <;> with_reducible rfl)

@[simp] theorem txSleepEntry_inv (dt : Nat) (s0 : State) (h : s0.Kept q) : (txSleepEntry dt s0).Kept q := by
  unfold txSleepEntry
  try dsimp only
  repeat' split
  all_goals first
    | (with_reducible exact h)
    | (simp (maxDischargeDepth := 40) [*]; done)
    | (refine inv_of_eq h ?_ ?_ ?_ ?_ ?_ ?_ ?_ <;> with_reducible rfl)

@[simp] theorem quietRefresh_inv (dt : Nat) (s0 : State) (h : s0.Kept q) : (quietRefresh dt s0).Kept q := by
  unfold quietRefresh
  try dsimp only
  repeat' split
  all_goals first
    | (with_reducible exact h)
    | (simp (maxDischargeDepth := 40) [*]; done)
    | (refine inv_of_eq h ?_ ?_ ?_ ?_ ?_ ?_ ?_ <;> with_reducible rfl)

@[simp] theorem txExit_inv (s : State) (h : s.Kept q) : (State.txExit s).Kept q := by
  unfold State.txExit
  try dsimp only
  repeat' split
  all_goals first
    | (with_reducible exact h)
    | (simp (maxDischargeDepth := 40) [*]; done)
    | (refine inv_of_eq h ?_ ?_ ?_ ?_ ?_ ?_ ?_ <;> with_reducible rfl)

@[simp] theorem txPmExit_inv (dt : Nat) (s0 : State) (h : s0.Kept q) : (txPmExit dt s0).Kept q := by
  unfold txPmExit
  try dsimp only
  repeat' split
  all_goals first
    | (with_reducible exact h)
    | (simp (maxDischargeDepth := 40) [*]; done)
    | (refine inv_of_eq h ?_ ?_ ?_ ?_ ?_ ?_ ?_ <;> with_reducible rfl)

@[simp] theorem pmBlockRx_inv (dt : Nat) (target : Nat) (s0 : State) (h : s0.Kept q) : (pmBlockRx dt target s0).Kept q := by
  unfold pmBlockRx
  try dsimp only
  repeat' split
  all_goals first
    | (with_reducible exact h)
    | (simp (maxDischargeDepth := 40) [*]; done)
    | (refine inv_of_eq h ?_ ?_ ?_ ?_ ?_ ?_ ?_ <;> with_reducible rfl)

@[simp] theorem rxSleepExit_inv (dt : Nat) (s0 : State) (h : s0.Kept q) : (rxSleepExit dt s0).Kept q := by
  unfold rxSleepExit
  try dsimp only
  repeat' split
  all_goals first
    | (with_reducible exact h)
    | (simp (maxDischargeDepth := 40) [*]; done)
    | (refine inv_of_eq h ?_ ?_ ?_ ?_ ?_ ?_ ?_ <;> with_reducible rfl)

@[simp] theorem linkRestart_inv (s : State) (h : s.Kept q) : (State.linkRestart s).Kept q := by
  unfold State.linkRestart
  try dsimp only
  repeat' split
  all_goals first
    | (with_reducible exact h)
    | (simp (maxDischargeDepth := 40) [*]; done)
    | (refine inv_of_eq h ?_ ?_ ?_ ?_ ?_ ?_ ?_ <;> with_reducible rfl)

@[simp] theorem linkEnWritten_inv (s : State) (before after : Bool)
    (h : s.Kept q) : (State.linkEnWritten s before after).Kept q := by
  unfold State.linkEnWritten
  try dsimp only
  repeat' split
  all_goals first
    | (with_reducible exact h)
    | (simp (maxDischargeDepth := 40) [*]; done)
    | (refine inv_of_eq h ?_ ?_ ?_ ?_ ?_ ?_ ?_ <;> with_reducible rfl)

@[simp] theorem linkPmWritten_inv (s : State) (h : s.Kept q) : (State.linkPmWritten s).Kept q := by
  unfold State.linkPmWritten
  try dsimp only
  repeat' split
  all_goals first
    | (with_reducible exact h)
    | (simp (maxDischargeDepth := 40) [*]; done)
    | (refine inv_of_eq h ?_ ?_ ?_ ?_ ?_ ?_ ?_ <;> with_reducible rfl)

@[simp] theorem loopBegin_inv (s : State) (h : s.Kept q) : (State.loopBegin s).Kept q := by
  unfold State.loopBegin
  try dsimp only
  repeat' split
  all_goals first
    | (with_reducible exact h)
    | (simp (maxDischargeDepth := 40) [*]; done)
    | (refine inv_of_eq h ?_ ?_ ?_ ?_ ?_ ?_ ?_ <;> with_reducible rfl)

@[simp] theorem linkLoopCmd_inv (s : State) (rq : Req) (mode pattern lanes time : Nat)
    (h : s.Kept q) : (State.linkLoopCmd s rq mode pattern lanes time).Kept q := by
  unfold State.linkLoopCmd
  try dsimp only
  repeat' split
  all_goals first
    | (with_reducible exact h)
    | (simp (maxDischargeDepth := 40) [*]; done)
    | (refine inv_of_eq h ?_ ?_ ?_ ?_ ?_ ?_ ?_ <;> with_reducible rfl)

@[simp] theorem linkLoopStart_inv (dt : Nat) (s0 : State) (h : s0.Kept q) : (linkLoopStart dt s0).Kept q := by
  unfold linkLoopStart
  try dsimp only
  repeat' split
  all_goals first
    | (with_reducible exact h)
    | (simp (maxDischargeDepth := 40) [*]; done)
    | (refine inv_of_eq h ?_ ?_ ?_ ?_ ?_ ?_ ?_ <;> with_reducible rfl)

@[simp] theorem linkLoopEnd_inv (dt : Nat) (s0 : State) (h : s0.Kept q) : (linkLoopEnd dt s0).Kept q := by
  unfold linkLoopEnd
  try dsimp only
  repeat' split
  all_goals first
    | (with_reducible exact h)
    | (simp (maxDischargeDepth := 40) [*]; done)
    | (refine inv_of_eq h ?_ ?_ ?_ ?_ ?_ ?_ ?_ <;> with_reducible rfl)

@[simp] theorem loopCheckerLock_inv (dt : Nat) (k : Fin 8) (locked : Bool) (errors : Nat) (s0 : State)
    (h : s0.Kept q) : (loopCheckerLock dt k locked errors s0).Kept q := by
  unfold loopCheckerLock
  try dsimp only
  repeat' split
  all_goals first
    | (with_reducible exact h)
    | (simp (maxDischargeDepth := 40) [*]; done)
    | (refine inv_of_eq h ?_ ?_ ?_ ?_ ?_ ?_ ?_ <;> with_reducible rfl)

end Sys2Proof.Machine
end

