-- ==== Sys2Proof/Laws/InvStartUp.lean ====
section
/-! SUPPORT. The functions of Machine/StartUp.lean keep the invariant and the queue. -/

namespace Sys2Proof.Machine

variable {q : List Instr}

@[simp] theorem whenRuns_inv (dt : Nat) (f : Nat → State → State) (s : State) (hf : ∀ (y0 : Nat) (y1 : {t : State // t.Kept q}), (f y0 y1.1).Kept q)
    (h : s.Kept q) : (whenRuns dt f s).Kept q := by
  unfold whenRuns
  split
  · exact hf dt ⟨s, h⟩
  · simp (maxDischargeDepth := 40) [*]

@[simp] theorem volatileReset_inv (s : State) (h : s.Kept q) : (State.volatileReset s).Kept q := by
  exact reset_inv_of _ rfl rfl rfl rfl (show Memory.wf flashBlank s.flash = true from inv_flash h) rfl h.2

@[simp] theorem eraseSlot_inv (s : State) (h : s.Kept q) : (State.eraseSlot s).Kept q := by
  unfold State.eraseSlot
  split
  · exact inv_flash_put s _ h (memClear_wf flashBlank s.flash _ _ (inv_flash h))
  · exact h

@[simp] theorem cutWrite_inv (s : State) (h : s.Kept q) : (State.cutWrite s).Kept q := by
  unfold State.cutWrite
  try dsimp only
  repeat' split
  all_goals first
    | (with_reducible exact h)
    | (simp (maxDischargeDepth := 40) [*]; done)
    | (refine inv_of_eq h ?_ ?_ ?_ ?_ ?_ ?_ ?_ <;> with_reducible rfl)

@[simp] theorem assertReset_inv (s0 : State) (hold : ResetHold) (cause : StartCause) (rail : Option Rail)
    (h : s0.Kept q) : (State.assertReset s0 hold cause rail).Kept q := by
  unfold State.assertReset
  try dsimp only
  repeat' split
  all_goals first
    | (with_reducible exact h)
    | (simp (maxDischargeDepth := 40) [*]; done)
    | (refine inv_of_eq h ?_ ?_ ?_ ?_ ?_ ?_ ?_ <;> with_reducible rfl)

@[simp] theorem resetAssert_inv (dt : Nat) (s0 : State) (h : s0.Kept q) : (resetAssert dt s0).Kept q := by
  unfold resetAssert
  try dsimp only
  repeat' split
  all_goals first
    | (with_reducible exact h)
    | (simp (maxDischargeDepth := 40) [*]; done)
    | (refine inv_of_eq h ?_ ?_ ?_ ?_ ?_ ?_ ?_ <;> with_reducible rfl)

@[simp] theorem supplyTrip_inv (dt : Nat) (rail : Rail) (s0 : State) (h : s0.Kept q) : (supplyTrip dt rail s0).Kept q := by
  unfold supplyTrip
  try dsimp only
  repeat' split
  all_goals first
    | (with_reducible exact h)
    | (simp (maxDischargeDepth := 40) [*]; done)
    | (refine inv_of_eq h ?_ ?_ ?_ ?_ ?_ ?_ ?_ <;> with_reducible rfl)

@[simp] theorem supplyRelease_inv (dt : Nat) (s0 : State) (h : s0.Kept q) : (supplyRelease dt s0).Kept q := by
  unfold supplyRelease
  try dsimp only
  repeat' split
  all_goals first
    | (with_reducible exact h)
    | (simp (maxDischargeDepth := 40) [*]; done)
    | (refine inv_of_eq h ?_ ?_ ?_ ?_ ?_ ?_ ?_ <;> with_reducible rfl)

@[simp] theorem deviceResetCmd_inv (s : State) (rq : Req) (h : s.Kept q) : (State.deviceResetCmd s rq).Kept q := by
  unfold State.deviceResetCmd
  try dsimp only
  repeat' split
  all_goals first
    | (with_reducible exact h)
    | (simp (maxDischargeDepth := 40) [*]; done)
    | (refine inv_of_eq h ?_ ?_ ?_ ?_ ?_ ?_ ?_ <;> with_reducible rfl)

@[simp] theorem deviceResetTrigger_inv (dt : Nat) (s0 : State) (h : s0.Kept q) : (deviceResetTrigger dt s0).Kept q := by
  unfold deviceResetTrigger
  try dsimp only
  repeat' split
  all_goals first
    | (with_reducible exact h)
    | (simp (maxDischargeDepth := 40) [*]; done)
    | (refine inv_of_eq h ?_ ?_ ?_ ?_ ?_ ?_ ?_ <;> with_reducible rfl)

@[simp] theorem watchdogExpiry_inv (dt : Nat) (s0 : State) (h : s0.Kept q) : (watchdogExpiry dt s0).Kept q := by
  unfold watchdogExpiry
  try dsimp only
  repeat' split
  all_goals first
    | (with_reducible exact h)
    | (simp (maxDischargeDepth := 40) [*]; done)
    | (refine inv_of_eq h ?_ ?_ ?_ ?_ ?_ ?_ ?_ <;> with_reducible rfl)

@[simp] theorem fatalNow_inv (s : State) (h : s.Kept q) : (State.fatalNow s).Kept q := by
  unfold State.fatalNow
  try dsimp only
  repeat' split
  all_goals first
    | (with_reducible exact h)
    | (simp (maxDischargeDepth := 40) [*]; done)
    | (refine inv_of_eq h ?_ ?_ ?_ ?_ ?_ ?_ ?_ <;> with_reducible rfl)

@[simp] theorem waitHost_inv (s : State) (err : Nat) (h : s.Kept q) : (State.waitHost s err).Kept q := by
  unfold State.waitHost
  try dsimp only
  repeat' split
  all_goals first
    | (with_reducible exact h)
    | (simp (maxDischargeDepth := 40) [*]; done)
    | (refine inv_of_eq h ?_ ?_ ?_ ?_ ?_ ?_ ?_ <;> with_reducible rfl)

@[simp] theorem bootLoad_inv (s : State) (h : s.Kept q) : (State.bootLoad s).Kept q := by
  unfold State.bootLoad
  try dsimp only
  repeat' split
  all_goals first
    | (with_reducible exact h)
    | (simp (maxDischargeDepth := 40) [*]; done)
    | (refine inv_of_eq h ?_ ?_ ?_ ?_ ?_ ?_ ?_ <;> with_reducible rfl)

@[simp] theorem coldStart_inv (dt : Nat) (src : BootSrc) (mailboxGood : Bool) (s0 : State)
    (h : s0.Kept q) : (coldStart dt src mailboxGood s0).Kept q := by
  unfold coldStart
  try dsimp only
  repeat' split
  all_goals first
    | (with_reducible exact h)
    | (simp (maxDischargeDepth := 40) [*]; done)
    | (refine inv_of_eq h ?_ ?_ ?_ ?_ ?_ ?_ ?_ <;> with_reducible rfl)

@[simp] theorem imageStarts_inv (s : State) (i : RunningImage) (h : s.Kept q) : (State.imageStarts s i).Kept q := by
  unfold State.imageStarts
  try dsimp only
  repeat' split
  all_goals first
    | (with_reducible exact h)
    | (simp (maxDischargeDepth := 40) [*]; done)
    | (refine inv_of_eq h ?_ ?_ ?_ ?_ ?_ ?_ ?_ <;> with_reducible rfl)

@[simp] theorem bootImageChecked_inv (dt : Nat) (responds : Bool) (s0 : State)
    (h : s0.Kept q) : (bootImageChecked dt responds s0).Kept q := by
  unfold bootImageChecked
  try dsimp only
  repeat' split
  all_goals first
    | (with_reducible exact h)
    | (simp (maxDischargeDepth := 40) [*]; done)
    | (refine inv_of_eq h ?_ ?_ ?_ ?_ ?_ ?_ ?_ <;> with_reducible rfl)

@[simp] theorem fwDownloadCmd_inv (s : State) (rq : Req) (bytes : Nat)
    (h : s.Kept q) : (State.fwDownloadCmd s rq bytes).Kept q := by
  unfold State.fwDownloadCmd
  try dsimp only
  repeat' split
  all_goals first
    | (with_reducible exact h)
    | (simp (maxDischargeDepth := 40) [*]; done)
    | (refine inv_of_eq h ?_ ?_ ?_ ?_ ?_ ?_ ?_ <;> with_reducible rfl)

@[simp] theorem downloadTimeout_inv (s : State) (h : s.Kept q) : (State.downloadTimeout s).Kept q := by
  unfold State.downloadTimeout
  try dsimp only
  repeat' split
  all_goals first
    | (with_reducible exact h)
    | (simp (maxDischargeDepth := 40) [*]; done)
    | (refine inv_of_eq h ?_ ?_ ?_ ?_ ?_ ?_ ?_ <;> with_reducible rfl)

@[simp] theorem fwFlashWriteCmd_inv (s : State) (rq : Req) (off bytes : Nat) (final : Bool)
    (h : s.Kept q) : (State.fwFlashWriteCmd s rq off bytes final).Kept q := by
  unfold State.fwFlashWriteCmd
  try dsimp only
  repeat' split
  all_goals first
    | (with_reducible exact h)
    | (simp (maxDischargeDepth := 40) [*]; done)
    | (refine inv_of_eq h ?_ ?_ ?_ ?_ ?_ ?_ ?_ <;> with_reducible rfl)

@[simp] theorem flashPut_inv (s : State) (addr : Nat) (bs : List Byte)
    (h : s.Kept q) : (State.flashPut s addr bs).Kept q := by
  exact inv_flash_put s _ h (memWriteAll_wf _ _ _ _ (inv_flash h))

@[simp] theorem flashWriteDone_inv (dt : Nat) (s0 : State) (h : s0.Kept q) : (flashWriteDone dt s0).Kept q := by
  unfold flashWriteDone
  try dsimp only
  repeat' split
  all_goals first
    | (with_reducible exact h)
    | (simp (maxDischargeDepth := 40) [*]; done)
    | (refine inv_of_eq h ?_ ?_ ?_ ?_ ?_ ?_ ?_ <;> with_reducible rfl)

@[simp] theorem flashTimeout_inv (s : State) (h : s.Kept q) : (State.flashTimeout s).Kept q := by
  unfold State.flashTimeout
  try dsimp only
  repeat' split
  all_goals first
    | (with_reducible exact h)
    | (simp (maxDischargeDepth := 40) [*]; done)
    | (refine inv_of_eq h ?_ ?_ ?_ ?_ ?_ ?_ ?_ <;> with_reducible rfl)

@[simp] theorem dieTempSample_inv (dt : Nat) (t : Int) (s0 : State) (h : s0.Kept q) : (dieTempSample dt t s0).Kept q := by
  unfold dieTempSample
  try dsimp only
  repeat' split
  all_goals first
    | (with_reducible exact h)
    | (simp (maxDischargeDepth := 40) [*]; done)
    | (refine inv_of_eq h ?_ ?_ ?_ ?_ ?_ ?_ ?_ <;> with_reducible rfl)

@[simp] theorem xtalCheck_inv (dt : Nat) (x : XtalReading) (s0 : State) (h : s0.Kept q) : (xtalCheck dt x s0).Kept q := by
  unfold xtalCheck
  try dsimp only
  repeat' split
  all_goals first
    | (with_reducible exact h)
    | (simp (maxDischargeDepth := 40) [*]; done)
    | (refine inv_of_eq h ?_ ?_ ?_ ?_ ?_ ?_ ?_ <;> with_reducible rfl)

@[simp] theorem setBank_inv (s : State) (b : IoBank) (m : BankMode) (h : s.Kept q) : (State.setBank s b m).Kept q := by
  unfold State.setBank
  try dsimp only
  repeat' split
  all_goals first
    | (with_reducible exact h)
    | (simp (maxDischargeDepth := 40) [*]; done)
    | (refine inv_of_eq h ?_ ?_ ?_ ?_ ?_ ?_ ?_ <;> with_reducible rfl)

@[simp] theorem bankSupplyRise_inv (dt : Nat) (b : IoBank) (mv : Nat) (s0 : State)
    (h : s0.Kept q) : (bankSupplyRise dt b mv s0).Kept q := by
  unfold bankSupplyRise
  try dsimp only
  repeat' split
  all_goals first
    | (with_reducible exact h)
    | (simp (maxDischargeDepth := 40) [*]; done)
    | (refine inv_of_eq h ?_ ?_ ?_ ?_ ?_ ?_ ?_ <;> with_reducible rfl)

@[simp] theorem bankInputs_inv (s : State) (b : IoBank) (h : s.Kept q) : (State.bankInputs s b).Kept q := by
  unfold State.bankInputs
  try dsimp only
  repeat' split
  all_goals first
    | (with_reducible exact h)
    | (simp (maxDischargeDepth := 40) [*]; done)
    | (refine inv_of_eq h ?_ ?_ ?_ ?_ ?_ ?_ ?_ <;> with_reducible rfl)

@[simp] theorem bankSupplyFall_inv (dt : Nat) (b : IoBank) (s0 : State)
    (h : s0.Kept q) : (bankSupplyFall dt b s0).Kept q := by
  unfold bankSupplyFall
  try dsimp only
  repeat' split
  all_goals first
    | (with_reducible exact h)
    | (simp (maxDischargeDepth := 40) [*]; done)
    | (refine inv_of_eq h ?_ ?_ ?_ ?_ ?_ ?_ ?_ <;> with_reducible rfl)

@[simp] theorem startUpCalBegin_inv (dt : Nat) (s0 : State) (h : s0.Kept q) : (startUpCalBegin dt s0).Kept q := by
  unfold startUpCalBegin
  try dsimp only
  repeat' split
  all_goals first
    | (with_reducible exact h)
    | (simp (maxDischargeDepth := 40) [*]; done)
    | (refine inv_of_eq h ?_ ?_ ?_ ?_ ?_ ?_ ?_ <;> with_reducible rfl)

end Sys2Proof.Machine
end

