-- ==== Sys2Proof/Laws/InvLife.lean ====
section
/-! SUPPORT. The functions of Machine/Life.lean keep the invariant and the queue. -/

namespace Sys2Proof.Machine

variable {q : List Instr}

@[simp] theorem quieten_inv (s : State) (h : s.Kept q) : (State.quieten s).Kept q := by
  unfold State.quieten
  try dsimp only
  repeat' split
  all_goals first
    | (with_reducible exact h)
    | (simp (maxDischargeDepth := 40) [*]; done)
    | (refine inv_of_eq h ?_ ?_ ?_ ?_ ?_ ?_ ?_ <;> with_reducible rfl)

@[simp] theorem shutDownNow_inv (s : State) (h : s.Kept q) : (State.shutDownNow s).Kept q := by
  unfold State.shutDownNow
  try dsimp only
  repeat' split
  all_goals first
    | (with_reducible exact h)
    | (simp (maxDischargeDepth := 40) [*]; done)
    | (refine inv_of_eq h ?_ ?_ ?_ ?_ ?_ ?_ ?_ <;> with_reducible rfl)

@[simp] theorem shutBegin_inv (s : State) (since : Nat) (selftest : Bool)
    (h : s.Kept q) : (State.shutBegin s since selftest).Kept q := by
  unfold State.shutBegin
  try dsimp only
  repeat' split
  all_goals first
    | (with_reducible exact h)
    | (simp (maxDischargeDepth := 40) [*]; done)
    | (refine inv_of_eq h ?_ ?_ ?_ ?_ ?_ ?_ ?_ <;> with_reducible rfl)

@[simp] theorem shutGo_inv (s : State) (h : s.Kept q) : (State.shutGo s).Kept q := by
  unfold State.shutGo
  try dsimp only
  repeat' split
  all_goals first
    | (with_reducible exact h)
    | (simp (maxDischargeDepth := 40) [*]; done)
    | (refine inv_of_eq h ?_ ?_ ?_ ?_ ?_ ?_ ?_ <;> with_reducible rfl)

@[simp] theorem shutdownCmd_inv (s : State) (rq : Req) (flags : Nat)
    (h : s.Kept q) : (State.shutdownCmd s rq flags).Kept q := by
  unfold State.shutdownCmd
  try dsimp only
  repeat' split
  all_goals first
    | (with_reducible exact h)
    | (simp (maxDischargeDepth := 40) [*]; done)
    | (refine inv_of_eq h ?_ ?_ ?_ ?_ ?_ ?_ ?_ <;> with_reducible rfl)

@[simp] theorem shutdownSelftestDone_inv (dt : Nat) (r : TestResult) (s0 : State)
    (h : s0.Kept q) : (shutdownSelftestDone dt r s0).Kept q := by
  unfold shutdownSelftestDone
  try dsimp only
  repeat' split
  all_goals first
    | (with_reducible exact h)
    | (simp (maxDischargeDepth := 40) [*]; done)
    | (refine inv_of_eq h ?_ ?_ ?_ ?_ ?_ ?_ ?_ <;> with_reducible rfl)

@[simp] theorem selftestRunCmd_inv (s : State) (rq : Req) (block pattern : Nat)
    (h : s.Kept q) : (State.selftestRunCmd s rq block pattern).Kept q := by
  unfold State.selftestRunCmd
  try dsimp only
  repeat' split
  all_goals first
    | (with_reducible exact h)
    | (simp (maxDischargeDepth := 40) [*]; done)
    | (refine inv_of_eq h ?_ ?_ ?_ ?_ ?_ ?_ ?_ <;> with_reducible rfl)

@[simp] theorem clearSram_inv (s : State) (p : Port) (h : s.Kept q) : (State.clearSram s p).Kept q := by
  unfold State.clearSram
  dsimp only
  first
    | (simp (maxDischargeDepth := 40) [*]; done)
    | (refine inv_of_eq h ?_ ?_ ?_ ?_ ?_ ?_ ?_ <;> rfl)

@[simp] theorem reloadBlock_inv (s : State) (memId inst : Nat) (h : s.Kept q) : (State.reloadBlock s memId inst).Kept q := by
  unfold State.reloadBlock
  split
  · exact setEngine_inv s _ _ h (fun x => ⟨programMemory_wf _, rfl, x.2.2.2⟩)
  · split
    · exact clearSram_inv s _ h
    · exact h

@[simp] theorem selftestBlockDone_inv (dt : Nat) (r : TestResult) (s0 : State)
    (h : s0.Kept q) : (selftestBlockDone dt r s0).Kept q := by
  unfold selftestBlockDone
  try dsimp only
  repeat' split
  all_goals first
    | (with_reducible exact h)
    | (simp (maxDischargeDepth := 40) [*]; done)
    | (refine inv_of_eq h ?_ ?_ ?_ ?_ ?_ ?_ ?_ <;> with_reducible rfl)

@[simp] theorem stopBlockTest_inv (s : State) (h : s.Kept q) : (State.stopBlockTest s).Kept q := by
  unfold State.stopBlockTest
  try dsimp only
  repeat' split
  all_goals first
    | (with_reducible exact h)
    | (simp (maxDischargeDepth := 40) [*]; done)
    | (refine inv_of_eq h ?_ ?_ ?_ ?_ ?_ ?_ ?_ <;> with_reducible rfl)

@[simp] theorem abortSelftestCmd_inv (s : State) (rq : Req) (h : s.Kept q) : (State.abortSelftestCmd s rq).Kept q := by
  unfold State.abortSelftestCmd
  try dsimp only
  repeat' split
  all_goals first
    | (with_reducible exact h)
    | (simp (maxDischargeDepth := 40) [*]; done)
    | (refine inv_of_eq h ?_ ?_ ?_ ?_ ?_ ?_ ?_ <;> with_reducible rfl)

@[simp] theorem selftestResultCmd_inv (s : State) (rq : Req) (index : Nat)
    (h : s.Kept q) : (State.selftestResultCmd s rq index).Kept q := by
  unfold State.selftestResultCmd
  try dsimp only
  repeat' split
  all_goals first
    | (with_reducible exact h)
    | (simp (maxDischargeDepth := 40) [*]; done)
    | (refine inv_of_eq h ?_ ?_ ?_ ?_ ?_ ?_ ?_ <;> with_reducible rfl)

@[simp] theorem serviceChallengeCmd_inv (s : State) (rq : Req) (h : s.Kept q) : (State.serviceChallengeCmd s rq).Kept q := by
  unfold State.serviceChallengeCmd
  try dsimp only
  repeat' split
  all_goals first
    | (with_reducible exact h)
    | (simp (maxDischargeDepth := 40) [*]; done)
    | (refine inv_of_eq h ?_ ?_ ?_ ?_ ?_ ?_ ?_ <;> with_reducible rfl)

@[simp] theorem serviceResponseCmd_inv (s : State) (rq : Req) (sig : List Byte)
    (h : s.Kept q) : (State.serviceResponseCmd s rq sig).Kept q := by
  unfold State.serviceResponseCmd
  try dsimp only
  repeat' split
  all_goals first
    | (with_reducible exact h)
    | (simp (maxDischargeDepth := 40) [*]; done)
    | (refine inv_of_eq h ?_ ?_ ?_ ?_ ?_ ?_ ?_ <;> with_reducible rfl)

@[simp] theorem lifecycleSetCmd_inv (s : State) (rq : Req) (target : Nat)
    (h : s.Kept q) : (State.lifecycleSetCmd s rq target).Kept q := by
  unfold State.lifecycleSetCmd
  try dsimp only
  repeat' split
  all_goals first
    | (with_reducible exact h)
    | (simp (maxDischargeDepth := 40) [*]; done)
    | (refine inv_of_eq h ?_ ?_ ?_ ?_ ?_ ?_ ?_ <;> with_reducible rfl)

@[simp] theorem loadUnsigned_inv (s : State) (h : s.Kept q) : (State.loadUnsigned s).Kept q := by
  unfold State.loadUnsigned
  try dsimp only
  repeat' split
  all_goals first
    | (with_reducible exact h)
    | (simp (maxDischargeDepth := 40) [*]; done)
    | (refine inv_of_eq h ?_ ?_ ?_ ?_ ?_ ?_ ?_ <;> with_reducible rfl)

@[simp] theorem compensate_inv (s : State) (h : s.Kept q) : (State.compensate s).Kept q := by
  unfold State.compensate
  try dsimp only
  repeat' split
  all_goals first
    | (with_reducible exact h)
    | (simp (maxDischargeDepth := 40) [*]; done)
    | (refine inv_of_eq h ?_ ?_ ?_ ?_ ?_ ?_ ?_ <;> with_reducible rfl)

@[simp] theorem enterDeployed_inv (s0 : State) (h : s0.Kept q) : (State.enterDeployed s0).Kept q := by
  unfold State.enterDeployed
  try dsimp only
  repeat' split
  all_goals first
    | (with_reducible exact h)
    | (simp (maxDischargeDepth := 40) [*]; done)
    | (refine inv_of_eq h ?_ ?_ ?_ ?_ ?_ ?_ ?_ <;> with_reducible rfl)

@[simp] theorem lifecycleProgrammed_inv (dt : Nat) (s0 : State) (h : s0.Kept q) : (lifecycleProgrammed dt s0).Kept q := by
  unfold lifecycleProgrammed
  try dsimp only
  repeat' split
  all_goals first
    | (with_reducible exact h)
    | (simp (maxDischargeDepth := 40) [*]; done)
    | (refine inv_of_eq h ?_ ?_ ?_ ?_ ?_ ?_ ?_ <;> with_reducible rfl)

@[simp] theorem lifecycleTimeout_inv (s : State) (h : s.Kept q) : (State.lifecycleTimeout s).Kept q := by
  unfold State.lifecycleTimeout
  try dsimp only
  repeat' split
  all_goals first
    | (with_reducible exact h)
    | (simp (maxDischargeDepth := 40) [*]; done)
    | (refine inv_of_eq h ?_ ?_ ?_ ?_ ?_ ?_ ?_ <;> with_reducible rfl)

@[simp] theorem boundaryScanAccess_inv (dt : Nat) (op : JtagOp) (s0 : State)
    (h : s0.Kept q) : (boundaryScanAccess dt op s0).Kept q := by
  unfold boundaryScanAccess
  try dsimp only
  repeat' split
  all_goals first
    | (with_reducible exact h)
    | (simp (maxDischargeDepth := 40) [*]; done)
    | (refine inv_of_eq h ?_ ?_ ?_ ?_ ?_ ?_ ?_ <;> with_reducible rfl)

end Sys2Proof.Machine
end

