-- ==== Sys2Proof/Laws/InvPower.lean ====
section
/-! SUPPORT. The functions of Machine/Power.lean keep the invariant and the queue. -/

namespace Sys2Proof.Machine

variable {q : List Instr}

@[simp] theorem setRetain_inv (s : State) (f : RetainSt → RetainSt) (h : s.Kept q) : (State.setRetain s f).Kept q := by
  unfold State.setRetain
  try dsimp only
  repeat' split
  all_goals first
    | (with_reducible exact h)
    | (simp (maxDischargeDepth := 40) [*]; done)
    | (refine inv_of_eq h ?_ ?_ ?_ ?_ ?_ ?_ ?_ <;> with_reducible rfl)

@[simp] theorem toStandby_inv (s : State) (rq : Req) (h : s.Kept q) : (State.toStandby s rq).Kept q := by
  unfold State.toStandby
  try dsimp only
  repeat' split
  all_goals first
    | (with_reducible exact h)
    | (simp (maxDischargeDepth := 40) [*]; done)
    | (refine inv_of_eq h ?_ ?_ ?_ ?_ ?_ ?_ ?_ <;> with_reducible rfl)

@[simp] theorem standbyGated_inv (dt : Nat) (s0 : State) (h : s0.Kept q) : (standbyGated dt s0).Kept q := by
  unfold standbyGated
  try dsimp only
  repeat' split
  all_goals first
    | (with_reducible exact h)
    | (simp (maxDischargeDepth := 40) [*]; done)
    | (refine inv_of_eq h ?_ ?_ ?_ ?_ ?_ ?_ ?_ <;> with_reducible rfl)

@[simp] theorem startEach_inv (x0 : List Port) (x1 : State) (x2 : BitVec 8)
    (h : x1.Kept q) : (startEach x0 x1 x2).1.Kept q := by
  induction x0 generalizing x1 x2 with
  | nil => exact h
  | cons p ps ih =>
    simp only [startEach]
    split
    · exact ih _ _ h
    · exact ih _ _ (by simp (maxDischargeDepth := 40) [*])

@[simp] theorem clocksUngated_inv (dt : Nat) (s0 : State) (h : s0.Kept q) : (clocksUngated dt s0).Kept q := by
  unfold clocksUngated
  try dsimp only
  repeat' split
  all_goals first
    | (with_reducible exact h)
    | (simp (maxDischargeDepth := 40) [*]; done)
    | (refine inv_of_eq h ?_ ?_ ?_ ?_ ?_ ?_ ?_ <;> with_reducible rfl)

@[simp] theorem toRetain_inv (s : State) (rq : Req) (banks : BitVec 8)
    (h : s.Kept q) : (State.toRetain s rq banks).Kept q := by
  unfold State.toRetain
  try dsimp only
  repeat' split
  all_goals first
    | (with_reducible exact h)
    | (simp (maxDischargeDepth := 40) [*]; done)
    | (refine inv_of_eq h ?_ ?_ ?_ ?_ ?_ ?_ ?_ <;> with_reducible rfl)

@[simp] theorem powerStateCmd_inv (s : State) (rq : Req) (target banks : Nat)
    (h : s.Kept q) : (State.powerStateCmd s rq target banks).Kept q := by
  unfold State.powerStateCmd
  try dsimp only
  repeat' split
  all_goals first
    | (with_reducible exact h)
    | (simp (maxDischargeDepth := 40) [*]; done)
    | (refine inv_of_eq h ?_ ?_ ?_ ?_ ?_ ?_ ?_ <;> with_reducible rfl)

@[simp] theorem powerTimeout_inv (s : State) (h : s.Kept q) : (State.powerTimeout s).Kept q := by
  unfold State.powerTimeout
  try dsimp only
  repeat' split
  all_goals first
    | (with_reducible exact h)
    | (simp (maxDischargeDepth := 40) [*]; done)
    | (refine inv_of_eq h ?_ ?_ ?_ ?_ ?_ ?_ ?_ <;> with_reducible rfl)

@[simp] theorem retainArm_inv (dt : Nat) (s0 : State) (h : s0.Kept q) : (retainArm dt s0).Kept q := by
  unfold retainArm
  try dsimp only
  repeat' split
  all_goals first
    | (with_reducible exact h)
    | (simp (maxDischargeDepth := 40) [*]; done)
    | (refine inv_of_eq h ?_ ?_ ?_ ?_ ?_ ?_ ?_ <;> with_reducible rfl)

@[simp] theorem powerDown_inv (s : State) (h : s.Kept q) : (State.powerDown s).Kept q := by
  exact reset_inv_of _ rfl rfl rfl rfl (show Memory.wf flashBlank s.flash = true from inv_flash h) rfl h.2

@[simp] theorem commitPoint_inv (dt : Nat) (s0 : State) (h : s0.Kept q) : (commitPoint dt s0).Kept q := by
  unfold commitPoint
  try dsimp only
  repeat' split
  all_goals first
    | (with_reducible exact h)
    | (simp (maxDischargeDepth := 40) [*]; done)
    | (refine inv_of_eq h ?_ ?_ ?_ ?_ ?_ ?_ ?_ <;> with_reducible rfl)

@[simp] theorem wakeNow_inv (s : State) (r : RetainSt) (kind : Nat) (xs : List WakeSource)
    (h : s.Kept q) : (State.wakeNow s r kind xs).Kept q := by
  unfold State.wakeNow
  try dsimp only
  repeat' split
  all_goals first
    | (with_reducible exact h)
    | (simp (maxDischargeDepth := 40) [*]; done)
    | (refine inv_of_eq h ?_ ?_ ?_ ?_ ?_ ?_ ?_ <;> with_reducible rfl)

@[simp] theorem abortEntry_inv (s : State) (r : RetainSt) (xs : List WakeSource)
    (h : s.Kept q) : (State.abortEntry s r xs).Kept q := by
  unfold State.abortEntry
  try dsimp only
  repeat' split
  all_goals first
    | (with_reducible exact h)
    | (simp (maxDischargeDepth := 40) [*]; done)
    | (refine inv_of_eq h ?_ ?_ ?_ ?_ ?_ ?_ ?_ <;> with_reducible rfl)

@[simp] theorem wakeEvent_inv (dt : Nat) (xs : List WakeSource) (s0 : State)
    (h : s0.Kept q) : (wakeEvent dt xs s0).Kept q := by
  unfold wakeEvent
  try dsimp only
  repeat' split
  all_goals first
    | (with_reducible exact h)
    | (simp (maxDischargeDepth := 40) [*]; done)
    | (refine inv_of_eq h ?_ ?_ ?_ ?_ ?_ ?_ ?_ <;> with_reducible rfl)

@[simp] theorem wakeReplay_inv (dt : Nat) (s0 : State) (h : s0.Kept q) : (wakeReplay dt s0).Kept q := by
  unfold wakeReplay
  try dsimp only
  repeat' split
  all_goals first
    | (with_reducible exact h)
    | (simp (maxDischargeDepth := 40) [*]; done)
    | (refine inv_of_eq h ?_ ?_ ?_ ?_ ?_ ?_ ?_ <;> with_reducible rfl)

@[simp] theorem brownout_inv (dt : Nat) (s0 : State) (h : s0.Kept q) : (brownout dt s0).Kept q := by
  unfold brownout
  try dsimp only
  repeat' split
  all_goals first
    | (with_reducible exact h)
    | (simp (maxDischargeDepth := 40) [*]; done)
    | (refine inv_of_eq h ?_ ?_ ?_ ?_ ?_ ?_ ?_ <;> with_reducible rfl)

@[simp] theorem presLostAsleep_inv (s : State) (p : Port) (h : s.Kept q) : (State.presLostAsleep s p).Kept q := by
  unfold State.presLostAsleep
  try dsimp only
  repeat' split
  all_goals first
    | (with_reducible exact h)
    | (simp (maxDischargeDepth := 40) [*]; done)
    | (refine inv_of_eq h ?_ ?_ ?_ ?_ ?_ ?_ ?_ <;> with_reducible rfl)

@[simp] theorem wakeSuppliesGood_inv (dt : Nat) (s0 : State) (h : s0.Kept q) : (wakeSuppliesGood dt s0).Kept q := by
  unfold wakeSuppliesGood
  try dsimp only
  repeat' split
  all_goals first
    | (with_reducible exact h)
    | (simp (maxDischargeDepth := 40) [*]; done)
    | (refine inv_of_eq h ?_ ?_ ?_ ?_ ?_ ?_ ?_ <;> with_reducible rfl)

@[simp] theorem dropCfg_inv (s : State) (lost : Nat → Bool) (h : s.Kept q) : (State.dropCfg s lost).Kept q := by
  unfold State.dropCfg
  try dsimp only
  repeat' split
  all_goals first
    | (with_reducible exact h)
    | (simp (maxDischargeDepth := 40) [*]; done)
    | (refine inv_of_eq h ?_ ?_ ?_ ?_ ?_ ?_ ?_ <;> with_reducible rfl)

@[simp] theorem loseBank_inv (s : State) (b : Nat) (h : s.Kept q) : (State.loseBank s b).Kept q := by
  unfold State.loseBank
  try dsimp only
  repeat' split
  all_goals first
    | (with_reducible exact h)
    | (simp (maxDischargeDepth := 40) [*]; done)
    | (refine inv_of_eq h ?_ ?_ ?_ ?_ ?_ ?_ ?_ <;> with_reducible rfl)

@[simp] theorem enginesUp_inv (s : State) (g : EngineId → EngineMode) (h : s.Kept q) : (State.enginesUp s g).Kept q := by
  refine setClove_inv s _ h (fun e => ?_)
  have h1 := h.1.2 e
  simp only [Fin.getElem_fin, Vector.getElem_ofFn, ok_iff] at h1 ⊢
  exact ⟨programMemory_wf _, h1.2⟩

@[simp] theorem firmwareUp_inv (s : State) (h : s.Kept q) : (State.firmwareUp s).Kept q := by
  unfold State.firmwareUp
  try dsimp only
  repeat' split
  all_goals first
    | (with_reducible exact h)
    | (simp (maxDischargeDepth := 40) [*]; done)
    | (refine inv_of_eq h ?_ ?_ ?_ ?_ ?_ ?_ ?_ <;> with_reducible rfl)

@[simp] theorem wakeFirmware_inv (s : State) (r : RetainSt) (good : BitVec 8) (tj : Int)
    (h : s.Kept q) : (State.wakeFirmware s r good tj).Kept q := by
  unfold State.wakeFirmware
  try dsimp only
  repeat' split
  all_goals first
    | (with_reducible exact h)
    | (simp (maxDischargeDepth := 40) [*]; done)
    | (refine inv_of_eq h ?_ ?_ ?_ ?_ ?_ ?_ ?_ <;> with_reducible rfl)

@[simp] theorem brownoutEvents_inv (s : State) (h : s.Kept q) : (State.brownoutEvents s).Kept q := by
  unfold State.brownoutEvents
  try dsimp only
  repeat' split
  all_goals first
    | (with_reducible exact h)
    | (simp (maxDischargeDepth := 40) [*]; done)
    | (refine inv_of_eq h ?_ ?_ ?_ ?_ ?_ ?_ ?_ <;> with_reducible rfl)

@[simp] theorem fwInitDone_inv (dt : Nat) (good : BitVec 8) (tj : Int) (s0 : State)
    (h : s0.Kept q) : (fwInitDone dt good tj s0).Kept q := by
  unfold fwInitDone
  try dsimp only
  repeat' split
  all_goals first
    | (with_reducible exact h)
    | (simp (maxDischargeDepth := 40) [*]; done)
    | (refine inv_of_eq h ?_ ?_ ?_ ?_ ?_ ?_ ?_ <;> with_reducible rfl)

@[simp] theorem wakeSerialCheck_inv (dt : Nat) (p : Port) (attempts : List (Option IdAttempt)) (s0 : State)
    (h : s0.Kept q) : (wakeSerialCheck dt p attempts s0).Kept q := by
  unfold wakeSerialCheck
  try dsimp only
  repeat' split
  all_goals first
    | (with_reducible exact h)
    | (simp (maxDischargeDepth := 40) [*]; done)
    | (refine inv_of_eq h ?_ ?_ ?_ ?_ ?_ ?_ ?_ <;> with_reducible rfl)

@[simp] theorem wakeComplete_inv (dt : Nat) (s0 : State) (h : s0.Kept q) : (wakeComplete dt s0).Kept q := by
  unfold wakeComplete
  try dsimp only
  repeat' split
  all_goals first
    | (with_reducible exact h)
    | (simp (maxDischargeDepth := 40) [*]; done)
    | (refine inv_of_eq h ?_ ?_ ?_ ?_ ?_ ?_ ?_ <;> with_reducible rfl)

@[simp] theorem vaonLoss_inv (dt : Nat) (s0 : State) (h : s0.Kept q) : (vaonLoss dt s0).Kept q := by
  exact reset_inv_of _ rfl rfl rfl rfl (show Memory.wf flashBlank s0.flash = true from inv_flash h) rfl h.2

@[simp] theorem vaonRise_inv (dt : Nat) (s0 : State) (h : s0.Kept q) : (vaonRise dt s0).Kept q := by
  unfold vaonRise
  try dsimp only
  repeat' split
  all_goals first
    | (with_reducible exact h)
    | (simp (maxDischargeDepth := 40) [*]; done)
    | (refine inv_of_eq h ?_ ?_ ?_ ?_ ?_ ?_ ?_ <;> with_reducible rfl)

end Sys2Proof.Machine
end

