-- ==== Sys2Proof/Laws/InvParams.lean ====
section
/-! SUPPORT. The functions of Machine/Params.lean keep the invariant and the queue. -/

namespace Sys2Proof.Machine

variable {q : List Instr}

@[simp] theorem withShadows_inv (s : State) (h : s.Kept q) : (State.withShadows s).Kept q := by
  unfold State.withShadows
  try dsimp only
  repeat' split
  all_goals first
    | (with_reducible exact h)
    | (simp (maxDischargeDepth := 40) [*]; done)
    | (refine inv_of_eq h ?_ ?_ ?_ ?_ ?_ ?_ ?_ <;> with_reducible rfl)

@[simp] theorem withWrites_inv (s : State) (ws : List FieldWrite) (h : s.Kept q) : (State.withWrites s ws).Kept q := by
  unfold State.withWrites
  try dsimp only
  repeat' split
  all_goals first
    | (with_reducible exact h)
    | (simp (maxDischargeDepth := 40) [*]; done)
    | (refine inv_of_eq h ?_ ?_ ?_ ?_ ?_ ?_ ?_ <;> with_reducible rfl)

@[simp] theorem streamOff_inv (s : State) (i : Nat) (h : s.Kept q) : (State.streamOff s i).Kept q := by
  unfold State.streamOff
  try dsimp only
  repeat' split
  all_goals first
    | (with_reducible exact h)
    | (simp (maxDischargeDepth := 40) [*]; done)
    | (refine inv_of_eq h ?_ ?_ ?_ ?_ ?_ ?_ ?_ <;> with_reducible rfl)

@[simp] theorem streamOn_inv (s : State) (i : Nat) (h : s.Kept q) : (State.streamOn s i).Kept q := by
  unfold State.streamOn
  try dsimp only
  repeat' split
  all_goals first
    | (with_reducible exact h)
    | (simp (maxDischargeDepth := 40) [*]; done)
    | (refine inv_of_eq h ?_ ?_ ?_ ?_ ?_ ?_ ?_ <;> with_reducible rfl)

@[simp] theorem restoreBanks_inv (s : State) (m : Nat) (h : s.Kept q) : (State.restoreBanks s m).Kept q := by
  unfold State.restoreBanks
  try dsimp only
  repeat' split
  all_goals first
    | (with_reducible exact h)
    | (simp (maxDischargeDepth := 40) [*]; done)
    | (refine inv_of_eq h ?_ ?_ ?_ ?_ ?_ ?_ ?_ <;> with_reducible rfl)

@[simp] theorem ringsResized_inv (t : State) (s : State) (p : Port) (h : t.Kept q) : (State.ringsResized t s p).Kept q := by
  unfold State.ringsResized
  try dsimp only
  repeat' split
  all_goals first
    | (with_reducible exact h)
    | (simp (maxDischargeDepth := 40) [*]; done)
    | (refine inv_of_eq h ?_ ?_ ?_ ?_ ?_ ?_ ?_ <;> with_reducible rfl)

@[simp] theorem afterInst_inv (t : State) (s : State) (block i : Nat) (ws : List FieldWrite)
    (h : t.Kept q) :
    (State.afterInst t s block i ws).Kept q := by
  unfold State.afterInst
  try dsimp only
  repeat' split
  all_goals first
    | (with_reducible exact h)
    | (simp (maxDischargeDepth := 40) [*]; done)
    | (refine inv_of_eq h ?_ ?_ ?_ ?_ ?_ ?_ ?_ <;> with_reducible rfl)

@[simp] theorem shadow_inv (s : State) (es : Tab Nat) (h : s.Kept q) : (State.shadow s es).Kept q := by
  unfold State.shadow
  try dsimp only
  repeat' split
  all_goals first
    | (with_reducible exact h)
    | (simp (maxDischargeDepth := 40) [*]; done)
    | (refine inv_of_eq h ?_ ?_ ?_ ?_ ?_ ?_ ?_ <;> with_reducible rfl)

@[simp] theorem applyWrites_inv (s : State) (ws : List FieldWrite) (hold : Bool)
    (h : s.Kept q) : (State.applyWrites s ws hold).1.Kept q := by
  unfold State.applyWrites
  try dsimp only
  repeat' split
  all_goals first
    | (with_reducible exact h)
    | (simp (maxDischargeDepth := 40) [*]; done)
    | (refine inv_of_eq h ?_ ?_ ?_ ?_ ?_ ?_ ?_ <;> with_reducible rfl)

@[simp] theorem paramWriteCmd_inv (s : State) (rq : Req) (block inst word flags : Nat) (words : List (Word × Word))
    (h : s.Kept q) : (State.paramWriteCmd s rq block inst word flags words).Kept q := by
  unfold State.paramWriteCmd
  try dsimp only
  repeat' split
  all_goals first
    | (with_reducible exact h)
    | (simp (maxDischargeDepth := 40) [*]; done)
    | (refine inv_of_eq h ?_ ?_ ?_ ?_ ?_ ?_ ?_ <;> with_reducible rfl)

@[simp] theorem paramReadCmd_inv (s : State) (rq : Req) (block inst word n : Nat)
    (h : s.Kept q) : (State.paramReadCmd s rq block inst word n).Kept q := by
  unfold State.paramReadCmd
  try dsimp only
  repeat' split
  all_goals first
    | (with_reducible exact h)
    | (simp (maxDischargeDepth := 40) [*]; done)
    | (refine inv_of_eq h ?_ ?_ ?_ ?_ ?_ ?_ ?_ <;> with_reducible rfl)

@[simp] theorem commitCmd_inv (s : State) (rq : Req) (flags : Nat) (h : s.Kept q) : (State.commitCmd s rq flags).Kept q := by
  unfold State.commitCmd
  try dsimp only
  repeat' split
  all_goals first
    | (with_reducible exact h)
    | (simp (maxDischargeDepth := 40) [*]; done)
    | (refine inv_of_eq h ?_ ?_ ?_ ?_ ?_ ?_ ?_ <;> with_reducible rfl)

@[simp] theorem clearStatsCmd_inv (s : State) (rq : Req) (block inst : Nat)
    (h : s.Kept q) : (State.clearStatsCmd s rq block inst).Kept q := by
  unfold State.clearStatsCmd
  try dsimp only
  repeat' split
  all_goals first
    | (with_reducible exact h)
    | (simp (maxDischargeDepth := 40) [*]; done)
    | (refine inv_of_eq h ?_ ?_ ?_ ?_ ?_ ?_ ?_ <;> with_reducible rfl)

end Sys2Proof.Machine
end

