-- ==== Sys2Proof/Laws/InvLoads.lean ====
section
/-! SUPPORT. The functions of Machine/Loads.lean keep the invariant and the queue. -/

namespace Sys2Proof.Machine

variable {q : List Instr}

@[simp] theorem loadProgramCmd_inv (s : State) (rq : Req) (slot off bytes : Nat)
    (h : s.Kept q) : (State.loadProgramCmd s rq slot off bytes).Kept q := by
  unfold State.loadProgramCmd
  try dsimp only
  repeat' split
  all_goals first
    | (with_reducible exact h)
    | (simp (maxDischargeDepth := 40) [*]; done)
    | (refine inv_of_eq h ?_ ?_ ?_ ?_ ?_ ?_ ?_ <;> with_reducible rfl)

@[simp] theorem unloadProgramCmd_inv (s : State) (rq : Req) (slot : Nat)
    (h : s.Kept q) : (State.unloadProgramCmd s rq slot).Kept q := by
  unfold State.unloadProgramCmd
  try dsimp only
  repeat' split
  all_goals first
    | (with_reducible exact h)
    | (simp (maxDischargeDepth := 40) [*]; done)
    | (refine inv_of_eq h ?_ ?_ ?_ ?_ ?_ ?_ ?_ <;> with_reducible rfl)

@[simp] theorem loadTimeout_inv (s : State) (h : s.Kept q) : (State.loadTimeout s).Kept q := by
  unfold State.loadTimeout
  try dsimp only
  repeat' split
  all_goals first
    | (with_reducible exact h)
    | (simp (maxDischargeDepth := 40) [*]; done)
    | (refine inv_of_eq h ?_ ?_ ?_ ?_ ?_ ?_ ?_ <;> with_reducible rfl)

@[simp] theorem engineResetCmd_inv (s : State) (rq : Req) (cl e : Nat)
    (h : s.Kept q) : (State.engineResetCmd s rq cl e).Kept q := by
  have hz : EngineSt.reset.flg.toNat < 256 := by decide
  have hb : EngineSt.reset.bexp.toNat ≤ 24 := by decide
  unfold State.engineResetCmd
  dsimp only
  split
  · simp (maxDischargeDepth := 40) [*]
  · split
    · simp (maxDischargeDepth := 40) [*]
    · refine complete_inv _ _ _ ?_
      have h1 : ∀ (u : {t : State // t.Kept q}) (en : EngineId), (u.1.setEngine en (fun y =>
          { EngineSt.reset with pmem := y.pmem, holds := y.holds, dmem := y.dmem, cycles := y.cycles,
                                busySince := y.busySince, mode := y.mode })).Kept q := fun u en =>
        setEngine_inv _ _ _ u.2 (fun x => ⟨x.2.1, x.2.2.1, hz, hb⟩)
      repeat' split
      all_goals simp (maxDischargeDepth := 40) [*]

@[simp] theorem applyPack_inv (s : State) (rs : List PackRun) (h : s.Kept q) : (State.applyPack s rs).2.Kept q := by
  unfold State.applyPack
  try dsimp only
  repeat' split
  all_goals first
    | (with_reducible exact h)
    | (simp (maxDischargeDepth := 40) [*]; done)
    | (refine inv_of_eq h ?_ ?_ ?_ ?_ ?_ ?_ ?_ <;> with_reducible rfl)

@[simp] theorem loadZonePackCmd_inv (s : State) (rq : Req) (off bytes : Nat)
    (h : s.Kept q) : (State.loadZonePackCmd s rq off bytes).Kept q := by
  unfold State.loadZonePackCmd
  try dsimp only
  repeat' split
  all_goals first
    | (with_reducible exact h)
    | (simp (maxDischargeDepth := 40) [*]; done)
    | (refine inv_of_eq h ?_ ?_ ?_ ?_ ?_ ?_ ?_ <;> with_reducible rfl)

@[simp] theorem loadBaselinesCmd_inv (s : State) (rq : Req) (off bytes : Nat)
    (h : s.Kept q) : (State.loadBaselinesCmd s rq off bytes).Kept q := by
  unfold State.loadBaselinesCmd
  try dsimp only
  repeat' split
  all_goals first
    | (with_reducible exact h)
    | (simp (maxDischargeDepth := 40) [*]; done)
    | (refine inv_of_eq h ?_ ?_ ?_ ?_ ?_ ?_ ?_ <;> with_reducible rfl)

@[simp] theorem applyBaselines_inv (s : State) (img : List Byte) (h : s.Kept q) : (State.applyBaselines s img).Kept q := by
  unfold State.applyBaselines
  try dsimp only
  repeat' split
  all_goals first
    | (with_reducible exact h)
    | (simp (maxDischargeDepth := 40) [*]; done)
    | (refine inv_of_eq h ?_ ?_ ?_ ?_ ?_ ?_ ?_ <;> with_reducible rfl)

@[simp] theorem applyImage_inv (s : State) (u : DecUse) (img : List Byte)
    (h : s.Kept q) : (State.applyImage s u img).2.Kept q := by
  unfold State.applyImage
  try dsimp only
  repeat' split
  all_goals first
    | (with_reducible exact h)
    | (simp (maxDischargeDepth := 40) [*]; done)
    | (refine inv_of_eq h ?_ ?_ ?_ ?_ ?_ ?_ ?_ <;> with_reducible rfl)

@[simp] theorem decompressDone_inv (dt : Nat) (s0 : State) (h : s0.Kept q) : (decompressDone dt s0).Kept q := by
  unfold decompressDone
  try dsimp only
  repeat' split
  all_goals first
    | (with_reducible exact h)
    | (simp (maxDischargeDepth := 40) [*]; done)
    | (refine inv_of_eq h ?_ ?_ ?_ ?_ ?_ ?_ ?_ <;> with_reducible rfl)

end Sys2Proof.Machine
end

