-- ==== Sys2Proof/Laws/InvHostCmd.lean ====
section
/-! SUPPORT. The functions of Machine/HostCmd.lean keep the invariant and the queue. -/

namespace Sys2Proof.Machine

variable {q : List Instr}

@[simp] theorem doorbellLost_inv (s : State) (h : s.Kept q) : (State.doorbellLost s).Kept q := by
  unfold State.doorbellLost
  try dsimp only
  repeat' split
  all_goals first
    | (with_reducible exact h)
    | (simp (maxDischargeDepth := 40) [*]; done)
    | (refine inv_of_eq h ?_ ?_ ?_ ?_ ?_ ?_ ?_ <;> with_reducible rfl)

@[simp] theorem tagClash_inv (s : State) (h : s.Kept q) : (State.tagClash s).Kept q := by
  unfold State.tagClash
  try dsimp only
  repeat' split
  all_goals first
    | (with_reducible exact h)
    | (simp (maxDischargeDepth := 40) [*]; done)
    | (refine inv_of_eq h ?_ ?_ ?_ ?_ ?_ ?_ ?_ <;> with_reducible rfl)

@[simp] theorem acceptCmd_inv (s : State) (rq : Req) (code : Nat) (headOk : Bool) (params : List Byte)
    (h : s.Kept q) : (State.acceptCmd s rq code headOk params).Kept q := by
  unfold State.acceptCmd
  try dsimp only
  repeat' split
  all_goals first
    | (with_reducible exact h)
    | (simp (maxDischargeDepth := 40) [*]; done)
    | (refine inv_of_eq h ?_ ?_ ?_ ?_ ?_ ?_ ?_ <;> with_reducible rfl)

@[simp] theorem submit_inv (s : State) (rq : Req) (code : Nat) (headOk : Bool) (params : List Byte)
    (h : s.Kept q) : (State.submit s rq code headOk params).Kept q := by
  unfold State.submit
  try dsimp only
  repeat' split
  all_goals first
    | (with_reducible exact h)
    | (simp (maxDischargeDepth := 40) [*]; done)
    | (refine inv_of_eq h ?_ ?_ ?_ ?_ ?_ ?_ ?_ <;> with_reducible rfl)

@[simp] theorem runCmd_inv (s0 : State) (dt : Nat) (rq : Req) (code : Nat) (params : List Byte) (body : State → State) (hbody : ∀ (y0 : {t : State // t.Kept q}), (body y0.1).Kept q)
    (h : s0.Kept q) : (State.runCmd s0 dt rq code params body).Kept q := by
  have key : ∀ u : State, u.Kept q → (body u).Kept q := fun u hu => hbody ⟨u, hu⟩
  unfold State.runCmd
  dsimp only
  repeat' split
  all_goals first
    | (refine key _ (setMbox_inv _ _ ?_ (fun m => m.2)); simp (maxDischargeDepth := 40) [*]; done)
    | (simp (maxDischargeDepth := 40) [*]; done)

@[simp] theorem doorbellWrite_inv (s : State) (v : Nat) (h : s.Kept q) : (State.doorbellWrite s v).Kept q := by
  unfold State.doorbellWrite
  try dsimp only
  repeat' split
  all_goals first
    | (with_reducible exact h)
    | (simp (maxDischargeDepth := 40) [*]; done)
    | (refine inv_of_eq h ?_ ?_ ?_ ?_ ?_ ?_ ?_ <;> with_reducible rfl)

@[simp] theorem headWrite_inv (s : State) (v : BitVec 8) (h : s.Kept q) : (State.headWrite s v).Kept q := by
  unfold State.headWrite
  try dsimp only
  repeat' split
  all_goals first
    | (with_reducible exact h)
    | (simp (maxDischargeDepth := 40) [*]; done)
    | (refine inv_of_eq h ?_ ?_ ?_ ?_ ?_ ?_ ?_ <;> with_reducible rfl)

@[simp] theorem irqClear_inv (s : State) (mask : BitVec 7) (h : s.Kept q) : (State.irqClear s mask).Kept q := by
  unfold State.irqClear
  try dsimp only
  repeat' split
  all_goals first
    | (with_reducible exact h)
    | (simp (maxDischargeDepth := 40) [*]; done)
    | (refine inv_of_eq h ?_ ?_ ?_ ?_ ?_ ?_ ?_ <;> with_reducible rfl)

@[simp] theorem portWrite_inv (s : State) (addr : Nat) (v : Word) (h : s.Kept q) : (State.portWrite s addr v).Kept q := by
  unfold State.portWrite
  try dsimp only
  repeat' split
  all_goals first
    | (with_reducible exact h)
    | (simp (maxDischargeDepth := 40) [*]; done)
    | (refine inv_of_eq h ?_ ?_ ?_ ?_ ?_ ?_ ?_ <;> with_reducible rfl)

@[simp] theorem portWrites_inv (x0 : List Word) (x1 : Nat) (x2 : State)
    (h : x2.Kept q) : (State.portWrites x0 x1 x2).Kept q := by
  induction x0 generalizing x1 x2 with
  | nil => exact h
  | cons p ps ih => exact ih _ _ (by simp (maxDischargeDepth := 40) [*])

@[simp] theorem registerWrite_inv (dt khz : Nat) (clocks : List (BitVec 4)) (s0 : State)
    (h : s0.Kept q) : (registerWrite dt khz clocks s0).Kept q := by
  unfold registerWrite
  try dsimp only
  repeat' split
  all_goals first
    | (with_reducible exact h)
    | (simp (maxDischargeDepth := 40) [*]; done)
    | (refine inv_of_eq h ?_ ?_ ?_ ?_ ?_ ?_ ?_ <;> with_reducible rfl)

@[simp] theorem doorbell_inv (dt : Nat) (v : Word) (s0 : State) (h : s0.Kept q) : (doorbell dt v s0).Kept q := by
  unfold doorbell
  try dsimp only
  repeat' split
  all_goals first
    | (with_reducible exact h)
    | (simp (maxDischargeDepth := 40) [*]; done)
    | (refine inv_of_eq h ?_ ?_ ?_ ?_ ?_ ?_ ?_ <;> with_reducible rfl)

@[simp] theorem cqHeadWrite_inv (dt : Nat) (v : Byte) (s0 : State) (h : s0.Kept q) : (cqHeadWrite dt v s0).Kept q := by
  unfold cqHeadWrite
  try dsimp only
  repeat' split
  all_goals first
    | (with_reducible exact h)
    | (simp (maxDischargeDepth := 40) [*]; done)
    | (refine inv_of_eq h ?_ ?_ ?_ ?_ ?_ ?_ ?_ <;> with_reducible rfl)

@[simp] theorem irqStatusClear_inv (dt : Nat) (mask : BitVec 7) (s0 : State)
    (h : s0.Kept q) : (irqStatusClear dt mask s0).Kept q := by
  unfold irqStatusClear
  try dsimp only
  repeat' split
  all_goals first
    | (with_reducible exact h)
    | (simp (maxDischargeDepth := 40) [*]; done)
    | (refine inv_of_eq h ?_ ?_ ?_ ?_ ?_ ?_ ?_ <;> with_reducible rfl)

@[simp] theorem skipMessage_inv (s : State) (h : s.Kept q) : (State.skipMessage s).Kept q := by
  unfold State.skipMessage
  try dsimp only
  repeat' split
  all_goals first
    | (with_reducible exact h)
    | (simp (maxDischargeDepth := 40) [*]; done)
    | (refine inv_of_eq h ?_ ?_ ?_ ?_ ?_ ?_ ?_ <;> with_reducible rfl)

@[simp] theorem stream0Command_inv (dt : Nat) (m : List Byte) (s0 : State)
    (h : s0.Kept q) : (stream0Command dt m s0).Kept q := by
  unfold stream0Command
  try dsimp only
  repeat' split
  all_goals first
    | (with_reducible exact h)
    | (simp (maxDischargeDepth := 40) [*]; done)
    | (refine inv_of_eq h ?_ ?_ ?_ ?_ ?_ ?_ ?_ <;> with_reducible rfl)

@[simp] theorem stageWrite_inv (dt : Nat) (m : List Byte) (s0 : State) (h : s0.Kept q) : (stageWrite dt m s0).Kept q := by
  unfold stageWrite
  try dsimp only
  repeat' split
  all_goals first
    | (with_reducible exact h)
    | (simp (maxDischargeDepth := 40) [*]; done)
    | (refine inv_of_eq h ?_ ?_ ?_ ?_ ?_ ?_ ?_ <;> with_reducible rfl)

@[simp] theorem identifyCmd_inv (s : State) (rq : Req) (h : s.Kept q) : (State.identifyCmd s rq).Kept q := by
  unfold State.identifyCmd
  try dsimp only
  repeat' split
  all_goals first
    | (with_reducible exact h)
    | (simp (maxDischargeDepth := 40) [*]; done)
    | (refine inv_of_eq h ?_ ?_ ?_ ?_ ?_ ?_ ?_ <;> with_reducible rfl)

@[simp] theorem statusCmd_inv (s : State) (rq : Req) (h : s.Kept q) : (State.statusCmd s rq).Kept q := by
  unfold State.statusCmd
  try dsimp only
  repeat' split
  all_goals first
    | (with_reducible exact h)
    | (simp (maxDischargeDepth := 40) [*]; done)
    | (refine inv_of_eq h ?_ ?_ ?_ ?_ ?_ ?_ ?_ <;> with_reducible rfl)

@[simp] theorem eventQueryCmd_inv (s : State) (rq : Req) (first : Word) (n : Nat)
    (h : s.Kept q) : (State.eventQueryCmd s rq first n).Kept q := by
  unfold State.eventQueryCmd
  try dsimp only
  repeat' split
  all_goals first
    | (with_reducible exact h)
    | (simp (maxDischargeDepth := 40) [*]; done)
    | (refine inv_of_eq h ?_ ?_ ?_ ?_ ?_ ?_ ?_ <;> with_reducible rfl)

@[simp] theorem withPort_inv (s : State) (rq : Req) (port : Nat) (f : Port → State) (hf : ∀ (y0 : Port), (f y0).Kept q)
    (h : s.Kept q) : (State.withPort s rq port f).Kept q := by
  unfold State.withPort
  try dsimp only
  repeat' split
  all_goals first
    | (with_reducible exact h)
    | (simp (maxDischargeDepth := 40) [*]; done)
    | (refine inv_of_eq h ?_ ?_ ?_ ?_ ?_ ?_ ?_ <;> with_reducible rfl)

@[simp] theorem portStopCmd_inv (s : State) (rq : Req) (ports : BitVec 8)
    (h : s.Kept q) : (State.portStopCmd s rq ports).Kept q := by
  unfold State.portStopCmd
  try dsimp only
  repeat' split
  all_goals first
    | (with_reducible exact h)
    | (simp (maxDischargeDepth := 40) [*]; done)
    | (refine inv_of_eq h ?_ ?_ ?_ ?_ ?_ ?_ ?_ <;> with_reducible rfl)

@[simp] theorem headRescanCmd_inv (s : State) (rq : Req) (port : Nat)
    (h : s.Kept q) : (State.headRescanCmd s rq port).Kept q := by
  unfold State.headRescanCmd
  try dsimp only
  repeat' split
  all_goals first
    | (with_reducible exact h)
    | (simp (maxDischargeDepth := 40) [*]; done)
    | (refine inv_of_eq h ?_ ?_ ?_ ?_ ?_ ?_ ?_ <;> with_reducible rfl)

@[simp] theorem clearFaultCmd_inv (s : State) (rq : Req) (port : Nat)
    (h : s.Kept q) : (State.clearFaultCmd s rq port).Kept q := by
  unfold State.clearFaultCmd
  try dsimp only
  repeat' split
  all_goals first
    | (with_reducible exact h)
    | (simp (maxDischargeDepth := 40) [*]; done)
    | (refine inv_of_eq h ?_ ?_ ?_ ?_ ?_ ?_ ?_ <;> with_reducible rfl)

@[simp] theorem launchShotCmd_inv (s : State) (rq : Req) (port slot : Nat)
    (h : s.Kept q) : (State.launchShotCmd s rq port slot).Kept q := by
  unfold State.launchShotCmd
  try dsimp only
  repeat' split
  all_goals first
    | (with_reducible exact h)
    | (simp (maxDischargeDepth := 40) [*]; done)
    | (refine inv_of_eq h ?_ ?_ ?_ ?_ ?_ ?_ ?_ <;> with_reducible rfl)

@[simp] theorem ackGroupCmd_inv (s : State) (rq : Req) (g : Nat) (h : s.Kept q) : (State.ackGroupCmd s rq g).Kept q := by
  unfold State.ackGroupCmd
  try dsimp only
  repeat' split
  all_goals first
    | (with_reducible exact h)
    | (simp (maxDischargeDepth := 40) [*]; done)
    | (refine inv_of_eq h ?_ ?_ ?_ ?_ ?_ ?_ ?_ <;> with_reducible rfl)

@[simp] theorem calSetRefresCmd_inv (s : State) (rq : Req) (v : Nat)
    (h : s.Kept q) : (State.calSetRefresCmd s rq v).Kept q := by
  unfold State.calSetRefresCmd
  try dsimp only
  repeat' split
  all_goals first
    | (with_reducible exact h)
    | (simp (maxDischargeDepth := 40) [*]; done)
    | (refine inv_of_eq h ?_ ?_ ?_ ?_ ?_ ?_ ?_ <;> with_reducible rfl)

@[simp] theorem calSetBathCmd_inv (s : State) (rq : Req) (port : Nat) (t : Word)
    (h : s.Kept q) : (State.calSetBathCmd s rq port t).Kept q := by
  unfold State.calSetBathCmd
  try dsimp only
  repeat' split
  all_goals first
    | (with_reducible exact h)
    | (simp (maxDischargeDepth := 40) [*]; done)
    | (refine inv_of_eq h ?_ ?_ ?_ ?_ ?_ ?_ ?_ <;> with_reducible rfl)

@[simp] theorem tiArmCmd_inv (s : State) (rq : Req) (b : List Byte) (h : s.Kept q) : (State.tiArmCmd s rq b).Kept q := by
  unfold State.tiArmCmd
  try dsimp only
  repeat' split
  all_goals first
    | (with_reducible exact h)
    | (simp (maxDischargeDepth := 40) [*]; done)
    | (refine inv_of_eq h ?_ ?_ ?_ ?_ ?_ ?_ ?_ <;> with_reducible rfl)

@[simp] theorem tiReadCmd_inv (s : State) (rq : Req) (first n : Nat)
    (h : s.Kept q) : (State.tiReadCmd s rq first n).Kept q := by
  unfold State.tiReadCmd
  try dsimp only
  repeat' split
  all_goals first
    | (with_reducible exact h)
    | (simp (maxDischargeDepth := 40) [*]; done)
    | (refine inv_of_eq h ?_ ?_ ?_ ?_ ?_ ?_ ?_ <;> with_reducible rfl)

@[simp] theorem snapReadRow_inv (s : State) (rq : Req) (id stream flags : Nat)
    (h : s.Kept q) : (State.snapReadRow s rq id stream flags).Kept q := by
  unfold State.snapReadRow
  try dsimp only
  repeat' split
  all_goals first
    | (with_reducible exact h)
    | (simp (maxDischargeDepth := 40) [*]; done)
    | (refine inv_of_eq h ?_ ?_ ?_ ?_ ?_ ?_ ?_ <;> with_reducible rfl)

@[simp] theorem flashWriteRow_inv (s : State) (rq : Req) (off bytes flags : Nat)
    (h : s.Kept q) : (State.flashWriteRow s rq off bytes flags).Kept q := by
  unfold State.flashWriteRow
  try dsimp only
  repeat' split
  all_goals first
    | (with_reducible exact h)
    | (simp (maxDischargeDepth := 40) [*]; done)
    | (refine inv_of_eq h ?_ ?_ ?_ ?_ ?_ ?_ ?_ <;> with_reducible rfl)

@[simp] theorem linkRestartCmd_inv (s : State) (rq : Req) (h : s.Kept q) : (State.linkRestartCmd s rq).Kept q := by
  unfold State.linkRestartCmd
  try dsimp only
  repeat' split
  all_goals first
    | (with_reducible exact h)
    | (simp (maxDischargeDepth := 40) [*]; done)
    | (refine inv_of_eq h ?_ ?_ ?_ ?_ ?_ ?_ ?_ <;> with_reducible rfl)

@[simp] theorem stopWork_inv (s : State) (f : Flight) (h : s.Kept q) : (State.stopWork s f).Kept q := by
  unfold State.stopWork
  try dsimp only
  repeat' split
  all_goals first
    | (with_reducible exact h)
    | (simp (maxDischargeDepth := 40) [*]; done)
    | (refine inv_of_eq h ?_ ?_ ?_ ?_ ?_ ?_ ?_ <;> with_reducible rfl)

@[simp] theorem commandTimeout_inv (dt : Nat) (tag : BitVec 6) (s0 : State)
    (h : s0.Kept q) : (commandTimeout dt tag s0).Kept q := by
  unfold commandTimeout
  try dsimp only
  repeat' split
  all_goals first
    | (with_reducible exact h)
    | (simp (maxDischargeDepth := 40) [*]; done)
    | (refine inv_of_eq h ?_ ?_ ?_ ?_ ?_ ?_ ?_ <;> with_reducible rfl)

end Sys2Proof.Machine
end

