-- ==== Sys2Proof/Laws/State.lean ====
section
/-! SUPPORT. What each named update of the state leaves alone, and what it changes. -/

namespace Sys2Proof.Machine

variable (s : State)

@[simp] theorem setFld_pending (f : Fld) (i v : Nat) : (s.setFld f i v).pending = s.pending := rfl
@[simp] theorem setFld_clk (f : Fld) (i v : Nat) : (s.setFld f i v).clk = s.clk := rfl
@[simp] theorem setFld_free (f : Fld) (i v : Nat) : (s.setFld f i v).free = s.free := rfl
@[simp] theorem setFld_tb (f : Fld) (i v : Nat) : (s.setFld f i v).tb = s.tb := rfl
@[simp] theorem setFld_tbFrac (f : Fld) (i v : Nat) : (s.setFld f i v).tbFrac = s.tbFrac := rfl
@[simp] theorem setFld_mbox (f : Fld) (i v : Nat) : (s.setFld f i v).mbox = s.mbox := rfl
@[simp] theorem setFld_pend (f : Fld) (i v : Nat) : (s.setFld f i v).pend = s.pend := rfl
@[simp] theorem setFld_held (f : Fld) (i v : Nat) : (s.setFld f i v).held = s.held := rfl
@[simp] theorem setFld_stats (f : Fld) (i v : Nat) : (s.setFld f i v).stats = s.stats := rfl
@[simp] theorem setFld_start (f : Fld) (i v : Nat) : (s.setFld f i v).start = s.start := rfl
@[simp] theorem setFld_power (f : Fld) (i v : Nat) : (s.setFld f i v).power = s.power := rfl
@[simp] theorem setFld_life (f : Fld) (i v : Nat) : (s.setFld f i v).life = s.life := rfl
@[simp] theorem setFld_banks (f : Fld) (i v : Nat) : (s.setFld f i v).banks = s.banks := rfl
@[simp] theorem setFld_flash (f : Fld) (i v : Nat) : (s.setFld f i v).flash = s.flash := rfl
@[simp] theorem setFld_ports (f : Fld) (i v : Nat) : (s.setFld f i v).ports = s.ports := rfl
@[simp] theorem setFld_grids (f : Fld) (i v : Nat) : (s.setFld f i v).grids = s.grids := rfl
@[simp] theorem setFld_clove (f : Fld) (i v : Nat) : (s.setFld f i v).clove = s.clove := rfl
@[simp] theorem setFld_detect (f : Fld) (i v : Nat) : (s.setFld f i v).detect = s.detect := rfl
@[simp] theorem setFld_capture (f : Fld) (i v : Nat) : (s.setFld f i v).capture = s.capture := rfl
@[simp] theorem setFld_house (f : Fld) (i v : Nat) : (s.setFld f i v).house = s.house := rfl
@[simp] theorem setFld_link (f : Fld) (i v : Nat) : (s.setFld f i v).link = s.link := rfl
@[simp] theorem setFld_sumac (f : Fld) (i v : Nat) : (s.setFld f i v).sumac = s.sumac := rfl
@[simp] theorem setFld_time (f : Fld) (i v : Nat) : (s.setFld f i v).time = s.time := rfl
@[simp] theorem setFld_cal (f : Fld) (i v : Nat) : (s.setFld f i v).cal = s.cal := rfl

@[simp] theorem count_pending (c : Ctr) (i n : Nat) : (s.count c i n).pending = s.pending := rfl
@[simp] theorem count_clk (c : Ctr) (i n : Nat) : (s.count c i n).clk = s.clk := rfl
@[simp] theorem count_free (c : Ctr) (i n : Nat) : (s.count c i n).free = s.free := rfl
@[simp] theorem count_tb (c : Ctr) (i n : Nat) : (s.count c i n).tb = s.tb := rfl
@[simp] theorem count_tbFrac (c : Ctr) (i n : Nat) : (s.count c i n).tbFrac = s.tbFrac := rfl
@[simp] theorem count_mbox (c : Ctr) (i n : Nat) : (s.count c i n).mbox = s.mbox := rfl
@[simp] theorem count_cfg (c : Ctr) (i n : Nat) : (s.count c i n).cfg = s.cfg := rfl
@[simp] theorem count_pend (c : Ctr) (i n : Nat) : (s.count c i n).pend = s.pend := rfl
@[simp] theorem count_held (c : Ctr) (i n : Nat) : (s.count c i n).held = s.held := rfl
@[simp] theorem count_start (c : Ctr) (i n : Nat) : (s.count c i n).start = s.start := rfl
@[simp] theorem count_power (c : Ctr) (i n : Nat) : (s.count c i n).power = s.power := rfl
@[simp] theorem count_life (c : Ctr) (i n : Nat) : (s.count c i n).life = s.life := rfl
@[simp] theorem count_banks (c : Ctr) (i n : Nat) : (s.count c i n).banks = s.banks := rfl
@[simp] theorem count_flash (c : Ctr) (i n : Nat) : (s.count c i n).flash = s.flash := rfl
@[simp] theorem count_ports (c : Ctr) (i n : Nat) : (s.count c i n).ports = s.ports := rfl
@[simp] theorem count_grids (c : Ctr) (i n : Nat) : (s.count c i n).grids = s.grids := rfl
@[simp] theorem count_clove (c : Ctr) (i n : Nat) : (s.count c i n).clove = s.clove := rfl
@[simp] theorem count_detect (c : Ctr) (i n : Nat) : (s.count c i n).detect = s.detect := rfl
@[simp] theorem count_capture (c : Ctr) (i n : Nat) : (s.count c i n).capture = s.capture := rfl
@[simp] theorem count_house (c : Ctr) (i n : Nat) : (s.count c i n).house = s.house := rfl
@[simp] theorem count_link (c : Ctr) (i n : Nat) : (s.count c i n).link = s.link := rfl
@[simp] theorem count_sumac (c : Ctr) (i n : Nat) : (s.count c i n).sumac = s.sumac := rfl
@[simp] theorem count_time (c : Ctr) (i n : Nat) : (s.count c i n).time = s.time := rfl
@[simp] theorem count_cal (c : Ctr) (i n : Nat) : (s.count c i n).cal = s.cal := rfl

@[simp] theorem raise_pending (c : Ctr) (i v : Nat) : (s.raise c i v).pending = s.pending := rfl
@[simp] theorem raise_clk (c : Ctr) (i v : Nat) : (s.raise c i v).clk = s.clk := rfl
@[simp] theorem raise_free (c : Ctr) (i v : Nat) : (s.raise c i v).free = s.free := rfl
@[simp] theorem raise_tb (c : Ctr) (i v : Nat) : (s.raise c i v).tb = s.tb := rfl
@[simp] theorem raise_tbFrac (c : Ctr) (i v : Nat) : (s.raise c i v).tbFrac = s.tbFrac := rfl
@[simp] theorem raise_mbox (c : Ctr) (i v : Nat) : (s.raise c i v).mbox = s.mbox := rfl
@[simp] theorem raise_cfg (c : Ctr) (i v : Nat) : (s.raise c i v).cfg = s.cfg := rfl
@[simp] theorem raise_pend (c : Ctr) (i v : Nat) : (s.raise c i v).pend = s.pend := rfl
@[simp] theorem raise_held (c : Ctr) (i v : Nat) : (s.raise c i v).held = s.held := rfl
@[simp] theorem raise_start (c : Ctr) (i v : Nat) : (s.raise c i v).start = s.start := rfl
@[simp] theorem raise_power (c : Ctr) (i v : Nat) : (s.raise c i v).power = s.power := rfl
@[simp] theorem raise_life (c : Ctr) (i v : Nat) : (s.raise c i v).life = s.life := rfl
@[simp] theorem raise_banks (c : Ctr) (i v : Nat) : (s.raise c i v).banks = s.banks := rfl
@[simp] theorem raise_flash (c : Ctr) (i v : Nat) : (s.raise c i v).flash = s.flash := rfl
@[simp] theorem raise_ports (c : Ctr) (i v : Nat) : (s.raise c i v).ports = s.ports := rfl
@[simp] theorem raise_grids (c : Ctr) (i v : Nat) : (s.raise c i v).grids = s.grids := rfl
@[simp] theorem raise_clove (c : Ctr) (i v : Nat) : (s.raise c i v).clove = s.clove := rfl
@[simp] theorem raise_detect (c : Ctr) (i v : Nat) : (s.raise c i v).detect = s.detect := rfl
@[simp] theorem raise_capture (c : Ctr) (i v : Nat) : (s.raise c i v).capture = s.capture := rfl
@[simp] theorem raise_house (c : Ctr) (i v : Nat) : (s.raise c i v).house = s.house := rfl
@[simp] theorem raise_link (c : Ctr) (i v : Nat) : (s.raise c i v).link = s.link := rfl
@[simp] theorem raise_sumac (c : Ctr) (i v : Nat) : (s.raise c i v).sumac = s.sumac := rfl
@[simp] theorem raise_time (c : Ctr) (i v : Nat) : (s.raise c i v).time = s.time := rfl
@[simp] theorem raise_cal (c : Ctr) (i v : Nat) : (s.raise c i v).cal = s.cal := rfl

@[simp] theorem setPort_pending (p : Port) (f : PortSt → PortSt) : (s.setPort p f).pending = s.pending := rfl
@[simp] theorem setPort_clk (p : Port) (f : PortSt → PortSt) : (s.setPort p f).clk = s.clk := rfl
@[simp] theorem setPort_free (p : Port) (f : PortSt → PortSt) : (s.setPort p f).free = s.free := rfl
@[simp] theorem setPort_tb (p : Port) (f : PortSt → PortSt) : (s.setPort p f).tb = s.tb := rfl
@[simp] theorem setPort_tbFrac (p : Port) (f : PortSt → PortSt) : (s.setPort p f).tbFrac = s.tbFrac := rfl
@[simp] theorem setPort_mbox (p : Port) (f : PortSt → PortSt) : (s.setPort p f).mbox = s.mbox := rfl
@[simp] theorem setPort_cfg (p : Port) (f : PortSt → PortSt) : (s.setPort p f).cfg = s.cfg := rfl
@[simp] theorem setPort_pend (p : Port) (f : PortSt → PortSt) : (s.setPort p f).pend = s.pend := rfl
@[simp] theorem setPort_held (p : Port) (f : PortSt → PortSt) : (s.setPort p f).held = s.held := rfl
@[simp] theorem setPort_stats (p : Port) (f : PortSt → PortSt) : (s.setPort p f).stats = s.stats := rfl
@[simp] theorem setPort_start (p : Port) (f : PortSt → PortSt) : (s.setPort p f).start = s.start := rfl
@[simp] theorem setPort_power (p : Port) (f : PortSt → PortSt) : (s.setPort p f).power = s.power := rfl
@[simp] theorem setPort_life (p : Port) (f : PortSt → PortSt) : (s.setPort p f).life = s.life := rfl
@[simp] theorem setPort_banks (p : Port) (f : PortSt → PortSt) : (s.setPort p f).banks = s.banks := rfl
@[simp] theorem setPort_flash (p : Port) (f : PortSt → PortSt) : (s.setPort p f).flash = s.flash := rfl
@[simp] theorem setPort_grids (p : Port) (f : PortSt → PortSt) : (s.setPort p f).grids = s.grids := rfl
@[simp] theorem setPort_clove (p : Port) (f : PortSt → PortSt) : (s.setPort p f).clove = s.clove := rfl
@[simp] theorem setPort_detect (p : Port) (f : PortSt → PortSt) : (s.setPort p f).detect = s.detect := rfl
@[simp] theorem setPort_capture (p : Port) (f : PortSt → PortSt) : (s.setPort p f).capture = s.capture := rfl
@[simp] theorem setPort_house (p : Port) (f : PortSt → PortSt) : (s.setPort p f).house = s.house := rfl
@[simp] theorem setPort_link (p : Port) (f : PortSt → PortSt) : (s.setPort p f).link = s.link := rfl
@[simp] theorem setPort_sumac (p : Port) (f : PortSt → PortSt) : (s.setPort p f).sumac = s.sumac := rfl
@[simp] theorem setPort_time (p : Port) (f : PortSt → PortSt) : (s.setPort p f).time = s.time := rfl
@[simp] theorem setPort_cal (p : Port) (f : PortSt → PortSt) : (s.setPort p f).cal = s.cal := rfl

@[simp] theorem setHead_pending (p : Port) (f : HeadSt → HeadSt) : (s.setHead p f).pending = s.pending := rfl
@[simp] theorem setHead_clk (p : Port) (f : HeadSt → HeadSt) : (s.setHead p f).clk = s.clk := rfl
@[simp] theorem setHead_free (p : Port) (f : HeadSt → HeadSt) : (s.setHead p f).free = s.free := rfl
@[simp] theorem setHead_tb (p : Port) (f : HeadSt → HeadSt) : (s.setHead p f).tb = s.tb := rfl
@[simp] theorem setHead_tbFrac (p : Port) (f : HeadSt → HeadSt) : (s.setHead p f).tbFrac = s.tbFrac := rfl
@[simp] theorem setHead_mbox (p : Port) (f : HeadSt → HeadSt) : (s.setHead p f).mbox = s.mbox := rfl
@[simp] theorem setHead_cfg (p : Port) (f : HeadSt → HeadSt) : (s.setHead p f).cfg = s.cfg := rfl
@[simp] theorem setHead_pend (p : Port) (f : HeadSt → HeadSt) : (s.setHead p f).pend = s.pend := rfl
@[simp] theorem setHead_held (p : Port) (f : HeadSt → HeadSt) : (s.setHead p f).held = s.held := rfl
@[simp] theorem setHead_stats (p : Port) (f : HeadSt → HeadSt) : (s.setHead p f).stats = s.stats := rfl
@[simp] theorem setHead_start (p : Port) (f : HeadSt → HeadSt) : (s.setHead p f).start = s.start := rfl
@[simp] theorem setHead_power (p : Port) (f : HeadSt → HeadSt) : (s.setHead p f).power = s.power := rfl
@[simp] theorem setHead_life (p : Port) (f : HeadSt → HeadSt) : (s.setHead p f).life = s.life := rfl
@[simp] theorem setHead_banks (p : Port) (f : HeadSt → HeadSt) : (s.setHead p f).banks = s.banks := rfl
@[simp] theorem setHead_flash (p : Port) (f : HeadSt → HeadSt) : (s.setHead p f).flash = s.flash := rfl
@[simp] theorem setHead_grids (p : Port) (f : HeadSt → HeadSt) : (s.setHead p f).grids = s.grids := rfl
@[simp] theorem setHead_clove (p : Port) (f : HeadSt → HeadSt) : (s.setHead p f).clove = s.clove := rfl
@[simp] theorem setHead_detect (p : Port) (f : HeadSt → HeadSt) : (s.setHead p f).detect = s.detect := rfl
@[simp] theorem setHead_capture (p : Port) (f : HeadSt → HeadSt) : (s.setHead p f).capture = s.capture := rfl
@[simp] theorem setHead_house (p : Port) (f : HeadSt → HeadSt) : (s.setHead p f).house = s.house := rfl
@[simp] theorem setHead_link (p : Port) (f : HeadSt → HeadSt) : (s.setHead p f).link = s.link := rfl
@[simp] theorem setHead_sumac (p : Port) (f : HeadSt → HeadSt) : (s.setHead p f).sumac = s.sumac := rfl
@[simp] theorem setHead_time (p : Port) (f : HeadSt → HeadSt) : (s.setHead p f).time = s.time := rfl
@[simp] theorem setHead_cal (p : Port) (f : HeadSt → HeadSt) : (s.setHead p f).cal = s.cal := rfl

@[simp] theorem setDrive_pending (p : Port) (f : DriveSt → DriveSt) : (s.setDrive p f).pending = s.pending := rfl
@[simp] theorem setDrive_clk (p : Port) (f : DriveSt → DriveSt) : (s.setDrive p f).clk = s.clk := rfl
@[simp] theorem setDrive_free (p : Port) (f : DriveSt → DriveSt) : (s.setDrive p f).free = s.free := rfl
@[simp] theorem setDrive_tb (p : Port) (f : DriveSt → DriveSt) : (s.setDrive p f).tb = s.tb := rfl
@[simp] theorem setDrive_tbFrac (p : Port) (f : DriveSt → DriveSt) : (s.setDrive p f).tbFrac = s.tbFrac := rfl
@[simp] theorem setDrive_mbox (p : Port) (f : DriveSt → DriveSt) : (s.setDrive p f).mbox = s.mbox := rfl
@[simp] theorem setDrive_cfg (p : Port) (f : DriveSt → DriveSt) : (s.setDrive p f).cfg = s.cfg := rfl
@[simp] theorem setDrive_pend (p : Port) (f : DriveSt → DriveSt) : (s.setDrive p f).pend = s.pend := rfl
@[simp] theorem setDrive_held (p : Port) (f : DriveSt → DriveSt) : (s.setDrive p f).held = s.held := rfl
@[simp] theorem setDrive_stats (p : Port) (f : DriveSt → DriveSt) : (s.setDrive p f).stats = s.stats := rfl
@[simp] theorem setDrive_start (p : Port) (f : DriveSt → DriveSt) : (s.setDrive p f).start = s.start := rfl
@[simp] theorem setDrive_power (p : Port) (f : DriveSt → DriveSt) : (s.setDrive p f).power = s.power := rfl
@[simp] theorem setDrive_life (p : Port) (f : DriveSt → DriveSt) : (s.setDrive p f).life = s.life := rfl
@[simp] theorem setDrive_banks (p : Port) (f : DriveSt → DriveSt) : (s.setDrive p f).banks = s.banks := rfl
@[simp] theorem setDrive_flash (p : Port) (f : DriveSt → DriveSt) : (s.setDrive p f).flash = s.flash := rfl
@[simp] theorem setDrive_grids (p : Port) (f : DriveSt → DriveSt) : (s.setDrive p f).grids = s.grids := rfl
@[simp] theorem setDrive_clove (p : Port) (f : DriveSt → DriveSt) : (s.setDrive p f).clove = s.clove := rfl
@[simp] theorem setDrive_detect (p : Port) (f : DriveSt → DriveSt) : (s.setDrive p f).detect = s.detect := rfl
@[simp] theorem setDrive_capture (p : Port) (f : DriveSt → DriveSt) : (s.setDrive p f).capture = s.capture := rfl
@[simp] theorem setDrive_house (p : Port) (f : DriveSt → DriveSt) : (s.setDrive p f).house = s.house := rfl
@[simp] theorem setDrive_link (p : Port) (f : DriveSt → DriveSt) : (s.setDrive p f).link = s.link := rfl
@[simp] theorem setDrive_sumac (p : Port) (f : DriveSt → DriveSt) : (s.setDrive p f).sumac = s.sumac := rfl
@[simp] theorem setDrive_time (p : Port) (f : DriveSt → DriveSt) : (s.setDrive p f).time = s.time := rfl
@[simp] theorem setDrive_cal (p : Port) (f : DriveSt → DriveSt) : (s.setDrive p f).cal = s.cal := rfl

@[simp] theorem setSeq_pending (p : Port) (f : SeqSt → SeqSt) : (s.setSeq p f).pending = s.pending := rfl
@[simp] theorem setSeq_clk (p : Port) (f : SeqSt → SeqSt) : (s.setSeq p f).clk = s.clk := rfl
@[simp] theorem setSeq_free (p : Port) (f : SeqSt → SeqSt) : (s.setSeq p f).free = s.free := rfl
@[simp] theorem setSeq_tb (p : Port) (f : SeqSt → SeqSt) : (s.setSeq p f).tb = s.tb := rfl
@[simp] theorem setSeq_tbFrac (p : Port) (f : SeqSt → SeqSt) : (s.setSeq p f).tbFrac = s.tbFrac := rfl
@[simp] theorem setSeq_mbox (p : Port) (f : SeqSt → SeqSt) : (s.setSeq p f).mbox = s.mbox := rfl
@[simp] theorem setSeq_cfg (p : Port) (f : SeqSt → SeqSt) : (s.setSeq p f).cfg = s.cfg := rfl
@[simp] theorem setSeq_pend (p : Port) (f : SeqSt → SeqSt) : (s.setSeq p f).pend = s.pend := rfl
@[simp] theorem setSeq_held (p : Port) (f : SeqSt → SeqSt) : (s.setSeq p f).held = s.held := rfl
@[simp] theorem setSeq_stats (p : Port) (f : SeqSt → SeqSt) : (s.setSeq p f).stats = s.stats := rfl
@[simp] theorem setSeq_start (p : Port) (f : SeqSt → SeqSt) : (s.setSeq p f).start = s.start := rfl
@[simp] theorem setSeq_power (p : Port) (f : SeqSt → SeqSt) : (s.setSeq p f).power = s.power := rfl
@[simp] theorem setSeq_life (p : Port) (f : SeqSt → SeqSt) : (s.setSeq p f).life = s.life := rfl
@[simp] theorem setSeq_banks (p : Port) (f : SeqSt → SeqSt) : (s.setSeq p f).banks = s.banks := rfl
@[simp] theorem setSeq_flash (p : Port) (f : SeqSt → SeqSt) : (s.setSeq p f).flash = s.flash := rfl
@[simp] theorem setSeq_grids (p : Port) (f : SeqSt → SeqSt) : (s.setSeq p f).grids = s.grids := rfl
@[simp] theorem setSeq_clove (p : Port) (f : SeqSt → SeqSt) : (s.setSeq p f).clove = s.clove := rfl
@[simp] theorem setSeq_detect (p : Port) (f : SeqSt → SeqSt) : (s.setSeq p f).detect = s.detect := rfl
@[simp] theorem setSeq_capture (p : Port) (f : SeqSt → SeqSt) : (s.setSeq p f).capture = s.capture := rfl
@[simp] theorem setSeq_house (p : Port) (f : SeqSt → SeqSt) : (s.setSeq p f).house = s.house := rfl
@[simp] theorem setSeq_link (p : Port) (f : SeqSt → SeqSt) : (s.setSeq p f).link = s.link := rfl
@[simp] theorem setSeq_sumac (p : Port) (f : SeqSt → SeqSt) : (s.setSeq p f).sumac = s.sumac := rfl
@[simp] theorem setSeq_time (p : Port) (f : SeqSt → SeqSt) : (s.setSeq p f).time = s.time := rfl
@[simp] theorem setSeq_cal (p : Port) (f : SeqSt → SeqSt) : (s.setSeq p f).cal = s.cal := rfl

@[simp] theorem setRx_pending (p : Port) (f : RxSt → RxSt) : (s.setRx p f).pending = s.pending := rfl
@[simp] theorem setRx_clk (p : Port) (f : RxSt → RxSt) : (s.setRx p f).clk = s.clk := rfl
@[simp] theorem setRx_free (p : Port) (f : RxSt → RxSt) : (s.setRx p f).free = s.free := rfl
@[simp] theorem setRx_tb (p : Port) (f : RxSt → RxSt) : (s.setRx p f).tb = s.tb := rfl
@[simp] theorem setRx_tbFrac (p : Port) (f : RxSt → RxSt) : (s.setRx p f).tbFrac = s.tbFrac := rfl
@[simp] theorem setRx_mbox (p : Port) (f : RxSt → RxSt) : (s.setRx p f).mbox = s.mbox := rfl
@[simp] theorem setRx_cfg (p : Port) (f : RxSt → RxSt) : (s.setRx p f).cfg = s.cfg := rfl
@[simp] theorem setRx_pend (p : Port) (f : RxSt → RxSt) : (s.setRx p f).pend = s.pend := rfl
@[simp] theorem setRx_held (p : Port) (f : RxSt → RxSt) : (s.setRx p f).held = s.held := rfl
@[simp] theorem setRx_stats (p : Port) (f : RxSt → RxSt) : (s.setRx p f).stats = s.stats := rfl
@[simp] theorem setRx_start (p : Port) (f : RxSt → RxSt) : (s.setRx p f).start = s.start := rfl
@[simp] theorem setRx_power (p : Port) (f : RxSt → RxSt) : (s.setRx p f).power = s.power := rfl
@[simp] theorem setRx_life (p : Port) (f : RxSt → RxSt) : (s.setRx p f).life = s.life := rfl
@[simp] theorem setRx_banks (p : Port) (f : RxSt → RxSt) : (s.setRx p f).banks = s.banks := rfl
@[simp] theorem setRx_flash (p : Port) (f : RxSt → RxSt) : (s.setRx p f).flash = s.flash := rfl
@[simp] theorem setRx_grids (p : Port) (f : RxSt → RxSt) : (s.setRx p f).grids = s.grids := rfl
@[simp] theorem setRx_clove (p : Port) (f : RxSt → RxSt) : (s.setRx p f).clove = s.clove := rfl
@[simp] theorem setRx_detect (p : Port) (f : RxSt → RxSt) : (s.setRx p f).detect = s.detect := rfl
@[simp] theorem setRx_capture (p : Port) (f : RxSt → RxSt) : (s.setRx p f).capture = s.capture := rfl
@[simp] theorem setRx_house (p : Port) (f : RxSt → RxSt) : (s.setRx p f).house = s.house := rfl
@[simp] theorem setRx_link (p : Port) (f : RxSt → RxSt) : (s.setRx p f).link = s.link := rfl
@[simp] theorem setRx_sumac (p : Port) (f : RxSt → RxSt) : (s.setRx p f).sumac = s.sumac := rfl
@[simp] theorem setRx_time (p : Port) (f : RxSt → RxSt) : (s.setRx p f).time = s.time := rfl
@[simp] theorem setRx_cal (p : Port) (f : RxSt → RxSt) : (s.setRx p f).cal = s.cal := rfl

@[simp] theorem setGauge_pending (p : Port) (f : GaugeSt → GaugeSt) : (s.setGauge p f).pending = s.pending := rfl
@[simp] theorem setGauge_clk (p : Port) (f : GaugeSt → GaugeSt) : (s.setGauge p f).clk = s.clk := rfl
@[simp] theorem setGauge_free (p : Port) (f : GaugeSt → GaugeSt) : (s.setGauge p f).free = s.free := rfl
@[simp] theorem setGauge_tb (p : Port) (f : GaugeSt → GaugeSt) : (s.setGauge p f).tb = s.tb := rfl
@[simp] theorem setGauge_tbFrac (p : Port) (f : GaugeSt → GaugeSt) : (s.setGauge p f).tbFrac = s.tbFrac := rfl
@[simp] theorem setGauge_mbox (p : Port) (f : GaugeSt → GaugeSt) : (s.setGauge p f).mbox = s.mbox := rfl
@[simp] theorem setGauge_cfg (p : Port) (f : GaugeSt → GaugeSt) : (s.setGauge p f).cfg = s.cfg := rfl
@[simp] theorem setGauge_pend (p : Port) (f : GaugeSt → GaugeSt) : (s.setGauge p f).pend = s.pend := rfl
@[simp] theorem setGauge_held (p : Port) (f : GaugeSt → GaugeSt) : (s.setGauge p f).held = s.held := rfl
@[simp] theorem setGauge_stats (p : Port) (f : GaugeSt → GaugeSt) : (s.setGauge p f).stats = s.stats := rfl
@[simp] theorem setGauge_start (p : Port) (f : GaugeSt → GaugeSt) : (s.setGauge p f).start = s.start := rfl
@[simp] theorem setGauge_power (p : Port) (f : GaugeSt → GaugeSt) : (s.setGauge p f).power = s.power := rfl
@[simp] theorem setGauge_life (p : Port) (f : GaugeSt → GaugeSt) : (s.setGauge p f).life = s.life := rfl
@[simp] theorem setGauge_banks (p : Port) (f : GaugeSt → GaugeSt) : (s.setGauge p f).banks = s.banks := rfl
@[simp] theorem setGauge_flash (p : Port) (f : GaugeSt → GaugeSt) : (s.setGauge p f).flash = s.flash := rfl
@[simp] theorem setGauge_grids (p : Port) (f : GaugeSt → GaugeSt) : (s.setGauge p f).grids = s.grids := rfl
@[simp] theorem setGauge_clove (p : Port) (f : GaugeSt → GaugeSt) : (s.setGauge p f).clove = s.clove := rfl
@[simp] theorem setGauge_detect (p : Port) (f : GaugeSt → GaugeSt) : (s.setGauge p f).detect = s.detect := rfl
@[simp] theorem setGauge_capture (p : Port) (f : GaugeSt → GaugeSt) : (s.setGauge p f).capture = s.capture := rfl
@[simp] theorem setGauge_house (p : Port) (f : GaugeSt → GaugeSt) : (s.setGauge p f).house = s.house := rfl
@[simp] theorem setGauge_link (p : Port) (f : GaugeSt → GaugeSt) : (s.setGauge p f).link = s.link := rfl
@[simp] theorem setGauge_sumac (p : Port) (f : GaugeSt → GaugeSt) : (s.setGauge p f).sumac = s.sumac := rfl
@[simp] theorem setGauge_time (p : Port) (f : GaugeSt → GaugeSt) : (s.setGauge p f).time = s.time := rfl
@[simp] theorem setGauge_cal (p : Port) (f : GaugeSt → GaugeSt) : (s.setGauge p f).cal = s.cal := rfl

@[simp] theorem setQueue_pending (p : Port) (f : QueueSt → QueueSt) : (s.setQueue p f).pending = s.pending := rfl
@[simp] theorem setQueue_clk (p : Port) (f : QueueSt → QueueSt) : (s.setQueue p f).clk = s.clk := rfl
@[simp] theorem setQueue_free (p : Port) (f : QueueSt → QueueSt) : (s.setQueue p f).free = s.free := rfl
@[simp] theorem setQueue_tb (p : Port) (f : QueueSt → QueueSt) : (s.setQueue p f).tb = s.tb := rfl
@[simp] theorem setQueue_tbFrac (p : Port) (f : QueueSt → QueueSt) : (s.setQueue p f).tbFrac = s.tbFrac := rfl
@[simp] theorem setQueue_mbox (p : Port) (f : QueueSt → QueueSt) : (s.setQueue p f).mbox = s.mbox := rfl
@[simp] theorem setQueue_cfg (p : Port) (f : QueueSt → QueueSt) : (s.setQueue p f).cfg = s.cfg := rfl
@[simp] theorem setQueue_pend (p : Port) (f : QueueSt → QueueSt) : (s.setQueue p f).pend = s.pend := rfl
@[simp] theorem setQueue_held (p : Port) (f : QueueSt → QueueSt) : (s.setQueue p f).held = s.held := rfl
@[simp] theorem setQueue_stats (p : Port) (f : QueueSt → QueueSt) : (s.setQueue p f).stats = s.stats := rfl
@[simp] theorem setQueue_start (p : Port) (f : QueueSt → QueueSt) : (s.setQueue p f).start = s.start := rfl
@[simp] theorem setQueue_power (p : Port) (f : QueueSt → QueueSt) : (s.setQueue p f).power = s.power := rfl
@[simp] theorem setQueue_life (p : Port) (f : QueueSt → QueueSt) : (s.setQueue p f).life = s.life := rfl
@[simp] theorem setQueue_banks (p : Port) (f : QueueSt → QueueSt) : (s.setQueue p f).banks = s.banks := rfl
@[simp] theorem setQueue_flash (p : Port) (f : QueueSt → QueueSt) : (s.setQueue p f).flash = s.flash := rfl
@[simp] theorem setQueue_grids (p : Port) (f : QueueSt → QueueSt) : (s.setQueue p f).grids = s.grids := rfl
@[simp] theorem setQueue_clove (p : Port) (f : QueueSt → QueueSt) : (s.setQueue p f).clove = s.clove := rfl
@[simp] theorem setQueue_detect (p : Port) (f : QueueSt → QueueSt) : (s.setQueue p f).detect = s.detect := rfl
@[simp] theorem setQueue_capture (p : Port) (f : QueueSt → QueueSt) : (s.setQueue p f).capture = s.capture := rfl
@[simp] theorem setQueue_house (p : Port) (f : QueueSt → QueueSt) : (s.setQueue p f).house = s.house := rfl
@[simp] theorem setQueue_link (p : Port) (f : QueueSt → QueueSt) : (s.setQueue p f).link = s.link := rfl
@[simp] theorem setQueue_sumac (p : Port) (f : QueueSt → QueueSt) : (s.setQueue p f).sumac = s.sumac := rfl
@[simp] theorem setQueue_time (p : Port) (f : QueueSt → QueueSt) : (s.setQueue p f).time = s.time := rfl
@[simp] theorem setQueue_cal (p : Port) (f : QueueSt → QueueSt) : (s.setQueue p f).cal = s.cal := rfl

@[simp] theorem setMbox_pending (f : MboxSt → MboxSt) : (s.setMbox f).pending = s.pending := rfl
@[simp] theorem setMbox_clk (f : MboxSt → MboxSt) : (s.setMbox f).clk = s.clk := rfl
@[simp] theorem setMbox_free (f : MboxSt → MboxSt) : (s.setMbox f).free = s.free := rfl
@[simp] theorem setMbox_tb (f : MboxSt → MboxSt) : (s.setMbox f).tb = s.tb := rfl
@[simp] theorem setMbox_tbFrac (f : MboxSt → MboxSt) : (s.setMbox f).tbFrac = s.tbFrac := rfl
@[simp] theorem setMbox_cfg (f : MboxSt → MboxSt) : (s.setMbox f).cfg = s.cfg := rfl
@[simp] theorem setMbox_pend (f : MboxSt → MboxSt) : (s.setMbox f).pend = s.pend := rfl
@[simp] theorem setMbox_held (f : MboxSt → MboxSt) : (s.setMbox f).held = s.held := rfl
@[simp] theorem setMbox_stats (f : MboxSt → MboxSt) : (s.setMbox f).stats = s.stats := rfl
@[simp] theorem setMbox_start (f : MboxSt → MboxSt) : (s.setMbox f).start = s.start := rfl
@[simp] theorem setMbox_power (f : MboxSt → MboxSt) : (s.setMbox f).power = s.power := rfl
@[simp] theorem setMbox_life (f : MboxSt → MboxSt) : (s.setMbox f).life = s.life := rfl
@[simp] theorem setMbox_banks (f : MboxSt → MboxSt) : (s.setMbox f).banks = s.banks := rfl
@[simp] theorem setMbox_flash (f : MboxSt → MboxSt) : (s.setMbox f).flash = s.flash := rfl
@[simp] theorem setMbox_ports (f : MboxSt → MboxSt) : (s.setMbox f).ports = s.ports := rfl
@[simp] theorem setMbox_grids (f : MboxSt → MboxSt) : (s.setMbox f).grids = s.grids := rfl
@[simp] theorem setMbox_clove (f : MboxSt → MboxSt) : (s.setMbox f).clove = s.clove := rfl
@[simp] theorem setMbox_detect (f : MboxSt → MboxSt) : (s.setMbox f).detect = s.detect := rfl
@[simp] theorem setMbox_capture (f : MboxSt → MboxSt) : (s.setMbox f).capture = s.capture := rfl
@[simp] theorem setMbox_house (f : MboxSt → MboxSt) : (s.setMbox f).house = s.house := rfl
@[simp] theorem setMbox_link (f : MboxSt → MboxSt) : (s.setMbox f).link = s.link := rfl
@[simp] theorem setMbox_sumac (f : MboxSt → MboxSt) : (s.setMbox f).sumac = s.sumac := rfl
@[simp] theorem setMbox_time (f : MboxSt → MboxSt) : (s.setMbox f).time = s.time := rfl
@[simp] theorem setMbox_cal (f : MboxSt → MboxSt) : (s.setMbox f).cal = s.cal := rfl
@[simp] theorem setMbox_mbox (f : MboxSt → MboxSt) : (s.setMbox f).mbox = f s.mbox := rfl

@[simp] theorem setPower_pending (f : PowerSt → PowerSt) : (s.setPower f).pending = s.pending := rfl
@[simp] theorem setPower_clk (f : PowerSt → PowerSt) : (s.setPower f).clk = s.clk := rfl
@[simp] theorem setPower_free (f : PowerSt → PowerSt) : (s.setPower f).free = s.free := rfl
@[simp] theorem setPower_tb (f : PowerSt → PowerSt) : (s.setPower f).tb = s.tb := rfl
@[simp] theorem setPower_tbFrac (f : PowerSt → PowerSt) : (s.setPower f).tbFrac = s.tbFrac := rfl
@[simp] theorem setPower_mbox (f : PowerSt → PowerSt) : (s.setPower f).mbox = s.mbox := rfl
@[simp] theorem setPower_cfg (f : PowerSt → PowerSt) : (s.setPower f).cfg = s.cfg := rfl
@[simp] theorem setPower_pend (f : PowerSt → PowerSt) : (s.setPower f).pend = s.pend := rfl
@[simp] theorem setPower_held (f : PowerSt → PowerSt) : (s.setPower f).held = s.held := rfl
@[simp] theorem setPower_stats (f : PowerSt → PowerSt) : (s.setPower f).stats = s.stats := rfl
@[simp] theorem setPower_start (f : PowerSt → PowerSt) : (s.setPower f).start = s.start := rfl
@[simp] theorem setPower_life (f : PowerSt → PowerSt) : (s.setPower f).life = s.life := rfl
@[simp] theorem setPower_banks (f : PowerSt → PowerSt) : (s.setPower f).banks = s.banks := rfl
@[simp] theorem setPower_flash (f : PowerSt → PowerSt) : (s.setPower f).flash = s.flash := rfl
@[simp] theorem setPower_ports (f : PowerSt → PowerSt) : (s.setPower f).ports = s.ports := rfl
@[simp] theorem setPower_grids (f : PowerSt → PowerSt) : (s.setPower f).grids = s.grids := rfl
@[simp] theorem setPower_clove (f : PowerSt → PowerSt) : (s.setPower f).clove = s.clove := rfl
@[simp] theorem setPower_detect (f : PowerSt → PowerSt) : (s.setPower f).detect = s.detect := rfl
@[simp] theorem setPower_capture (f : PowerSt → PowerSt) : (s.setPower f).capture = s.capture := rfl
@[simp] theorem setPower_house (f : PowerSt → PowerSt) : (s.setPower f).house = s.house := rfl
@[simp] theorem setPower_link (f : PowerSt → PowerSt) : (s.setPower f).link = s.link := rfl
@[simp] theorem setPower_sumac (f : PowerSt → PowerSt) : (s.setPower f).sumac = s.sumac := rfl
@[simp] theorem setPower_time (f : PowerSt → PowerSt) : (s.setPower f).time = s.time := rfl
@[simp] theorem setPower_cal (f : PowerSt → PowerSt) : (s.setPower f).cal = s.cal := rfl
@[simp] theorem setPower_power (f : PowerSt → PowerSt) : (s.setPower f).power = f s.power := rfl

@[simp] theorem setStart_pending (f : StartSt → StartSt) : (s.setStart f).pending = s.pending := rfl
@[simp] theorem setStart_clk (f : StartSt → StartSt) : (s.setStart f).clk = s.clk := rfl
@[simp] theorem setStart_free (f : StartSt → StartSt) : (s.setStart f).free = s.free := rfl
@[simp] theorem setStart_tb (f : StartSt → StartSt) : (s.setStart f).tb = s.tb := rfl
@[simp] theorem setStart_tbFrac (f : StartSt → StartSt) : (s.setStart f).tbFrac = s.tbFrac := rfl
@[simp] theorem setStart_mbox (f : StartSt → StartSt) : (s.setStart f).mbox = s.mbox := rfl
@[simp] theorem setStart_cfg (f : StartSt → StartSt) : (s.setStart f).cfg = s.cfg := rfl
@[simp] theorem setStart_pend (f : StartSt → StartSt) : (s.setStart f).pend = s.pend := rfl
@[simp] theorem setStart_held (f : StartSt → StartSt) : (s.setStart f).held = s.held := rfl
@[simp] theorem setStart_stats (f : StartSt → StartSt) : (s.setStart f).stats = s.stats := rfl
@[simp] theorem setStart_power (f : StartSt → StartSt) : (s.setStart f).power = s.power := rfl
@[simp] theorem setStart_life (f : StartSt → StartSt) : (s.setStart f).life = s.life := rfl
@[simp] theorem setStart_banks (f : StartSt → StartSt) : (s.setStart f).banks = s.banks := rfl
@[simp] theorem setStart_flash (f : StartSt → StartSt) : (s.setStart f).flash = s.flash := rfl
@[simp] theorem setStart_ports (f : StartSt → StartSt) : (s.setStart f).ports = s.ports := rfl
@[simp] theorem setStart_grids (f : StartSt → StartSt) : (s.setStart f).grids = s.grids := rfl
@[simp] theorem setStart_clove (f : StartSt → StartSt) : (s.setStart f).clove = s.clove := rfl
@[simp] theorem setStart_detect (f : StartSt → StartSt) : (s.setStart f).detect = s.detect := rfl
@[simp] theorem setStart_capture (f : StartSt → StartSt) : (s.setStart f).capture = s.capture := rfl
@[simp] theorem setStart_house (f : StartSt → StartSt) : (s.setStart f).house = s.house := rfl
@[simp] theorem setStart_link (f : StartSt → StartSt) : (s.setStart f).link = s.link := rfl
@[simp] theorem setStart_sumac (f : StartSt → StartSt) : (s.setStart f).sumac = s.sumac := rfl
@[simp] theorem setStart_time (f : StartSt → StartSt) : (s.setStart f).time = s.time := rfl
@[simp] theorem setStart_cal (f : StartSt → StartSt) : (s.setStart f).cal = s.cal := rfl
@[simp] theorem setStart_start (f : StartSt → StartSt) : (s.setStart f).start = f s.start := rfl

@[simp] theorem setLife_pending (f : LifeSt → LifeSt) : (s.setLife f).pending = s.pending := rfl
@[simp] theorem setLife_clk (f : LifeSt → LifeSt) : (s.setLife f).clk = s.clk := rfl
@[simp] theorem setLife_free (f : LifeSt → LifeSt) : (s.setLife f).free = s.free := rfl
@[simp] theorem setLife_tb (f : LifeSt → LifeSt) : (s.setLife f).tb = s.tb := rfl
@[simp] theorem setLife_tbFrac (f : LifeSt → LifeSt) : (s.setLife f).tbFrac = s.tbFrac := rfl
@[simp] theorem setLife_mbox (f : LifeSt → LifeSt) : (s.setLife f).mbox = s.mbox := rfl
@[simp] theorem setLife_cfg (f : LifeSt → LifeSt) : (s.setLife f).cfg = s.cfg := rfl
@[simp] theorem setLife_pend (f : LifeSt → LifeSt) : (s.setLife f).pend = s.pend := rfl
@[simp] theorem setLife_held (f : LifeSt → LifeSt) : (s.setLife f).held = s.held := rfl
@[simp] theorem setLife_stats (f : LifeSt → LifeSt) : (s.setLife f).stats = s.stats := rfl
@[simp] theorem setLife_start (f : LifeSt → LifeSt) : (s.setLife f).start = s.start := rfl
@[simp] theorem setLife_power (f : LifeSt → LifeSt) : (s.setLife f).power = s.power := rfl
@[simp] theorem setLife_banks (f : LifeSt → LifeSt) : (s.setLife f).banks = s.banks := rfl
@[simp] theorem setLife_flash (f : LifeSt → LifeSt) : (s.setLife f).flash = s.flash := rfl
@[simp] theorem setLife_ports (f : LifeSt → LifeSt) : (s.setLife f).ports = s.ports := rfl
@[simp] theorem setLife_grids (f : LifeSt → LifeSt) : (s.setLife f).grids = s.grids := rfl
@[simp] theorem setLife_clove (f : LifeSt → LifeSt) : (s.setLife f).clove = s.clove := rfl
@[simp] theorem setLife_detect (f : LifeSt → LifeSt) : (s.setLife f).detect = s.detect := rfl
@[simp] theorem setLife_capture (f : LifeSt → LifeSt) : (s.setLife f).capture = s.capture := rfl
@[simp] theorem setLife_house (f : LifeSt → LifeSt) : (s.setLife f).house = s.house := rfl
@[simp] theorem setLife_link (f : LifeSt → LifeSt) : (s.setLife f).link = s.link := rfl
@[simp] theorem setLife_sumac (f : LifeSt → LifeSt) : (s.setLife f).sumac = s.sumac := rfl
@[simp] theorem setLife_time (f : LifeSt → LifeSt) : (s.setLife f).time = s.time := rfl
@[simp] theorem setLife_cal (f : LifeSt → LifeSt) : (s.setLife f).cal = s.cal := rfl
@[simp] theorem setLife_life (f : LifeSt → LifeSt) : (s.setLife f).life = f s.life := rfl

@[simp] theorem setCapture_pending (f : CaptureSt → CaptureSt) : (s.setCapture f).pending = s.pending := rfl
@[simp] theorem setCapture_clk (f : CaptureSt → CaptureSt) : (s.setCapture f).clk = s.clk := rfl
@[simp] theorem setCapture_free (f : CaptureSt → CaptureSt) : (s.setCapture f).free = s.free := rfl
@[simp] theorem setCapture_tb (f : CaptureSt → CaptureSt) : (s.setCapture f).tb = s.tb := rfl
@[simp] theorem setCapture_tbFrac (f : CaptureSt → CaptureSt) : (s.setCapture f).tbFrac = s.tbFrac := rfl
@[simp] theorem setCapture_mbox (f : CaptureSt → CaptureSt) : (s.setCapture f).mbox = s.mbox := rfl
@[simp] theorem setCapture_cfg (f : CaptureSt → CaptureSt) : (s.setCapture f).cfg = s.cfg := rfl
@[simp] theorem setCapture_pend (f : CaptureSt → CaptureSt) : (s.setCapture f).pend = s.pend := rfl
@[simp] theorem setCapture_held (f : CaptureSt → CaptureSt) : (s.setCapture f).held = s.held := rfl
@[simp] theorem setCapture_stats (f : CaptureSt → CaptureSt) : (s.setCapture f).stats = s.stats := rfl
@[simp] theorem setCapture_start (f : CaptureSt → CaptureSt) : (s.setCapture f).start = s.start := rfl
@[simp] theorem setCapture_power (f : CaptureSt → CaptureSt) : (s.setCapture f).power = s.power := rfl
@[simp] theorem setCapture_life (f : CaptureSt → CaptureSt) : (s.setCapture f).life = s.life := rfl
@[simp] theorem setCapture_banks (f : CaptureSt → CaptureSt) : (s.setCapture f).banks = s.banks := rfl
@[simp] theorem setCapture_flash (f : CaptureSt → CaptureSt) : (s.setCapture f).flash = s.flash := rfl
@[simp] theorem setCapture_ports (f : CaptureSt → CaptureSt) : (s.setCapture f).ports = s.ports := rfl
@[simp] theorem setCapture_grids (f : CaptureSt → CaptureSt) : (s.setCapture f).grids = s.grids := rfl
@[simp] theorem setCapture_clove (f : CaptureSt → CaptureSt) : (s.setCapture f).clove = s.clove := rfl
@[simp] theorem setCapture_detect (f : CaptureSt → CaptureSt) : (s.setCapture f).detect = s.detect := rfl
@[simp] theorem setCapture_house (f : CaptureSt → CaptureSt) : (s.setCapture f).house = s.house := rfl
@[simp] theorem setCapture_link (f : CaptureSt → CaptureSt) : (s.setCapture f).link = s.link := rfl
@[simp] theorem setCapture_sumac (f : CaptureSt → CaptureSt) : (s.setCapture f).sumac = s.sumac := rfl
@[simp] theorem setCapture_time (f : CaptureSt → CaptureSt) : (s.setCapture f).time = s.time := rfl
@[simp] theorem setCapture_cal (f : CaptureSt → CaptureSt) : (s.setCapture f).cal = s.cal := rfl
@[simp] theorem setCapture_capture (f : CaptureSt → CaptureSt) : (s.setCapture f).capture = f s.capture := rfl

@[simp] theorem setDetect_pending (f : DetectSt → DetectSt) : (s.setDetect f).pending = s.pending := rfl
@[simp] theorem setDetect_clk (f : DetectSt → DetectSt) : (s.setDetect f).clk = s.clk := rfl
@[simp] theorem setDetect_free (f : DetectSt → DetectSt) : (s.setDetect f).free = s.free := rfl
@[simp] theorem setDetect_tb (f : DetectSt → DetectSt) : (s.setDetect f).tb = s.tb := rfl
@[simp] theorem setDetect_tbFrac (f : DetectSt → DetectSt) : (s.setDetect f).tbFrac = s.tbFrac := rfl
@[simp] theorem setDetect_mbox (f : DetectSt → DetectSt) : (s.setDetect f).mbox = s.mbox := rfl
@[simp] theorem setDetect_cfg (f : DetectSt → DetectSt) : (s.setDetect f).cfg = s.cfg := rfl
@[simp] theorem setDetect_pend (f : DetectSt → DetectSt) : (s.setDetect f).pend = s.pend := rfl
@[simp] theorem setDetect_held (f : DetectSt → DetectSt) : (s.setDetect f).held = s.held := rfl
@[simp] theorem setDetect_stats (f : DetectSt → DetectSt) : (s.setDetect f).stats = s.stats := rfl
@[simp] theorem setDetect_start (f : DetectSt → DetectSt) : (s.setDetect f).start = s.start := rfl
@[simp] theorem setDetect_power (f : DetectSt → DetectSt) : (s.setDetect f).power = s.power := rfl
@[simp] theorem setDetect_life (f : DetectSt → DetectSt) : (s.setDetect f).life = s.life := rfl
@[simp] theorem setDetect_banks (f : DetectSt → DetectSt) : (s.setDetect f).banks = s.banks := rfl
@[simp] theorem setDetect_flash (f : DetectSt → DetectSt) : (s.setDetect f).flash = s.flash := rfl
@[simp] theorem setDetect_ports (f : DetectSt → DetectSt) : (s.setDetect f).ports = s.ports := rfl
@[simp] theorem setDetect_grids (f : DetectSt → DetectSt) : (s.setDetect f).grids = s.grids := rfl
@[simp] theorem setDetect_clove (f : DetectSt → DetectSt) : (s.setDetect f).clove = s.clove := rfl
@[simp] theorem setDetect_capture (f : DetectSt → DetectSt) : (s.setDetect f).capture = s.capture := rfl
@[simp] theorem setDetect_house (f : DetectSt → DetectSt) : (s.setDetect f).house = s.house := rfl
@[simp] theorem setDetect_link (f : DetectSt → DetectSt) : (s.setDetect f).link = s.link := rfl
@[simp] theorem setDetect_sumac (f : DetectSt → DetectSt) : (s.setDetect f).sumac = s.sumac := rfl
@[simp] theorem setDetect_time (f : DetectSt → DetectSt) : (s.setDetect f).time = s.time := rfl
@[simp] theorem setDetect_cal (f : DetectSt → DetectSt) : (s.setDetect f).cal = s.cal := rfl
@[simp] theorem setDetect_detect (f : DetectSt → DetectSt) : (s.setDetect f).detect = f s.detect := rfl

@[simp] theorem setHouse_pending (f : HouseSt → HouseSt) : (s.setHouse f).pending = s.pending := rfl
@[simp] theorem setHouse_clk (f : HouseSt → HouseSt) : (s.setHouse f).clk = s.clk := rfl
@[simp] theorem setHouse_free (f : HouseSt → HouseSt) : (s.setHouse f).free = s.free := rfl
@[simp] theorem setHouse_tb (f : HouseSt → HouseSt) : (s.setHouse f).tb = s.tb := rfl
@[simp] theorem setHouse_tbFrac (f : HouseSt → HouseSt) : (s.setHouse f).tbFrac = s.tbFrac := rfl
@[simp] theorem setHouse_mbox (f : HouseSt → HouseSt) : (s.setHouse f).mbox = s.mbox := rfl
@[simp] theorem setHouse_cfg (f : HouseSt → HouseSt) : (s.setHouse f).cfg = s.cfg := rfl
@[simp] theorem setHouse_pend (f : HouseSt → HouseSt) : (s.setHouse f).pend = s.pend := rfl
@[simp] theorem setHouse_held (f : HouseSt → HouseSt) : (s.setHouse f).held = s.held := rfl
@[simp] theorem setHouse_stats (f : HouseSt → HouseSt) : (s.setHouse f).stats = s.stats := rfl
@[simp] theorem setHouse_start (f : HouseSt → HouseSt) : (s.setHouse f).start = s.start := rfl
@[simp] theorem setHouse_power (f : HouseSt → HouseSt) : (s.setHouse f).power = s.power := rfl
@[simp] theorem setHouse_life (f : HouseSt → HouseSt) : (s.setHouse f).life = s.life := rfl
@[simp] theorem setHouse_banks (f : HouseSt → HouseSt) : (s.setHouse f).banks = s.banks := rfl
@[simp] theorem setHouse_flash (f : HouseSt → HouseSt) : (s.setHouse f).flash = s.flash := rfl
@[simp] theorem setHouse_ports (f : HouseSt → HouseSt) : (s.setHouse f).ports = s.ports := rfl
@[simp] theorem setHouse_grids (f : HouseSt → HouseSt) : (s.setHouse f).grids = s.grids := rfl
@[simp] theorem setHouse_clove (f : HouseSt → HouseSt) : (s.setHouse f).clove = s.clove := rfl
@[simp] theorem setHouse_detect (f : HouseSt → HouseSt) : (s.setHouse f).detect = s.detect := rfl
@[simp] theorem setHouse_capture (f : HouseSt → HouseSt) : (s.setHouse f).capture = s.capture := rfl
@[simp] theorem setHouse_link (f : HouseSt → HouseSt) : (s.setHouse f).link = s.link := rfl
@[simp] theorem setHouse_sumac (f : HouseSt → HouseSt) : (s.setHouse f).sumac = s.sumac := rfl
@[simp] theorem setHouse_time (f : HouseSt → HouseSt) : (s.setHouse f).time = s.time := rfl
@[simp] theorem setHouse_cal (f : HouseSt → HouseSt) : (s.setHouse f).cal = s.cal := rfl
@[simp] theorem setHouse_house (f : HouseSt → HouseSt) : (s.setHouse f).house = f s.house := rfl

@[simp] theorem setClove_pending (f : CloveSt → CloveSt) : (s.setClove f).pending = s.pending := rfl
@[simp] theorem setClove_clk (f : CloveSt → CloveSt) : (s.setClove f).clk = s.clk := rfl
@[simp] theorem setClove_free (f : CloveSt → CloveSt) : (s.setClove f).free = s.free := rfl
@[simp] theorem setClove_tb (f : CloveSt → CloveSt) : (s.setClove f).tb = s.tb := rfl
@[simp] theorem setClove_tbFrac (f : CloveSt → CloveSt) : (s.setClove f).tbFrac = s.tbFrac := rfl
@[simp] theorem setClove_mbox (f : CloveSt → CloveSt) : (s.setClove f).mbox = s.mbox := rfl
@[simp] theorem setClove_cfg (f : CloveSt → CloveSt) : (s.setClove f).cfg = s.cfg := rfl
@[simp] theorem setClove_pend (f : CloveSt → CloveSt) : (s.setClove f).pend = s.pend := rfl
@[simp] theorem setClove_held (f : CloveSt → CloveSt) : (s.setClove f).held = s.held := rfl
@[simp] theorem setClove_stats (f : CloveSt → CloveSt) : (s.setClove f).stats = s.stats := rfl
@[simp] theorem setClove_start (f : CloveSt → CloveSt) : (s.setClove f).start = s.start := rfl
@[simp] theorem setClove_power (f : CloveSt → CloveSt) : (s.setClove f).power = s.power := rfl
@[simp] theorem setClove_life (f : CloveSt → CloveSt) : (s.setClove f).life = s.life := rfl
@[simp] theorem setClove_banks (f : CloveSt → CloveSt) : (s.setClove f).banks = s.banks := rfl
@[simp] theorem setClove_flash (f : CloveSt → CloveSt) : (s.setClove f).flash = s.flash := rfl
@[simp] theorem setClove_ports (f : CloveSt → CloveSt) : (s.setClove f).ports = s.ports := rfl
@[simp] theorem setClove_grids (f : CloveSt → CloveSt) : (s.setClove f).grids = s.grids := rfl
@[simp] theorem setClove_detect (f : CloveSt → CloveSt) : (s.setClove f).detect = s.detect := rfl
@[simp] theorem setClove_capture (f : CloveSt → CloveSt) : (s.setClove f).capture = s.capture := rfl
@[simp] theorem setClove_house (f : CloveSt → CloveSt) : (s.setClove f).house = s.house := rfl
@[simp] theorem setClove_link (f : CloveSt → CloveSt) : (s.setClove f).link = s.link := rfl
@[simp] theorem setClove_sumac (f : CloveSt → CloveSt) : (s.setClove f).sumac = s.sumac := rfl
@[simp] theorem setClove_time (f : CloveSt → CloveSt) : (s.setClove f).time = s.time := rfl
@[simp] theorem setClove_cal (f : CloveSt → CloveSt) : (s.setClove f).cal = s.cal := rfl
@[simp] theorem setClove_clove (f : CloveSt → CloveSt) : (s.setClove f).clove = f s.clove := rfl

@[simp] theorem setGrid_pending (i : Fin 12) (f : Grid → Grid) : (s.setGrid i f).pending = s.pending := rfl
@[simp] theorem setGrid_clk (i : Fin 12) (f : Grid → Grid) : (s.setGrid i f).clk = s.clk := rfl
@[simp] theorem setGrid_free (i : Fin 12) (f : Grid → Grid) : (s.setGrid i f).free = s.free := rfl
@[simp] theorem setGrid_tb (i : Fin 12) (f : Grid → Grid) : (s.setGrid i f).tb = s.tb := rfl
@[simp] theorem setGrid_tbFrac (i : Fin 12) (f : Grid → Grid) : (s.setGrid i f).tbFrac = s.tbFrac := rfl
@[simp] theorem setGrid_mbox (i : Fin 12) (f : Grid → Grid) : (s.setGrid i f).mbox = s.mbox := rfl
@[simp] theorem setGrid_cfg (i : Fin 12) (f : Grid → Grid) : (s.setGrid i f).cfg = s.cfg := rfl
@[simp] theorem setGrid_pend (i : Fin 12) (f : Grid → Grid) : (s.setGrid i f).pend = s.pend := rfl
@[simp] theorem setGrid_held (i : Fin 12) (f : Grid → Grid) : (s.setGrid i f).held = s.held := rfl
@[simp] theorem setGrid_stats (i : Fin 12) (f : Grid → Grid) : (s.setGrid i f).stats = s.stats := rfl
@[simp] theorem setGrid_start (i : Fin 12) (f : Grid → Grid) : (s.setGrid i f).start = s.start := rfl
@[simp] theorem setGrid_power (i : Fin 12) (f : Grid → Grid) : (s.setGrid i f).power = s.power := rfl
@[simp] theorem setGrid_life (i : Fin 12) (f : Grid → Grid) : (s.setGrid i f).life = s.life := rfl
@[simp] theorem setGrid_banks (i : Fin 12) (f : Grid → Grid) : (s.setGrid i f).banks = s.banks := rfl
@[simp] theorem setGrid_flash (i : Fin 12) (f : Grid → Grid) : (s.setGrid i f).flash = s.flash := rfl
@[simp] theorem setGrid_ports (i : Fin 12) (f : Grid → Grid) : (s.setGrid i f).ports = s.ports := rfl
@[simp] theorem setGrid_clove (i : Fin 12) (f : Grid → Grid) : (s.setGrid i f).clove = s.clove := rfl
@[simp] theorem setGrid_detect (i : Fin 12) (f : Grid → Grid) : (s.setGrid i f).detect = s.detect := rfl
@[simp] theorem setGrid_capture (i : Fin 12) (f : Grid → Grid) : (s.setGrid i f).capture = s.capture := rfl
@[simp] theorem setGrid_house (i : Fin 12) (f : Grid → Grid) : (s.setGrid i f).house = s.house := rfl
@[simp] theorem setGrid_link (i : Fin 12) (f : Grid → Grid) : (s.setGrid i f).link = s.link := rfl
@[simp] theorem setGrid_sumac (i : Fin 12) (f : Grid → Grid) : (s.setGrid i f).sumac = s.sumac := rfl
@[simp] theorem setGrid_time (i : Fin 12) (f : Grid → Grid) : (s.setGrid i f).time = s.time := rfl
@[simp] theorem setGrid_cal (i : Fin 12) (f : Grid → Grid) : (s.setGrid i f).cal = s.cal := rfl

@[simp] theorem setEngine_pending (e : EngineId) (f : EngineSt → EngineSt) : (s.setEngine e f).pending = s.pending := rfl
@[simp] theorem setEngine_clk (e : EngineId) (f : EngineSt → EngineSt) : (s.setEngine e f).clk = s.clk := rfl
@[simp] theorem setEngine_free (e : EngineId) (f : EngineSt → EngineSt) : (s.setEngine e f).free = s.free := rfl
@[simp] theorem setEngine_tb (e : EngineId) (f : EngineSt → EngineSt) : (s.setEngine e f).tb = s.tb := rfl
@[simp] theorem setEngine_tbFrac (e : EngineId) (f : EngineSt → EngineSt) : (s.setEngine e f).tbFrac = s.tbFrac := rfl
@[simp] theorem setEngine_mbox (e : EngineId) (f : EngineSt → EngineSt) : (s.setEngine e f).mbox = s.mbox := rfl
@[simp] theorem setEngine_cfg (e : EngineId) (f : EngineSt → EngineSt) : (s.setEngine e f).cfg = s.cfg := rfl
@[simp] theorem setEngine_pend (e : EngineId) (f : EngineSt → EngineSt) : (s.setEngine e f).pend = s.pend := rfl
@[simp] theorem setEngine_held (e : EngineId) (f : EngineSt → EngineSt) : (s.setEngine e f).held = s.held := rfl
@[simp] theorem setEngine_stats (e : EngineId) (f : EngineSt → EngineSt) : (s.setEngine e f).stats = s.stats := rfl
@[simp] theorem setEngine_start (e : EngineId) (f : EngineSt → EngineSt) : (s.setEngine e f).start = s.start := rfl
@[simp] theorem setEngine_power (e : EngineId) (f : EngineSt → EngineSt) : (s.setEngine e f).power = s.power := rfl
@[simp] theorem setEngine_life (e : EngineId) (f : EngineSt → EngineSt) : (s.setEngine e f).life = s.life := rfl
@[simp] theorem setEngine_banks (e : EngineId) (f : EngineSt → EngineSt) : (s.setEngine e f).banks = s.banks := rfl
@[simp] theorem setEngine_flash (e : EngineId) (f : EngineSt → EngineSt) : (s.setEngine e f).flash = s.flash := rfl
@[simp] theorem setEngine_ports (e : EngineId) (f : EngineSt → EngineSt) : (s.setEngine e f).ports = s.ports := rfl
@[simp] theorem setEngine_grids (e : EngineId) (f : EngineSt → EngineSt) : (s.setEngine e f).grids = s.grids := rfl
@[simp] theorem setEngine_detect (e : EngineId) (f : EngineSt → EngineSt) : (s.setEngine e f).detect = s.detect := rfl
@[simp] theorem setEngine_capture (e : EngineId) (f : EngineSt → EngineSt) : (s.setEngine e f).capture = s.capture := rfl
@[simp] theorem setEngine_house (e : EngineId) (f : EngineSt → EngineSt) : (s.setEngine e f).house = s.house := rfl
@[simp] theorem setEngine_link (e : EngineId) (f : EngineSt → EngineSt) : (s.setEngine e f).link = s.link := rfl
@[simp] theorem setEngine_sumac (e : EngineId) (f : EngineSt → EngineSt) : (s.setEngine e f).sumac = s.sumac := rfl
@[simp] theorem setEngine_time (e : EngineId) (f : EngineSt → EngineSt) : (s.setEngine e f).time = s.time := rfl
@[simp] theorem setEngine_cal (e : EngineId) (f : EngineSt → EngineSt) : (s.setEngine e f).cal = s.cal := rfl

@[simp] theorem setCluster_pending (c : Port) (f : ClusterSt → ClusterSt) : (s.setCluster c f).pending = s.pending := rfl
@[simp] theorem setCluster_clk (c : Port) (f : ClusterSt → ClusterSt) : (s.setCluster c f).clk = s.clk := rfl
@[simp] theorem setCluster_free (c : Port) (f : ClusterSt → ClusterSt) : (s.setCluster c f).free = s.free := rfl
@[simp] theorem setCluster_tb (c : Port) (f : ClusterSt → ClusterSt) : (s.setCluster c f).tb = s.tb := rfl
@[simp] theorem setCluster_tbFrac (c : Port) (f : ClusterSt → ClusterSt) : (s.setCluster c f).tbFrac = s.tbFrac := rfl
@[simp] theorem setCluster_mbox (c : Port) (f : ClusterSt → ClusterSt) : (s.setCluster c f).mbox = s.mbox := rfl
@[simp] theorem setCluster_cfg (c : Port) (f : ClusterSt → ClusterSt) : (s.setCluster c f).cfg = s.cfg := rfl
@[simp] theorem setCluster_pend (c : Port) (f : ClusterSt → ClusterSt) : (s.setCluster c f).pend = s.pend := rfl
@[simp] theorem setCluster_held (c : Port) (f : ClusterSt → ClusterSt) : (s.setCluster c f).held = s.held := rfl
@[simp] theorem setCluster_stats (c : Port) (f : ClusterSt → ClusterSt) : (s.setCluster c f).stats = s.stats := rfl
@[simp] theorem setCluster_start (c : Port) (f : ClusterSt → ClusterSt) : (s.setCluster c f).start = s.start := rfl
@[simp] theorem setCluster_power (c : Port) (f : ClusterSt → ClusterSt) : (s.setCluster c f).power = s.power := rfl
@[simp] theorem setCluster_life (c : Port) (f : ClusterSt → ClusterSt) : (s.setCluster c f).life = s.life := rfl
@[simp] theorem setCluster_banks (c : Port) (f : ClusterSt → ClusterSt) : (s.setCluster c f).banks = s.banks := rfl
@[simp] theorem setCluster_flash (c : Port) (f : ClusterSt → ClusterSt) : (s.setCluster c f).flash = s.flash := rfl
@[simp] theorem setCluster_ports (c : Port) (f : ClusterSt → ClusterSt) : (s.setCluster c f).ports = s.ports := rfl
@[simp] theorem setCluster_grids (c : Port) (f : ClusterSt → ClusterSt) : (s.setCluster c f).grids = s.grids := rfl
@[simp] theorem setCluster_detect (c : Port) (f : ClusterSt → ClusterSt) : (s.setCluster c f).detect = s.detect := rfl
@[simp] theorem setCluster_capture (c : Port) (f : ClusterSt → ClusterSt) : (s.setCluster c f).capture = s.capture := rfl
@[simp] theorem setCluster_house (c : Port) (f : ClusterSt → ClusterSt) : (s.setCluster c f).house = s.house := rfl
@[simp] theorem setCluster_link (c : Port) (f : ClusterSt → ClusterSt) : (s.setCluster c f).link = s.link := rfl
@[simp] theorem setCluster_sumac (c : Port) (f : ClusterSt → ClusterSt) : (s.setCluster c f).sumac = s.sumac := rfl
@[simp] theorem setCluster_time (c : Port) (f : ClusterSt → ClusterSt) : (s.setCluster c f).time = s.time := rfl
@[simp] theorem setCluster_cal (c : Port) (f : ClusterSt → ClusterSt) : (s.setCluster c f).cal = s.cal := rfl

@[simp] theorem setLink_pending (f : LinkSt → LinkSt) : (s.setLink f).pending = s.pending := rfl
@[simp] theorem setLink_clk (f : LinkSt → LinkSt) : (s.setLink f).clk = s.clk := rfl
@[simp] theorem setLink_free (f : LinkSt → LinkSt) : (s.setLink f).free = s.free := rfl
@[simp] theorem setLink_tb (f : LinkSt → LinkSt) : (s.setLink f).tb = s.tb := rfl
@[simp] theorem setLink_tbFrac (f : LinkSt → LinkSt) : (s.setLink f).tbFrac = s.tbFrac := rfl
@[simp] theorem setLink_mbox (f : LinkSt → LinkSt) : (s.setLink f).mbox = s.mbox := rfl
@[simp] theorem setLink_cfg (f : LinkSt → LinkSt) : (s.setLink f).cfg = s.cfg := rfl
@[simp] theorem setLink_pend (f : LinkSt → LinkSt) : (s.setLink f).pend = s.pend := rfl
@[simp] theorem setLink_held (f : LinkSt → LinkSt) : (s.setLink f).held = s.held := rfl
@[simp] theorem setLink_stats (f : LinkSt → LinkSt) : (s.setLink f).stats = s.stats := rfl
@[simp] theorem setLink_start (f : LinkSt → LinkSt) : (s.setLink f).start = s.start := rfl
@[simp] theorem setLink_power (f : LinkSt → LinkSt) : (s.setLink f).power = s.power := rfl
@[simp] theorem setLink_life (f : LinkSt → LinkSt) : (s.setLink f).life = s.life := rfl
@[simp] theorem setLink_banks (f : LinkSt → LinkSt) : (s.setLink f).banks = s.banks := rfl
@[simp] theorem setLink_flash (f : LinkSt → LinkSt) : (s.setLink f).flash = s.flash := rfl
@[simp] theorem setLink_ports (f : LinkSt → LinkSt) : (s.setLink f).ports = s.ports := rfl
@[simp] theorem setLink_grids (f : LinkSt → LinkSt) : (s.setLink f).grids = s.grids := rfl
@[simp] theorem setLink_clove (f : LinkSt → LinkSt) : (s.setLink f).clove = s.clove := rfl
@[simp] theorem setLink_detect (f : LinkSt → LinkSt) : (s.setLink f).detect = s.detect := rfl
@[simp] theorem setLink_capture (f : LinkSt → LinkSt) : (s.setLink f).capture = s.capture := rfl
@[simp] theorem setLink_house (f : LinkSt → LinkSt) : (s.setLink f).house = s.house := rfl
@[simp] theorem setLink_sumac (f : LinkSt → LinkSt) : (s.setLink f).sumac = s.sumac := rfl
@[simp] theorem setLink_time (f : LinkSt → LinkSt) : (s.setLink f).time = s.time := rfl
@[simp] theorem setLink_cal (f : LinkSt → LinkSt) : (s.setLink f).cal = s.cal := rfl
@[simp] theorem setLink_link (f : LinkSt → LinkSt) : (s.setLink f).link = f s.link := rfl

@[simp] theorem setTime_pending (f : TimeSt → TimeSt) : (s.setTime f).pending = s.pending := rfl
@[simp] theorem setTime_clk (f : TimeSt → TimeSt) : (s.setTime f).clk = s.clk := rfl
@[simp] theorem setTime_free (f : TimeSt → TimeSt) : (s.setTime f).free = s.free := rfl
@[simp] theorem setTime_tb (f : TimeSt → TimeSt) : (s.setTime f).tb = s.tb := rfl
@[simp] theorem setTime_tbFrac (f : TimeSt → TimeSt) : (s.setTime f).tbFrac = s.tbFrac := rfl
@[simp] theorem setTime_mbox (f : TimeSt → TimeSt) : (s.setTime f).mbox = s.mbox := rfl
@[simp] theorem setTime_cfg (f : TimeSt → TimeSt) : (s.setTime f).cfg = s.cfg := rfl
@[simp] theorem setTime_pend (f : TimeSt → TimeSt) : (s.setTime f).pend = s.pend := rfl
@[simp] theorem setTime_held (f : TimeSt → TimeSt) : (s.setTime f).held = s.held := rfl
@[simp] theorem setTime_stats (f : TimeSt → TimeSt) : (s.setTime f).stats = s.stats := rfl
@[simp] theorem setTime_start (f : TimeSt → TimeSt) : (s.setTime f).start = s.start := rfl
@[simp] theorem setTime_power (f : TimeSt → TimeSt) : (s.setTime f).power = s.power := rfl
@[simp] theorem setTime_life (f : TimeSt → TimeSt) : (s.setTime f).life = s.life := rfl
@[simp] theorem setTime_banks (f : TimeSt → TimeSt) : (s.setTime f).banks = s.banks := rfl
@[simp] theorem setTime_flash (f : TimeSt → TimeSt) : (s.setTime f).flash = s.flash := rfl
@[simp] theorem setTime_ports (f : TimeSt → TimeSt) : (s.setTime f).ports = s.ports := rfl
@[simp] theorem setTime_grids (f : TimeSt → TimeSt) : (s.setTime f).grids = s.grids := rfl
@[simp] theorem setTime_clove (f : TimeSt → TimeSt) : (s.setTime f).clove = s.clove := rfl
@[simp] theorem setTime_detect (f : TimeSt → TimeSt) : (s.setTime f).detect = s.detect := rfl
@[simp] theorem setTime_capture (f : TimeSt → TimeSt) : (s.setTime f).capture = s.capture := rfl
@[simp] theorem setTime_house (f : TimeSt → TimeSt) : (s.setTime f).house = s.house := rfl
@[simp] theorem setTime_link (f : TimeSt → TimeSt) : (s.setTime f).link = s.link := rfl
@[simp] theorem setTime_sumac (f : TimeSt → TimeSt) : (s.setTime f).sumac = s.sumac := rfl
@[simp] theorem setTime_cal (f : TimeSt → TimeSt) : (s.setTime f).cal = s.cal := rfl
@[simp] theorem setTime_time (f : TimeSt → TimeSt) : (s.setTime f).time = f s.time := rfl

@[simp] theorem setCal_pending (f : CalSt → CalSt) : (s.setCal f).pending = s.pending := rfl
@[simp] theorem setCal_clk (f : CalSt → CalSt) : (s.setCal f).clk = s.clk := rfl
@[simp] theorem setCal_free (f : CalSt → CalSt) : (s.setCal f).free = s.free := rfl
@[simp] theorem setCal_tb (f : CalSt → CalSt) : (s.setCal f).tb = s.tb := rfl
@[simp] theorem setCal_tbFrac (f : CalSt → CalSt) : (s.setCal f).tbFrac = s.tbFrac := rfl
@[simp] theorem setCal_mbox (f : CalSt → CalSt) : (s.setCal f).mbox = s.mbox := rfl
@[simp] theorem setCal_cfg (f : CalSt → CalSt) : (s.setCal f).cfg = s.cfg := rfl
@[simp] theorem setCal_pend (f : CalSt → CalSt) : (s.setCal f).pend = s.pend := rfl
@[simp] theorem setCal_held (f : CalSt → CalSt) : (s.setCal f).held = s.held := rfl
@[simp] theorem setCal_stats (f : CalSt → CalSt) : (s.setCal f).stats = s.stats := rfl
@[simp] theorem setCal_start (f : CalSt → CalSt) : (s.setCal f).start = s.start := rfl
@[simp] theorem setCal_power (f : CalSt → CalSt) : (s.setCal f).power = s.power := rfl
@[simp] theorem setCal_life (f : CalSt → CalSt) : (s.setCal f).life = s.life := rfl
@[simp] theorem setCal_banks (f : CalSt → CalSt) : (s.setCal f).banks = s.banks := rfl
@[simp] theorem setCal_flash (f : CalSt → CalSt) : (s.setCal f).flash = s.flash := rfl
@[simp] theorem setCal_ports (f : CalSt → CalSt) : (s.setCal f).ports = s.ports := rfl
@[simp] theorem setCal_grids (f : CalSt → CalSt) : (s.setCal f).grids = s.grids := rfl
@[simp] theorem setCal_clove (f : CalSt → CalSt) : (s.setCal f).clove = s.clove := rfl
@[simp] theorem setCal_detect (f : CalSt → CalSt) : (s.setCal f).detect = s.detect := rfl
@[simp] theorem setCal_capture (f : CalSt → CalSt) : (s.setCal f).capture = s.capture := rfl
@[simp] theorem setCal_house (f : CalSt → CalSt) : (s.setCal f).house = s.house := rfl
@[simp] theorem setCal_link (f : CalSt → CalSt) : (s.setCal f).link = s.link := rfl
@[simp] theorem setCal_sumac (f : CalSt → CalSt) : (s.setCal f).sumac = s.sumac := rfl
@[simp] theorem setCal_time (f : CalSt → CalSt) : (s.setCal f).time = s.time := rfl
@[simp] theorem setCal_cal (f : CalSt → CalSt) : (s.setCal f).cal = f s.cal := rfl

@[simp] theorem setSumac_pending (f : SumacSt → SumacSt) : (s.setSumac f).pending = s.pending := rfl
@[simp] theorem setSumac_clk (f : SumacSt → SumacSt) : (s.setSumac f).clk = s.clk := rfl
@[simp] theorem setSumac_free (f : SumacSt → SumacSt) : (s.setSumac f).free = s.free := rfl
@[simp] theorem setSumac_tb (f : SumacSt → SumacSt) : (s.setSumac f).tb = s.tb := rfl
@[simp] theorem setSumac_tbFrac (f : SumacSt → SumacSt) : (s.setSumac f).tbFrac = s.tbFrac := rfl
@[simp] theorem setSumac_mbox (f : SumacSt → SumacSt) : (s.setSumac f).mbox = s.mbox := rfl
@[simp] theorem setSumac_cfg (f : SumacSt → SumacSt) : (s.setSumac f).cfg = s.cfg := rfl
@[simp] theorem setSumac_pend (f : SumacSt → SumacSt) : (s.setSumac f).pend = s.pend := rfl
@[simp] theorem setSumac_held (f : SumacSt → SumacSt) : (s.setSumac f).held = s.held := rfl
@[simp] theorem setSumac_stats (f : SumacSt → SumacSt) : (s.setSumac f).stats = s.stats := rfl
@[simp] theorem setSumac_start (f : SumacSt → SumacSt) : (s.setSumac f).start = s.start := rfl
@[simp] theorem setSumac_power (f : SumacSt → SumacSt) : (s.setSumac f).power = s.power := rfl
@[simp] theorem setSumac_life (f : SumacSt → SumacSt) : (s.setSumac f).life = s.life := rfl
@[simp] theorem setSumac_banks (f : SumacSt → SumacSt) : (s.setSumac f).banks = s.banks := rfl
@[simp] theorem setSumac_flash (f : SumacSt → SumacSt) : (s.setSumac f).flash = s.flash := rfl
@[simp] theorem setSumac_ports (f : SumacSt → SumacSt) : (s.setSumac f).ports = s.ports := rfl
@[simp] theorem setSumac_grids (f : SumacSt → SumacSt) : (s.setSumac f).grids = s.grids := rfl
@[simp] theorem setSumac_clove (f : SumacSt → SumacSt) : (s.setSumac f).clove = s.clove := rfl
@[simp] theorem setSumac_detect (f : SumacSt → SumacSt) : (s.setSumac f).detect = s.detect := rfl
@[simp] theorem setSumac_capture (f : SumacSt → SumacSt) : (s.setSumac f).capture = s.capture := rfl
@[simp] theorem setSumac_house (f : SumacSt → SumacSt) : (s.setSumac f).house = s.house := rfl
@[simp] theorem setSumac_link (f : SumacSt → SumacSt) : (s.setSumac f).link = s.link := rfl
@[simp] theorem setSumac_time (f : SumacSt → SumacSt) : (s.setSumac f).time = s.time := rfl
@[simp] theorem setSumac_cal (f : SumacSt → SumacSt) : (s.setSumac f).cal = s.cal := rfl
@[simp] theorem setSumac_sumac (f : SumacSt → SumacSt) : (s.setSumac f).sumac = f s.sumac := rfl

@[simp] theorem setMem_pending (f : CapMemSt → CapMemSt) : (s.setMem f).pending = s.pending := rfl
@[simp] theorem setMem_clk (f : CapMemSt → CapMemSt) : (s.setMem f).clk = s.clk := rfl
@[simp] theorem setMem_free (f : CapMemSt → CapMemSt) : (s.setMem f).free = s.free := rfl
@[simp] theorem setMem_tb (f : CapMemSt → CapMemSt) : (s.setMem f).tb = s.tb := rfl
@[simp] theorem setMem_tbFrac (f : CapMemSt → CapMemSt) : (s.setMem f).tbFrac = s.tbFrac := rfl
@[simp] theorem setMem_mbox (f : CapMemSt → CapMemSt) : (s.setMem f).mbox = s.mbox := rfl
@[simp] theorem setMem_cfg (f : CapMemSt → CapMemSt) : (s.setMem f).cfg = s.cfg := rfl
@[simp] theorem setMem_pend (f : CapMemSt → CapMemSt) : (s.setMem f).pend = s.pend := rfl
@[simp] theorem setMem_held (f : CapMemSt → CapMemSt) : (s.setMem f).held = s.held := rfl
@[simp] theorem setMem_stats (f : CapMemSt → CapMemSt) : (s.setMem f).stats = s.stats := rfl
@[simp] theorem setMem_start (f : CapMemSt → CapMemSt) : (s.setMem f).start = s.start := rfl
@[simp] theorem setMem_power (f : CapMemSt → CapMemSt) : (s.setMem f).power = s.power := rfl
@[simp] theorem setMem_life (f : CapMemSt → CapMemSt) : (s.setMem f).life = s.life := rfl
@[simp] theorem setMem_banks (f : CapMemSt → CapMemSt) : (s.setMem f).banks = s.banks := rfl
@[simp] theorem setMem_flash (f : CapMemSt → CapMemSt) : (s.setMem f).flash = s.flash := rfl
@[simp] theorem setMem_ports (f : CapMemSt → CapMemSt) : (s.setMem f).ports = s.ports := rfl
@[simp] theorem setMem_grids (f : CapMemSt → CapMemSt) : (s.setMem f).grids = s.grids := rfl
@[simp] theorem setMem_clove (f : CapMemSt → CapMemSt) : (s.setMem f).clove = s.clove := rfl
@[simp] theorem setMem_detect (f : CapMemSt → CapMemSt) : (s.setMem f).detect = s.detect := rfl
@[simp] theorem setMem_house (f : CapMemSt → CapMemSt) : (s.setMem f).house = s.house := rfl
@[simp] theorem setMem_link (f : CapMemSt → CapMemSt) : (s.setMem f).link = s.link := rfl
@[simp] theorem setMem_sumac (f : CapMemSt → CapMemSt) : (s.setMem f).sumac = s.sumac := rfl
@[simp] theorem setMem_time (f : CapMemSt → CapMemSt) : (s.setMem f).time = s.time := rfl
@[simp] theorem setMem_cal (f : CapMemSt → CapMemSt) : (s.setMem f).cal = s.cal := rfl

@[simp] theorem setHk_pending (i : Fin 2) (f : HkSt → HkSt) : (s.setHk i f).pending = s.pending := rfl
@[simp] theorem setHk_clk (i : Fin 2) (f : HkSt → HkSt) : (s.setHk i f).clk = s.clk := rfl
@[simp] theorem setHk_free (i : Fin 2) (f : HkSt → HkSt) : (s.setHk i f).free = s.free := rfl
@[simp] theorem setHk_tb (i : Fin 2) (f : HkSt → HkSt) : (s.setHk i f).tb = s.tb := rfl
@[simp] theorem setHk_tbFrac (i : Fin 2) (f : HkSt → HkSt) : (s.setHk i f).tbFrac = s.tbFrac := rfl
@[simp] theorem setHk_mbox (i : Fin 2) (f : HkSt → HkSt) : (s.setHk i f).mbox = s.mbox := rfl
@[simp] theorem setHk_cfg (i : Fin 2) (f : HkSt → HkSt) : (s.setHk i f).cfg = s.cfg := rfl
@[simp] theorem setHk_pend (i : Fin 2) (f : HkSt → HkSt) : (s.setHk i f).pend = s.pend := rfl
@[simp] theorem setHk_held (i : Fin 2) (f : HkSt → HkSt) : (s.setHk i f).held = s.held := rfl
@[simp] theorem setHk_stats (i : Fin 2) (f : HkSt → HkSt) : (s.setHk i f).stats = s.stats := rfl
@[simp] theorem setHk_start (i : Fin 2) (f : HkSt → HkSt) : (s.setHk i f).start = s.start := rfl
@[simp] theorem setHk_power (i : Fin 2) (f : HkSt → HkSt) : (s.setHk i f).power = s.power := rfl
@[simp] theorem setHk_life (i : Fin 2) (f : HkSt → HkSt) : (s.setHk i f).life = s.life := rfl
@[simp] theorem setHk_banks (i : Fin 2) (f : HkSt → HkSt) : (s.setHk i f).banks = s.banks := rfl
@[simp] theorem setHk_flash (i : Fin 2) (f : HkSt → HkSt) : (s.setHk i f).flash = s.flash := rfl
@[simp] theorem setHk_ports (i : Fin 2) (f : HkSt → HkSt) : (s.setHk i f).ports = s.ports := rfl
@[simp] theorem setHk_grids (i : Fin 2) (f : HkSt → HkSt) : (s.setHk i f).grids = s.grids := rfl
@[simp] theorem setHk_clove (i : Fin 2) (f : HkSt → HkSt) : (s.setHk i f).clove = s.clove := rfl
@[simp] theorem setHk_detect (i : Fin 2) (f : HkSt → HkSt) : (s.setHk i f).detect = s.detect := rfl
@[simp] theorem setHk_capture (i : Fin 2) (f : HkSt → HkSt) : (s.setHk i f).capture = s.capture := rfl
@[simp] theorem setHk_link (i : Fin 2) (f : HkSt → HkSt) : (s.setHk i f).link = s.link := rfl
@[simp] theorem setHk_sumac (i : Fin 2) (f : HkSt → HkSt) : (s.setHk i f).sumac = s.sumac := rfl
@[simp] theorem setHk_time (i : Fin 2) (f : HkSt → HkSt) : (s.setHk i f).time = s.time := rfl
@[simp] theorem setHk_cal (i : Fin 2) (f : HkSt → HkSt) : (s.setHk i f).cal = s.cal := rfl

@[simp] theorem setLoop_pending (n : Fin 8) (f : LoopSt → LoopSt) : (s.setLoop n f).pending = s.pending := rfl
@[simp] theorem setLoop_clk (n : Fin 8) (f : LoopSt → LoopSt) : (s.setLoop n f).clk = s.clk := rfl
@[simp] theorem setLoop_free (n : Fin 8) (f : LoopSt → LoopSt) : (s.setLoop n f).free = s.free := rfl
@[simp] theorem setLoop_tb (n : Fin 8) (f : LoopSt → LoopSt) : (s.setLoop n f).tb = s.tb := rfl
@[simp] theorem setLoop_tbFrac (n : Fin 8) (f : LoopSt → LoopSt) : (s.setLoop n f).tbFrac = s.tbFrac := rfl
@[simp] theorem setLoop_mbox (n : Fin 8) (f : LoopSt → LoopSt) : (s.setLoop n f).mbox = s.mbox := rfl
@[simp] theorem setLoop_cfg (n : Fin 8) (f : LoopSt → LoopSt) : (s.setLoop n f).cfg = s.cfg := rfl
@[simp] theorem setLoop_pend (n : Fin 8) (f : LoopSt → LoopSt) : (s.setLoop n f).pend = s.pend := rfl
@[simp] theorem setLoop_held (n : Fin 8) (f : LoopSt → LoopSt) : (s.setLoop n f).held = s.held := rfl
@[simp] theorem setLoop_stats (n : Fin 8) (f : LoopSt → LoopSt) : (s.setLoop n f).stats = s.stats := rfl
@[simp] theorem setLoop_start (n : Fin 8) (f : LoopSt → LoopSt) : (s.setLoop n f).start = s.start := rfl
@[simp] theorem setLoop_power (n : Fin 8) (f : LoopSt → LoopSt) : (s.setLoop n f).power = s.power := rfl
@[simp] theorem setLoop_life (n : Fin 8) (f : LoopSt → LoopSt) : (s.setLoop n f).life = s.life := rfl
@[simp] theorem setLoop_banks (n : Fin 8) (f : LoopSt → LoopSt) : (s.setLoop n f).banks = s.banks := rfl
@[simp] theorem setLoop_flash (n : Fin 8) (f : LoopSt → LoopSt) : (s.setLoop n f).flash = s.flash := rfl
@[simp] theorem setLoop_ports (n : Fin 8) (f : LoopSt → LoopSt) : (s.setLoop n f).ports = s.ports := rfl
@[simp] theorem setLoop_grids (n : Fin 8) (f : LoopSt → LoopSt) : (s.setLoop n f).grids = s.grids := rfl
@[simp] theorem setLoop_clove (n : Fin 8) (f : LoopSt → LoopSt) : (s.setLoop n f).clove = s.clove := rfl
@[simp] theorem setLoop_detect (n : Fin 8) (f : LoopSt → LoopSt) : (s.setLoop n f).detect = s.detect := rfl
@[simp] theorem setLoop_capture (n : Fin 8) (f : LoopSt → LoopSt) : (s.setLoop n f).capture = s.capture := rfl
@[simp] theorem setLoop_link (n : Fin 8) (f : LoopSt → LoopSt) : (s.setLoop n f).link = s.link := rfl
@[simp] theorem setLoop_sumac (n : Fin 8) (f : LoopSt → LoopSt) : (s.setLoop n f).sumac = s.sumac := rfl
@[simp] theorem setLoop_time (n : Fin 8) (f : LoopSt → LoopSt) : (s.setLoop n f).time = s.time := rfl
@[simp] theorem setLoop_cal (n : Fin 8) (f : LoopSt → LoopSt) : (s.setLoop n f).cal = s.cal := rfl

@[simp] theorem setAlarm_pending (n : Fin 8) (f : AlarmSt → AlarmSt) : (s.setAlarm n f).pending = s.pending := rfl
@[simp] theorem setAlarm_clk (n : Fin 8) (f : AlarmSt → AlarmSt) : (s.setAlarm n f).clk = s.clk := rfl
@[simp] theorem setAlarm_free (n : Fin 8) (f : AlarmSt → AlarmSt) : (s.setAlarm n f).free = s.free := rfl
@[simp] theorem setAlarm_tb (n : Fin 8) (f : AlarmSt → AlarmSt) : (s.setAlarm n f).tb = s.tb := rfl
@[simp] theorem setAlarm_tbFrac (n : Fin 8) (f : AlarmSt → AlarmSt) : (s.setAlarm n f).tbFrac = s.tbFrac := rfl
@[simp] theorem setAlarm_mbox (n : Fin 8) (f : AlarmSt → AlarmSt) : (s.setAlarm n f).mbox = s.mbox := rfl
@[simp] theorem setAlarm_cfg (n : Fin 8) (f : AlarmSt → AlarmSt) : (s.setAlarm n f).cfg = s.cfg := rfl
@[simp] theorem setAlarm_pend (n : Fin 8) (f : AlarmSt → AlarmSt) : (s.setAlarm n f).pend = s.pend := rfl
@[simp] theorem setAlarm_held (n : Fin 8) (f : AlarmSt → AlarmSt) : (s.setAlarm n f).held = s.held := rfl
@[simp] theorem setAlarm_stats (n : Fin 8) (f : AlarmSt → AlarmSt) : (s.setAlarm n f).stats = s.stats := rfl
@[simp] theorem setAlarm_start (n : Fin 8) (f : AlarmSt → AlarmSt) : (s.setAlarm n f).start = s.start := rfl
@[simp] theorem setAlarm_power (n : Fin 8) (f : AlarmSt → AlarmSt) : (s.setAlarm n f).power = s.power := rfl
@[simp] theorem setAlarm_life (n : Fin 8) (f : AlarmSt → AlarmSt) : (s.setAlarm n f).life = s.life := rfl
@[simp] theorem setAlarm_banks (n : Fin 8) (f : AlarmSt → AlarmSt) : (s.setAlarm n f).banks = s.banks := rfl
@[simp] theorem setAlarm_flash (n : Fin 8) (f : AlarmSt → AlarmSt) : (s.setAlarm n f).flash = s.flash := rfl
@[simp] theorem setAlarm_ports (n : Fin 8) (f : AlarmSt → AlarmSt) : (s.setAlarm n f).ports = s.ports := rfl
@[simp] theorem setAlarm_grids (n : Fin 8) (f : AlarmSt → AlarmSt) : (s.setAlarm n f).grids = s.grids := rfl
@[simp] theorem setAlarm_clove (n : Fin 8) (f : AlarmSt → AlarmSt) : (s.setAlarm n f).clove = s.clove := rfl
@[simp] theorem setAlarm_detect (n : Fin 8) (f : AlarmSt → AlarmSt) : (s.setAlarm n f).detect = s.detect := rfl
@[simp] theorem setAlarm_capture (n : Fin 8) (f : AlarmSt → AlarmSt) : (s.setAlarm n f).capture = s.capture := rfl
@[simp] theorem setAlarm_link (n : Fin 8) (f : AlarmSt → AlarmSt) : (s.setAlarm n f).link = s.link := rfl
@[simp] theorem setAlarm_sumac (n : Fin 8) (f : AlarmSt → AlarmSt) : (s.setAlarm n f).sumac = s.sumac := rfl
@[simp] theorem setAlarm_time (n : Fin 8) (f : AlarmSt → AlarmSt) : (s.setAlarm n f).time = s.time := rfl
@[simp] theorem setAlarm_cal (n : Fin 8) (f : AlarmSt → AlarmSt) : (s.setAlarm n f).cal = s.cal := rfl

@[simp] theorem setZone_pending (z : ZoneId) (f : ZoneSt → ZoneSt) : (s.setZone z f).pending = s.pending := rfl
@[simp] theorem setZone_clk (z : ZoneId) (f : ZoneSt → ZoneSt) : (s.setZone z f).clk = s.clk := rfl
@[simp] theorem setZone_free (z : ZoneId) (f : ZoneSt → ZoneSt) : (s.setZone z f).free = s.free := rfl
@[simp] theorem setZone_tb (z : ZoneId) (f : ZoneSt → ZoneSt) : (s.setZone z f).tb = s.tb := rfl
@[simp] theorem setZone_tbFrac (z : ZoneId) (f : ZoneSt → ZoneSt) : (s.setZone z f).tbFrac = s.tbFrac := rfl
@[simp] theorem setZone_mbox (z : ZoneId) (f : ZoneSt → ZoneSt) : (s.setZone z f).mbox = s.mbox := rfl
@[simp] theorem setZone_cfg (z : ZoneId) (f : ZoneSt → ZoneSt) : (s.setZone z f).cfg = s.cfg := rfl
@[simp] theorem setZone_pend (z : ZoneId) (f : ZoneSt → ZoneSt) : (s.setZone z f).pend = s.pend := rfl
@[simp] theorem setZone_held (z : ZoneId) (f : ZoneSt → ZoneSt) : (s.setZone z f).held = s.held := rfl
@[simp] theorem setZone_stats (z : ZoneId) (f : ZoneSt → ZoneSt) : (s.setZone z f).stats = s.stats := rfl
@[simp] theorem setZone_start (z : ZoneId) (f : ZoneSt → ZoneSt) : (s.setZone z f).start = s.start := rfl
@[simp] theorem setZone_power (z : ZoneId) (f : ZoneSt → ZoneSt) : (s.setZone z f).power = s.power := rfl
@[simp] theorem setZone_life (z : ZoneId) (f : ZoneSt → ZoneSt) : (s.setZone z f).life = s.life := rfl
@[simp] theorem setZone_banks (z : ZoneId) (f : ZoneSt → ZoneSt) : (s.setZone z f).banks = s.banks := rfl
@[simp] theorem setZone_flash (z : ZoneId) (f : ZoneSt → ZoneSt) : (s.setZone z f).flash = s.flash := rfl
@[simp] theorem setZone_ports (z : ZoneId) (f : ZoneSt → ZoneSt) : (s.setZone z f).ports = s.ports := rfl
@[simp] theorem setZone_grids (z : ZoneId) (f : ZoneSt → ZoneSt) : (s.setZone z f).grids = s.grids := rfl
@[simp] theorem setZone_clove (z : ZoneId) (f : ZoneSt → ZoneSt) : (s.setZone z f).clove = s.clove := rfl
@[simp] theorem setZone_capture (z : ZoneId) (f : ZoneSt → ZoneSt) : (s.setZone z f).capture = s.capture := rfl
@[simp] theorem setZone_house (z : ZoneId) (f : ZoneSt → ZoneSt) : (s.setZone z f).house = s.house := rfl
@[simp] theorem setZone_link (z : ZoneId) (f : ZoneSt → ZoneSt) : (s.setZone z f).link = s.link := rfl
@[simp] theorem setZone_sumac (z : ZoneId) (f : ZoneSt → ZoneSt) : (s.setZone z f).sumac = s.sumac := rfl
@[simp] theorem setZone_time (z : ZoneId) (f : ZoneSt → ZoneSt) : (s.setZone z f).time = s.time := rfl
@[simp] theorem setZone_cal (z : ZoneId) (f : ZoneSt → ZoneSt) : (s.setZone z f).cal = s.cal := rfl

@[simp] theorem setGroup_pending (g : GroupId) (f : GroupSt → GroupSt) : (s.setGroup g f).pending = s.pending := rfl
@[simp] theorem setGroup_clk (g : GroupId) (f : GroupSt → GroupSt) : (s.setGroup g f).clk = s.clk := rfl
@[simp] theorem setGroup_free (g : GroupId) (f : GroupSt → GroupSt) : (s.setGroup g f).free = s.free := rfl
@[simp] theorem setGroup_tb (g : GroupId) (f : GroupSt → GroupSt) : (s.setGroup g f).tb = s.tb := rfl
@[simp] theorem setGroup_tbFrac (g : GroupId) (f : GroupSt → GroupSt) : (s.setGroup g f).tbFrac = s.tbFrac := rfl
@[simp] theorem setGroup_mbox (g : GroupId) (f : GroupSt → GroupSt) : (s.setGroup g f).mbox = s.mbox := rfl
@[simp] theorem setGroup_cfg (g : GroupId) (f : GroupSt → GroupSt) : (s.setGroup g f).cfg = s.cfg := rfl
@[simp] theorem setGroup_pend (g : GroupId) (f : GroupSt → GroupSt) : (s.setGroup g f).pend = s.pend := rfl
@[simp] theorem setGroup_held (g : GroupId) (f : GroupSt → GroupSt) : (s.setGroup g f).held = s.held := rfl
@[simp] theorem setGroup_stats (g : GroupId) (f : GroupSt → GroupSt) : (s.setGroup g f).stats = s.stats := rfl
@[simp] theorem setGroup_start (g : GroupId) (f : GroupSt → GroupSt) : (s.setGroup g f).start = s.start := rfl
@[simp] theorem setGroup_power (g : GroupId) (f : GroupSt → GroupSt) : (s.setGroup g f).power = s.power := rfl
@[simp] theorem setGroup_life (g : GroupId) (f : GroupSt → GroupSt) : (s.setGroup g f).life = s.life := rfl
@[simp] theorem setGroup_banks (g : GroupId) (f : GroupSt → GroupSt) : (s.setGroup g f).banks = s.banks := rfl
@[simp] theorem setGroup_flash (g : GroupId) (f : GroupSt → GroupSt) : (s.setGroup g f).flash = s.flash := rfl
@[simp] theorem setGroup_ports (g : GroupId) (f : GroupSt → GroupSt) : (s.setGroup g f).ports = s.ports := rfl
@[simp] theorem setGroup_grids (g : GroupId) (f : GroupSt → GroupSt) : (s.setGroup g f).grids = s.grids := rfl
@[simp] theorem setGroup_clove (g : GroupId) (f : GroupSt → GroupSt) : (s.setGroup g f).clove = s.clove := rfl
@[simp] theorem setGroup_capture (g : GroupId) (f : GroupSt → GroupSt) : (s.setGroup g f).capture = s.capture := rfl
@[simp] theorem setGroup_house (g : GroupId) (f : GroupSt → GroupSt) : (s.setGroup g f).house = s.house := rfl
@[simp] theorem setGroup_link (g : GroupId) (f : GroupSt → GroupSt) : (s.setGroup g f).link = s.link := rfl
@[simp] theorem setGroup_sumac (g : GroupId) (f : GroupSt → GroupSt) : (s.setGroup g f).sumac = s.sumac := rfl
@[simp] theorem setGroup_time (g : GroupId) (f : GroupSt → GroupSt) : (s.setGroup g f).time = s.time := rfl
@[simp] theorem setGroup_cal (g : GroupId) (f : GroupSt → GroupSt) : (s.setGroup g f).cal = s.cal := rfl

@[simp] theorem setStream_pending (i : Nat) (f : StreamSt → StreamSt) : (s.setStream i f).pending = s.pending := rfl
@[simp] theorem setStream_clk (i : Nat) (f : StreamSt → StreamSt) : (s.setStream i f).clk = s.clk := rfl
@[simp] theorem setStream_free (i : Nat) (f : StreamSt → StreamSt) : (s.setStream i f).free = s.free := rfl
@[simp] theorem setStream_tb (i : Nat) (f : StreamSt → StreamSt) : (s.setStream i f).tb = s.tb := rfl
@[simp] theorem setStream_tbFrac (i : Nat) (f : StreamSt → StreamSt) : (s.setStream i f).tbFrac = s.tbFrac := rfl
@[simp] theorem setStream_mbox (i : Nat) (f : StreamSt → StreamSt) : (s.setStream i f).mbox = s.mbox := rfl
@[simp] theorem setStream_cfg (i : Nat) (f : StreamSt → StreamSt) : (s.setStream i f).cfg = s.cfg := rfl
@[simp] theorem setStream_pend (i : Nat) (f : StreamSt → StreamSt) : (s.setStream i f).pend = s.pend := rfl
@[simp] theorem setStream_held (i : Nat) (f : StreamSt → StreamSt) : (s.setStream i f).held = s.held := rfl
@[simp] theorem setStream_stats (i : Nat) (f : StreamSt → StreamSt) : (s.setStream i f).stats = s.stats := rfl
@[simp] theorem setStream_start (i : Nat) (f : StreamSt → StreamSt) : (s.setStream i f).start = s.start := rfl
@[simp] theorem setStream_power (i : Nat) (f : StreamSt → StreamSt) : (s.setStream i f).power = s.power := rfl
@[simp] theorem setStream_life (i : Nat) (f : StreamSt → StreamSt) : (s.setStream i f).life = s.life := rfl
@[simp] theorem setStream_banks (i : Nat) (f : StreamSt → StreamSt) : (s.setStream i f).banks = s.banks := rfl
@[simp] theorem setStream_flash (i : Nat) (f : StreamSt → StreamSt) : (s.setStream i f).flash = s.flash := rfl
@[simp] theorem setStream_ports (i : Nat) (f : StreamSt → StreamSt) : (s.setStream i f).ports = s.ports := rfl
@[simp] theorem setStream_grids (i : Nat) (f : StreamSt → StreamSt) : (s.setStream i f).grids = s.grids := rfl
@[simp] theorem setStream_clove (i : Nat) (f : StreamSt → StreamSt) : (s.setStream i f).clove = s.clove := rfl
@[simp] theorem setStream_detect (i : Nat) (f : StreamSt → StreamSt) : (s.setStream i f).detect = s.detect := rfl
@[simp] theorem setStream_house (i : Nat) (f : StreamSt → StreamSt) : (s.setStream i f).house = s.house := rfl
@[simp] theorem setStream_link (i : Nat) (f : StreamSt → StreamSt) : (s.setStream i f).link = s.link := rfl
@[simp] theorem setStream_sumac (i : Nat) (f : StreamSt → StreamSt) : (s.setStream i f).sumac = s.sumac := rfl
@[simp] theorem setStream_time (i : Nat) (f : StreamSt → StreamSt) : (s.setStream i f).time = s.time := rfl
@[simp] theorem setStream_cal (i : Nat) (f : StreamSt → StreamSt) : (s.setStream i f).cal = s.cal := rfl

@[simp] theorem setMask_pending (p : Port) (f : MaskSt → MaskSt) : (s.setMask p f).pending = s.pending := rfl
@[simp] theorem setMask_clk (p : Port) (f : MaskSt → MaskSt) : (s.setMask p f).clk = s.clk := rfl
@[simp] theorem setMask_free (p : Port) (f : MaskSt → MaskSt) : (s.setMask p f).free = s.free := rfl
@[simp] theorem setMask_tb (p : Port) (f : MaskSt → MaskSt) : (s.setMask p f).tb = s.tb := rfl
@[simp] theorem setMask_tbFrac (p : Port) (f : MaskSt → MaskSt) : (s.setMask p f).tbFrac = s.tbFrac := rfl
@[simp] theorem setMask_mbox (p : Port) (f : MaskSt → MaskSt) : (s.setMask p f).mbox = s.mbox := rfl
@[simp] theorem setMask_cfg (p : Port) (f : MaskSt → MaskSt) : (s.setMask p f).cfg = s.cfg := rfl
@[simp] theorem setMask_pend (p : Port) (f : MaskSt → MaskSt) : (s.setMask p f).pend = s.pend := rfl
@[simp] theorem setMask_held (p : Port) (f : MaskSt → MaskSt) : (s.setMask p f).held = s.held := rfl
@[simp] theorem setMask_stats (p : Port) (f : MaskSt → MaskSt) : (s.setMask p f).stats = s.stats := rfl
@[simp] theorem setMask_start (p : Port) (f : MaskSt → MaskSt) : (s.setMask p f).start = s.start := rfl
@[simp] theorem setMask_power (p : Port) (f : MaskSt → MaskSt) : (s.setMask p f).power = s.power := rfl
@[simp] theorem setMask_life (p : Port) (f : MaskSt → MaskSt) : (s.setMask p f).life = s.life := rfl
@[simp] theorem setMask_banks (p : Port) (f : MaskSt → MaskSt) : (s.setMask p f).banks = s.banks := rfl
@[simp] theorem setMask_flash (p : Port) (f : MaskSt → MaskSt) : (s.setMask p f).flash = s.flash := rfl
@[simp] theorem setMask_ports (p : Port) (f : MaskSt → MaskSt) : (s.setMask p f).ports = s.ports := rfl
@[simp] theorem setMask_grids (p : Port) (f : MaskSt → MaskSt) : (s.setMask p f).grids = s.grids := rfl
@[simp] theorem setMask_clove (p : Port) (f : MaskSt → MaskSt) : (s.setMask p f).clove = s.clove := rfl
@[simp] theorem setMask_detect (p : Port) (f : MaskSt → MaskSt) : (s.setMask p f).detect = s.detect := rfl
@[simp] theorem setMask_house (p : Port) (f : MaskSt → MaskSt) : (s.setMask p f).house = s.house := rfl
@[simp] theorem setMask_link (p : Port) (f : MaskSt → MaskSt) : (s.setMask p f).link = s.link := rfl
@[simp] theorem setMask_sumac (p : Port) (f : MaskSt → MaskSt) : (s.setMask p f).sumac = s.sumac := rfl
@[simp] theorem setMask_time (p : Port) (f : MaskSt → MaskSt) : (s.setMask p f).time = s.time := rfl
@[simp] theorem setMask_cal (p : Port) (f : MaskSt → MaskSt) : (s.setMask p f).cal = s.cal := rfl

@[simp] theorem setRing_pending (p : Port) (k : RingKind) (f : RingSt → RingSt) : (s.setRing p k f).pending = s.pending := rfl
@[simp] theorem setRing_clk (p : Port) (k : RingKind) (f : RingSt → RingSt) : (s.setRing p k f).clk = s.clk := rfl
@[simp] theorem setRing_free (p : Port) (k : RingKind) (f : RingSt → RingSt) : (s.setRing p k f).free = s.free := rfl
@[simp] theorem setRing_tb (p : Port) (k : RingKind) (f : RingSt → RingSt) : (s.setRing p k f).tb = s.tb := rfl
@[simp] theorem setRing_tbFrac (p : Port) (k : RingKind) (f : RingSt → RingSt) : (s.setRing p k f).tbFrac = s.tbFrac := rfl
@[simp] theorem setRing_mbox (p : Port) (k : RingKind) (f : RingSt → RingSt) : (s.setRing p k f).mbox = s.mbox := rfl
@[simp] theorem setRing_cfg (p : Port) (k : RingKind) (f : RingSt → RingSt) : (s.setRing p k f).cfg = s.cfg := rfl
@[simp] theorem setRing_pend (p : Port) (k : RingKind) (f : RingSt → RingSt) : (s.setRing p k f).pend = s.pend := rfl
@[simp] theorem setRing_held (p : Port) (k : RingKind) (f : RingSt → RingSt) : (s.setRing p k f).held = s.held := rfl
@[simp] theorem setRing_stats (p : Port) (k : RingKind) (f : RingSt → RingSt) : (s.setRing p k f).stats = s.stats := rfl
@[simp] theorem setRing_start (p : Port) (k : RingKind) (f : RingSt → RingSt) : (s.setRing p k f).start = s.start := rfl
@[simp] theorem setRing_power (p : Port) (k : RingKind) (f : RingSt → RingSt) : (s.setRing p k f).power = s.power := rfl
@[simp] theorem setRing_life (p : Port) (k : RingKind) (f : RingSt → RingSt) : (s.setRing p k f).life = s.life := rfl
@[simp] theorem setRing_banks (p : Port) (k : RingKind) (f : RingSt → RingSt) : (s.setRing p k f).banks = s.banks := rfl
@[simp] theorem setRing_flash (p : Port) (k : RingKind) (f : RingSt → RingSt) : (s.setRing p k f).flash = s.flash := rfl
@[simp] theorem setRing_ports (p : Port) (k : RingKind) (f : RingSt → RingSt) : (s.setRing p k f).ports = s.ports := rfl
@[simp] theorem setRing_grids (p : Port) (k : RingKind) (f : RingSt → RingSt) : (s.setRing p k f).grids = s.grids := rfl
@[simp] theorem setRing_clove (p : Port) (k : RingKind) (f : RingSt → RingSt) : (s.setRing p k f).clove = s.clove := rfl
@[simp] theorem setRing_detect (p : Port) (k : RingKind) (f : RingSt → RingSt) : (s.setRing p k f).detect = s.detect := rfl
@[simp] theorem setRing_house (p : Port) (k : RingKind) (f : RingSt → RingSt) : (s.setRing p k f).house = s.house := rfl
@[simp] theorem setRing_link (p : Port) (k : RingKind) (f : RingSt → RingSt) : (s.setRing p k f).link = s.link := rfl
@[simp] theorem setRing_sumac (p : Port) (k : RingKind) (f : RingSt → RingSt) : (s.setRing p k f).sumac = s.sumac := rfl
@[simp] theorem setRing_time (p : Port) (k : RingKind) (f : RingSt → RingSt) : (s.setRing p k f).time = s.time := rfl
@[simp] theorem setRing_cal (p : Port) (k : RingKind) (f : RingSt → RingSt) : (s.setRing p k f).cal = s.cal := rfl

@[simp] theorem setCalPort_pending (p : Port) (f : CalPortSt → CalPortSt) : (s.setCalPort p f).pending = s.pending := rfl
@[simp] theorem setCalPort_clk (p : Port) (f : CalPortSt → CalPortSt) : (s.setCalPort p f).clk = s.clk := rfl
@[simp] theorem setCalPort_free (p : Port) (f : CalPortSt → CalPortSt) : (s.setCalPort p f).free = s.free := rfl
@[simp] theorem setCalPort_tb (p : Port) (f : CalPortSt → CalPortSt) : (s.setCalPort p f).tb = s.tb := rfl
@[simp] theorem setCalPort_tbFrac (p : Port) (f : CalPortSt → CalPortSt) : (s.setCalPort p f).tbFrac = s.tbFrac := rfl
@[simp] theorem setCalPort_mbox (p : Port) (f : CalPortSt → CalPortSt) : (s.setCalPort p f).mbox = s.mbox := rfl
@[simp] theorem setCalPort_cfg (p : Port) (f : CalPortSt → CalPortSt) : (s.setCalPort p f).cfg = s.cfg := rfl
@[simp] theorem setCalPort_pend (p : Port) (f : CalPortSt → CalPortSt) : (s.setCalPort p f).pend = s.pend := rfl
@[simp] theorem setCalPort_held (p : Port) (f : CalPortSt → CalPortSt) : (s.setCalPort p f).held = s.held := rfl
@[simp] theorem setCalPort_stats (p : Port) (f : CalPortSt → CalPortSt) : (s.setCalPort p f).stats = s.stats := rfl
@[simp] theorem setCalPort_start (p : Port) (f : CalPortSt → CalPortSt) : (s.setCalPort p f).start = s.start := rfl
@[simp] theorem setCalPort_power (p : Port) (f : CalPortSt → CalPortSt) : (s.setCalPort p f).power = s.power := rfl
@[simp] theorem setCalPort_life (p : Port) (f : CalPortSt → CalPortSt) : (s.setCalPort p f).life = s.life := rfl
@[simp] theorem setCalPort_banks (p : Port) (f : CalPortSt → CalPortSt) : (s.setCalPort p f).banks = s.banks := rfl
@[simp] theorem setCalPort_flash (p : Port) (f : CalPortSt → CalPortSt) : (s.setCalPort p f).flash = s.flash := rfl
@[simp] theorem setCalPort_ports (p : Port) (f : CalPortSt → CalPortSt) : (s.setCalPort p f).ports = s.ports := rfl
@[simp] theorem setCalPort_grids (p : Port) (f : CalPortSt → CalPortSt) : (s.setCalPort p f).grids = s.grids := rfl
@[simp] theorem setCalPort_clove (p : Port) (f : CalPortSt → CalPortSt) : (s.setCalPort p f).clove = s.clove := rfl
@[simp] theorem setCalPort_detect (p : Port) (f : CalPortSt → CalPortSt) : (s.setCalPort p f).detect = s.detect := rfl
@[simp] theorem setCalPort_capture (p : Port) (f : CalPortSt → CalPortSt) : (s.setCalPort p f).capture = s.capture := rfl
@[simp] theorem setCalPort_house (p : Port) (f : CalPortSt → CalPortSt) : (s.setCalPort p f).house = s.house := rfl
@[simp] theorem setCalPort_link (p : Port) (f : CalPortSt → CalPortSt) : (s.setCalPort p f).link = s.link := rfl
@[simp] theorem setCalPort_sumac (p : Port) (f : CalPortSt → CalPortSt) : (s.setCalPort p f).sumac = s.sumac := rfl
@[simp] theorem setCalPort_time (p : Port) (f : CalPortSt → CalPortSt) : (s.setCalPort p f).time = s.time := rfl

@[simp] theorem setRun_pending (f : CalRun → CalRun) : (s.setRun f).pending = s.pending := rfl
@[simp] theorem setRun_clk (f : CalRun → CalRun) : (s.setRun f).clk = s.clk := rfl
@[simp] theorem setRun_free (f : CalRun → CalRun) : (s.setRun f).free = s.free := rfl
@[simp] theorem setRun_tb (f : CalRun → CalRun) : (s.setRun f).tb = s.tb := rfl
@[simp] theorem setRun_tbFrac (f : CalRun → CalRun) : (s.setRun f).tbFrac = s.tbFrac := rfl
@[simp] theorem setRun_mbox (f : CalRun → CalRun) : (s.setRun f).mbox = s.mbox := rfl
@[simp] theorem setRun_cfg (f : CalRun → CalRun) : (s.setRun f).cfg = s.cfg := rfl
@[simp] theorem setRun_pend (f : CalRun → CalRun) : (s.setRun f).pend = s.pend := rfl
@[simp] theorem setRun_held (f : CalRun → CalRun) : (s.setRun f).held = s.held := rfl
@[simp] theorem setRun_stats (f : CalRun → CalRun) : (s.setRun f).stats = s.stats := rfl
@[simp] theorem setRun_start (f : CalRun → CalRun) : (s.setRun f).start = s.start := rfl
@[simp] theorem setRun_power (f : CalRun → CalRun) : (s.setRun f).power = s.power := rfl
@[simp] theorem setRun_life (f : CalRun → CalRun) : (s.setRun f).life = s.life := rfl
@[simp] theorem setRun_banks (f : CalRun → CalRun) : (s.setRun f).banks = s.banks := rfl
@[simp] theorem setRun_flash (f : CalRun → CalRun) : (s.setRun f).flash = s.flash := rfl
@[simp] theorem setRun_ports (f : CalRun → CalRun) : (s.setRun f).ports = s.ports := rfl
@[simp] theorem setRun_grids (f : CalRun → CalRun) : (s.setRun f).grids = s.grids := rfl
@[simp] theorem setRun_clove (f : CalRun → CalRun) : (s.setRun f).clove = s.clove := rfl
@[simp] theorem setRun_detect (f : CalRun → CalRun) : (s.setRun f).detect = s.detect := rfl
@[simp] theorem setRun_capture (f : CalRun → CalRun) : (s.setRun f).capture = s.capture := rfl
@[simp] theorem setRun_house (f : CalRun → CalRun) : (s.setRun f).house = s.house := rfl
@[simp] theorem setRun_link (f : CalRun → CalRun) : (s.setRun f).link = s.link := rfl
@[simp] theorem setRun_sumac (f : CalRun → CalRun) : (s.setRun f).sumac = s.sumac := rfl
@[simp] theorem setRun_time (f : CalRun → CalRun) : (s.setRun f).time = s.time := rfl

@[simp] theorem setTi_pending (f : TiSt → TiSt) : (s.setTi f).pending = s.pending := rfl
@[simp] theorem setTi_clk (f : TiSt → TiSt) : (s.setTi f).clk = s.clk := rfl
@[simp] theorem setTi_free (f : TiSt → TiSt) : (s.setTi f).free = s.free := rfl
@[simp] theorem setTi_tb (f : TiSt → TiSt) : (s.setTi f).tb = s.tb := rfl
@[simp] theorem setTi_tbFrac (f : TiSt → TiSt) : (s.setTi f).tbFrac = s.tbFrac := rfl
@[simp] theorem setTi_mbox (f : TiSt → TiSt) : (s.setTi f).mbox = s.mbox := rfl
@[simp] theorem setTi_cfg (f : TiSt → TiSt) : (s.setTi f).cfg = s.cfg := rfl
@[simp] theorem setTi_pend (f : TiSt → TiSt) : (s.setTi f).pend = s.pend := rfl
@[simp] theorem setTi_held (f : TiSt → TiSt) : (s.setTi f).held = s.held := rfl
@[simp] theorem setTi_stats (f : TiSt → TiSt) : (s.setTi f).stats = s.stats := rfl
@[simp] theorem setTi_start (f : TiSt → TiSt) : (s.setTi f).start = s.start := rfl
@[simp] theorem setTi_power (f : TiSt → TiSt) : (s.setTi f).power = s.power := rfl
@[simp] theorem setTi_life (f : TiSt → TiSt) : (s.setTi f).life = s.life := rfl
@[simp] theorem setTi_banks (f : TiSt → TiSt) : (s.setTi f).banks = s.banks := rfl
@[simp] theorem setTi_flash (f : TiSt → TiSt) : (s.setTi f).flash = s.flash := rfl
@[simp] theorem setTi_ports (f : TiSt → TiSt) : (s.setTi f).ports = s.ports := rfl
@[simp] theorem setTi_grids (f : TiSt → TiSt) : (s.setTi f).grids = s.grids := rfl
@[simp] theorem setTi_clove (f : TiSt → TiSt) : (s.setTi f).clove = s.clove := rfl
@[simp] theorem setTi_detect (f : TiSt → TiSt) : (s.setTi f).detect = s.detect := rfl
@[simp] theorem setTi_capture (f : TiSt → TiSt) : (s.setTi f).capture = s.capture := rfl
@[simp] theorem setTi_house (f : TiSt → TiSt) : (s.setTi f).house = s.house := rfl
@[simp] theorem setTi_link (f : TiSt → TiSt) : (s.setTi f).link = s.link := rfl
@[simp] theorem setTi_sumac (f : TiSt → TiSt) : (s.setTi f).sumac = s.sumac := rfl
@[simp] theorem setTi_cal (f : TiSt → TiSt) : (s.setTi f).cal = s.cal := rfl

@[simp] theorem setRetain_pending (f : RetainSt → RetainSt) : (s.setRetain f).pending = s.pending := rfl
@[simp] theorem setRetain_clk (f : RetainSt → RetainSt) : (s.setRetain f).clk = s.clk := rfl
@[simp] theorem setRetain_free (f : RetainSt → RetainSt) : (s.setRetain f).free = s.free := rfl
@[simp] theorem setRetain_tb (f : RetainSt → RetainSt) : (s.setRetain f).tb = s.tb := rfl
@[simp] theorem setRetain_tbFrac (f : RetainSt → RetainSt) : (s.setRetain f).tbFrac = s.tbFrac := rfl
@[simp] theorem setRetain_mbox (f : RetainSt → RetainSt) : (s.setRetain f).mbox = s.mbox := rfl
@[simp] theorem setRetain_cfg (f : RetainSt → RetainSt) : (s.setRetain f).cfg = s.cfg := rfl
@[simp] theorem setRetain_pend (f : RetainSt → RetainSt) : (s.setRetain f).pend = s.pend := rfl
@[simp] theorem setRetain_held (f : RetainSt → RetainSt) : (s.setRetain f).held = s.held := rfl
@[simp] theorem setRetain_stats (f : RetainSt → RetainSt) : (s.setRetain f).stats = s.stats := rfl
@[simp] theorem setRetain_start (f : RetainSt → RetainSt) : (s.setRetain f).start = s.start := rfl
@[simp] theorem setRetain_life (f : RetainSt → RetainSt) : (s.setRetain f).life = s.life := rfl
@[simp] theorem setRetain_banks (f : RetainSt → RetainSt) : (s.setRetain f).banks = s.banks := rfl
@[simp] theorem setRetain_flash (f : RetainSt → RetainSt) : (s.setRetain f).flash = s.flash := rfl
@[simp] theorem setRetain_ports (f : RetainSt → RetainSt) : (s.setRetain f).ports = s.ports := rfl
@[simp] theorem setRetain_grids (f : RetainSt → RetainSt) : (s.setRetain f).grids = s.grids := rfl
@[simp] theorem setRetain_clove (f : RetainSt → RetainSt) : (s.setRetain f).clove = s.clove := rfl
@[simp] theorem setRetain_detect (f : RetainSt → RetainSt) : (s.setRetain f).detect = s.detect := rfl
@[simp] theorem setRetain_capture (f : RetainSt → RetainSt) : (s.setRetain f).capture = s.capture := rfl
@[simp] theorem setRetain_house (f : RetainSt → RetainSt) : (s.setRetain f).house = s.house := rfl
@[simp] theorem setRetain_link (f : RetainSt → RetainSt) : (s.setRetain f).link = s.link := rfl
@[simp] theorem setRetain_sumac (f : RetainSt → RetainSt) : (s.setRetain f).sumac = s.sumac := rfl
@[simp] theorem setRetain_time (f : RetainSt → RetainSt) : (s.setRetain f).time = s.time := rfl
@[simp] theorem setRetain_cal (f : RetainSt → RetainSt) : (s.setRetain f).cal = s.cal := rfl

@[simp] theorem setBank_pending (b : IoBank) (m : BankMode) : (s.setBank b m).pending = s.pending := rfl
@[simp] theorem setBank_clk (b : IoBank) (m : BankMode) : (s.setBank b m).clk = s.clk := rfl
@[simp] theorem setBank_free (b : IoBank) (m : BankMode) : (s.setBank b m).free = s.free := rfl
@[simp] theorem setBank_tb (b : IoBank) (m : BankMode) : (s.setBank b m).tb = s.tb := rfl
@[simp] theorem setBank_tbFrac (b : IoBank) (m : BankMode) : (s.setBank b m).tbFrac = s.tbFrac := rfl
@[simp] theorem setBank_mbox (b : IoBank) (m : BankMode) : (s.setBank b m).mbox = s.mbox := rfl
@[simp] theorem setBank_cfg (b : IoBank) (m : BankMode) : (s.setBank b m).cfg = s.cfg := rfl
@[simp] theorem setBank_pend (b : IoBank) (m : BankMode) : (s.setBank b m).pend = s.pend := rfl
@[simp] theorem setBank_held (b : IoBank) (m : BankMode) : (s.setBank b m).held = s.held := rfl
@[simp] theorem setBank_stats (b : IoBank) (m : BankMode) : (s.setBank b m).stats = s.stats := rfl
@[simp] theorem setBank_start (b : IoBank) (m : BankMode) : (s.setBank b m).start = s.start := rfl
@[simp] theorem setBank_power (b : IoBank) (m : BankMode) : (s.setBank b m).power = s.power := rfl
@[simp] theorem setBank_life (b : IoBank) (m : BankMode) : (s.setBank b m).life = s.life := rfl
@[simp] theorem setBank_flash (b : IoBank) (m : BankMode) : (s.setBank b m).flash = s.flash := rfl
@[simp] theorem setBank_ports (b : IoBank) (m : BankMode) : (s.setBank b m).ports = s.ports := rfl
@[simp] theorem setBank_grids (b : IoBank) (m : BankMode) : (s.setBank b m).grids = s.grids := rfl
@[simp] theorem setBank_clove (b : IoBank) (m : BankMode) : (s.setBank b m).clove = s.clove := rfl
@[simp] theorem setBank_detect (b : IoBank) (m : BankMode) : (s.setBank b m).detect = s.detect := rfl
@[simp] theorem setBank_capture (b : IoBank) (m : BankMode) : (s.setBank b m).capture = s.capture := rfl
@[simp] theorem setBank_house (b : IoBank) (m : BankMode) : (s.setBank b m).house = s.house := rfl
@[simp] theorem setBank_link (b : IoBank) (m : BankMode) : (s.setBank b m).link = s.link := rfl
@[simp] theorem setBank_sumac (b : IoBank) (m : BankMode) : (s.setBank b m).sumac = s.sumac := rfl
@[simp] theorem setBank_time (b : IoBank) (m : BankMode) : (s.setBank b m).time = s.time := rfl
@[simp] theorem setBank_cal (b : IoBank) (m : BankMode) : (s.setBank b m).cal = s.cal := rfl

@[simp] theorem setEmitter_pending (p : Port) (e : Emitter) (f : EmitterSt → EmitterSt) : (s.setEmitter p e f).pending = s.pending := rfl
@[simp] theorem setEmitter_clk (p : Port) (e : Emitter) (f : EmitterSt → EmitterSt) : (s.setEmitter p e f).clk = s.clk := rfl
@[simp] theorem setEmitter_free (p : Port) (e : Emitter) (f : EmitterSt → EmitterSt) : (s.setEmitter p e f).free = s.free := rfl
@[simp] theorem setEmitter_tb (p : Port) (e : Emitter) (f : EmitterSt → EmitterSt) : (s.setEmitter p e f).tb = s.tb := rfl
@[simp] theorem setEmitter_tbFrac (p : Port) (e : Emitter) (f : EmitterSt → EmitterSt) : (s.setEmitter p e f).tbFrac = s.tbFrac := rfl
@[simp] theorem setEmitter_mbox (p : Port) (e : Emitter) (f : EmitterSt → EmitterSt) : (s.setEmitter p e f).mbox = s.mbox := rfl
@[simp] theorem setEmitter_cfg (p : Port) (e : Emitter) (f : EmitterSt → EmitterSt) : (s.setEmitter p e f).cfg = s.cfg := rfl
@[simp] theorem setEmitter_pend (p : Port) (e : Emitter) (f : EmitterSt → EmitterSt) : (s.setEmitter p e f).pend = s.pend := rfl
@[simp] theorem setEmitter_held (p : Port) (e : Emitter) (f : EmitterSt → EmitterSt) : (s.setEmitter p e f).held = s.held := rfl
@[simp] theorem setEmitter_stats (p : Port) (e : Emitter) (f : EmitterSt → EmitterSt) : (s.setEmitter p e f).stats = s.stats := rfl
@[simp] theorem setEmitter_start (p : Port) (e : Emitter) (f : EmitterSt → EmitterSt) : (s.setEmitter p e f).start = s.start := rfl
@[simp] theorem setEmitter_power (p : Port) (e : Emitter) (f : EmitterSt → EmitterSt) : (s.setEmitter p e f).power = s.power := rfl
@[simp] theorem setEmitter_life (p : Port) (e : Emitter) (f : EmitterSt → EmitterSt) : (s.setEmitter p e f).life = s.life := rfl
@[simp] theorem setEmitter_banks (p : Port) (e : Emitter) (f : EmitterSt → EmitterSt) : (s.setEmitter p e f).banks = s.banks := rfl
@[simp] theorem setEmitter_flash (p : Port) (e : Emitter) (f : EmitterSt → EmitterSt) : (s.setEmitter p e f).flash = s.flash := rfl
@[simp] theorem setEmitter_grids (p : Port) (e : Emitter) (f : EmitterSt → EmitterSt) : (s.setEmitter p e f).grids = s.grids := rfl
@[simp] theorem setEmitter_clove (p : Port) (e : Emitter) (f : EmitterSt → EmitterSt) : (s.setEmitter p e f).clove = s.clove := rfl
@[simp] theorem setEmitter_detect (p : Port) (e : Emitter) (f : EmitterSt → EmitterSt) : (s.setEmitter p e f).detect = s.detect := rfl
@[simp] theorem setEmitter_capture (p : Port) (e : Emitter) (f : EmitterSt → EmitterSt) : (s.setEmitter p e f).capture = s.capture := rfl
@[simp] theorem setEmitter_house (p : Port) (e : Emitter) (f : EmitterSt → EmitterSt) : (s.setEmitter p e f).house = s.house := rfl
@[simp] theorem setEmitter_link (p : Port) (e : Emitter) (f : EmitterSt → EmitterSt) : (s.setEmitter p e f).link = s.link := rfl
@[simp] theorem setEmitter_sumac (p : Port) (e : Emitter) (f : EmitterSt → EmitterSt) : (s.setEmitter p e f).sumac = s.sumac := rfl
@[simp] theorem setEmitter_time (p : Port) (e : Emitter) (f : EmitterSt → EmitterSt) : (s.setEmitter p e f).time = s.time := rfl
@[simp] theorem setEmitter_cal (p : Port) (e : Emitter) (f : EmitterSt → EmitterSt) : (s.setEmitter p e f).cal = s.cal := rfl

@[simp] theorem setRaman_pending (p : Port) (f : RamanSt → RamanSt) : (s.setRaman p f).pending = s.pending := rfl
@[simp] theorem setRaman_clk (p : Port) (f : RamanSt → RamanSt) : (s.setRaman p f).clk = s.clk := rfl
@[simp] theorem setRaman_free (p : Port) (f : RamanSt → RamanSt) : (s.setRaman p f).free = s.free := rfl
@[simp] theorem setRaman_tb (p : Port) (f : RamanSt → RamanSt) : (s.setRaman p f).tb = s.tb := rfl
@[simp] theorem setRaman_tbFrac (p : Port) (f : RamanSt → RamanSt) : (s.setRaman p f).tbFrac = s.tbFrac := rfl
@[simp] theorem setRaman_mbox (p : Port) (f : RamanSt → RamanSt) : (s.setRaman p f).mbox = s.mbox := rfl
@[simp] theorem setRaman_cfg (p : Port) (f : RamanSt → RamanSt) : (s.setRaman p f).cfg = s.cfg := rfl
@[simp] theorem setRaman_pend (p : Port) (f : RamanSt → RamanSt) : (s.setRaman p f).pend = s.pend := rfl
@[simp] theorem setRaman_held (p : Port) (f : RamanSt → RamanSt) : (s.setRaman p f).held = s.held := rfl
@[simp] theorem setRaman_stats (p : Port) (f : RamanSt → RamanSt) : (s.setRaman p f).stats = s.stats := rfl
@[simp] theorem setRaman_start (p : Port) (f : RamanSt → RamanSt) : (s.setRaman p f).start = s.start := rfl
@[simp] theorem setRaman_power (p : Port) (f : RamanSt → RamanSt) : (s.setRaman p f).power = s.power := rfl
@[simp] theorem setRaman_life (p : Port) (f : RamanSt → RamanSt) : (s.setRaman p f).life = s.life := rfl
@[simp] theorem setRaman_banks (p : Port) (f : RamanSt → RamanSt) : (s.setRaman p f).banks = s.banks := rfl
@[simp] theorem setRaman_flash (p : Port) (f : RamanSt → RamanSt) : (s.setRaman p f).flash = s.flash := rfl
@[simp] theorem setRaman_grids (p : Port) (f : RamanSt → RamanSt) : (s.setRaman p f).grids = s.grids := rfl
@[simp] theorem setRaman_clove (p : Port) (f : RamanSt → RamanSt) : (s.setRaman p f).clove = s.clove := rfl
@[simp] theorem setRaman_detect (p : Port) (f : RamanSt → RamanSt) : (s.setRaman p f).detect = s.detect := rfl
@[simp] theorem setRaman_capture (p : Port) (f : RamanSt → RamanSt) : (s.setRaman p f).capture = s.capture := rfl
@[simp] theorem setRaman_house (p : Port) (f : RamanSt → RamanSt) : (s.setRaman p f).house = s.house := rfl
@[simp] theorem setRaman_link (p : Port) (f : RamanSt → RamanSt) : (s.setRaman p f).link = s.link := rfl
@[simp] theorem setRaman_sumac (p : Port) (f : RamanSt → RamanSt) : (s.setRaman p f).sumac = s.sumac := rfl
@[simp] theorem setRaman_time (p : Port) (f : RamanSt → RamanSt) : (s.setRaman p f).time = s.time := rfl
@[simp] theorem setRaman_cal (p : Port) (f : RamanSt → RamanSt) : (s.setRaman p f).cal = s.cal := rfl

@[simp] theorem setLane_pending (k : Fin 8) (f : LaneSt → LaneSt) : (s.setLane k f).pending = s.pending := rfl
@[simp] theorem setLane_clk (k : Fin 8) (f : LaneSt → LaneSt) : (s.setLane k f).clk = s.clk := rfl
@[simp] theorem setLane_free (k : Fin 8) (f : LaneSt → LaneSt) : (s.setLane k f).free = s.free := rfl
@[simp] theorem setLane_tb (k : Fin 8) (f : LaneSt → LaneSt) : (s.setLane k f).tb = s.tb := rfl
@[simp] theorem setLane_tbFrac (k : Fin 8) (f : LaneSt → LaneSt) : (s.setLane k f).tbFrac = s.tbFrac := rfl
@[simp] theorem setLane_mbox (k : Fin 8) (f : LaneSt → LaneSt) : (s.setLane k f).mbox = s.mbox := rfl
@[simp] theorem setLane_cfg (k : Fin 8) (f : LaneSt → LaneSt) : (s.setLane k f).cfg = s.cfg := rfl
@[simp] theorem setLane_pend (k : Fin 8) (f : LaneSt → LaneSt) : (s.setLane k f).pend = s.pend := rfl
@[simp] theorem setLane_held (k : Fin 8) (f : LaneSt → LaneSt) : (s.setLane k f).held = s.held := rfl
@[simp] theorem setLane_stats (k : Fin 8) (f : LaneSt → LaneSt) : (s.setLane k f).stats = s.stats := rfl
@[simp] theorem setLane_start (k : Fin 8) (f : LaneSt → LaneSt) : (s.setLane k f).start = s.start := rfl
@[simp] theorem setLane_power (k : Fin 8) (f : LaneSt → LaneSt) : (s.setLane k f).power = s.power := rfl
@[simp] theorem setLane_life (k : Fin 8) (f : LaneSt → LaneSt) : (s.setLane k f).life = s.life := rfl
@[simp] theorem setLane_banks (k : Fin 8) (f : LaneSt → LaneSt) : (s.setLane k f).banks = s.banks := rfl
@[simp] theorem setLane_flash (k : Fin 8) (f : LaneSt → LaneSt) : (s.setLane k f).flash = s.flash := rfl
@[simp] theorem setLane_ports (k : Fin 8) (f : LaneSt → LaneSt) : (s.setLane k f).ports = s.ports := rfl
@[simp] theorem setLane_grids (k : Fin 8) (f : LaneSt → LaneSt) : (s.setLane k f).grids = s.grids := rfl
@[simp] theorem setLane_clove (k : Fin 8) (f : LaneSt → LaneSt) : (s.setLane k f).clove = s.clove := rfl
@[simp] theorem setLane_detect (k : Fin 8) (f : LaneSt → LaneSt) : (s.setLane k f).detect = s.detect := rfl
@[simp] theorem setLane_capture (k : Fin 8) (f : LaneSt → LaneSt) : (s.setLane k f).capture = s.capture := rfl
@[simp] theorem setLane_house (k : Fin 8) (f : LaneSt → LaneSt) : (s.setLane k f).house = s.house := rfl
@[simp] theorem setLane_sumac (k : Fin 8) (f : LaneSt → LaneSt) : (s.setLane k f).sumac = s.sumac := rfl
@[simp] theorem setLane_time (k : Fin 8) (f : LaneSt → LaneSt) : (s.setLane k f).time = s.time := rfl
@[simp] theorem setLane_cal (k : Fin 8) (f : LaneSt → LaneSt) : (s.setLane k f).cal = s.cal := rfl

@[simp] theorem elapse_pending (dt : Nat) : (s.elapse dt).pending = s.pending := rfl
@[simp] theorem elapse_free (dt : Nat) : (s.elapse dt).free = s.free := rfl
@[simp] theorem elapse_tbFrac (dt : Nat) : (s.elapse dt).tbFrac = s.tbFrac := rfl
@[simp] theorem elapse_mbox (dt : Nat) : (s.elapse dt).mbox = s.mbox := rfl
@[simp] theorem elapse_cfg (dt : Nat) : (s.elapse dt).cfg = s.cfg := rfl
@[simp] theorem elapse_pend (dt : Nat) : (s.elapse dt).pend = s.pend := rfl
@[simp] theorem elapse_held (dt : Nat) : (s.elapse dt).held = s.held := rfl
@[simp] theorem elapse_stats (dt : Nat) : (s.elapse dt).stats = s.stats := rfl
@[simp] theorem elapse_start (dt : Nat) : (s.elapse dt).start = s.start := rfl
@[simp] theorem elapse_power (dt : Nat) : (s.elapse dt).power = s.power := rfl
@[simp] theorem elapse_life (dt : Nat) : (s.elapse dt).life = s.life := rfl
@[simp] theorem elapse_banks (dt : Nat) : (s.elapse dt).banks = s.banks := rfl
@[simp] theorem elapse_flash (dt : Nat) : (s.elapse dt).flash = s.flash := rfl
@[simp] theorem elapse_ports (dt : Nat) : (s.elapse dt).ports = s.ports := rfl
@[simp] theorem elapse_grids (dt : Nat) : (s.elapse dt).grids = s.grids := rfl
@[simp] theorem elapse_clove (dt : Nat) : (s.elapse dt).clove = s.clove := rfl
@[simp] theorem elapse_detect (dt : Nat) : (s.elapse dt).detect = s.detect := rfl
@[simp] theorem elapse_capture (dt : Nat) : (s.elapse dt).capture = s.capture := rfl
@[simp] theorem elapse_house (dt : Nat) : (s.elapse dt).house = s.house := rfl
@[simp] theorem elapse_link (dt : Nat) : (s.elapse dt).link = s.link := rfl
@[simp] theorem elapse_sumac (dt : Nat) : (s.elapse dt).sumac = s.sumac := rfl
@[simp] theorem elapse_time (dt : Nat) : (s.elapse dt).time = s.time := rfl
@[simp] theorem elapse_cal (dt : Nat) : (s.elapse dt).cal = s.cal := rfl

@[simp] theorem elapse_clk (dt : Nat) : (s.elapse dt).clk = s.clk + dt := rfl

/-! Elements of vectors -/

theorem vmod_same {α : Type} {n : Nat} (v : Vector α n) (i : Fin n) (f : α → α) : (vmod v i f)[i] = f v[i] := by
  simp [vmod]
theorem vmod_other {α : Type} {n : Nat} (v : Vector α n) (i j : Fin n) (f : α → α) (h : i ≠ j) : (vmod v i f)[j] = v[j] := by
  simp [vmod, Fin.val_ne_of_ne h]

@[simp] theorem setPort_port (p : Port) (f : PortSt → PortSt) : (s.setPort p f).port p = f (s.port p) := vmod_same ..
theorem setPort_port_other (p r : Port) (f : PortSt → PortSt) (h : p ≠ r) : (s.setPort p f).port r = s.port r :=
  vmod_other _ _ _ _ h
@[simp] theorem setHead_port (p : Port) (f : HeadSt → HeadSt) :
    (s.setHead p f).port p = { s.port p with head := f (s.port p).head } := setPort_port s p _
@[simp] theorem setDrive_port (p : Port) (f : DriveSt → DriveSt) :
    (s.setDrive p f).port p = { s.port p with drive := f (s.port p).drive } := setPort_port s p _
@[simp] theorem setSeq_port (p : Port) (f : SeqSt → SeqSt) :
    (s.setSeq p f).port p = { s.port p with seq := f (s.port p).seq } := setPort_port s p _
@[simp] theorem setRx_port (p : Port) (f : RxSt → RxSt) :
    (s.setRx p f).port p = { s.port p with rx := f (s.port p).rx } := setPort_port s p _
@[simp] theorem setGauge_port (p : Port) (f : GaugeSt → GaugeSt) :
    (s.setGauge p f).port p = { s.port p with gauge := f (s.port p).gauge } := setPort_port s p _
@[simp] theorem setQueue_port (p : Port) (f : QueueSt → QueueSt) :
    (s.setQueue p f).port p = { s.port p with queue := f (s.port p).queue } := setPort_port s p _
@[simp] theorem setEngine_engine (e : EngineId) (f : EngineSt → EngineSt) : (s.setEngine e f).engine e = f (s.engine e) :=
  vmod_same ..
theorem setEngine_engine_other (e r : EngineId) (f : EngineSt → EngineSt) (h : e ≠ r) :
    (s.setEngine e f).engine r = s.engine r := vmod_other _ _ _ _ h
@[simp] theorem setEngine_clusters (e : EngineId) (f : EngineSt → EngineSt) :
    (s.setEngine e f).clove.clusters = s.clove.clusters := rfl
@[simp] theorem setEngine_programs (e : EngineId) (f : EngineSt → EngineSt) :
    (s.setEngine e f).clove.programs = s.clove.programs := rfl
@[simp] theorem setEngine_load (e : EngineId) (f : EngineSt → EngineSt) :
    (s.setEngine e f).clove.load = s.clove.load := rfl

@[simp] theorem setMem_mem (f : CapMemSt → CapMemSt) : (s.setMem f).capture.mem = f s.capture.mem := rfl
@[simp] theorem setHk_hk (i : Fin 2) (f : HkSt → HkSt) : (s.setHk i f).hk i = f (s.hk i) := vmod_same ..
@[simp] theorem setLoop_loop (n : Fin 8) (f : LoopSt → LoopSt) : (s.setLoop n f).loop n = f (s.loop n) := vmod_same ..
@[simp] theorem setAlarm_alarm (n : Fin 8) (f : AlarmSt → AlarmSt) : (s.setAlarm n f).alarm n = f (s.alarm n) := vmod_same ..
@[simp] theorem setGroup_group (g : GroupId) (f : GroupSt → GroupSt) : (s.setGroup g f).group g = f (s.group g) := vmod_same ..
@[simp] theorem setMask_mask (p : Port) (f : MaskSt → MaskSt) : (s.setMask p f).mask p = f (s.mask p) := vmod_same ..
@[simp] theorem setCalPort_calPort (p : Port) (f : CalPortSt → CalPortSt) : (s.setCalPort p f).calPort p = f (s.calPort p) :=
  vmod_same ..
@[simp] theorem setTi_ti (f : TiSt → TiSt) : (s.setTi f).time.ti = f s.time.ti := rfl
@[simp] theorem setRaman_raman (p : Port) (f : RamanSt → RamanSt) : (s.setRaman p f).raman p = f (s.raman p) := by
  simp [State.setRaman, State.raman]
@[simp] theorem setEmitter_emitter (p : Port) (e : Emitter) (f : EmitterSt → EmitterSt) :
    (s.setEmitter p e f).emitter p e = f (s.emitter p e) := by
  simp only [State.emitter, State.setEmitter, setDrive_port]; exact vmod_same ..

/-! The passing of time changes nothing but the clock and the time base -/

@[simp] theorem elapse_runs (dt : Nat) : (s.elapse dt).runs = s.runs := rfl
@[simp] theorem elapse_timeRuns (dt : Nat) : (s.elapse dt).timeRuns = s.timeRuns := rfl
@[simp] theorem elapse_port (dt : Nat) (p : Port) : (s.elapse dt).port p = s.port p := rfl
@[simp] theorem elapse_emitter (dt : Nat) (p : Port) (e : Emitter) : (s.elapse dt).emitter p e = s.emitter p e := rfl
@[simp] theorem elapse_raman (dt : Nat) (p : Port) : (s.elapse dt).raman p = s.raman p := rfl
@[simp] theorem elapse_engine (dt : Nat) (e : EngineId) : (s.elapse dt).engine e = s.engine e := rfl
@[simp] theorem elapse_cluster (dt : Nat) (c : Port) : (s.elapse dt).cluster c = s.cluster c := rfl
@[simp] theorem elapse_zone (dt : Nat) (z : ZoneId) : (s.elapse dt).zone z = s.zone z := rfl
@[simp] theorem elapse_group (dt : Nat) (g : GroupId) : (s.elapse dt).group g = s.group g := rfl
@[simp] theorem elapse_stream (dt i : Nat) : (s.elapse dt).stream i = s.stream i := rfl
@[simp] theorem elapse_mask (dt : Nat) (p : Port) : (s.elapse dt).mask p = s.mask p := rfl
@[simp] theorem elapse_ring (dt : Nat) (p : Port) (k : RingKind) : (s.elapse dt).ring p k = s.ring p k := rfl
@[simp] theorem elapse_hk (dt : Nat) (i : Fin 2) : (s.elapse dt).hk i = s.hk i := rfl
@[simp] theorem elapse_loop (dt : Nat) (n : Fin 8) : (s.elapse dt).loop n = s.loop n := rfl
@[simp] theorem elapse_alarm (dt : Nat) (n : Fin 8) : (s.elapse dt).alarm n = s.alarm n := rfl
@[simp] theorem elapse_calPort (dt : Nat) (p : Port) : (s.elapse dt).calPort p = s.calPort p := rfl
@[simp] theorem elapse_fld (dt : Nat) (f : Fld) (i : Nat) : (s.elapse dt).fld f i = s.fld f i := rfl
@[simp] theorem elapse_sfld (dt : Nat) (f : Fld) (i : Nat) : (s.elapse dt).sfld f i = s.sfld f i := rfl
@[simp] theorem elapse_flag (dt : Nat) (f : Fld) (i : Nat) : (s.elapse dt).flag f i = s.flag f i := rfl
@[simp] theorem elapse_ctr (dt : Nat) (c : Ctr) (i : Nat) : (s.elapse dt).ctr c i = s.ctr c i := rfl

/-! Events and completions change the mailbox, and an event the counters -/

/-- Two states differ in the mailbox and the counters alone. -/
def MailOnly (s t : State) : Prop := ∃ m st, t = { s with mbox := m, stats := st }

theorem MailOnly.trans {s t u : State} (h : MailOnly s t) (g : MailOnly t u) : MailOnly s u := by
  obtain ⟨_, _, rfl⟩ := h
  obtain ⟨m, st, rfl⟩ := g
  exact ⟨m, st, rfl⟩
theorem setMbox_mail (f : MboxSt → MboxSt) : MailOnly s (s.setMbox f) := ⟨f s.mbox, s.stats, rfl⟩
theorem count_mail (c : Ctr) (i n : Nat) : MailOnly s (s.count c i n) := ⟨s.mbox, _, rfl⟩
theorem same_mail : MailOnly s s := ⟨s.mbox, s.stats, rfl⟩

theorem drainEvents_mail (n : Nat) : ∀ s : State, MailOnly s (State.drainEvents n s) := by
  induction n with
  | zero => exact same_mail
  | succ n ih =>
    intro s
    rw [State.drainEvents]
    split
    · exact same_mail s
    · split
      · exact ((setMbox_mail s _).trans (setMbox_mail _ _)).trans (ih _)
      · split
        · exact same_mail s
        · exact ((setMbox_mail s _).trans (setMbox_mail _ _)).trans (ih _)

theorem eventToQueue_mail (e : EventRec) : MailOnly s (s.eventToQueue e) := by
  simp only [State.eventToQueue]
  split
  · exact (((setMbox_mail s _).trans (setMbox_mail _ _)).trans (count_mail _ _ _ _)).trans (drainEvents_mail _ _)
  · exact (setMbox_mail s _).trans (drainEvents_mail _ _)

theorem event_mail (code unit sub : Nat) (vs : List Nat) : MailOnly s (s.event code unit sub vs) := by
  simp only [State.event]
  split <;> split
  · exact (setMbox_mail s _).trans (eventToQueue_mail _ _)
  · exact eventToQueue_mail _ _
  · exact setMbox_mail s _
  · exact same_mail s

theorem completeWith_frame (rq : Req) (st : Status) (fl : CompFlags) (r more : List Byte) :
    ∃ m, s.completeWith rq st fl r more = s.setMbox (fun _ => m) := by
  unfold State.completeWith
  split
  · split <;> exact ⟨_, rfl⟩
  · exact ⟨_, rfl⟩

theorem complete_eq (rq : Req) (st : Status) : s.complete rq st = s.completeWith rq st noFlags [] [] := rfl
theorem completeResult_eq (rq : Req) (st : Status) (r : List Byte) : s.completeResult rq st r = s.completeWith rq st noFlags r [] :=
  rfl

@[simp] theorem event_pending (code unit sub : Nat) (vs : List Nat) : (s.event code unit sub vs).pending = s.pending := by
  obtain ⟨m, st, h⟩ := event_mail s code unit sub vs; rw [h]
@[simp] theorem completeWith_pending (rq : Req) (st : Status) (fl : CompFlags) (r more : List Byte) :
    (s.completeWith rq st fl r more).pending = s.pending := by obtain ⟨m, h⟩ := completeWith_frame s rq st fl r more; rw [h]; rfl
@[simp] theorem complete_pending (rq : Req) (st : Status) : (s.complete rq st).pending = s.pending := completeWith_pending ..
@[simp] theorem completeResult_pending (rq : Req) (st : Status) (r : List Byte) : (s.completeResult rq st r).pending = s.pending :=
  completeWith_pending ..
@[simp] theorem event_clk (code unit sub : Nat) (vs : List Nat) : (s.event code unit sub vs).clk = s.clk := by
  obtain ⟨m, st, h⟩ := event_mail s code unit sub vs; rw [h]
@[simp] theorem completeWith_clk (rq : Req) (st : Status) (fl : CompFlags) (r more : List Byte) :
    (s.completeWith rq st fl r more).clk = s.clk := by obtain ⟨m, h⟩ := completeWith_frame s rq st fl r more; rw [h]; rfl
@[simp] theorem complete_clk (rq : Req) (st : Status) : (s.complete rq st).clk = s.clk := completeWith_clk ..
@[simp] theorem completeResult_clk (rq : Req) (st : Status) (r : List Byte) : (s.completeResult rq st r).clk = s.clk :=
  completeWith_clk ..
@[simp] theorem event_free (code unit sub : Nat) (vs : List Nat) : (s.event code unit sub vs).free = s.free := by
  obtain ⟨m, st, h⟩ := event_mail s code unit sub vs; rw [h]
@[simp] theorem completeWith_free (rq : Req) (st : Status) (fl : CompFlags) (r more : List Byte) :
    (s.completeWith rq st fl r more).free = s.free := by obtain ⟨m, h⟩ := completeWith_frame s rq st fl r more; rw [h]; rfl
@[simp] theorem complete_free (rq : Req) (st : Status) : (s.complete rq st).free = s.free := completeWith_free ..
@[simp] theorem completeResult_free (rq : Req) (st : Status) (r : List Byte) : (s.completeResult rq st r).free = s.free :=
  completeWith_free ..
@[simp] theorem event_tb (code unit sub : Nat) (vs : List Nat) : (s.event code unit sub vs).tb = s.tb := by
  obtain ⟨m, st, h⟩ := event_mail s code unit sub vs; rw [h]
@[simp] theorem completeWith_tb (rq : Req) (st : Status) (fl : CompFlags) (r more : List Byte) :
    (s.completeWith rq st fl r more).tb = s.tb := by obtain ⟨m, h⟩ := completeWith_frame s rq st fl r more; rw [h]; rfl
@[simp] theorem complete_tb (rq : Req) (st : Status) : (s.complete rq st).tb = s.tb := completeWith_tb ..
@[simp] theorem completeResult_tb (rq : Req) (st : Status) (r : List Byte) : (s.completeResult rq st r).tb = s.tb :=
  completeWith_tb ..
@[simp] theorem event_tbFrac (code unit sub : Nat) (vs : List Nat) : (s.event code unit sub vs).tbFrac = s.tbFrac := by
  obtain ⟨m, st, h⟩ := event_mail s code unit sub vs; rw [h]
@[simp] theorem completeWith_tbFrac (rq : Req) (st : Status) (fl : CompFlags) (r more : List Byte) :
    (s.completeWith rq st fl r more).tbFrac = s.tbFrac := by obtain ⟨m, h⟩ := completeWith_frame s rq st fl r more; rw [h]; rfl
@[simp] theorem complete_tbFrac (rq : Req) (st : Status) : (s.complete rq st).tbFrac = s.tbFrac := completeWith_tbFrac ..
@[simp] theorem completeResult_tbFrac (rq : Req) (st : Status) (r : List Byte) : (s.completeResult rq st r).tbFrac = s.tbFrac :=
  completeWith_tbFrac ..
@[simp] theorem event_cfg (code unit sub : Nat) (vs : List Nat) : (s.event code unit sub vs).cfg = s.cfg := by
  obtain ⟨m, st, h⟩ := event_mail s code unit sub vs; rw [h]
@[simp] theorem completeWith_cfg (rq : Req) (st : Status) (fl : CompFlags) (r more : List Byte) :
    (s.completeWith rq st fl r more).cfg = s.cfg := by obtain ⟨m, h⟩ := completeWith_frame s rq st fl r more; rw [h]; rfl
@[simp] theorem complete_cfg (rq : Req) (st : Status) : (s.complete rq st).cfg = s.cfg := completeWith_cfg ..
@[simp] theorem completeResult_cfg (rq : Req) (st : Status) (r : List Byte) : (s.completeResult rq st r).cfg = s.cfg :=
  completeWith_cfg ..
@[simp] theorem event_pend (code unit sub : Nat) (vs : List Nat) : (s.event code unit sub vs).pend = s.pend := by
  obtain ⟨m, st, h⟩ := event_mail s code unit sub vs; rw [h]
@[simp] theorem completeWith_pend (rq : Req) (st : Status) (fl : CompFlags) (r more : List Byte) :
    (s.completeWith rq st fl r more).pend = s.pend := by obtain ⟨m, h⟩ := completeWith_frame s rq st fl r more; rw [h]; rfl
@[simp] theorem complete_pend (rq : Req) (st : Status) : (s.complete rq st).pend = s.pend := completeWith_pend ..
@[simp] theorem completeResult_pend (rq : Req) (st : Status) (r : List Byte) : (s.completeResult rq st r).pend = s.pend :=
  completeWith_pend ..
@[simp] theorem event_held (code unit sub : Nat) (vs : List Nat) : (s.event code unit sub vs).held = s.held := by
  obtain ⟨m, st, h⟩ := event_mail s code unit sub vs; rw [h]
@[simp] theorem completeWith_held (rq : Req) (st : Status) (fl : CompFlags) (r more : List Byte) :
    (s.completeWith rq st fl r more).held = s.held := by obtain ⟨m, h⟩ := completeWith_frame s rq st fl r more; rw [h]; rfl
@[simp] theorem complete_held (rq : Req) (st : Status) : (s.complete rq st).held = s.held := completeWith_held ..
@[simp] theorem completeResult_held (rq : Req) (st : Status) (r : List Byte) : (s.completeResult rq st r).held = s.held :=
  completeWith_held ..
@[simp] theorem completeWith_stats (rq : Req) (st : Status) (fl : CompFlags) (r more : List Byte) :
    (s.completeWith rq st fl r more).stats = s.stats := by obtain ⟨m, h⟩ := completeWith_frame s rq st fl r more; rw [h]; rfl
@[simp] theorem complete_stats (rq : Req) (st : Status) : (s.complete rq st).stats = s.stats := completeWith_stats ..
@[simp] theorem completeResult_stats (rq : Req) (st : Status) (r : List Byte) : (s.completeResult rq st r).stats = s.stats :=
  completeWith_stats ..
@[simp] theorem event_start (code unit sub : Nat) (vs : List Nat) : (s.event code unit sub vs).start = s.start := by
  obtain ⟨m, st, h⟩ := event_mail s code unit sub vs; rw [h]
@[simp] theorem completeWith_start (rq : Req) (st : Status) (fl : CompFlags) (r more : List Byte) :
    (s.completeWith rq st fl r more).start = s.start := by obtain ⟨m, h⟩ := completeWith_frame s rq st fl r more; rw [h]; rfl
@[simp] theorem complete_start (rq : Req) (st : Status) : (s.complete rq st).start = s.start := completeWith_start ..
@[simp] theorem completeResult_start (rq : Req) (st : Status) (r : List Byte) : (s.completeResult rq st r).start = s.start :=
  completeWith_start ..
@[simp] theorem event_power (code unit sub : Nat) (vs : List Nat) : (s.event code unit sub vs).power = s.power := by
  obtain ⟨m, st, h⟩ := event_mail s code unit sub vs; rw [h]
@[simp] theorem completeWith_power (rq : Req) (st : Status) (fl : CompFlags) (r more : List Byte) :
    (s.completeWith rq st fl r more).power = s.power := by obtain ⟨m, h⟩ := completeWith_frame s rq st fl r more; rw [h]; rfl
@[simp] theorem complete_power (rq : Req) (st : Status) : (s.complete rq st).power = s.power := completeWith_power ..
@[simp] theorem completeResult_power (rq : Req) (st : Status) (r : List Byte) : (s.completeResult rq st r).power = s.power :=
  completeWith_power ..
@[simp] theorem event_life (code unit sub : Nat) (vs : List Nat) : (s.event code unit sub vs).life = s.life := by
  obtain ⟨m, st, h⟩ := event_mail s code unit sub vs; rw [h]
@[simp] theorem completeWith_life (rq : Req) (st : Status) (fl : CompFlags) (r more : List Byte) :
    (s.completeWith rq st fl r more).life = s.life := by obtain ⟨m, h⟩ := completeWith_frame s rq st fl r more; rw [h]; rfl
@[simp] theorem complete_life (rq : Req) (st : Status) : (s.complete rq st).life = s.life := completeWith_life ..
@[simp] theorem completeResult_life (rq : Req) (st : Status) (r : List Byte) : (s.completeResult rq st r).life = s.life :=
  completeWith_life ..
@[simp] theorem event_banks (code unit sub : Nat) (vs : List Nat) : (s.event code unit sub vs).banks = s.banks := by
  obtain ⟨m, st, h⟩ := event_mail s code unit sub vs; rw [h]
@[simp] theorem completeWith_banks (rq : Req) (st : Status) (fl : CompFlags) (r more : List Byte) :
    (s.completeWith rq st fl r more).banks = s.banks := by obtain ⟨m, h⟩ := completeWith_frame s rq st fl r more; rw [h]; rfl
@[simp] theorem complete_banks (rq : Req) (st : Status) : (s.complete rq st).banks = s.banks := completeWith_banks ..
@[simp] theorem completeResult_banks (rq : Req) (st : Status) (r : List Byte) : (s.completeResult rq st r).banks = s.banks :=
  completeWith_banks ..
@[simp] theorem event_flash (code unit sub : Nat) (vs : List Nat) : (s.event code unit sub vs).flash = s.flash := by
  obtain ⟨m, st, h⟩ := event_mail s code unit sub vs; rw [h]
@[simp] theorem completeWith_flash (rq : Req) (st : Status) (fl : CompFlags) (r more : List Byte) :
    (s.completeWith rq st fl r more).flash = s.flash := by obtain ⟨m, h⟩ := completeWith_frame s rq st fl r more; rw [h]; rfl
@[simp] theorem complete_flash (rq : Req) (st : Status) : (s.complete rq st).flash = s.flash := completeWith_flash ..
@[simp] theorem completeResult_flash (rq : Req) (st : Status) (r : List Byte) : (s.completeResult rq st r).flash = s.flash :=
  completeWith_flash ..
@[simp] theorem event_ports (code unit sub : Nat) (vs : List Nat) : (s.event code unit sub vs).ports = s.ports := by
  obtain ⟨m, st, h⟩ := event_mail s code unit sub vs; rw [h]
@[simp] theorem completeWith_ports (rq : Req) (st : Status) (fl : CompFlags) (r more : List Byte) :
    (s.completeWith rq st fl r more).ports = s.ports := by obtain ⟨m, h⟩ := completeWith_frame s rq st fl r more; rw [h]; rfl
@[simp] theorem complete_ports (rq : Req) (st : Status) : (s.complete rq st).ports = s.ports := completeWith_ports ..
@[simp] theorem completeResult_ports (rq : Req) (st : Status) (r : List Byte) : (s.completeResult rq st r).ports = s.ports :=
  completeWith_ports ..
@[simp] theorem event_grids (code unit sub : Nat) (vs : List Nat) : (s.event code unit sub vs).grids = s.grids := by
  obtain ⟨m, st, h⟩ := event_mail s code unit sub vs; rw [h]
@[simp] theorem completeWith_grids (rq : Req) (st : Status) (fl : CompFlags) (r more : List Byte) :
    (s.completeWith rq st fl r more).grids = s.grids := by obtain ⟨m, h⟩ := completeWith_frame s rq st fl r more; rw [h]; rfl
@[simp] theorem complete_grids (rq : Req) (st : Status) : (s.complete rq st).grids = s.grids := completeWith_grids ..
@[simp] theorem completeResult_grids (rq : Req) (st : Status) (r : List Byte) : (s.completeResult rq st r).grids = s.grids :=
  completeWith_grids ..
@[simp] theorem event_clove (code unit sub : Nat) (vs : List Nat) : (s.event code unit sub vs).clove = s.clove := by
  obtain ⟨m, st, h⟩ := event_mail s code unit sub vs; rw [h]
@[simp] theorem completeWith_clove (rq : Req) (st : Status) (fl : CompFlags) (r more : List Byte) :
    (s.completeWith rq st fl r more).clove = s.clove := by obtain ⟨m, h⟩ := completeWith_frame s rq st fl r more; rw [h]; rfl
@[simp] theorem complete_clove (rq : Req) (st : Status) : (s.complete rq st).clove = s.clove := completeWith_clove ..
@[simp] theorem completeResult_clove (rq : Req) (st : Status) (r : List Byte) : (s.completeResult rq st r).clove = s.clove :=
  completeWith_clove ..
@[simp] theorem event_detect (code unit sub : Nat) (vs : List Nat) : (s.event code unit sub vs).detect = s.detect := by
  obtain ⟨m, st, h⟩ := event_mail s code unit sub vs; rw [h]
@[simp] theorem completeWith_detect (rq : Req) (st : Status) (fl : CompFlags) (r more : List Byte) :
    (s.completeWith rq st fl r more).detect = s.detect := by obtain ⟨m, h⟩ := completeWith_frame s rq st fl r more; rw [h]; rfl
@[simp] theorem complete_detect (rq : Req) (st : Status) : (s.complete rq st).detect = s.detect := completeWith_detect ..
@[simp] theorem completeResult_detect (rq : Req) (st : Status) (r : List Byte) : (s.completeResult rq st r).detect = s.detect :=
  completeWith_detect ..
@[simp] theorem event_capture (code unit sub : Nat) (vs : List Nat) : (s.event code unit sub vs).capture = s.capture := by
  obtain ⟨m, st, h⟩ := event_mail s code unit sub vs; rw [h]
@[simp] theorem completeWith_capture (rq : Req) (st : Status) (fl : CompFlags) (r more : List Byte) :
    (s.completeWith rq st fl r more).capture = s.capture := by obtain ⟨m, h⟩ := completeWith_frame s rq st fl r more; rw [h]; rfl
@[simp] theorem complete_capture (rq : Req) (st : Status) : (s.complete rq st).capture = s.capture := completeWith_capture ..
@[simp] theorem completeResult_capture (rq : Req) (st : Status) (r : List Byte) : (s.completeResult rq st r).capture = s.capture :=
  completeWith_capture ..
@[simp] theorem event_house (code unit sub : Nat) (vs : List Nat) : (s.event code unit sub vs).house = s.house := by
  obtain ⟨m, st, h⟩ := event_mail s code unit sub vs; rw [h]
@[simp] theorem completeWith_house (rq : Req) (st : Status) (fl : CompFlags) (r more : List Byte) :
    (s.completeWith rq st fl r more).house = s.house := by obtain ⟨m, h⟩ := completeWith_frame s rq st fl r more; rw [h]; rfl
@[simp] theorem complete_house (rq : Req) (st : Status) : (s.complete rq st).house = s.house := completeWith_house ..
@[simp] theorem completeResult_house (rq : Req) (st : Status) (r : List Byte) : (s.completeResult rq st r).house = s.house :=
  completeWith_house ..
@[simp] theorem event_link (code unit sub : Nat) (vs : List Nat) : (s.event code unit sub vs).link = s.link := by
  obtain ⟨m, st, h⟩ := event_mail s code unit sub vs; rw [h]
@[simp] theorem completeWith_link (rq : Req) (st : Status) (fl : CompFlags) (r more : List Byte) :
    (s.completeWith rq st fl r more).link = s.link := by obtain ⟨m, h⟩ := completeWith_frame s rq st fl r more; rw [h]; rfl
@[simp] theorem complete_link (rq : Req) (st : Status) : (s.complete rq st).link = s.link := completeWith_link ..
@[simp] theorem completeResult_link (rq : Req) (st : Status) (r : List Byte) : (s.completeResult rq st r).link = s.link :=
  completeWith_link ..
@[simp] theorem event_sumac (code unit sub : Nat) (vs : List Nat) : (s.event code unit sub vs).sumac = s.sumac := by
  obtain ⟨m, st, h⟩ := event_mail s code unit sub vs; rw [h]
@[simp] theorem completeWith_sumac (rq : Req) (st : Status) (fl : CompFlags) (r more : List Byte) :
    (s.completeWith rq st fl r more).sumac = s.sumac := by obtain ⟨m, h⟩ := completeWith_frame s rq st fl r more; rw [h]; rfl
@[simp] theorem complete_sumac (rq : Req) (st : Status) : (s.complete rq st).sumac = s.sumac := completeWith_sumac ..
@[simp] theorem completeResult_sumac (rq : Req) (st : Status) (r : List Byte) : (s.completeResult rq st r).sumac = s.sumac :=
  completeWith_sumac ..
@[simp] theorem event_time (code unit sub : Nat) (vs : List Nat) : (s.event code unit sub vs).time = s.time := by
  obtain ⟨m, st, h⟩ := event_mail s code unit sub vs; rw [h]
@[simp] theorem completeWith_time (rq : Req) (st : Status) (fl : CompFlags) (r more : List Byte) :
    (s.completeWith rq st fl r more).time = s.time := by obtain ⟨m, h⟩ := completeWith_frame s rq st fl r more; rw [h]; rfl
@[simp] theorem complete_time (rq : Req) (st : Status) : (s.complete rq st).time = s.time := completeWith_time ..
@[simp] theorem completeResult_time (rq : Req) (st : Status) (r : List Byte) : (s.completeResult rq st r).time = s.time :=
  completeWith_time ..
@[simp] theorem event_cal (code unit sub : Nat) (vs : List Nat) : (s.event code unit sub vs).cal = s.cal := by
  obtain ⟨m, st, h⟩ := event_mail s code unit sub vs; rw [h]
@[simp] theorem completeWith_cal (rq : Req) (st : Status) (fl : CompFlags) (r more : List Byte) :
    (s.completeWith rq st fl r more).cal = s.cal := by obtain ⟨m, h⟩ := completeWith_frame s rq st fl r more; rw [h]; rfl
@[simp] theorem complete_cal (rq : Req) (st : Status) : (s.complete rq st).cal = s.cal := completeWith_cal ..
@[simp] theorem completeResult_cal (rq : Req) (st : Status) (r : List Byte) : (s.completeResult rq st r).cal = s.cal :=
  completeWith_cal ..
/-- A completed tag has left flight. -/
@[simp] theorem completeWith_flights (rq : Req) (st : Status) (fl : CompFlags) (r more : List Byte) :
    (s.completeWith rq st fl r more).mbox.flights = s.mbox.flights.filter (fun f => f.tag != rq.tag) := by
  unfold State.completeWith
  split
  · split <;> rfl
  · rfl
@[simp] theorem complete_flights (rq : Req) (st : Status) :
    (s.complete rq st).mbox.flights = s.mbox.flights.filter (fun f => f.tag != rq.tag) := completeWith_flights ..
@[simp] theorem completeResult_flights (rq : Req) (st : Status) (r : List Byte) :
    (s.completeResult rq st r).mbox.flights = s.mbox.flights.filter (fun f => f.tag != rq.tag) := completeWith_flights ..

/-! Fields and counters -/

theorem find_put {α : Type} (t : Tab α) (x y : Nat) (v : α) :
    Tab.find? (Tab.put t x v) y = if x = y then some v else Tab.find? t y := by
  induction t with
  | nil => simp [Tab.put, Tab.find?]
  | cons c t ih =>
    obtain ⟨k, w⟩ := c
    simp only [Tab.put]
    split
    · simp [Tab.find?]
    · split
      · rename_i h; subst h; simp only [Tab.find?]; split <;> rfl
      · rename_i h1 h2
        simp only [Tab.find?, ih]
        by_cases hy : k = y
        · subst hy; simp [h2]
        · simp [hy]

end Sys2Proof.Machine
end

