-- ==== Sys2Proof/Laws/Host.lean ====
section
/-! SUPPORT. A command of the host does its work in the state in which it begins, which differs from the state before in the
time that has passed and in the mailbox. -/

namespace Sys2Proof.Machine

theorem runCmd_arrived (s : State) (dt : Nat) (rq : Req) (code : Nat) (ps : List Byte) (body : State → State) :
    s.runCmd dt rq code ps body =
      if (s.arrived dt rq code ps).mayStart rq code ps then
        match (s.arrived dt rq code ps).gate rq code with
        | some st => (s.arrived dt rq code ps).complete rq st
        | none => body ((s.arrived dt rq code ps).markStarted rq.tag)
      else s.arrived dt rq code ps := rfl

theorem runCmd_began {s u : State} {dt : Nat} {rq : Req} {code : Nat} {ps : List Byte} {body : State → State}
    (h : s.began dt rq code ps = some u) : s.runCmd dt rq code ps body = body u := by
  rw [runCmd_arrived]
  unfold State.began at h
  generalize s.arrived dt rq code ps = v at h ⊢
  by_cases h1 : v.mayStart rq code ps = true
  · cases h2 : v.gate rq code with
    | none =>
      simp only [h1, h2, Option.isNone_none, Bool.and_self, if_true] at h
      simp only [h1, if_true]
      exact congrArg body (Option.some.inj h)
    | some st => simp [h1, h2] at h
  · simp [h1] at h

/-- A command that may start is in flight. -/
theorem mayStart_flight {s : State} {rq : Req} {code : Nat} {ps : List Byte} (h : s.mayStart rq code ps = true) :
    (s.flightOf rq.tag).isSome = true := by
  unfold State.mayStart at h
  split at h
  · rename_i f hf
    simp only [Bool.and_eq_true, decide_eq_true_eq] at h
    unfold State.flightOf
    rw [List.find?_isSome]
    exact ⟨f, List.mem_of_find?_eq_some hf, by simp [h.1.1.1.1.1]⟩
  · cases h

theorem mayStart_completeWith (s : State) (rq : Req) (st : Status) (fl : CompFlags) (r more : List Byte) (code : Nat)
    (ps : List Byte) : (s.completeWith rq st fl r more).mayStart rq code ps = false := by
  cases hb : (s.completeWith rq st fl r more).mayStart rq code ps with
  | false => rfl
  | true =>
    have h := mayStart_flight hb
    unfold State.flightOf at h
    rw [completeWith_flights, List.find?_isSome] at h
    obtain ⟨f, hf, hg⟩ := h
    simp at hf hg
    exact absurd hg hf.2

/-- Acceptance of a command that may start afterwards put its flight into the mailbox and did nothing else. -/
theorem acceptCmd_mayStart {s : State} {rq : Req} {code : Nat} {ok : Bool} {ps qs : List Byte}
    (h : (s.acceptCmd rq code ok ps).mayStart rq code qs = true) : ∃ m, s.acceptCmd rq code ok ps = s.setMbox (fun _ => m) := by
  revert h
  unfold State.acceptCmd
  split
  · intro h; rw [State.complete, mayStart_completeWith] at h; cases h
  · split
    · intro h; rw [State.complete, mayStart_completeWith] at h; cases h
    · split
      · intro h; rw [State.complete, mayStart_completeWith] at h; cases h
      · split
        · intro h; rw [State.complete, mayStart_completeWith] at h; cases h
        · split
          · intro h; rw [State.complete, mayStart_completeWith] at h; cases h
          · intro _; exact ⟨_, rfl⟩

theorem arrived_mayStart {s : State} {dt : Nat} {rq : Req} {code : Nat} {ps : List Byte}
    (h : (s.arrived dt rq code ps).mayStart rq code ps = true) :
    ∃ m, s.arrived dt rq code ps = (s.elapse dt).setMbox (fun _ => m) := by
  revert h
  unfold State.arrived
  generalize s.elapse dt = v
  split
  · intro _; exact ⟨v.mbox, rfl⟩
  · rename_i hn
    have no : v.mayStart rq code ps = false := by
      cases hb : v.mayStart rq code ps with
      | false => rfl
      | true => exact absurd (by rw [mayStart_flight hb, hb]; rfl) hn
    unfold State.submit
    split
    · intro h; rw [no] at h; cases h
    · intro h; change v.mayStart rq code ps = true at h; rw [no] at h; cases h
    · split
      · intro h; change v.mayStart rq code ps = true at h; rw [no] at h; cases h
      · split
        · exact acceptCmd_mayStart
        · intro h
          unfold State.busyTest State.completeResult at h
          split at h
          all_goals (rw [mayStart_completeWith] at h; cases h)
    · split
      · split
        · intro h; change v.mayStart rq code ps = true at h; rw [no] at h; cases h
        · exact acceptCmd_mayStart
      · intro h; change v.mayStart rq code ps = true at h; rw [no] at h; cases h
    · split
      · intro h; change v.mayStart rq code ps = true at h; rw [no] at h; cases h
      · exact acceptCmd_mayStart

/-- The state in which a command begins differs from the state before in the time that has passed and in the mailbox. -/
theorem began_mail {s u : State} {dt : Nat} {rq : Req} {code : Nat} {ps : List Byte} (h : s.began dt rq code ps = some u) :
    ∃ m, u = (s.elapse dt).setMbox (fun _ => m) := by
  unfold State.began at h
  split at h
  · rename_i g
    simp only [Bool.and_eq_true] at g
    obtain ⟨m, hm⟩ := arrived_mayStart g.1
    rw [hm] at h
    cases h
    exact ⟨_, rfl⟩
  · cases h

section Began

variable {s u : State} {dt : Nat} {rq : Req} {code : Nat} {ps : List Byte}

theorem began_pending (h : s.began dt rq code ps = some u) : u.pending = s.pending := by obtain ⟨_, rfl⟩ := began_mail h; rfl
theorem began_free (h : s.began dt rq code ps = some u) : u.free = s.free := by obtain ⟨_, rfl⟩ := began_mail h; rfl
theorem began_tbFrac (h : s.began dt rq code ps = some u) : u.tbFrac = s.tbFrac := by obtain ⟨_, rfl⟩ := began_mail h; rfl
theorem began_cfg (h : s.began dt rq code ps = some u) : u.cfg = s.cfg := by obtain ⟨_, rfl⟩ := began_mail h; rfl
theorem began_pend (h : s.began dt rq code ps = some u) : u.pend = s.pend := by obtain ⟨_, rfl⟩ := began_mail h; rfl
theorem began_held (h : s.began dt rq code ps = some u) : u.held = s.held := by obtain ⟨_, rfl⟩ := began_mail h; rfl
theorem began_stats (h : s.began dt rq code ps = some u) : u.stats = s.stats := by obtain ⟨_, rfl⟩ := began_mail h; rfl
theorem began_start (h : s.began dt rq code ps = some u) : u.start = s.start := by obtain ⟨_, rfl⟩ := began_mail h; rfl
theorem began_power (h : s.began dt rq code ps = some u) : u.power = s.power := by obtain ⟨_, rfl⟩ := began_mail h; rfl
theorem began_life (h : s.began dt rq code ps = some u) : u.life = s.life := by obtain ⟨_, rfl⟩ := began_mail h; rfl
theorem began_banks (h : s.began dt rq code ps = some u) : u.banks = s.banks := by obtain ⟨_, rfl⟩ := began_mail h; rfl
theorem began_flash (h : s.began dt rq code ps = some u) : u.flash = s.flash := by obtain ⟨_, rfl⟩ := began_mail h; rfl
theorem began_ports (h : s.began dt rq code ps = some u) : u.ports = s.ports := by obtain ⟨_, rfl⟩ := began_mail h; rfl
theorem began_grids (h : s.began dt rq code ps = some u) : u.grids = s.grids := by obtain ⟨_, rfl⟩ := began_mail h; rfl
theorem began_clove (h : s.began dt rq code ps = some u) : u.clove = s.clove := by obtain ⟨_, rfl⟩ := began_mail h; rfl
theorem began_detect (h : s.began dt rq code ps = some u) : u.detect = s.detect := by obtain ⟨_, rfl⟩ := began_mail h; rfl
theorem began_capture (h : s.began dt rq code ps = some u) : u.capture = s.capture := by obtain ⟨_, rfl⟩ := began_mail h; rfl
theorem began_house (h : s.began dt rq code ps = some u) : u.house = s.house := by obtain ⟨_, rfl⟩ := began_mail h; rfl
theorem began_link (h : s.began dt rq code ps = some u) : u.link = s.link := by obtain ⟨_, rfl⟩ := began_mail h; rfl
theorem began_sumac (h : s.began dt rq code ps = some u) : u.sumac = s.sumac := by obtain ⟨_, rfl⟩ := began_mail h; rfl
theorem began_time (h : s.began dt rq code ps = some u) : u.time = s.time := by obtain ⟨_, rfl⟩ := began_mail h; rfl
theorem began_cal (h : s.began dt rq code ps = some u) : u.cal = s.cal := by obtain ⟨_, rfl⟩ := began_mail h; rfl
theorem began_clk (h : s.began dt rq code ps = some u) : u.clk = s.clk + dt := by obtain ⟨_, rfl⟩ := began_mail h; rfl
theorem began_tb (h : s.began dt rq code ps = some u) : u.tb = (s.elapse dt).tb := by obtain ⟨_, rfl⟩ := began_mail h; rfl
theorem began_port (h : s.began dt rq code ps = some u) (p : Port) : u.port p = s.port p := by
  obtain ⟨_, rfl⟩ := began_mail h; rfl
theorem began_engine (h : s.began dt rq code ps = some u) (e : EngineId) : u.engine e = s.engine e := by
  obtain ⟨_, rfl⟩ := began_mail h; rfl
theorem began_fld (h : s.began dt rq code ps = some u) (f : Fld) (i : Nat) : u.fld f i = s.fld f i := by
  obtain ⟨_, rfl⟩ := began_mail h; rfl
theorem began_sfld (h : s.began dt rq code ps = some u) (f : Fld) (i : Nat) : u.sfld f i = s.sfld f i := by
  obtain ⟨_, rfl⟩ := began_mail h; rfl
theorem began_flag (h : s.began dt rq code ps = some u) (f : Fld) (i : Nat) : u.flag f i = s.flag f i := by
  obtain ⟨_, rfl⟩ := began_mail h; rfl
theorem began_group (h : s.began dt rq code ps = some u) (g : GroupId) : u.group g = s.group g := by
  obtain ⟨_, rfl⟩ := began_mail h; rfl
theorem began_zone (h : s.began dt rq code ps = some u) (z : ZoneId) : u.zone z = s.zone z := by
  obtain ⟨_, rfl⟩ := began_mail h; rfl
theorem began_mask (h : s.began dt rq code ps = some u) (p : Port) : u.mask p = s.mask p := by
  obtain ⟨_, rfl⟩ := began_mail h; rfl
theorem began_ring (h : s.began dt rq code ps = some u) (p : Port) (k : RingKind) : u.ring p k = s.ring p k := by
  obtain ⟨_, rfl⟩ := began_mail h; rfl
theorem began_stream (h : s.began dt rq code ps = some u) (i : Nat) : u.stream i = s.stream i := by
  obtain ⟨_, rfl⟩ := began_mail h; rfl
theorem began_calPort (h : s.began dt rq code ps = some u) (p : Port) : u.calPort p = s.calPort p := by
  obtain ⟨_, rfl⟩ := began_mail h; rfl
theorem began_record (h : s.began dt rq code ps = some u) (p : Port) : u.record p = s.record p := by
  obtain ⟨_, rfl⟩ := began_mail h; rfl

end Began

end Sys2Proof.Machine
end

