-- ==== Sys2Proof/Laws/InvRows.lean ====
section
/-! SUPPORT. The meaning of every row keeps the invariant and the queue. -/

namespace Sys2Proof.Machine

variable {q : List Instr}

theorem execIdentify_inv (dt : Nat) (rq : Req) (s t : State) (h : s.Kept q)
    (he : execIdentify dt rq s = .next t) : t.Kept q := by
  cases he
  refine runCmd_inv _ _ _ _ _ _ (fun t => ?_) h
  simp (maxDischargeDepth := 40) [*]

theorem execStatus_inv (dt : Nat) (rq : Req) (s t : State) (h : s.Kept q)
    (he : execStatus dt rq s = .next t) : t.Kept q := by
  cases he
  refine runCmd_inv _ _ _ _ _ _ (fun t => ?_) h
  simp (maxDischargeDepth := 40) [*]

theorem execEventQuery_inv (dt : Nat) (rq : Req) (first : Word) (count : Byte) (s t : State) (h : s.Kept q)
    (he : execEventQuery dt rq first count s = .next t) : t.Kept q := by
  cases he
  refine runCmd_inv _ _ _ _ _ _ (fun t => ?_) h
  simp (maxDischargeDepth := 40) [*]

theorem execClearStats_inv (dt : Nat) (rq : Req) (block : Half) (inst : Half) (s t : State) (h : s.Kept q)
    (he : execClearStats dt rq block inst s = .next t) : t.Kept q := by
  cases he
  refine runCmd_inv _ _ _ _ _ _ (fun t => ?_) h
  simp (maxDischargeDepth := 40) [*]

theorem execDeviceReset_inv (dt : Nat) (rq : Req) (s t : State) (h : s.Kept q)
    (he : execDeviceReset dt rq s = .next t) : t.Kept q := by
  cases he
  refine runCmd_inv _ _ _ _ _ _ (fun t => ?_) h
  simp (maxDischargeDepth := 40) [*]

theorem execParamRead_inv (dt : Nat) (rq : Req) (block : Half) (inst : Half) (word : Half) (count : Byte) (s t : State) (h : s.Kept q)
    (he : execParamRead dt rq block inst word count s = .next t) : t.Kept q := by
  cases he
  refine runCmd_inv _ _ _ _ _ _ (fun t => ?_) h
  simp (maxDischargeDepth := 40) [*]

theorem execParamWrite_inv (dt : Nat) (rq : Req) (block : Half) (inst : Half) (word : Half) (flags : Byte) (words : List (Word × Word)) (s t : State) (h : s.Kept q)
    (he : execParamWrite dt rq block inst word flags words s = .next t) : t.Kept q := by
  cases he
  refine runCmd_inv _ _ _ _ _ _ (fun t => ?_) h
  simp (maxDischargeDepth := 40) [*]

theorem execCommit_inv (dt : Nat) (rq : Req) (flags : Byte) (s t : State) (h : s.Kept q)
    (he : execCommit dt rq flags s = .next t) : t.Kept q := by
  cases he
  refine runCmd_inv _ _ _ _ _ _ (fun t => ?_) h
  simp (maxDischargeDepth := 40) [*]

theorem execPortStart_inv (dt : Nat) (rq : Req) (ports : Byte) (s t : State) (h : s.Kept q)
    (he : execPortStart dt rq ports s = .next t) : t.Kept q := by
  cases he
  refine runCmd_inv _ _ _ _ _ _ (fun t => ?_) h
  simp (maxDischargeDepth := 40) [*]

theorem execPortStop_inv (dt : Nat) (rq : Req) (ports : Byte) (s t : State) (h : s.Kept q)
    (he : execPortStop dt rq ports s = .next t) : t.Kept q := by
  cases he
  refine runCmd_inv _ _ _ _ _ _ (fun t => ?_) h
  simp (maxDischargeDepth := 40) [*]

theorem execHeadRescan_inv (dt : Nat) (rq : Req) (port : Byte) (s t : State) (h : s.Kept q)
    (he : execHeadRescan dt rq port s = .next t) : t.Kept q := by
  cases he
  refine runCmd_inv _ _ _ _ _ _ (fun t => ?_) h
  simp (maxDischargeDepth := 40) [*]

theorem execClearFault_inv (dt : Nat) (rq : Req) (port : Byte) (s t : State) (h : s.Kept q)
    (he : execClearFault dt rq port s = .next t) : t.Kept q := by
  cases he
  refine runCmd_inv _ _ _ _ _ _ (fun t => ?_) h
  simp (maxDischargeDepth := 40) [*]

theorem execLaunchShot_inv (dt : Nat) (rq : Req) (port : Byte) (slot : Byte) (s t : State) (h : s.Kept q)
    (he : execLaunchShot dt rq port slot s = .next t) : t.Kept q := by
  cases he
  refine runCmd_inv _ _ _ _ _ _ (fun t => ?_) h
  simp (maxDischargeDepth := 40) [*]

theorem execLoadProgram_inv (dt : Nat) (rq : Req) (slot : Byte) (off : Word) (bytes : Word) (s t : State) (h : s.Kept q)
    (he : execLoadProgram dt rq slot off bytes s = .next t) : t.Kept q := by
  cases he
  refine runCmd_inv _ _ _ _ _ _ (fun t => ?_) h
  simp (maxDischargeDepth := 40) [*]

theorem execUnloadProgram_inv (dt : Nat) (rq : Req) (slot : Byte) (s t : State) (h : s.Kept q)
    (he : execUnloadProgram dt rq slot s = .next t) : t.Kept q := by
  cases he
  refine runCmd_inv _ _ _ _ _ _ (fun t => ?_) h
  simp (maxDischargeDepth := 40) [*]

theorem execEngineReset_inv (dt : Nat) (rq : Req) (cl : Byte) (eng : Byte) (s t : State) (h : s.Kept q)
    (he : execEngineReset dt rq cl eng s = .next t) : t.Kept q := by
  cases he
  refine runCmd_inv _ _ _ _ _ _ (fun t => ?_) h
  simp (maxDischargeDepth := 40) [*]

theorem execLoadZonePack_inv (dt : Nat) (rq : Req) (off : Word) (bytes : Word) (s t : State) (h : s.Kept q)
    (he : execLoadZonePack dt rq off bytes s = .next t) : t.Kept q := by
  cases he
  refine runCmd_inv _ _ _ _ _ _ (fun t => ?_) h
  simp (maxDischargeDepth := 40) [*]

theorem execLoadBaselines_inv (dt : Nat) (rq : Req) (off : Word) (bytes : Word) (s t : State) (h : s.Kept q)
    (he : execLoadBaselines dt rq off bytes s = .next t) : t.Kept q := by
  cases he
  refine runCmd_inv _ _ _ _ _ _ (fun t => ?_) h
  simp (maxDischargeDepth := 40) [*]

theorem execAckGroup_inv (dt : Nat) (rq : Req) (g : Byte) (s t : State) (h : s.Kept q)
    (he : execAckGroup dt rq g s = .next t) : t.Kept q := by
  cases he
  refine runCmd_inv _ _ _ _ _ _ (fun t => ?_) h
  simp (maxDischargeDepth := 40) [*]

theorem execSnapRead_inv (dt : Nat) (rq : Req) (id : Word) (stream : Half) (flags : Byte) (s t : State) (h : s.Kept q)
    (he : execSnapRead dt rq id stream flags s = .next t) : t.Kept q := by
  cases he
  refine runCmd_inv _ _ _ _ _ _ (fun t => ?_) h
  simp (maxDischargeDepth := 40) [*]

theorem execSnapRelease_inv (dt : Nat) (rq : Req) (id : Word) (s t : State) (h : s.Kept q)
    (he : execSnapRelease dt rq id s = .next t) : t.Kept q := by
  cases he
  refine runCmd_inv _ _ _ _ _ _ (fun t => ?_) h
  simp (maxDischargeDepth := 40) [*]

theorem execLoadMask_inv (dt : Nat) (rq : Req) (port : Byte) (off : Word) (bytes : Word) (s t : State) (h : s.Kept q)
    (he : execLoadMask dt rq port off bytes s = .next t) : t.Kept q := by
  cases he
  refine runCmd_inv _ _ _ _ _ _ (fun t => ?_) h
  simp (maxDischargeDepth := 40) [*]

theorem execMaskRearm_inv (dt : Nat) (rq : Req) (port : Byte) (s t : State) (h : s.Kept q)
    (he : execMaskRearm dt rq port s = .next t) : t.Kept q := by
  cases he
  refine runCmd_inv _ _ _ _ _ _ (fun t => ?_) h
  simp (maxDischargeDepth := 40) [*]

theorem execCapmemRetrain_inv (dt : Nat) (rq : Req) (s t : State) (h : s.Kept q)
    (he : execCapmemRetrain dt rq s = .next t) : t.Kept q := by
  cases he
  refine runCmd_inv _ _ _ _ _ _ (fun t => ?_) h
  simp (maxDischargeDepth := 40) [*]

theorem execSumacJob_inv (dt : Nat) (rq : Req) (desc : List Byte) (s t : State) (h : s.Kept q)
    (he : execSumacJob dt rq desc s = .next t) : t.Kept q := by
  cases he
  refine runCmd_inv _ _ _ _ _ _ (fun t => ?_) h
  simp (maxDischargeDepth := 40) [*]

theorem execLinkRestart_inv (dt : Nat) (rq : Req) (s t : State) (h : s.Kept q)
    (he : execLinkRestart dt rq s = .next t) : t.Kept q := by
  cases he
  refine runCmd_inv _ _ _ _ _ _ (fun t => ?_) h
  simp (maxDischargeDepth := 40) [*]

theorem execLinkLoop_inv (dt : Nat) (rq : Req) (mode : Byte) (pattern : Byte) (lanes : Byte) (time : Half) (s t : State) (h : s.Kept q)
    (he : execLinkLoop dt rq mode pattern lanes time s = .next t) : t.Kept q := by
  cases he
  refine runCmd_inv _ _ _ _ _ _ (fun t => ?_) h
  simp (maxDischargeDepth := 40) [*]

theorem execPowerState_inv (dt : Nat) (rq : Req) (target : Byte) (banks : Byte) (s t : State) (h : s.Kept q)
    (he : execPowerState dt rq target banks s = .next t) : t.Kept q := by
  cases he
  refine runCmd_inv _ _ _ _ _ _ (fun t => ?_) h
  simp (maxDischargeDepth := 40) [*]

theorem execShutdown_inv (dt : Nat) (rq : Req) (flags : Byte) (s t : State) (h : s.Kept q)
    (he : execShutdown dt rq flags s = .next t) : t.Kept q := by
  cases he
  refine runCmd_inv _ _ _ _ _ _ (fun t => ?_) h
  simp (maxDischargeDepth := 40) [*]

theorem execAbortSelftest_inv (dt : Nat) (rq : Req) (s t : State) (h : s.Kept q)
    (he : execAbortSelftest dt rq s = .next t) : t.Kept q := by
  cases he
  refine runCmd_inv _ _ _ _ _ _ (fun t => ?_) h
  simp (maxDischargeDepth := 40) [*]

theorem execSelftestRun_inv (dt : Nat) (rq : Req) (block : Half) (pattern : Byte) (s t : State) (h : s.Kept q)
    (he : execSelftestRun dt rq block pattern s = .next t) : t.Kept q := by
  cases he
  refine runCmd_inv _ _ _ _ _ _ (fun t => ?_) h
  simp (maxDischargeDepth := 40) [*]

theorem execSelftestResult_inv (dt : Nat) (rq : Req) (index : Word) (s t : State) (h : s.Kept q)
    (he : execSelftestResult dt rq index s = .next t) : t.Kept q := by
  cases he
  refine runCmd_inv _ _ _ _ _ _ (fun t => ?_) h
  simp (maxDischargeDepth := 40) [*]

theorem execServiceChallenge_inv (dt : Nat) (rq : Req) (s t : State) (h : s.Kept q)
    (he : execServiceChallenge dt rq s = .next t) : t.Kept q := by
  cases he
  refine runCmd_inv _ _ _ _ _ _ (fun t => ?_) h
  simp (maxDischargeDepth := 40) [*]

theorem execServiceResponse_inv (dt : Nat) (rq : Req) (sig : List Byte) (s t : State) (h : s.Kept q)
    (he : execServiceResponse dt rq sig s = .next t) : t.Kept q := by
  cases he
  refine runCmd_inv _ _ _ _ _ _ (fun t => ?_) h
  simp (maxDischargeDepth := 40) [*]

theorem execLifecycleSet_inv (dt : Nat) (rq : Req) (target : Byte) (s t : State) (h : s.Kept q)
    (he : execLifecycleSet dt rq target s = .next t) : t.Kept q := by
  cases he
  refine runCmd_inv _ _ _ _ _ _ (fun t => ?_) h
  simp (maxDischargeDepth := 40) [*]

theorem execCalRun_inv (dt : Nat) (rq : Req) (ports : Byte) (steps : Half) (s t : State) (h : s.Kept q)
    (he : execCalRun dt rq ports steps s = .next t) : t.Kept q := by
  cases he
  refine runCmd_inv _ _ _ _ _ _ (fun t => ?_) h
  simp (maxDischargeDepth := 40) [*]

theorem execCalSetRefres_inv (dt : Nat) (rq : Req) (v : Word) (s t : State) (h : s.Kept q)
    (he : execCalSetRefres dt rq v s = .next t) : t.Kept q := by
  cases he
  refine runCmd_inv _ _ _ _ _ _ (fun t => ?_) h
  simp (maxDischargeDepth := 40) [*]

theorem execCalSetBath_inv (dt : Nat) (rq : Req) (port : Byte) (temp : Word) (s t : State) (h : s.Kept q)
    (he : execCalSetBath dt rq port temp s = .next t) : t.Kept q := by
  cases he
  refine runCmd_inv _ _ _ _ _ _ (fun t => ?_) h
  simp (maxDischargeDepth := 40) [*]

theorem execTiArm_inv (dt : Nat) (rq : Req) (params : List Byte) (s t : State) (h : s.Kept q)
    (he : execTiArm dt rq params s = .next t) : t.Kept q := by
  cases he
  refine runCmd_inv _ _ _ _ _ _ (fun t => ?_) h
  simp (maxDischargeDepth := 40) [*]

theorem execTiRead_inv (dt : Nat) (rq : Req) (first : Half) (count : Byte) (s t : State) (h : s.Kept q)
    (he : execTiRead dt rq first count s = .next t) : t.Kept q := by
  cases he
  refine runCmd_inv _ _ _ _ _ _ (fun t => ?_) h
  simp (maxDischargeDepth := 40) [*]

theorem execFwDownload_inv (dt : Nat) (rq : Req) (bytes : Word) (s t : State) (h : s.Kept q)
    (he : execFwDownload dt rq bytes s = .next t) : t.Kept q := by
  cases he
  refine runCmd_inv _ _ _ _ _ _ (fun t => ?_) h
  simp (maxDischargeDepth := 40) [*]

theorem execFwFlashWrite_inv (dt : Nat) (rq : Req) (off : Word) (bytes : Word) (flags : Byte) (s t : State) (h : s.Kept q)
    (he : execFwFlashWrite dt rq off bytes flags s = .next t) : t.Kept q := by
  cases he
  refine runCmd_inv _ _ _ _ _ _ (fun t => ?_) h
  simp (maxDischargeDepth := 40) [*]

theorem execCommandTimeout_inv (dt : Nat) (tag : BitVec 6) (s t : State) (h : s.Kept q)
    (he : execCommandTimeout dt tag s = .next t) : t.Kept q := by
  cases he
  simp (maxDischargeDepth := 40) [*]

theorem execDoorbell_inv (dt : Nat) (v : Word) (s t : State) (h : s.Kept q)
    (he : execDoorbell dt v s = .next t) : t.Kept q := by
  cases he
  simp (maxDischargeDepth := 40) [*]

theorem execCqHeadWrite_inv (dt : Nat) (v : Byte) (s t : State) (h : s.Kept q)
    (he : execCqHeadWrite dt v s = .next t) : t.Kept q := by
  cases he
  simp (maxDischargeDepth := 40) [*]

theorem execIrqStatusClear_inv (dt : Nat) (mask : BitVec 7) (s t : State) (h : s.Kept q)
    (he : execIrqStatusClear dt mask s = .next t) : t.Kept q := by
  cases he
  simp (maxDischargeDepth := 40) [*]

theorem execRegisterWrite_inv (dt : Nat) (khz : Nat) (clocks : List (BitVec 4)) (s t : State) (h : s.Kept q)
    (he : execRegisterWrite dt khz clocks s = .next t) : t.Kept q := by
  cases he
  simp (maxDischargeDepth := 40) [*]

theorem execStream0Command_inv (dt : Nat) (msg : List Byte) (s t : State) (h : s.Kept q)
    (he : execStream0Command dt msg s = .next t) : t.Kept q := by
  cases he
  simp (maxDischargeDepth := 40) [*]

theorem execStageWrite_inv (dt : Nat) (msg : List Byte) (s t : State) (h : s.Kept q)
    (he : execStageWrite dt msg s = .next t) : t.Kept q := by
  cases he
  simp (maxDischargeDepth := 40) [*]

theorem execVaonRise_inv (dt : Nat) (s t : State) (h : s.Kept q)
    (he : execVaonRise dt s = .next t) : t.Kept q := by
  cases he
  simp (maxDischargeDepth := 40) [*]

theorem execResetAssert_inv (dt : Nat) (s t : State) (h : s.Kept q)
    (he : execResetAssert dt s = .next t) : t.Kept q := by
  cases he
  simp (maxDischargeDepth := 40) [*]

theorem execColdStart_inv (dt : Nat) (src : BootSrc) (mailboxGood : Bool) (s t : State) (h : s.Kept q)
    (he : execColdStart dt src mailboxGood s = .next t) : t.Kept q := by
  cases he
  simp (maxDischargeDepth := 40) [*]

theorem execBootImageChecked_inv (dt : Nat) (responds : Bool) (s t : State) (h : s.Kept q)
    (he : execBootImageChecked dt responds s = .next t) : t.Kept q := by
  cases he
  simp (maxDischargeDepth := 40) [*]

theorem execFwInitDone_inv (dt : Nat) (good : Byte) (tj : Int) (s t : State) (h : s.Kept q)
    (he : execFwInitDone dt good tj s = .next t) : t.Kept q := by
  cases he
  simp (maxDischargeDepth := 40) [*]

theorem execSupplyTrip_inv (dt : Nat) (rail : Rail) (s t : State) (h : s.Kept q)
    (he : execSupplyTrip dt rail s = .next t) : t.Kept q := by
  cases he
  simp (maxDischargeDepth := 40) [*]

theorem execSupplyRelease_inv (dt : Nat) (s t : State) (h : s.Kept q)
    (he : execSupplyRelease dt s = .next t) : t.Kept q := by
  cases he
  simp (maxDischargeDepth := 40) [*]

theorem execDeviceResetTrigger_inv (dt : Nat) (s t : State) (h : s.Kept q)
    (he : execDeviceResetTrigger dt s = .next t) : t.Kept q := by
  cases he
  simp (maxDischargeDepth := 40) [*]

theorem execWatchdogExpiry_inv (dt : Nat) (s t : State) (h : s.Kept q)
    (he : execWatchdogExpiry dt s = .next t) : t.Kept q := by
  cases he
  simp (maxDischargeDepth := 40) [*]

theorem execDieTempSample_inv (dt : Nat) (temp : Int) (s t : State) (h : s.Kept q)
    (he : execDieTempSample dt temp s = .next t) : t.Kept q := by
  cases he
  simp (maxDischargeDepth := 40) [*]

theorem execXtalCheck_inv (dt : Nat) (reading : XtalReading) (s t : State) (h : s.Kept q)
    (he : execXtalCheck dt reading s = .next t) : t.Kept q := by
  cases he
  simp (maxDischargeDepth := 40) [*]

theorem execBankSupplyRise_inv (dt : Nat) (bank : IoBank) (mv : Nat) (s t : State) (h : s.Kept q)
    (he : execBankSupplyRise dt bank mv s = .next t) : t.Kept q := by
  cases he
  simp (maxDischargeDepth := 40) [*]

theorem execBankSupplyFall_inv (dt : Nat) (bank : IoBank) (s t : State) (h : s.Kept q)
    (he : execBankSupplyFall dt bank s = .next t) : t.Kept q := by
  cases he
  simp (maxDischargeDepth := 40) [*]

theorem execPresAcceptLow_inv (dt : Nat) (p : Port) (s t : State) (h : s.Kept q)
    (he : execPresAcceptLow dt p s = .next t) : t.Kept q := by
  cases he
  simp (maxDischargeDepth := 40) [*]

theorem execPresLoss_inv (dt : Nat) (p : Port) (s t : State) (h : s.Kept q)
    (he : execPresLoss dt p s = .next t) : t.Kept q := by
  cases he
  simp (maxDischargeDepth := 40) [*]

theorem execIlkChange_inv (dt : Nat) (p : Port) (closed : Bool) (s t : State) (h : s.Kept q)
    (he : execIlkChange dt p closed s = .next t) : t.Kept q := by
  cases he
  simp (maxDischargeDepth := 40) [*]

theorem execIdReadStart_inv (dt : Nat) (p : Port) (s t : State) (h : s.Kept q)
    (he : execIdReadStart dt p s = .next t) : t.Kept q := by
  cases he
  simp (maxDischargeDepth := 40) [*]

theorem execIdTransactionEnd_inv (dt : Nat) (p : Port) (result : IdAttempt) (s t : State) (h : s.Kept q)
    (he : execIdTransactionEnd dt p result s = .next t) : t.Kept q := by
  cases he
  simp (maxDischargeDepth := 40) [*]

theorem execIdTransactionTimeout_inv (dt : Nat) (x : IdGuard) (s t : State) (h : s.Kept q)
    (he : execIdTransactionTimeout dt x s = .next t) : t.Kept q := by
  cases he
  simp (maxDischargeDepth := 40) [*]

theorem execDriveUpdate_inv (dt : Nat) (s t : State) (h : s.Kept q)
    (he : execDriveUpdate dt s = .next t) : t.Kept q := by
  cases he
  simp (maxDischargeDepth := 40) [*]

theorem execCaseTempUpdate_inv (dt : Nat) (p : Port) (s t : State) (h : s.Kept q)
    (he : execCaseTempUpdate dt p s = .next t) : t.Kept q := by
  cases he
  simp (maxDischargeDepth := 40) [*]

theorem execCaseStaleTimeout_inv (dt : Nat) (p : Port) (s t : State) (h : s.Kept q)
    (he : execCaseStaleTimeout dt p s = .next t) : t.Kept q := by
  cases he
  simp (maxDischargeDepth := 40) [*]

theorem execCaseRangeTimeout_inv (dt : Nat) (p : Port) (s t : State) (h : s.Kept q)
    (he : execCaseRangeTimeout dt p s = .next t) : t.Kept q := by
  cases he
  simp (maxDischargeDepth := 40) [*]

theorem execOvertempTimeout_inv (dt : Nat) (p : Port) (s t : State) (h : s.Kept q)
    (he : execOvertempTimeout dt p s = .next t) : t.Kept q := by
  cases he
  simp (maxDischargeDepth := 40) [*]

theorem execEmitterFaultAccept_inv (dt : Nat) (readings : List FaultReading) (s t : State) (h : s.Kept q)
    (he : execEmitterFaultAccept dt readings s = .next t) : t.Kept q := by
  cases he
  simp (maxDischargeDepth := 40) [*]

theorem execProofDue_inv (dt : Nat) (p : Port) (s t : State) (h : s.Kept q)
    (he : execProofDue dt p s = .next t) : t.Kept q := by
  cases he
  simp (maxDischargeDepth := 40) [*]

theorem execProofPulse_inv (dt : Nat) (p : Port) (reading : EmitterReading) (s t : State) (h : s.Kept q)
    (he : execProofPulse dt p reading s = .next t) : t.Kept q := by
  cases he
  simp (maxDischargeDepth := 40) [*]

theorem execPumpNrgSample_inv (dt : Nat) (p : Port) (mv : Nat) (s t : State) (h : s.Kept q)
    (he : execPumpNrgSample dt p mv s = .next t) : t.Kept q := by
  cases he
  simp (maxDischargeDepth := 40) [*]

theorem execCycleBoundary_inv (dt : Nat) (g : Fin 12) (s t : State) (h : s.Kept q)
    (he : execCycleBoundary dt g s = .next t) : t.Kept q := by
  cases he
  simp (maxDischargeDepth := 40) [*]

theorem execGridLaunch_inv (dt : Nat) (p : Port) (slot : Fin 4) (s t : State) (h : s.Kept q)
    (he : execGridLaunch dt p slot s = .next t) : t.Kept q := by
  cases he
  simp (maxDischargeDepth := 40) [*]

theorem execHostLaunchRequest_inv (dt : Nat) (p : Port) (s t : State) (h : s.Kept q)
    (he : execHostLaunchRequest dt p s = .next t) : t.Kept q := by
  cases he
  simp (maxDischargeDepth := 40) [*]

theorem execLaunchDeferredRetry_inv (dt : Nat) (p : Port) (s t : State) (h : s.Kept q)
    (he : execLaunchDeferredRetry dt p s = .next t) : t.Kept q := by
  cases he
  simp (maxDischargeDepth := 40) [*]

theorem execWindowOpen_inv (dt : Nat) (p : Port) (s t : State) (h : s.Kept q)
    (he : execWindowOpen dt p s = .next t) : t.Kept q := by
  cases he
  simp (maxDischargeDepth := 40) [*]

theorem execPumpLaunch_inv (dt : Nat) (p : Port) (s t : State) (h : s.Kept q)
    (he : execPumpLaunch dt p s = .next t) : t.Kept q := by
  cases he
  simp (maxDischargeDepth := 40) [*]

theorem execSingleCheckWindow_inv (dt : Nat) (p : Port) (s t : State) (h : s.Kept q)
    (he : execSingleCheckWindow dt p s = .next t) : t.Kept q := by
  cases he
  simp (maxDischargeDepth := 40) [*]

theorem execStopFramesDrained_inv (dt : Nat) (p : Port) (s t : State) (h : s.Kept q)
    (he : execStopFramesDrained dt p s = .next t) : t.Kept q := by
  cases he
  simp (maxDischargeDepth := 40) [*]

theorem execRangeSwitch_inv (dt : Nat) (p : Port) (s t : State) (h : s.Kept q)
    (he : execRangeSwitch dt p s = .next t) : t.Kept q := by
  cases he
  simp (maxDischargeDepth := 40) [*]

theorem execOvldOnset_inv (dt : Nat) (p : Port) (ovld : Overload) (s t : State) (h : s.Kept q)
    (he : execOvldOnset dt p ovld s = .next t) : t.Kept q := by
  cases he
  simp (maxDischargeDepth := 40) [*]

theorem execPairCheckEnd_inv (dt : Nat) (p : Port) (xs : List Code) (ys : List Code) (s t : State) (h : s.Kept q)
    (he : execPairCheckEnd dt p xs ys s = .next t) : t.Kept q := by
  cases he
  simp (maxDischargeDepth := 40) [*]

theorem execGaugeSample_inv (dt : Nat) (p : Port) (sample : GaugeIn) (s t : State) (h : s.Kept q)
    (he : execGaugeSample dt p sample s = .next t) : t.Kept q := by
  cases he
  simp (maxDischargeDepth := 40) [*]

theorem execBiasFaultSet_inv (dt : Nat) (p : Port) (reading : BiasReading) (s t : State) (h : s.Kept q)
    (he : execBiasFaultSet dt p reading s = .next t) : t.Kept q := by
  cases he
  simp (maxDischargeDepth := 40) [*]

theorem execBiasFaultClear_inv (dt : Nat) (p : Port) (reading : BiasReading) (s t : State) (h : s.Kept q)
    (he : execBiasFaultClear dt p reading s = .next t) : t.Kept q := by
  cases he
  simp (maxDischargeDepth := 40) [*]

theorem execRamanRecordingEnd_inv (dt : Nat) (p : Port) (baseStk baseAst stk ast : List Half) (s t : State) (h : s.Kept q)
    (he : execRamanRecordingEnd dt p baseStk baseAst stk ast s = .next t) : t.Kept q := by
  cases he
  simp (maxDischargeDepth := 40) [*]

theorem execRamanPeriodClose_inv (dt : Nat) (p : Port) (s t : State) (h : s.Kept q)
    (he : execRamanPeriodClose dt p s = .next t) : t.Kept q := by
  cases he
  simp (maxDischargeDepth := 40) [*]

theorem execProfileReady_inv (dt : Nat) (p : Port) (s t : State) (h : s.Kept q)
    (he : execProfileReady dt p s = .next t) : t.Kept q := by
  cases he
  simp (maxDischargeDepth := 40) [*]

theorem execRtdPulseStart_inv (dt : Nat) (p : Port) (s t : State) (h : s.Kept q)
    (he : execRtdPulseStart dt p s = .next t) : t.Kept q := by
  cases he
  simp (maxDischargeDepth := 40) [*]

theorem execRtdPulseEnd_inv (dt : Nat) (p : Port) (outputs : List RtdOutput) (s t : State) (h : s.Kept q)
    (he : execRtdPulseEnd dt p outputs s = .next t) : t.Kept q := by
  cases he
  simp (maxDischargeDepth := 40) [*]

theorem execBlockReady_inv (dt : Nat) (p : Port) (column : Nat) (s t : State) (h : s.Kept q)
    (he : execBlockReady dt p column s = .next t) : t.Kept q := by
  cases he
  simp (maxDischargeDepth := 40) [*]

theorem execEngineRequest_inv (dt : Nat) (eng : EngineId) (s t : State) (h : s.Kept q)
    (he : execEngineRequest dt eng s = .next t) : t.Kept q := by
  cases he
  simp (maxDischargeDepth := 40) [*]

theorem execBlockCopied_inv (dt : Nat) (eng : EngineId) (s t : State) (h : s.Kept q)
    (he : execBlockCopied dt eng s = .next t) : t.Kept q := by
  cases he
  simp (maxDischargeDepth := 40) [*]

theorem execBlockCutoff_inv (dt : Nat) (p : Port) (column : Nat) (s t : State) (h : s.Kept q)
    (he : execBlockCutoff dt p column s = .next t) : t.Kept q := by
  cases he
  simp (maxDischargeDepth := 40) [*]

theorem execEngineWatchdog_inv (dt : Nat) (eng : EngineId) (s t : State) (h : s.Kept q)
    (he : execEngineWatchdog dt eng s = .next t) : t.Kept q := by
  cases he
  simp (maxDischargeDepth := 40) [*]

theorem execClusterTempSample_inv (dt : Nat) (cl : Port) (temp : Int) (s t : State) (h : s.Kept q)
    (he : execClusterTempSample dt cl temp s = .next t) : t.Kept q := by
  cases he
  simp (maxDischargeDepth := 40) [*]

theorem execUndefinedOpcode_inv (eng : EngineId) (s t : State) (h : s.Kept q)
    (he : execUndefinedOpcode eng s = .next t) : t.Kept q := by
  cases he
  exact undefinedOpcode_inv _ _ h

theorem execNop_inv (eng : EngineId) (s t : State) (h : s.Kept q)
    (he : execNop eng s = .next t) : t.Kept q := by
  cases he
  refine cloveOp_inv _ _ _ _ _ _ (fun x y hx hy => ?_) h
  cases hy
  exact hx

theorem execDone_inv (eng : EngineId) (s t : State) (h : s.Kept q)
    (he : execDone eng s = .next t) : t.Kept q := by
  cases he
  exact cloveDone_inv _ _ h

theorem execRep_inv (eng : EngineId) (n : BitVec 16) (s t : State) (h : s.Kept q)
    (he : execRep eng n s = .next t) : t.Kept q := by
  cases he
  exact cloveRep_inv _ _ _ h

theorem execBr_inv (eng : EngineId) (cond : Fin 12) (off : BitVec 22) (s t : State) (h : s.Kept q)
    (he : execBr eng cond off s = .next t) : t.Kept q := by
  cases he
  refine clovePlain_inv _ _ _ _ _ (fun x hx => ?_) h
  split
  · with_reducible exact jump_ok _ _ hx
  · exact hx

theorem execBnzd_inv (eng : EngineId) (k : AReg) (off : BitVec 22) (s t : State) (h : s.Kept q)
    (he : execBnzd eng k off s = .next t) : t.Kept q := by
  cases he
  refine clovePlain_inv _ _ _ _ _ (fun x hx => ?_) h
  dsimp only; split
  · exact jump_ok _ _ (setAr_ok _ _ _ hx)
  · exact setAr_ok _ _ _ hx

theorem execCall_inv (eng : EngineId) (k : AReg) (off : BitVec 22) (s t : State) (h : s.Kept q)
    (he : execCall eng k off s = .next t) : t.Kept q := by
  cases he
  refine clovePlain_inv _ _ _ _ _ (fun x hx => ?_) h
  with_reducible exact jump_ok _ _ (setAr_ok _ _ _ hx)

theorem execRet_inv (eng : EngineId) (k : AReg) (s t : State) (h : s.Kept q)
    (he : execRet eng k s = .next t) : t.Kept q := by
  cases he
  refine clovePlain_inv _ _ _ _ _ (fun x hx => ?_) h
  with_reducible exact jump_ok _ _ hx

theorem execClrf_inv (eng : EngineId) (s t : State) (h : s.Kept q)
    (he : execClrf eng s = .next t) : t.Kept q := by
  cases he
  refine clovePlain_inv _ _ _ _ _ (fun x hx => ?_) h
  exact ⟨hx.1, hx.2.1, Nat.zero_lt_succ 255, hx.2.2.2⟩

theorem execLdi_inv (eng : EngineId) (sel : Fin 4) (k : AReg) (imm : BitVec 18) (s t : State) (h : s.Kept q)
    (he : execLdi eng sel k imm s = .next t) : t.Kept q := by
  cases he
  refine clovePlain_inv _ _ _ _ _ (fun x hx => ?_) h
  with_reducible exact setSel_ok _ _ _ _ hx

theorem execAdda_inv (eng : EngineId) (k : AReg) (imm : BitVec 18) (s t : State) (h : s.Kept q)
    (he : execAdda eng k imm s = .next t) : t.Kept q := by
  cases he
  refine clovePlain_inv _ _ _ _ _ (fun x hx => ?_) h
  with_reducible exact opAdda_ok _ _ _ hx

theorem execCmpa_inv (eng : EngineId) (k : AReg) (imm : BitVec 18) (s t : State) (h : s.Kept q)
    (he : execCmpa eng k imm s = .next t) : t.Kept q := by
  cases he
  refine clovePlain_inv _ _ _ _ _ (fun x hx => ?_) h
  with_reducible exact opCmpa_ok _ _ _ hx

theorem execMova_inv (eng : EngineId) (dsel : Fin 4) (k : AReg) (ssel : Fin 4) (j : AReg) (s t : State) (h : s.Kept q)
    (he : execMova eng dsel k ssel j s = .next t) : t.Kept q := by
  cases he
  refine clovePlain_inv _ _ _ _ _ (fun x hx => ?_) h
  with_reducible exact setSel_ok _ _ _ _ hx

theorem execGets_inv (eng : EngineId) (k : AReg) (which : Fin 3) (s t : State) (h : s.Kept q)
    (he : execGets eng k which s = .next t) : t.Kept q := by
  cases he
  refine clovePlain_inv _ _ _ _ _ (fun x hx => ?_) h
  with_reducible exact opGets_ok _ _ _ hx

theorem execPuts_inv (eng : EngineId) (which : Fin 2) (k : AReg) (s t : State) (h : s.Kept q)
    (he : execPuts eng which k s = .next t) : t.Kept q := by
  cases he
  refine clovePlain_inv _ _ _ _ _ (fun x hx => ?_) h
  with_reducible exact opPuts_ok _ _ _ hx

theorem execMvla_inv (eng : EngineId) (k : AReg) (a : VReg) (l : Lane) (s t : State) (h : s.Kept q)
    (he : execMvla eng k a l s = .next t) : t.Kept q := by
  cases he
  refine clovePlain_inv _ _ _ _ _ (fun x hx => ?_) h
  with_reducible exact setAr_ok _ _ _ hx

theorem execMval_inv (eng : EngineId) (a : VReg) (l : Lane) (k : AReg) (s t : State) (h : s.Kept q)
    (he : execMval eng a l k s = .next t) : t.Kept q := by
  cases he
  refine clovePlain_inv _ _ _ _ _ (fun x hx => ?_) h
  with_reducible exact setV_ok _ _ _ hx

theorem execVld_inv (eng : EngineId) (d : VReg) (ea : Machine.Ea) (s t : State) (h : s.Kept q)
    (he : execVld eng d ea s = .next t) : t.Kept q := by
  cases he
  refine cloveOp_inv _ _ _ _ _ _ (fun x y hx hy => ?_) h
  with_reducible exact opVld_ok _ _ _ _ hx hy

theorem execVst_inv (eng : EngineId) (ea : Machine.Ea) (v : VReg) (s t : State) (h : s.Kept q)
    (he : execVst eng ea v s = .next t) : t.Kept q := by
  cases he
  refine cloveOp_inv _ _ _ _ _ _ (fun x y hx hy => ?_) h
  with_reducible exact opVst_ok _ _ _ _ hx hy

theorem execVldb_inv (eng : EngineId) (d : VReg) (ea : Machine.Ea) (s t : State) (h : s.Kept q)
    (he : execVldb eng d ea s = .next t) : t.Kept q := by
  cases he
  refine cloveOp_inv _ _ _ _ _ _ (fun x y hx hy => ?_) h
  with_reducible exact opVldb_ok _ _ _ _ hx hy

theorem execVldq_inv (eng : EngineId) (d : VReg) (ea : Machine.Ea) (s t : State) (h : s.Kept q)
    (he : execVldq eng d ea s = .next t) : t.Kept q := by
  cases he
  refine cloveOp_inv _ _ _ _ _ _ (fun x y hx hy => ?_) h
  with_reducible exact opVldq_ok _ _ _ _ hx hy

theorem execEld_inv (eng : EngineId) (d : VReg) (l : Lane) (ea : Machine.EaLane) (s t : State) (h : s.Kept q)
    (he : execEld eng d l ea s = .next t) : t.Kept q := by
  cases he
  refine cloveOp_inv _ _ _ _ _ _ (fun x y hx hy => ?_) h
  with_reducible exact opEld_ok _ _ _ _ _ hx hy

theorem execEst_inv (eng : EngineId) (ea : Machine.EaLane) (v : VReg) (l : Lane) (s t : State) (h : s.Kept q)
    (he : execEst eng ea v l s = .next t) : t.Kept q := by
  cases he
  refine cloveOp_inv _ _ _ _ _ _ (fun x y hx hy => ?_) h
  with_reducible exact opEst_ok _ _ _ _ _ hx hy

theorem execVcpy_inv (eng : EngineId) (k : AReg) (j : AReg) (s t : State) (h : s.Kept q)
    (he : execVcpy eng k j s = .next t) : t.Kept q := by
  cases he
  refine cloveOp_inv _ _ _ _ _ _ (fun x y hx hy => ?_) h
  with_reducible exact opVcpy_ok _ _ _ _ hx hy

theorem execVadd_inv (eng : EngineId) (d : VReg) (a : VReg) (b : VReg) (s t : State) (h : s.Kept q)
    (he : execVadd eng d a b s = .next t) : t.Kept q := by
  cases he
  refine clovePlain_inv _ _ _ _ _ (fun x hx => ?_) h
  with_reducible exact putLanes_ok _ _ _ hx

theorem execVsub_inv (eng : EngineId) (d : VReg) (a : VReg) (b : VReg) (s t : State) (h : s.Kept q)
    (he : execVsub eng d a b s = .next t) : t.Kept q := by
  cases he
  refine clovePlain_inv _ _ _ _ _ (fun x hx => ?_) h
  with_reducible exact putLanes_ok _ _ _ hx

theorem execVmul_inv (eng : EngineId) (d : VReg) (a : VReg) (b : VReg) (s t : State) (h : s.Kept q)
    (he : execVmul eng d a b s = .next t) : t.Kept q := by
  cases he
  refine clovePlain_inv _ _ _ _ _ (fun x hx => ?_) h
  with_reducible exact putLanes_ok _ _ _ hx

theorem execVabs_inv (eng : EngineId) (d : VReg) (a : VReg) (s t : State) (h : s.Kept q)
    (he : execVabs eng d a s = .next t) : t.Kept q := by
  cases he
  refine clovePlain_inv _ _ _ _ _ (fun x hx => ?_) h
  with_reducible exact putLanes_ok _ _ _ hx

theorem execVmax_inv (eng : EngineId) (d : VReg) (a : VReg) (b : VReg) (s t : State) (h : s.Kept q)
    (he : execVmax eng d a b s = .next t) : t.Kept q := by
  cases he
  refine clovePlain_inv _ _ _ _ _ (fun x hx => ?_) h
  with_reducible exact putLanes_ok _ _ _ hx

theorem execVmin_inv (eng : EngineId) (d : VReg) (a : VReg) (b : VReg) (s t : State) (h : s.Kept q)
    (he : execVmin eng d a b s = .next t) : t.Kept q := by
  cases he
  refine clovePlain_inv _ _ _ _ _ (fun x hx => ?_) h
  with_reducible exact putLanes_ok _ _ _ hx

theorem execVshr_inv (eng : EngineId) (d : VReg) (a : VReg) (sh : Fin 16) (s t : State) (h : s.Kept q)
    (he : execVshr eng d a sh s = .next t) : t.Kept q := by
  cases he
  refine clovePlain_inv _ _ _ _ _ (fun x hx => ?_) h
  with_reducible exact putLanes_ok _ _ _ hx

theorem execVshl_inv (eng : EngineId) (d : VReg) (a : VReg) (sh : Fin 16) (s t : State) (h : s.Kept q)
    (he : execVshl eng d a sh s = .next t) : t.Kept q := by
  cases he
  refine clovePlain_inv _ _ _ _ _ (fun x hx => ?_) h
  with_reducible exact putLanes_ok _ _ _ hx

theorem execVand_inv (eng : EngineId) (d : VReg) (a : VReg) (b : VReg) (s t : State) (h : s.Kept q)
    (he : execVand eng d a b s = .next t) : t.Kept q := by
  cases he
  refine clovePlain_inv _ _ _ _ _ (fun x hx => ?_) h
  with_reducible exact setV_ok _ _ _ hx

theorem execVor_inv (eng : EngineId) (d : VReg) (a : VReg) (b : VReg) (s t : State) (h : s.Kept q)
    (he : execVor eng d a b s = .next t) : t.Kept q := by
  cases he
  refine clovePlain_inv _ _ _ _ _ (fun x hx => ?_) h
  with_reducible exact setV_ok _ _ _ hx

theorem execVxor_inv (eng : EngineId) (d : VReg) (a : VReg) (b : VReg) (s t : State) (h : s.Kept q)
    (he : execVxor eng d a b s = .next t) : t.Kept q := by
  cases he
  refine clovePlain_inv _ _ _ _ _ (fun x hx => ?_) h
  with_reducible exact setV_ok _ _ _ hx

theorem execVcmpgt_inv (eng : EngineId) (d : VReg) (a : VReg) (b : VReg) (s t : State) (h : s.Kept q)
    (he : execVcmpgt eng d a b s = .next t) : t.Kept q := by
  cases he
  refine clovePlain_inv _ _ _ _ _ (fun x hx => ?_) h
  with_reducible exact opVcmpgt_ok _ _ _ _ hx

theorem execVsel_inv (eng : EngineId) (d : VReg) (a : VReg) (b : VReg) (s t : State) (h : s.Kept q)
    (he : execVsel eng d a b s = .next t) : t.Kept q := by
  cases he
  refine clovePlain_inv _ _ _ _ _ (fun x hx => ?_) h
  with_reducible exact setV_ok _ _ _ hx

theorem execVmov_inv (eng : EngineId) (d : VReg) (a : VReg) (s t : State) (h : s.Kept q)
    (he : execVmov eng d a s = .next t) : t.Kept q := by
  cases he
  refine clovePlain_inv _ _ _ _ _ (fun x hx => ?_) h
  with_reducible exact setV_ok _ _ _ hx

theorem execVsplat_inv (eng : EngineId) (d : VReg) (imm : BitVec 16) (s t : State) (h : s.Kept q)
    (he : execVsplat eng d imm s = .next t) : t.Kept q := by
  cases he
  refine clovePlain_inv _ _ _ _ _ (fun x hx => ?_) h
  with_reducible exact setV_ok _ _ _ hx

theorem execVshuf_inv (eng : EngineId) (d : VReg) (a : VReg) (b : VReg) (pat : Fin 4) (s t : State) (h : s.Kept q)
    (he : execVshuf eng d a b pat s = .next t) : t.Kept q := by
  cases he
  refine clovePlain_inv _ _ _ _ _ (fun x hx => ?_) h
  with_reducible exact opVshuf_ok _ _ _ _ _ hx

theorem execAclr_inv (eng : EngineId) (d : AccReg) (s t : State) (h : s.Kept q)
    (he : execAclr eng d s = .next t) : t.Kept q := by
  cases he
  refine clovePlain_inv _ _ _ _ _ (fun x hx => ?_) h
  with_reducible exact setAcc_ok _ _ _ hx

theorem execVmac_inv (eng : EngineId) (d : AccReg) (a : VReg) (b : VReg) (s t : State) (h : s.Kept q)
    (he : execVmac eng d a b s = .next t) : t.Kept q := by
  cases he
  refine clovePlain_inv _ _ _ _ _ (fun x hx => ?_) h
  with_reducible exact accumulate_ok _ _ _ hx

theorem execVmacb_inv (eng : EngineId) (d : AccReg) (k : AReg) (j : AReg) (s t : State) (h : s.Kept q)
    (he : execVmacb eng d k j s = .next t) : t.Kept q := by
  cases he
  refine cloveOp_inv _ _ _ _ _ _ (fun x y hx hy => ?_) h
  with_reducible exact opVmacb_ok _ _ _ _ _ hx hy

theorem execVsqa_inv (eng : EngineId) (d : AccReg) (ea : Machine.Ea) (s t : State) (h : s.Kept q)
    (he : execVsqa eng d ea s = .next t) : t.Kept q := by
  cases he
  refine cloveOp_inv _ _ _ _ _ _ (fun x y hx hy => ?_) h
  with_reducible exact opVsqa_ok _ _ _ _ hx hy

theorem execVpwr_inv (eng : EngineId) (d : AccReg) (ea : Machine.Ea) (s t : State) (h : s.Kept q)
    (he : execVpwr eng d ea s = .next t) : t.Kept q := by
  cases he
  refine cloveOp_inv _ _ _ _ _ _ (fun x y hx hy => ?_) h
  with_reducible exact opVpwr_ok _ _ _ _ hx hy

theorem execMva_inv (eng : EngineId) (d : VReg) (a : AccReg) (auto : Bool) (sh : Fin 25) (s t : State) (h : s.Kept q)
    (he : execMva eng d a auto sh s = .next t) : t.Kept q := by
  cases he
  refine clovePlain_inv _ _ _ _ _ (fun x hx => ?_) h
  split
  · with_reducible exact opMvaAuto_ok _ _ _ hx
  · exact opMvaFixed_ok _ _ _ _ hx

theorem execAreds_inv (eng : EngineId) (d : AccReg) (a : AccReg) (s t : State) (h : s.Kept q)
    (he : execAreds eng d a s = .next t) : t.Kept q := by
  cases he
  refine clovePlain_inv _ _ _ _ _ (fun x hx => ?_) h
  with_reducible exact opAreds_ok _ _ _ hx

theorem execVbfly_inv (eng : EngineId) (a : VReg) (b : VReg) (k : AReg) (s t : State) (h : s.Kept q)
    (he : execVbfly eng a b k s = .next t) : t.Kept q := by
  cases he
  refine cloveOp_inv _ _ _ _ _ _ (fun x y hx hy => ?_) h
  with_reducible exact opVbfly_ok _ _ _ _ _ hx hy

theorem execMaxx_inv (eng : EngineId) (d : VReg) (ea : Machine.Ea) (s t : State) (h : s.Kept q)
    (he : execMaxx eng d ea s = .next t) : t.Kept q := by
  cases he
  refine cloveRun_inv _ _ _ _ _ _ _ (fun x hx => setFlag_ok _ _ _ (by decide) hx) (fun x y hx hy => ?_) h
  with_reducible exact opSearchMem_ok _ _ _ _ _ hx hy

theorem execMinx_inv (eng : EngineId) (d : VReg) (ea : Machine.Ea) (s t : State) (h : s.Kept q)
    (he : execMinx eng d ea s = .next t) : t.Kept q := by
  cases he
  refine cloveRun_inv _ _ _ _ _ _ _ (fun x hx => setFlag_ok _ _ _ (by decide) hx) (fun x y hx hy => ?_) h
  with_reducible exact opSearchMem_ok _ _ _ _ _ hx hy

theorem execMaxxv_inv (eng : EngineId) (d : VReg) (a : VReg) (s t : State) (h : s.Kept q)
    (he : execMaxxv eng d a s = .next t) : t.Kept q := by
  cases he
  refine cloveRun_inv _ _ _ _ _ _ _ (fun x hx => setFlag_ok _ _ _ (by decide) hx) (fun x y hx hy => ?_) h
  rw [← Option.some.inj hy]
  with_reducible exact search_ok _ _ _ _ hx

theorem execMinxv_inv (eng : EngineId) (d : VReg) (a : VReg) (s t : State) (h : s.Kept q)
    (he : execMinxv eng d a s = .next t) : t.Kept q := by
  cases he
  refine cloveRun_inv _ _ _ _ _ _ _ (fun x hx => setFlag_ok _ _ _ (by decide) hx) (fun x y hx hy => ?_) h
  rw [← Option.some.inj hy]
  with_reducible exact search_ok _ _ _ _ hx

theorem execVibrationZoneSample_inv (dt : Nat) (z : ZoneId) (block : Nat) (s t : State) (h : s.Kept q)
    (he : execVibrationZoneSample dt z block s = .next t) : t.Kept q := by
  cases he
  simp (maxDischargeDepth := 40) [*]

theorem execTemperatureZoneSample_inv (dt : Nat) (z : ZoneId) (s t : State) (h : s.Kept q)
    (he : execTemperatureZoneSample dt z s = .next t) : t.Kept q := by
  cases he
  simp (maxDischargeDepth := 40) [*]

theorem execSnapshotPublish_inv (dt : Nat) (id : Nat) (s t : State) (h : s.Kept q)
    (he : execSnapshotPublish dt id s = .next t) : t.Kept q := by
  cases he
  simp (maxDischargeDepth := 40) [*]

theorem execAutoTimeout_inv (dt : Nat) (g : GroupId) (s t : State) (h : s.Kept q)
    (he : execAutoTimeout dt g s = .next t) : t.Kept q := by
  cases he
  simp (maxDischargeDepth := 40) [*]

theorem execHoldoffEnd_inv (dt : Nat) (g : GroupId) (s t : State) (h : s.Kept q)
    (he : execHoldoffEnd dt g s = .next t) : t.Kept q := by
  cases he
  simp (maxDischargeDepth := 40) [*]

theorem execRecordEnqueue_inv (dt : Nat) (item : EnqueueItem) (s t : State) (h : s.Kept q)
    (he : execRecordEnqueue dt item s = .next t) : t.Kept q := by
  cases he
  simp (maxDischargeDepth := 40) [*]

theorem execSpillWriteTimeout_inv (dt : Nat) (stream : Nat) (s t : State) (h : s.Kept q)
    (he : execSpillWriteTimeout dt stream s = .next t) : t.Kept q := by
  cases he
  simp (maxDischargeDepth := 40) [*]

theorem execSummaryPeriodic_inv (dt : Nat) (s t : State) (h : s.Kept q)
    (he : execSummaryPeriodic dt s = .next t) : t.Kept q := by
  cases he
  simp (maxDischargeDepth := 40) [*]

theorem execMaskTraceEval_inv (dt : Nat) (p : Port) (ago cycles : Nat) (s t : State) (h : s.Kept q)
    (he : execMaskTraceEval dt p ago cycles s = .next t) : t.Kept q := by
  cases he
  simp (maxDischargeDepth := 40) [*]

theorem execCapmemTrainDone_inv (dt : Nat) (result : CapTrain) (s t : State) (h : s.Kept q)
    (he : execCapmemTrainDone dt result s = .next t) : t.Kept q := by
  cases he
  simp (maxDischargeDepth := 40) [*]

theorem execCapmemPeriodicCal_inv (dt : Nat) (s t : State) (h : s.Kept q)
    (he : execCapmemPeriodicCal dt s = .next t) : t.Kept q := by
  cases he
  simp (maxDischargeDepth := 40) [*]

theorem execCapmemSelfRefresh_inv (dt : Nat) (s t : State) (h : s.Kept q)
    (he : execCapmemSelfRefresh dt s = .next t) : t.Kept q := by
  cases he
  simp (maxDischargeDepth := 40) [*]

theorem execStreamJobDone_inv (dt : Nat) (stream : Nat) (s t : State) (h : s.Kept q)
    (he : execStreamJobDone dt stream s = .next t) : t.Kept q := by
  cases he
  simp (maxDischargeDepth := 40) [*]

theorem execCompressBlockDone_inv (dt : Nat) (tag : BitVec 6) (s t : State) (h : s.Kept q)
    (he : execCompressBlockDone dt tag s = .next t) : t.Kept q := by
  cases he
  simp (maxDischargeDepth := 40) [*]

theorem execDecompressDone_inv (dt : Nat) (s t : State) (h : s.Kept q)
    (he : execDecompressDone dt s = .next t) : t.Kept q := by
  cases he
  simp (maxDischargeDepth := 40) [*]

theorem execFrameSelect_inv (dt : Nat) (s t : State) (h : s.Kept q)
    (he : execFrameSelect dt s = .next t) : t.Kept q := by
  cases he
  simp (maxDischargeDepth := 40) [*]

theorem execCreditReceived_inv (dt : Nat) (stream : Nat) (total : Nat) (s t : State) (h : s.Kept q)
    (he : execCreditReceived dt stream total s = .next t) : t.Kept q := by
  cases he
  simp (maxDischargeDepth := 40) [*]

theorem execCreditRepeat_inv (dt : Nat) (s t : State) (h : s.Kept q)
    (he : execCreditRepeat dt s = .next t) : t.Kept q := by
  cases he
  simp (maxDischargeDepth := 40) [*]

theorem execBlockDiscard_inv (dt : Nat) (lane : Fin 8) (sync : BitVec 2) (bytes : List Byte) (s t : State) (h : s.Kept q)
    (he : execBlockDiscard dt lane sync bytes s = .next t) : t.Kept q := by
  cases he
  simp (maxDischargeDepth := 40) [*]

theorem execHostFrameDiscard_inv (dt : Nat) (why : FrameFault) (s t : State) (h : s.Kept q)
    (he : execHostFrameDiscard dt why s = .next t) : t.Kept q := by
  cases he
  simp (maxDischargeDepth := 40) [*]

theorem execDetectCheck_inv (dt : Nat) (found : Byte) (s t : State) (h : s.Kept q)
    (he : execDetectCheck dt found s = .next t) : t.Kept q := by
  cases he
  simp (maxDischargeDepth := 40) [*]

theorem execTrainingFrameRx_inv (dt : Nat) (lane : Fin 8) (control : Half) (status : Half) (ownReady : Bool) (s t : State) (h : s.Kept q)
    (he : execTrainingFrameRx dt lane control status ownReady s = .next t) : t.Kept q := by
  cases he
  simp (maxDischargeDepth := 40) [*]

theorem execAlignRx_inv (dt : Nat) (locked : Byte) (seen : Vector (Option AlignIn) 8) (s t : State) (h : s.Kept q)
    (he : execAlignRx dt locked seen s = .next t) : t.Kept q := by
  cases he
  simp (maxDischargeDepth := 40) [*]

theorem execCapabilitySend_inv (dt : Nat) (s t : State) (h : s.Kept q)
    (he : execCapabilitySend dt s = .next t) : t.Kept q := by
  cases he
  simp (maxDischargeDepth := 40) [*]

theorem execCapabilityRx_inv (dt : Nat) (bytes : List Byte) (s t : State) (h : s.Kept q)
    (he : execCapabilityRx dt bytes s = .next t) : t.Kept q := by
  cases he
  simp (maxDischargeDepth := 40) [*]

theorem execBringupStageTimeout_inv (dt : Nat) (s t : State) (h : s.Kept q)
    (he : execBringupStageTimeout dt s = .next t) : t.Kept q := by
  cases he
  simp (maxDischargeDepth := 40) [*]

theorem execLinkFailIdleEnd_inv (dt : Nat) (s t : State) (h : s.Kept q)
    (he : execLinkFailIdleEnd dt s = .next t) : t.Kept q := by
  cases he
  simp (maxDischargeDepth := 40) [*]

theorem execDownCheck_inv (dt : Nat) (found : Byte) (s t : State) (h : s.Kept q)
    (he : execDownCheck dt found s = .next t) : t.Kept q := by
  cases he
  simp (maxDischargeDepth := 40) [*]

theorem execBlockLockLoss_inv (dt : Nat) (lane : Fin 8) (s t : State) (h : s.Kept q)
    (he : execBlockLockLoss dt lane s = .next t) : t.Kept q := by
  cases he
  simp (maxDischargeDepth := 40) [*]

theorem execIdleLoss_inv (dt : Nat) (lane : Fin 8) (s t : State) (h : s.Kept q)
    (he : execIdleLoss dt lane s = .next t) : t.Kept q := by
  cases he
  simp (maxDischargeDepth := 40) [*]

theorem execLrefUnlock_inv (dt : Nat) (s t : State) (h : s.Kept q)
    (he : execLrefUnlock dt s = .next t) : t.Kept q := by
  cases he
  simp (maxDischargeDepth := 40) [*]

theorem execPmBlockRx_inv (dt : Nat) (target : Nat) (s t : State) (h : s.Kept q)
    (he : execPmBlockRx dt target s = .next t) : t.Kept q := by
  cases he
  simp (maxDischargeDepth := 40) [*]

theorem execTxQuietEntry_inv (dt : Nat) (s t : State) (h : s.Kept q)
    (he : execTxQuietEntry dt s = .next t) : t.Kept q := by
  cases he
  simp (maxDischargeDepth := 40) [*]

theorem execTxSleepEntry_inv (dt : Nat) (s t : State) (h : s.Kept q)
    (he : execTxSleepEntry dt s = .next t) : t.Kept q := by
  cases he
  simp (maxDischargeDepth := 40) [*]

theorem execQuietRefresh_inv (dt : Nat) (s t : State) (h : s.Kept q)
    (he : execQuietRefresh dt s = .next t) : t.Kept q := by
  cases he
  simp (maxDischargeDepth := 40) [*]

theorem execTxPmExit_inv (dt : Nat) (s t : State) (h : s.Kept q)
    (he : execTxPmExit dt s = .next t) : t.Kept q := by
  cases he
  simp (maxDischargeDepth := 40) [*]

theorem execLinkLoopStart_inv (dt : Nat) (s t : State) (h : s.Kept q)
    (he : execLinkLoopStart dt s = .next t) : t.Kept q := by
  cases he
  simp (maxDischargeDepth := 40) [*]

theorem execLinkLoopEnd_inv (dt : Nat) (s t : State) (h : s.Kept q)
    (he : execLinkLoopEnd dt s = .next t) : t.Kept q := by
  cases he
  simp (maxDischargeDepth := 40) [*]

theorem execRefQualified_inv (edges : RefEdges) (s t : State) (h : s.Kept q)
    (he : execRefQualified edges s = .next t) : t.Kept q := by
  cases he
  simp (maxDischargeDepth := 40) [*]

theorem execRefLost_inv (dt : Nat) (s t : State) (h : s.Kept q)
    (he : execRefLost dt s = .next t) : t.Kept q := by
  cases he
  simp (maxDischargeDepth := 40) [*]

theorem execOcxoRdyChange_inv (dt : Nat) (level : Bool) (s t : State) (h : s.Kept q)
    (he : execOcxoRdyChange dt level s = .next t) : t.Kept q := by
  cases he
  simp (maxDischargeDepth := 40) [*]

theorem execPpsEdge_inv (dt : Nat) (stamp : Stamp) (high : Bool) (s t : State) (h : s.Kept q)
    (he : execPpsEdge dt stamp high s = .next t) : t.Kept q := by
  cases he
  simp (maxDischargeDepth := 40) [*]

theorem execPpsTimeout_inv (dt : Nat) (s t : State) (h : s.Kept q)
    (he : execPpsTimeout dt s = .next t) : t.Kept q := by
  cases he
  simp (maxDischargeDepth := 40) [*]

theorem execPpsOutSecond_inv (dt : Nat) (s t : State) (h : s.Kept q)
    (he : execPpsOutSecond dt s = .next t) : t.Kept q := by
  cases he
  simp (maxDischargeDepth := 40) [*]

theorem execSyncMarker_inv (dt : Nat) (stamp : Stamp) (falls : List Nat) (s t : State) (h : s.Kept q)
    (he : execSyncMarker dt stamp falls s = .next t) : t.Kept q := by
  cases he
  simp (maxDischargeDepth := 40) [*]

theorem execSyncTimeout_inv (dt : Nat) (s t : State) (h : s.Kept q)
    (he : execSyncTimeout dt s = .next t) : t.Kept q := by
  cases he
  simp (maxDischargeDepth := 40) [*]

theorem execSyncPhaseStep_inv (dt : Nat) (s t : State) (h : s.Kept q)
    (he : execSyncPhaseStep dt s = .next t) : t.Kept q := by
  cases he
  simp (maxDischargeDepth := 40) [*]

theorem execTiStartEdge_inv (dt : Nat) (start : TiStart) (stamp : Stamp) (s t : State) (h : s.Kept q)
    (he : execTiStartEdge dt start stamp s = .next t) : t.Kept q := by
  cases he
  simp (maxDischargeDepth := 40) [*]

theorem execTiStopEdge_inv (dt : Nat) (ball : Fin 12) (edge : TiEdge) (stamp : Stamp) (s t : State) (h : s.Kept q)
    (he : execTiStopEdge dt ball edge stamp s = .next t) : t.Kept q := by
  cases he
  simp (maxDischargeDepth := 40) [*]

theorem execTiWindowEnd_inv (dt : Nat) (s t : State) (h : s.Kept q)
    (he : execTiWindowEnd dt s = .next t) : t.Kept q := by
  cases he
  simp (maxDischargeDepth := 40) [*]

theorem execTiFreqGateEnd_inv (dt : Nat) (stamp : Stamp) (edges interval : Nat) (s t : State) (h : s.Kept q)
    (he : execTiFreqGateEnd dt stamp edges interval s = .next t) : t.Kept q := by
  cases he
  simp (maxDischargeDepth := 40) [*]

theorem execHkaSequence_inv (dt : Nat) (s t : State) (h : s.Kept q)
    (he : execHkaSequence dt s = .next t) : t.Kept q := by
  cases he
  simp (maxDischargeDepth := 40) [*]

theorem execHkbJobTrigger_inv (dt : Nat) (s t : State) (h : s.Kept q)
    (he : execHkbJobTrigger dt s = .next t) : t.Kept q := by
  cases he
  simp (maxDischargeDepth := 40) [*]

theorem execHkCheckTrigger_inv (dt : Nat) (s t : State) (h : s.Kept q)
    (he : execHkCheckTrigger dt s = .next t) : t.Kept q := by
  cases he
  simp (maxDischargeDepth := 40) [*]

theorem execHkEntryResult_inv (dt : Nat) (conv : Fin 2) (result : Option (List Int × Bool)) (s t : State) (h : s.Kept q)
    (he : execHkEntryResult dt conv result s = .next t) : t.Kept q := by
  cases he
  simp (maxDischargeDepth := 40) [*]

theorem execRefSettlingEnd_inv (dt : Nat) (conv : Fin 2) (s t : State) (h : s.Kept q)
    (he : execRefSettlingEnd dt conv s = .next t) : t.Kept q := by
  cases he
  simp (maxDischargeDepth := 40) [*]

theorem execLoopTick_inv (x : LoopTick) (s t : State) (h : s.Kept q)
    (he : execLoopTick x s = .next t) : t.Kept q := by
  cases he
  simp (maxDischargeDepth := 40) [*]

theorem execLoopCauseSet_inv (dt : Nat) (n : Fin 8) (cause : Fin 3) (reading : LoopReading) (s t : State) (h : s.Kept q)
    (he : execLoopCauseSet dt n cause reading s = .next t) : t.Kept q := by
  cases he
  simp (maxDischargeDepth := 40) [*]

theorem execLoopCauseClear_inv (dt : Nat) (n : Fin 8) (cause : Fin 3) (reading : LoopReading) (s t : State) (h : s.Kept q)
    (he : execLoopCauseClear dt n cause reading s = .next t) : t.Kept q := by
  cases he
  simp (maxDischargeDepth := 40) [*]

theorem execLoopDriveRetry_inv (dt : Nat) (n : Fin 8) (s t : State) (h : s.Kept q)
    (he : execLoopDriveRetry dt n s = .next t) : t.Kept q := by
  cases he
  simp (maxDischargeDepth := 40) [*]

theorem execAlarmOverload_inv (dt : Nat) (n : Fin 8) (s t : State) (h : s.Kept q)
    (he : execAlarmOverload dt n s = .next t) : t.Kept q := by
  cases he
  simp (maxDischargeDepth := 40) [*]

theorem execAlarmRetry_inv (dt : Nat) (n : Fin 8) (s t : State) (h : s.Kept q)
    (he : execAlarmRetry dt n s = .next t) : t.Kept q := by
  cases he
  simp (maxDischargeDepth := 40) [*]

theorem execAlarmOverloadClear_inv (dt : Nat) (n : Fin 8) (s t : State) (h : s.Kept q)
    (he : execAlarmOverloadClear dt n s = .next t) : t.Kept q := by
  cases he
  simp (maxDischargeDepth := 40) [*]

theorem execAlarmMinActiveEnd_inv (dt : Nat) (n : Fin 8) (s t : State) (h : s.Kept q)
    (he : execAlarmMinActiveEnd dt n s = .next t) : t.Kept q := by
  cases he
  simp (maxDischargeDepth := 40) [*]

theorem execStartUpCalBegin_inv (dt : Nat) (s t : State) (h : s.Kept q)
    (he : execStartUpCalBegin dt s = .next t) : t.Kept q := by
  cases he
  simp (maxDischargeDepth := 40) [*]

theorem execCalAutoCheck_inv (dt : Nat) (s t : State) (h : s.Kept q)
    (he : execCalAutoCheck dt s = .next t) : t.Kept q := by
  cases he
  simp (maxDischargeDepth := 40) [*]

theorem execCalStepEnd_inv (dt : Nat) (measure : CalMeasure) (s t : State) (h : s.Kept q)
    (he : execCalStepEnd dt measure s = .next t) : t.Kept q := by
  cases he
  simp (maxDischargeDepth := 40) [*]

theorem execCalRunEnd_inv (dt : Nat) (s t : State) (h : s.Kept q)
    (he : execCalRunEnd dt s = .next t) : t.Kept q := by
  cases he
  simp (maxDischargeDepth := 40) [*]

theorem execStandbyGated_inv (dt : Nat) (s t : State) (h : s.Kept q)
    (he : execStandbyGated dt s = .next t) : t.Kept q := by
  cases he
  simp (maxDischargeDepth := 40) [*]

theorem execRetainArm_inv (dt : Nat) (s t : State) (h : s.Kept q)
    (he : execRetainArm dt s = .next t) : t.Kept q := by
  cases he
  simp (maxDischargeDepth := 40) [*]

theorem execCommitPoint_inv (dt : Nat) (s t : State) (h : s.Kept q)
    (he : execCommitPoint dt s = .next t) : t.Kept q := by
  cases he
  simp (maxDischargeDepth := 40) [*]

theorem execWakeEvent_inv (dt : Nat) (sources : List WakeSource) (s t : State) (h : s.Kept q)
    (he : execWakeEvent dt sources s = .next t) : t.Kept q := by
  cases he
  simp (maxDischargeDepth := 40) [*]

theorem execWakeReplay_inv (dt : Nat) (s t : State) (h : s.Kept q)
    (he : execWakeReplay dt s = .next t) : t.Kept q := by
  cases he
  simp (maxDischargeDepth := 40) [*]

theorem execBrownout_inv (dt : Nat) (s t : State) (h : s.Kept q)
    (he : execBrownout dt s = .next t) : t.Kept q := by
  cases he
  simp (maxDischargeDepth := 40) [*]

theorem execWakeSuppliesGood_inv (dt : Nat) (s t : State) (h : s.Kept q)
    (he : execWakeSuppliesGood dt s = .next t) : t.Kept q := by
  cases he
  simp (maxDischargeDepth := 40) [*]

theorem execWakeSerialCheck_inv (dt : Nat) (p : Port) (attempts : List (Option IdAttempt)) (s t : State) (h : s.Kept q)
    (he : execWakeSerialCheck dt p attempts s = .next t) : t.Kept q := by
  cases he
  simp (maxDischargeDepth := 40) [*]

theorem execWakeComplete_inv (dt : Nat) (s t : State) (h : s.Kept q)
    (he : execWakeComplete dt s = .next t) : t.Kept q := by
  cases he
  simp (maxDischargeDepth := 40) [*]

theorem execShutdownSelftestDone_inv (dt : Nat) (result : TestResult) (s t : State) (h : s.Kept q)
    (he : execShutdownSelftestDone dt result s = .next t) : t.Kept q := by
  cases he
  simp (maxDischargeDepth := 40) [*]

theorem execSelftestBlockDone_inv (dt : Nat) (result : TestResult) (s t : State) (h : s.Kept q)
    (he : execSelftestBlockDone dt result s = .next t) : t.Kept q := by
  cases he
  simp (maxDischargeDepth := 40) [*]

theorem execVaonLoss_inv (dt : Nat) (s t : State) (h : s.Kept q)
    (he : execVaonLoss dt s = .next t) : t.Kept q := by
  cases he
  simp (maxDischargeDepth := 40) [*]

theorem execClocksUngated_inv (dt : Nat) (s t : State) (h : s.Kept q)
    (he : execClocksUngated dt s = .next t) : t.Kept q := by
  cases he
  simp (maxDischargeDepth := 40) [*]

theorem execFlashWriteDone_inv (dt : Nat) (s t : State) (h : s.Kept q)
    (he : execFlashWriteDone dt s = .next t) : t.Kept q := by
  cases he
  simp (maxDischargeDepth := 40) [*]

theorem execLifecycleProgrammed_inv (dt : Nat) (s t : State) (h : s.Kept q)
    (he : execLifecycleProgrammed dt s = .next t) : t.Kept q := by
  cases he
  simp (maxDischargeDepth := 40) [*]

theorem execRxSleepExit_inv (dt : Nat) (s t : State) (h : s.Kept q)
    (he : execRxSleepExit dt s = .next t) : t.Kept q := by
  cases he
  simp (maxDischargeDepth := 40) [*]

theorem execTrainingFramesStart_inv (dt : Nat) (polarity : Byte) (s t : State) (h : s.Kept q)
    (he : execTrainingFramesStart dt polarity s = .next t) : t.Kept q := by
  cases he
  simp (maxDischargeDepth := 40) [*]

theorem execLoopCheckerLock_inv (dt : Nat) (lane : Fin 8) (locked : Bool) (errors : Nat) (s t : State) (h : s.Kept q)
    (he : execLoopCheckerLock dt lane locked errors s = .next t) : t.Kept q := by
  cases he
  simp (maxDischargeDepth := 40) [*]

theorem execBoundaryScanAccess_inv (dt : Nat) (op : JtagOp) (s t : State) (h : s.Kept q)
    (he : execBoundaryScanAccess dt op s = .next t) : t.Kept q := by
  cases he
  simp (maxDischargeDepth := 40) [*]

end Sys2Proof.Machine
end

