-- ==== Sys2Proof/Tests/Slice0.lean ====
section
/-! SUPPORT. The model's own tests: each check of `Instr.wf` refuses an ill-formed command; every hypothesis of every
statement is met by a concrete state; a few effects worked out by hand from the rules they name. -/

open Sys2Proof Sys2Proof.Machine

namespace Sys2Proof.Tests

-- One after the other: each test that the kernel decides waits for the declarations before it.
set_option Elab.async false

/-! ## Commands that are not well formed -/

theorem test_wf_paramWrite : (Instr.paramWrite 0 ⟨0, 0, 0, .link⟩ 0 0 0 0 []).wf = false := by decide
theorem test_wf_sumacJob : (Instr.sumacJob 0 ⟨0, 0, 0, .link⟩ [1]).wf = false := by decide
theorem test_wf_serviceResponse : (Instr.serviceResponse 0 ⟨0, 0, 0, .link⟩ [1]).wf = false := by decide
theorem test_wf_tiArm : (Instr.tiArm 0 ⟨0, 0, 0, .link⟩ [1]).wf = false := by decide
theorem test_wf_registerWrite_fast : (Instr.registerWrite 0 100001 [0]).wf = false := by decide
theorem test_wf_registerWrite_none : (Instr.registerWrite 0 1000 []).wf = false := by decide
theorem test_wf_idTransactionEnd : (Instr.idTransactionEnd 0 0 ⟨0, .data [1]⟩).wf = false := by decide
theorem test_wf_idTransactionEnd_held : (Instr.idTransactionEnd 0 0 ⟨8, .busHeld⟩).wf = false := by decide
theorem test_wf_pairCheckEnd : (Instr.pairCheckEnd 0 0 [1] []).wf = false := by decide
theorem test_wf_gaugeSample : (Instr.gaugeSample 0 0 ⟨0, 0, 0, 0, [1], []⟩).wf = false := by decide
theorem test_wf_recordEnqueue : (Instr.recordEnqueue 0 (.raw 0 0 [1] [])).wf = false := by decide
theorem test_wf_ramanRecordingEnd_base : (Instr.ramanRecordingEnd 0 0 [1] [] [] []).wf = false := by decide
theorem test_wf_ramanRecordingEnd_bins : (Instr.ramanRecordingEnd 0 0 [] [] [1] []).wf = false := by decide
theorem test_wf_blockDiscard : (Instr.blockDiscard 0 0 2 [1]).wf = false := by decide
theorem test_wf_syncMarker : (Instr.syncMarker 0 ⟨0, 0⟩ []).wf = false := by decide
theorem test_wf_wakeSerialCheck : (Instr.wakeSerialCheck 0 0 [some ⟨0, .data [1]⟩]).wf = false := by decide

theorem test_wf_wakeSerialCheck_more : (Instr.wakeSerialCheck 0 0 [some ⟨0, .data (zeros 16)⟩, none]).wf = false := by decide
theorem test_wf_capmemTrainDone : (Instr.capmemTrainDone 0 ⟨[], none⟩).wf = false := by decide

/-! ## States that the witnesses start from -/

/-- The device right after reset, its firmware up. -/
def ready : State := { State.reset with start := { State.reset.start with boot := .ready } }

/-- Engine 0 runs a block of port 0, and its code is one word with the given fields. -/
def running (fs : List WordField) : State :=
  let w := fs.foldl (fun w f => w + f.2.2 % 2 ^ f.2.1 * 2 ^ f.1) 0
  ready.setEngine 0 (fun x =>
    { x with mode := .running 0 0 0, codeEnd := 4, pmem := memWriteAll blankByte x.pmem 0 (leBytes 4 w) })

/-- The same with the engine's registers changed. -/
def runningOn (fs : List WordField) (f : EngineSt → EngineSt) : State := (running fs).setEngine 0 f

/-- What engine 0 holds after a command, where it answers a next state. -/
def engineAfter (i : Instr) (s : State) : EngineSt :=
  match exec i s with
  | .next t => t.engine 0
  | _ => s.engine 0

/-- What `Fetches` asks, and no repeat running. -/
def fetchesOnce (s : State) (fs : List WordField) : Bool :=
  s.clocked && isRunning (s.engine 0) && !offCode (s.engine 0) && wordFits (fetchWord (s.engine 0)) fs && !undefinedWord (fetchWord (s.engine 0)) && decide ((s.engine 0).rc = 0)

theorem fetchesOnce_iff (s : State) (fs : List WordField) :
    fetchesOnce s fs = true ↔ Fetches s 0 fs ∧ (s.engine 0).rc = 0 := by
  simp [fetchesOnce, Fetches, and_assoc]

/-! ## Clove: what the hypotheses of the statements ask -/

theorem witness_CloveLaneArithmetic :
    (∀ op ∈ [0x18, 0x19, 0x1A, 0x1C, 0x1D], fetchesOnce (running (encV op 1 2 3)) (encV op 1 2 3) = true)
    ∧ fetchesOnce (running [(26, 6, 0x1B), (21, 5, 1), (16, 5, 2)]) [(26, 6, 0x1B), (21, 5, 1), (16, 5, 2)] = true
    ∧ (∀ op ∈ [0x1E, 0x1F], fetchesOnce (running [(26, 6, op), (21, 5, 1), (16, 5, 2), (0, 7, 15)])
        [(26, 6, op), (21, 5, 1), (16, 5, 2), (0, 7, 15)] = true) := by decide

theorem witness_CloveLaneLogicAndShuffles :
    (∀ op ∈ [0x20, 0x21, 0x22, 0x23, 0x24], fetchesOnce (running (encV op 1 2 3)) (encV op 1 2 3) = true)
    ∧ fetchesOnce (running [(26, 6, 0x25), (21, 5, 1), (16, 5, 2)]) [(26, 6, 0x25), (21, 5, 1), (16, 5, 2)] = true
    ∧ fetchesOnce (running [(26, 6, 0x26), (21, 5, 1), (16, 5, 0), (0, 16, 0x8000)])
        [(26, 6, 0x26), (21, 5, 1), (16, 5, 0), (0, 16, 0x8000)] = true
    ∧ ∀ p : Fin 4, fetchesOnce (running ((0, 7, p.val) :: encV 0x27 1 2 3)) ((0, 7, p.val) :: encV 0x27 1 2 3) = true := by decide

/-- An accumulator lane for which AUTO needs the largest shift, 24. -/
def wideAcc (x : EngineSt) : EngineSt :=
  { x with acc := x.acc.set 0 ((x.acc[0]).set 3 (BitVec.ofNat 40 (2 ^ 38))) }

theorem witness_CloveAccumulatorRegisters :
    fetchesOnce (running [(26, 6, 0x28), (7, 2, 3)]) [(26, 6, 0x28), (7, 2, 3)] = true
    ∧ fetchesOnce (running [(26, 6, 0x29), (7, 2, 3), (16, 5, 1), (11, 5, 2)]) [(26, 6, 0x29), (7, 2, 3), (16, 5, 1), (11, 5, 2)]
        = true
    ∧ fetchesOnce (running [(26, 6, 0x2E), (9, 2, 1), (7, 2, 3)]) [(26, 6, 0x2E), (9, 2, 1), (7, 2, 3)] = true
    ∧ fetchesOnce (running [(26, 6, 0x2D), (21, 5, 7), (9, 2, 1), (5, 1, 0), (0, 5, 24)])
        [(26, 6, 0x2D), (21, 5, 7), (9, 2, 1), (5, 1, 0), (0, 5, 24)] = true
    ∧ (let fs := [(26, 6, 0x2D), (21, 5, 7), (9, 2, 0), (5, 1, 1), (0, 5, 0)]
      let s := runningOn fs wideAcc
      fetchesOnce s fs = true ∧ (∀ i : Lane, fits16 (rnd (accLane (s.engine 0) 0 i) 24) = true)
        ∧ ∀ m : Nat, m < 24 → ∃ i : Lane, fits16 (rnd (accLane (s.engine 0) 0 i) m) = false) := by decide

theorem witness_CloveLoads :
    fetchesOnce (running (encM 0x10 1 (.post 2))) (encM 0x10 1 (.post 2)) = true
    ∧ (∀ i : Nat, i < 8 → (Ea.post 2).part ((running (encM 0x10 1 (.post 2))).engine 0) 2 i % 2 = 0)
    ∧ fetchesOnce (running (encM 0x12 1 (.disp 2 6))) (encM 0x12 1 (.disp 2 6)) = true
    ∧ (Ea.disp 2 6).addr ((running (encM 0x12 1 (.disp 2 6))).engine 0) % 2 = 0
    ∧ fetchesOnce (running (encM 0x13 1 (.disp 2 7))) (encM 0x13 1 (.disp 2 7)) = true
    ∧ fetchesOnce (running (encML 0x14 1 7 (.post 2))) (encML 0x14 1 7 (.post 2)) = true
    ∧ (EaLane.post 2).addr ((running (encML 0x14 1 7 (.post 2))).engine 0) % 2 = 0 := by decide

theorem witness_CloveStores :
    Memory.wf blankByte ((running (encM 0x11 1 (.post 2))).engine 0).dmem = true
    ∧ fetchesOnce (running (encM 0x11 1 (.post 2))) (encM 0x11 1 (.post 2)) = true
    ∧ (∀ i : Nat, i < 8 → (Ea.post 2).part ((running (encM 0x11 1 (.post 2))).engine 0) 2 i % 2 = 0)
    ∧ (∀ m n : Lane, m ≠ n → (Ea.post 2).part ((running (encM 0x11 1 (.post 2))).engine 0) 2 m.val % 262144
        ≠ (Ea.post 2).part ((running (encM 0x11 1 (.post 2))).engine 0) 2 n.val % 262144)
    ∧ fetchesOnce (running (encML 0x15 1 7 (.disp 2 6))) (encML 0x15 1 7 (.disp 2 6)) = true
    ∧ (EaLane.disp 2 6).addr ((running (encML 0x15 1 7 (.disp 2 6))).engine 0) % 2 = 0
    ∧ fetchesOnce (running [(26, 6, 0x16), (18, 3, 2), (17, 1, 1), (14, 3, 2), (0, 14, 0)])
        [(26, 6, 0x16), (18, 3, 2), (17, 1, 1), (14, 3, 2), (0, 14, 0)] = true := by decide

theorem witness_ClovePostModification :
    fetchesOnce (runningOn (encM 0x13 1 (.post 2)) (fun x => { x with cl := x.cl.set 2 64, of := x.of.set 2 0x3FFFF }))
      (encM 0x13 1 (.post 2)) = true := by decide

theorem witness_CloveAccumulateFromMemory :
    fetchesOnce (running (encM2 0x2A 1 2 2)) (encM2 0x2A 1 2 2) = true
    ∧ (∀ i : Nat, i < 8 → (Ea.post 2).part ((running (encM2 0x2A 1 2 2)).engine 0) 2 i % 2 = 0)
    ∧ ((running (encM2 0x2A 1 2 2)).engine 0).ar[2].toNat % 2 = 0
    ∧ fetchesOnce (running (encM 0x2B 1 (.disp 2 8))) (encM 0x2B 1 (.disp 2 8)) = true
    ∧ (∀ i : Nat, i < 8 → (Ea.disp 2 8).part ((running (encM 0x2B 1 (.disp 2 8))).engine 0) 2 i % 2 = 0)
    ∧ fetchesOnce (running (encM 0x2C 1 (.post 2))) (encM 0x2C 1 (.post 2)) = true
    ∧ (∀ i : Nat, i < 16 → (Ea.post 2).part ((running (encM 0x2C 1 (.post 2))).engine 0) 2 i % 2 = 0) := by decide

theorem witness_CloveAddressMoves :
    (∀ sel : Fin 4, fetchesOnce (running [(26, 6, 0x08), (24, 2, sel.val), (21, 3, 1), (18, 3, 0), (0, 18, 0x3FFFF)])
      [(26, 6, 0x08), (24, 2, sel.val), (21, 3, 1), (18, 3, 0), (0, 18, 0x3FFFF)] = true)
    ∧ (∀ op ∈ [0x09, 0x0A], fetchesOnce (running [(26, 6, op), (21, 3, 1), (18, 3, 0), (0, 18, 5)])
      [(26, 6, op), (21, 3, 1), (18, 3, 0), (0, 18, 5)] = true)
    ∧ fetchesOnce (running [(26, 6, 0x0B), (24, 2, 3), (21, 3, 1), (19, 2, 0), (16, 3, 7), (0, 16, 0)])
      [(26, 6, 0x0B), (24, 2, 3), (21, 3, 1), (19, 2, 0), (16, 3, 7), (0, 16, 0)] = true
    ∧ (∀ w : Fin 3, fetchesOnce (running [(26, 6, 0x0C), (21, 3, 1), (18, 3, 0), (0, 2, w.val)])
      [(26, 6, 0x0C), (21, 3, 1), (18, 3, 0), (0, 2, w.val)] = true)
    ∧ (∀ w : Fin 2, fetchesOnce (running [(26, 6, 0x0D), (21, 3, 1), (18, 3, 0), (0, 2, w.val)])
      [(26, 6, 0x0D), (21, 3, 1), (18, 3, 0), (0, 2, w.val)] = true)
    ∧ (∀ op ∈ [0x0E, 0x0F], fetchesOnce (running [(26, 6, op), (21, 3, 1), (16, 5, 31), (0, 3, 7)])
      [(26, 6, op), (21, 3, 1), (16, 5, 31), (0, 3, 7)] = true) := by decide

theorem witness_CloveControlFlowAndRepeat :
    fetchesOnce (running [(26, 6, 0x00), (0, 26, 0)]) [(26, 6, 0x00), (0, 26, 0)] = true
    ∧ fetchesOnce (running [(26, 6, 0x07), (0, 26, 5)]) [(26, 6, 0x07)] = true
    ∧ (∀ c : Fin 12, fetchesOnce (running [(26, 6, 0x03), (22, 4, c.val), (0, 22, 0x3FFFFF)])
      [(26, 6, 0x03), (22, 4, c.val), (0, 22, 0x3FFFFF)] = true)
    ∧ (∀ op ∈ [0x04, 0x05], fetchesOnce (running [(26, 6, op), (23, 3, 1), (22, 1, 0), (0, 22, 3)])
      [(26, 6, op), (23, 3, 1), (22, 1, 0), (0, 22, 3)] = true)
    ∧ fetchesOnce (running [(26, 6, 0x06), (23, 3, 1), (0, 23, 0)]) [(26, 6, 0x06), (23, 3, 1), (0, 23, 0)] = true := by decide

theorem witness_CloveControlFlowAndRepeat_rep :
    fetchesOnce (running [(26, 6, 0x02), (16, 10, 0), (0, 16, 0xFFFF)]) [(26, 6, 0x02), (16, 10, 0), (0, 16, 0xFFFF)] = true
    ∧ Fetches (runningOn (encM 0x13 1 (.post 2)) (fun x => { x with rc := 65536 })) 0 (encM 0x13 1 (.post 2))
    ∧ ((runningOn (encM 0x13 1 (.post 2)) (fun x => { x with rc := 65536 })).engine 0).rc ≠ 0 := by
  unfold Fetches; decide

theorem witness_CloveSearches :
    (∀ op ∈ [0x30, 0x31], fetchesOnce (running (encM op 1 (.post 2))) (encM op 1 (.post 2)) = true
      ∧ ∀ i : Nat, i < 8 → (Ea.post 2).part ((running (encM op 1 (.post 2))).engine 0) 2 i % 2 = 0)
    ∧ (∀ op ∈ [0x32, 0x33], fetchesOnce (running [(26, 6, op), (21, 5, 1), (16, 5, 1)]) [(26, 6, op), (21, 5, 1), (16, 5, 1)]
        = true) := by decide

theorem witness_CloveButterfly :
    let fs := [(26, 6, 0x2F), (21, 5, 1), (18, 3, 2), (17, 1, 1), (12, 5, 1), (0, 12, 0)]
    fetchesOnce (running fs) fs = true ∧ ∀ i : Nat, i < 8 → (Ea.post 2).part ((running fs).engine 0) 2 i % 2 = 0 := by decide

/-- Engine 0 with an odd address in AR2. -/
def oddAt (fs : List WordField) : State := runningOn fs (fun x => { x with ar := x.ar.set 2 1 })

/-- Engine 0 in a repeat. -/
def repeating (fs : List WordField) : State := runningOn fs (fun x => { x with rc := 2 })

theorem witness_CloveFaultsAndDone :
    (isRunning ((runningOn [] (fun x => { x with pc := 4 })).engine 0) = true
      ∧ ((runningOn [] (fun x => { x with pc := 4 })).engine 0).codeEnd ≤ ((runningOn [] (fun x => { x with pc := 4 })).engine
          0).pc.toNat)
    ∧ undefinedWord (fetchWord ((running [(26, 6, 0x3F)]).engine 0)) = true
    ∧ fetchesOnce (oddAt (encM 0x10 1 (.post 2))) (encM 0x10 1 (.post 2)) = true
    ∧ (∃ i : Nat, i < 8 ∧ (Ea.post 2).part ((oddAt (encM 0x10 1 (.post 2))).engine 0) 2 i % 2 = 1)
    ∧ fetchesOnce (oddAt (encM 0x12 1 (.post 2))) (encM 0x12 1 (.post 2)) = true
    ∧ (Ea.post 2).addr ((oddAt (encM 0x12 1 (.post 2))).engine 0) % 2 = 1
    ∧ Fetches (repeating (encV 0x18 1 2 3)) 0 (encV 0x18 1 2 3) ∧ ((repeating (encV 0x18 1 2 3)).engine 0).rc ≠ 0
    ∧ Fetches (repeating (encM 0x10 1 (.disp 2 0))) 0 (encM 0x10 1 (.disp 2 0))
    ∧ ((repeating (encM 0x10 1 (.disp 2 0))).engine 0).rc ≠ 0 := by unfold Fetches; decide

/-- A block of port 0 that engine 0 has taken. -/
def taken (cutoff : Nat) : Block :=
  ⟨0, 0, 0, 0, 0, cutoff, cutoff, 1, 0, 1, 1, false, true, 0, [], [], .taken 0, 0, false⟩

/-- Engine 0 at DONE with its block, the end of its results and the block's cut-off. -/
def atDone (ar2 : BitVec 18) (cutoff : Nat) : State :=
  (runningOn [(26, 6, 0x01), (0, 26, 0)] (fun x => { x with ar := x.ar.set 2 ar2 })).setQueue 0 (fun q =>
    { q with blocks := [taken cutoff] })

theorem witness_CloveFaultsAndDone_done (a : BitVec 18) (c : Nat) (h : a = 0x14000 ∨ a = 0x18000 ∨ a = 0x13FFF ∨ a = 0x18001)
    (h' : c = 0 ∨ c = 1) :
    fetchesOnce (atDone a c) [(26, 6, 0x01), (0, 26, 0)] = true ∧ ((atDone a c).engine 0).mode = .running 0 0 0
      ∧ (atDone a c).takenBy 0 0 0 0 = some (taken c) ∧ (atDone a c).tb = 0 ∧ ((atDone a c).engine 0).ar[2] = a := by
  rcases h with rfl | rfl | rfl | rfl <;> rcases h' with rfl | rfl <;> decide

/-! ## Clove: effects worked out by hand -/

/-- R231: 0x7FFF + 1 saturates and SAT is set. -/
theorem test_vadd_saturates :
    let fs := encV 0x18 1 2 3
    let x := engineAfter (.vadd 0 1 2 3) (runningOn fs (fun x =>
      { x with v := (x.v.set 2 (Vector.replicate 8 0x7FFF)).set 3 (Vector.replicate 8 1) }))
    x.v[1][0] = 0x7FFF ∧ x.flg = 0x10 := by decide

/-- R231: −1 × −1 in Q15 saturates to 32,767. -/
theorem test_vmul_corner :
    let fs := encV 0x1A 1 2 2
    let x := engineAfter (.vmul 0 1 2 2) (runningOn fs (fun x => { x with v := x.v.set 2 (Vector.replicate 8 0x8000) }))
    x.v[1][7] = 0x7FFF ∧ x.flg = 0x10 := by decide

/-- R231: a shift right rounds half up: −3 / 2 is −1, 3 / 2 is 2. -/
theorem test_vshr_rounds :
    let fs := [(26, 6, 0x1E), (21, 5, 1), (16, 5, 2), (0, 7, 1)]
    let x := engineAfter (.vshr 0 1 2 1) (runningOn fs (fun x => { x with v := x.v.set 2 #v[0xFFFD, 3, 0, 0, 0, 0, 0, 0] }))
    x.v[1][0] = 0xFFFF ∧ x.v[1][1] = 2 := by decide

/-- R231: VSEL reads the sign of the old Vd. -/
theorem test_vsel_destination :
    let fs := encV 0x24 1 2 3
    let x := engineAfter (.vsel 0 1 2 3) (runningOn fs (fun x =>
      { x with v := ((x.v.set 1 #v[0xFFFF, 0, 0, 0, 0, 0, 0, 0]).set 2 (Vector.replicate 8 5)).set 3 (Vector.replicate 8 9) }))
    x.v[1][0] = 5 ∧ x.v[1][1] = 9 := by decide

/-- R232: pattern 1 interleaves the upper halves. -/
theorem test_vshuf_pattern1 :
    let fs := (0, 7, 1) :: encV 0x27 1 2 3
    let x := engineAfter (.vshuf 0 1 2 3 1) (runningOn fs (fun x =>
      { x with v := (x.v.set 2 #v[0, 1, 2, 3, 4, 5, 6, 7]).set 3 #v[8, 9, 10, 11, 12, 13, 14, 15] }))
    x.v[1] = #v[4, 12, 5, 13, 6, 14, 7, 15] := by decide

/-- R196: the pointer wraps by CL once it reaches the end of the circular region. -/
theorem test_post_wraps :
    let fs := encM 0x13 1 (.post 2)
    let x := engineAfter (.vldq 0 1 (.post 2)) (runningOn fs (fun x =>
      { x with ar := x.ar.set 2 0x107C, of := x.of.set 2 4, cs := x.cs.set 2 0x1000, cl := x.cl.set 2 0x80 }))
    x.ar[2] = 0x1000 := by decide

/-- R229: ADDA sets C on a carry out of bit 17 and Z on zero. -/
theorem test_adda_carry :
    let fs := [(26, 6, 0x09), (21, 3, 1), (18, 3, 0), (0, 18, 1)]
    let x := engineAfter (.adda 0 1 1) (runningOn fs (fun x => { x with ar := x.ar.set 1 0x3FFFF }))
    x.ar[1] = 0 ∧ x.flg = 0x05 := by decide

/-- R229: CMPA sets C on a borrow and writes nothing. -/
theorem test_cmpa_borrow :
    let fs := [(26, 6, 0x0A), (21, 3, 1), (18, 3, 0), (0, 18, 2)]
    let x := engineAfter (.cmpa 0 1 2) (runningOn fs (fun x => { x with ar := x.ar.set 1 1 }))
    x.ar[1] = 1 ∧ x.flg = 0x06 := by decide

/-- R233: MVA AUTO takes the larger of BEXP and the shift it needs. -/
theorem test_mva_auto :
    let fs := [(26, 6, 0x2D), (21, 5, 7), (9, 2, 0), (5, 1, 1), (0, 5, 0)]
    let x := engineAfter (.mva 0 7 0 true 0) (runningOn fs wideAcc)
    x.v[7][3] = 16384 ∧ x.bexp = 24 := by decide +kernel

/-- R234: the first of equal maxima keeps the index; V2 counts the elements on. -/
theorem test_maxxv_first :
    let fs := [(26, 6, 0x32), (21, 5, 1), (16, 5, 2)]
    let x := engineAfter (.maxxv 0 1 2) (runningOn fs (fun x => { x with v := x.v.set 2 #v[0, 7, 7, 1, 0, 0, 0, 0] }))
    x.v[1][0] = 7 ∧ x.v[1][1] = 1 ∧ x.v[1][2] = 8 ∧ x.flg = 0x40 := by decide +kernel

/-! ## Ports: what the hypotheses of the statements ask -/

/-- The device up with port 0 changed. -/
def withHead (f : HeadSt → HeadSt) : State := ready.setHead 0 f
def withDrive (f : DriveSt → DriveSt) : State := ready.setDrive 0 f
def withSeq (f : SeqSt → SeqSt) : State := ready.setSeq 0 f

/-- A head with a record of zeros is on port 0. -/
def headed : State := withHead (fun h => { h with present := true, ilkClosed := true, idState := .accepted, record := zeros 512 })

theorem witness_HeadPresenceEvents :
    let s := ready.setBank (.hb 0) .v18
    let on := s.setHead 0 (fun h => { h with ilkClosed := true })
    s.runs = true ∧ (s.port 0).head.present = false ∧ s.bankOk 0 = true ∧ s.serialOnly 0 = false
      ∧ (s.port 0).head.presAt + s.fld Fld.headCfg_presDeglitch 0 * 1000000
          ≤ s.clk + s.fld Fld.headCfg_presDeglitch 0 * 1000000
      ∧ headed.runs = true ∧ (headed.port 0).head.present = true ∧ headed.power.retain = none
      ∧ (headed.port 0).head.presAt + headed.fld Fld.headCfg_ilkDeglitch 0 * 100
          ≤ headed.clk + headed.fld Fld.headCfg_ilkDeglitch 0 * 100
      ∧ (s.port 0).head.ilkClosed = false ∧ on.runs = true ∧ (on.port 0).head.ilkClosed = true ∧ on.bankOk 0 = true
      ∧ (on.port 0).head.ilkAt + on.fld Fld.headCfg_ilkDeglitch 0 * 100 ≤ on.clk + on.fld Fld.headCfg_ilkDeglitch 0 * 100 := by
  decide

/-- The read of a record in progress on port 0. -/
def reading (x : IdRead) : State := withHead (fun h => { h with present := true, idState := .reading, read := some x })

theorem witness_HeadIdentityRead :
    let due := newRead 5 none
    let at_ (x : IdRead) : Prop :=
      (reading x).runs = true ∧ ((reading x).port 0).head.read = some x ∧ ((reading x).port 0).head.lost = none
    let begun : IdRead := { due with begun := true, attemptAt := 5 }
    at_ due ∧ due.begun = false ∧ due.dueAt ≤ (reading due).clk + 5
      ∧ at_ begun ∧ begun.begun = true ∧ begun.abandonTimeout = false ∧ begun.transaction < 7 ∧ begun.attempt < 3
      ∧ (reading begun).clk + ((reading begun).idStart 0 begun 9 + 25000000) ≤ (reading begun).idStart 0 begun 9 + 25000000
      ∧ at_ { begun with transaction := 7 } ∧ (zeros 64).length = 64 ∧ at_ { begun with attempt := 3 } := by decide

/-- Port 0 with an accepted head, and HK.00 with a value. -/
def warm (w : Word) : State := headed.setHouse (fun h => { h with cases := h.cases.set 0 (w, 2500000) })

theorem witness_CaseTemperatureEvents :
    let upd := withDrive (fun d => { d with caseUpdAt := some 0 })
    ready.runs = true ∧ (ready.port 0).drive.caseUpdAt = none
    ∧ (upd.port 0).drive.caseUpdAt = some 0 ∧ upd.clk + 9999999 < 0 + 10000000 ∧ 0 + 10000000 ≤ upd.clk + 10000000
    ∧ (ready.elapse 0).caseReading 0 = none
    ∧ (∃ x, ((warm 0xFFFF).elapse 0).caseReading 0 = some x ∧ inRange x = false)
    ∧ (∃ x, ((warm 0).elapse 0).caseReading 0 = some x ∧ inRange x = true)
    ∧ 10000000000 < ready.clk + 10000000001 - (ready.port 0).drive.caseAt
    ∧ ((withDrive (fun d => { d with rangeSince := some 3 })).port 0).drive.rangeSince = some 3
    ∧ 3 + 100000000 ≤ (withDrive (fun d => { d with rangeSince := some 3 })).clk + 100000003
    ∧ ((withDrive (fun d => { d with hotSince := some 0 })).elapse 100000000).caseHot 0 = true := by
  refine ⟨by decide, by decide, by decide, by decide, by decide, by decide, ⟨⟨10 * (65535 * 2500000), 65536⟩, by decide⟩,
    ⟨⟨0, 65536⟩, by decide⟩, by decide, by decide, by decide, by decide⟩

/-- Port 0 runs with a proof that waits, and a window is open. -/
def proving (w : Window) : State :=
  let s := ({ ready with tb := 1000 } : State).setFld Fld.safetyPort_proofForce 0 1
  (s.setSeq 0 (fun q => { q with mode := .running, window := some w })).setDrive 0 (fun d =>
    { d with proofDue := some 0, proofWaits := true })

theorem witness_EmitterSupervision :
    let w : Window := ⟨false, 0, 5000, false, false⟩
    let s := proving w
    let dark : EmitterReading := ⟨0, false, 0⟩
    s.runs = true ∧ (s.port 0).drive.proofDue = some 0 ∧ 0 ≤ s.clk + 1000 ∧ s.proofActive 0 = true
      ∧ portLaunches (s.port 0).seq = true ∧ (s.port 0).seq.window = some w ∧ w.proofRan = false ∧ w.pumped = false
      ∧ (s.port 0).drive.proofWaits = true ∧ 0 + ((s.elapse 200).tb - w.opened) ≤ s.clk + 1200
      ∧ w.opened + 1000 ≤ (s.elapse 0).tb ∧ (s.elapse 200).tb ≤ w.opened + 1200
      ∧ (s.elapse 0).emitterCauses 0 .gate dark = 0
      ∧ (let v := s.setHead 0 (fun h => { h with idState := .accepted, record := List.replicate 512 0x10 })
        (v.elapse 0).emitterCauses 0 .gate ⟨0, true, 0⟩ ≠ 0) := by decide

/-- Port 0 with a head, its PUMP at full command, and an energy sample due at 1,000 ns of a pulse of 100 ns. -/
def pumped : State :=
  { (headed.setHead 0 (fun h => { h with record := List.replicate 512 0xFF })).setDrive 0 (fun d =>
    { d with derate := 32768, nrgDue := some (1000, 100), emitters := d.emitters.set 2 { d.emitters[2] with ramped := 65535 } })
    with tb := 2000 }

theorem witness_EmitterSupervision_energy :
    let level := ((pumped.elapse 0).emitter 0 .pump).ramped * (pumped.port 0).drive.derate
    let num := u16At (pumped.port 0).head.record (emitterBlock .pump + 0x0C) * level * 100
    pumped.runs = true ∧ (pumped.port 0).head.idState = .accepted ∧ (pumped.port 0).drive.nrgDue = some (1000, 100)
      ∧ 1000 ≤ (pumped.elapse 0).tb ∧ (pumped.elapse 0).tb ≤ 1000 + 1000 ∧ 65535 * 32768 ≤ 10 * level
      ∧ 5 * num < 4 * 100000000 * (32768 * 65535 * 100) ∧ 2 * 0 * (32768 * 65535 * 100) < num
      ∧ 10 * (((headed.elapse 0).emitter 0 .pump).ramped * (headed.port 0).drive.derate) < 65535 * 32768 := by decide

theorem witness_PortFaultShutsThePort :
    let s := withSeq (fun q => { q with mode := .running })
    1 ≤ 10 ∧ s.accepts 0 = true ∧ (s.port 0).seq.mode ≠ .shut ∧ s.flag Fld.safety_scope 0 = false := by decide

/-- Port 0 runs in cycle `c` of its grid, whose epoch is 0, at time `tb`. -/
def onItsGrid (c tb : Nat) : State :=
  (({ ready with tb := tb } : State).setSeq 0 (fun q => { q with mode := .running })).setGrid 0 (fun g =>
    { g with epoch := some 0, cycle := c, launched := true })

/-- A host request on slot 0 of port 0. -/
def asked (deferred : Bool) : LaunchReq := ⟨⟨3, 0, 0, .link⟩, 0, 0, deferred⟩

theorem witness_LaunchEvents :
    let s := onItsGrid 0 10000000
    let m := withSeq (fun q => { q with mode := .running, slotMask := 1 })
    s.runs = true ∧ s.gridPorts 0 = [0] ∧ s.grids[0].epoch = some 0 ∧ 0 < s.frame 0 ∧ s.grids[0].launched = true
      ∧ 0 + (s.grids[0].cycle + 1) * (10 * s.frame 0) ≤ s.tb ∧ onGrid (s.port 0).seq = true
      ∧ (s.grid 0).launched = true ∧ (s.slotMask 0).testBit 0 = true ∧ s.windowCycle 0 (s.grid 0).cycle = false
      ∧ s.scheduled 0 0 ≤ s.tb ∧ (s.port 0).seq.busyUntil[0] ≤ s.scheduled 0 0
      ∧ ((withSeq (fun q => { q with requests := [asked false] })).elapse 0).dueRequest 0 false = some (asked false)
      ∧ ((withSeq (fun q => { q with requests := [asked true] })).elapse 0).dueRequest 0 true = some (asked true)
      ∧ (m.port 0).seq.mode = .running ∧ (m.slotMask 0).testBit (asked false).slot.val = true := by decide

theorem witness_WindowEvents :
    let s := (onItsGrid 1 1000000).setFld Fld.seqPort_ramanM 0 2
    let t := ({ s with tb := s.windowStart 0 } : State)
    let old := t.setSeq 0 (fun q => { q with window := some ⟨true, 0, 5, true, true⟩ })
    let w : Window := ⟨true, 0, 100000, false, false⟩
    let r := ({ withSeq (fun q => { q with window := some w }) with tb := 2000 } : State)
    let o := ({ withSeq (fun q => { q with mode := .single }) with tb := 1000000000 } : State)
    let d := withSeq (fun q => { q with draining := true })
    t.runs = true ∧ onGrid (t.port 0).seq = true ∧ (t.grid 0).launched = true ∧ t.windowCycle 0 (t.grid 0).cycle = true
      ∧ (t.port 0).seq.window = none ∧ t.windowStart 0 ≤ t.tb ∧ t.tb < t.windowClose 0
      ∧ (∀ x, (old.port 0).seq.window = some x → x.opened ≠ old.windowStart 0)
      ∧ r.runs = true ∧ (r.port 0).seq.window = some w ∧ w.raman = true ∧ w.pumped = false ∧ w.opened + 2000 ≤ r.tb
      ∧ r.tb < w.closes
      ∧ o.runs = true ∧ (o.port 0).seq.mode = .single ∧ (o.port 0).seq.frames = []
      ∧ (o.port 0).seq.windowUntil / secNs < o.tb / secNs
      ∧ (d.port 0).seq.draining = true ∧ (∀ f ∈ (d.port 0).seq.frames, f.stop ≤ d.tb) := by
  refine ⟨by decide, by decide, by decide, by decide, by decide, by decide, by decide, ?_, by decide, by decide, by decide,
    by decide, by decide, by decide, by decide, by decide, by decide, by decide, by decide, by decide⟩
  intro x h
  have : x = ⟨true, 0, 5, true, true⟩ := by
    have h' : some (⟨true, 0, 5, true, true⟩ : Window) = some x := h
    exact (Option.some.inj h').symm
  subst this
  decide
/-! ## Receivers, gauges, Raman, housekeeping: what the hypotheses of the statements ask -/

def withRx (f : RxSt → RxSt) : State := ready.setRx 0 f

/-- Port 0 at 2,400 ns of a check window, its check at range 2. -/
def checked (f : RxSt → RxSt) : State :=
  { (withRx (fun x => f { x with checking := some 0, runRange := 2, refX := #v[0, 0, 0, 0], refY := #v[0, 0, 0, 0] })).setSeq 0
    (fun q => { q with window := some ⟨false, 0, 3000, false, false⟩ }) with tb := 2400 }

/-- The 2,048 codes of a check, all of one value. -/
def codes (c : Code) : List Code := List.replicate 2048 c

theorem witness_ReceiverEvents :
    let d := checked (fun x => { x with passes := 6 })
    let e := checked (fun x => { x with fails := #v[0, 0, 2, 0] })
    let sw : State := { e with tb := 0 }
    let ov := ready.setFld Fld.rxCfg_ovldEvent 0 1
    ready.runs = true ∧ sw.runs = true ∧ (sw.elapse 0).rangeRequest 0 ((sw.elapse 0).rxBoundary 0) = some 2
      ∧ 2 ≠ (sw.port 0).rx.range
      ∧ (ready.setFld Fld.rxCfg_ovldEvent 0 0).flag Fld.rxCfg_ovldEvent 0 = false ∧ ov.flag Fld.rxCfg_ovldEvent 0 = true
      ∧ (ov.port 0).rx.lastOvld = none ∧ ov.clocked = true ∧ (d.port 0).rx.runRange % 4 = 2
      ∧ d.runs = true ∧ (d.port 0).rx.checking = some 0 ∧ (codes 64).length = 2048 ∧ 0 + 2400 ≤ (d.elapse 0).tb
      ∧ (d.port 0).seq.window = some ⟨false, 0, 3000, false, false⟩ ∧ (d.elapse 0).tb < 3000
      ∧ pairFails ((codes 64).map (·.toInt)) ((codes 64).map (·.toInt)) (d.port 0).rx.refX[2] (d.port 0).rx.refY[2] = []
      ∧ (d.port 0).rx.passes + 1 < 8 ∧ e.runs = true ∧ (e.port 0).rx.checking = some 0
      ∧ pairFails ((codes 65).map (·.toInt)) ((codes 65).map (·.toInt)) (e.port 0).rx.refX[2] (e.port 0).rx.refY[2] = [(1, 3)]
      ∧ (e.port 0).rx.fails[2] = 2 ∧ (e.port 0).rx.pairFault = false := by decide +kernel

theorem witness_ReceiveWords :
    let one : Int := 8 * fxOne * 1
    let tag (n : Nat) := (ready.setFld Fld.rxCfg_align 0 0).setFld Fld.rxCfg_rawTag 0 n
    4 * 2 ^ 0 * (8192 * (8 * fxOne)) = 32768 * one ∧ 4 * 2 ^ 2 * (-2048 * (8 * fxOne)) = -32768 * one
      ∧ (ready.setFld Fld.rxCfg_align 0 1).flag Fld.rxCfg_align 0 = true
      ∧ (tag 0).flag Fld.rxCfg_align 0 = false ∧ (tag 0).fld Fld.rxCfg_rawTag 0 = 0 ∧ (tag 1).fld Fld.rxCfg_rawTag 0 = 1 := by
  decide +kernel

/-- R145: 8,192 in range 0 comes out as 4 x 8,192, which saturates. -/
theorem test_outWord_saturates : outWord 0 (8192 * (8 * fxOne)) 1 = (0x7FFF, true) := by decide +kernel

/-- R137: a code left-justified, and with ALIGN sign-extended. -/
theorem test_rawWord : (ready.setFld Fld.rxCfg_align 0 0).rawWord 0 0 0x2001 = 0x8004
    ∧ (ready.setFld Fld.rxCfg_align 0 1).rawWord 0 0 0x2001 = 0xE001 := by decide +kernel

/-- R138: 100 MHz is one tenth of a turn a nanosecond: 28,147,497,671,066 / 2^48. -/
theorem test_freqWord : freqWord 100000 = 28147497671066 := by
  simp only [freqWord, divNearest]; split <;> decide

/-- A frame of 10 bins in flight on port 0, launched at 1,000 ns with slot S0; a fault shut the port then, if at all. -/
def flying (cut : Option Nat) : Frame :=
  ⟨0, 1000, 1100, 0, 0, 5, [], [], 0, 0, 100000, 0, 4, 0, false, false, cut, 0, 0⟩

/-- A window cycle's position of that span. -/
def passed : GapPos := ⟨0, 1000, 1100, 7, 7, 0, 0, 0⟩

/-- Port 0 with that frame, 90 ns on, and queue 0 taking samples. -/
def receiving (cut : Option Nat) : State :=
  let s := (withSeq (fun q => { q with mode := .running, frames := [flying cut], gaps := [passed] })).setQueue 0 (fun q =>
    { q with taking := true })
  { s with tb := 1000 + s.dRxNs 0 + 90 }

/-- Codes of both converters from bin -7 to bin 8 of that frame. -/
def returned (s : State) (cycle : Nat) : GaugeIn :=
  ⟨0, cycle, 0, 930 + s.dRxNs 0, List.replicate 160 1, List.replicate 160 2⟩

theorem witness_GaugeSampleIsFormed :
    let s := receiving none
    let ends := 1000 + (s.elapse 0).dRxNs 0 + 10 * ((0 + 1) * s.fld Fld.gaugeCfg_pitch 0)
    let whole := receiving (some ends)
    let cut := receiving (some (ends - 1))
    let x := returned s 0
    s.runs = true ∧ x.gauge < (s.elapse 0).gauges 0 ∧ (s.port 0).queue.taking = true
      ∧ (s.elapse 0).frameOf 0 x = some (flying none) ∧ (s.elapse 0).sampleReady 0 (flying none) x = true
      ∧ (s.port 0).queue.era = (flying none).era ∧ (flying none).cutAt = none
      ∧ (whole.elapse 0).frameOf 0 x = some (flying (some ends)) ∧ (whole.elapse 0).sampleReady 0 (flying (some ends)) x = true
      ∧ (cut.elapse 0).frameOf 0 x = some (flying (some (ends - 1)))
      ∧ (cut.elapse 0).sampleReady 0 (flying (some (ends - 1))) x = true ∧ (flying (some (ends - 1))).cutAt = some (ends - 1)
      ∧ ends - 1 < ends ∧ (s.elapse 0).frameOf 0 (returned s 7) = none ∧ (s.elapse 0).gapOf 0 (returned s 7) = some passed
      ∧ (s.port 0).queue.era = passed.era := by decide +kernel

/-- Port 0 with its Raman channel changed. -/
def withRaman (f : RamanSt → RamanSt) : State := ready.setRaman 0 f

/-- Sums of a period from 0 to `stop`. -/
def sums (stop : Nat) : RamanAcc := ⟨0, stop, 0, 0, false, [], [], []⟩

theorem witness_RamanEvents :
    let on := (withSeq (fun q => { q with mode := .running })).setRaman 0 (fun r => { r with biasStk := false, biasAst := true })
    let recs (b : Bool) : State :=
      ({ withRaman (fun r => { r with recording := some ⟨0, b, false, none⟩ }) with tb := 1000000000 } : State)
    let stepped : State := { ({ ready with tb := 1000000000 } : State).setRaman 0 (fun r =>
        { r with recording := some ⟨0, false, true, some true⟩ }) with
      cal := { ready.cal with run := some ⟨1, 1, 2, none, false, some ⟨.raman, 1, 0, 0⟩, [], Vector.replicate 32 .notRun, [], false,
        false, 0, 0, 0⟩ } }
    let low : BiasReading := ⟨0, 699999, 10000⟩
    let high : BiasReading := ⟨0, 1100001, 10000⟩
    let good : BiasReading := ⟨1, 700000, 100000000⟩
    let closes := ({ withRaman (fun r => { r with period := some (sums 10) }) with tb := 10 } : State)
    let c : RamanConv := ⟨sums 10, ⟨0, 0, 0, 0, 0⟩, 0, 0, 0, false, false, false⟩
    let conv := withRaman (fun r => { r with conv := some c })
    let base : List Half := List.replicate 64 0
    let trace : List Half := List.replicate ((recs false).recLen 0) 0
    on.runs = true ∧ portEnabled (on.port 0).seq = true ∧ (on.raman 0).biasStk = false ∧ (on.raman 0).biasAst = true
      ∧ low.common < 700000 ∧ 1100000 < high.common ∧ 10000 ≤ low.held ∧ 10000 ≤ high.held
      ∧ (on.raman 0).biasAt[low.input] + 10000 ≤ on.clk + 10000
      ∧ 700000 ≤ good.common ∧ good.common ≤ 1100000 ∧ 100000000 ≤ good.held
      ∧ (on.raman 0).biasAt[good.input] + 100000000 ≤ on.clk + 100000000
      ∧ (stepped.raman 0).recording = some ⟨0, false, true, some true⟩ ∧ (stepped.elapse 0).calOn .raman 0 = true
      ∧ stepped.runs = true ∧ (stepped.raman 0).biasStk = false ∧ (stepped.raman 0).biasAst = false
      ∧ 0 + (stepped.ramanCoef 0).dRam + 10 * stepped.recLen 0 ≤ stepped.tb ∧ stepped.recLen 0 ≤ trace.length
      ∧ ((recs true).raman 0).recording = some ⟨0, true, false, none⟩ ∧ base.length = 64 ∧ (recs false).recLen 0 ≤ trace.length
      ∧ 0 + ((recs true).ramanCoef 0).dRam + 10 * (recs true).recLen 0 ≤ (recs true).tb
      ∧ ((recs false).raman 0).recording = some ⟨0, false, false, none⟩
      ∧ 0 + ((recs false).ramanCoef 0).dRam + 10 * (recs false).recLen 0 ≤ (recs false).tb
      ∧ ((recs false).raman 0).biasStk = false ∧ ((recs false).raman 0).biasAst = false
      ∧ (closes.elapse 0).closing 0 = some (0, 10) ∧ (conv.raman 0).conv = some c
      ∧ (conv.elapse 0).recPending 0 c.acc.stop = false := by decide +kernel

/-- An entry of channel 31. -/
def hkEntry : HkEntry := ⟨31, 0, 1, 0, false, false, false, true, 32768, 2500000⟩

theorem witness_HousekeepingAndRtdPulses :
    let now := ({ ready with tb := 1000000000 } : State)
    let tr := ((now.setFld Fld.hkCfg_en 1 1).setFld Fld.hkCfg_trig 1 0).setFld Fld.hkCfg_periodMs 1 10
    let ln := ((ready.setFld Fld.hkCfg_en 1 1).setFld Fld.hkCfg_trig 1 1).setHk 1 (fun x => { x with due := [0, 5] })
    let en := ready.setHk 0 (fun x => { x with work := [hkEntry] })
    let seven := en.setHk 0 (fun x => { x with restarts := 7 })
    let ref := ready.setHk 0 (fun x => { x with refSettling := true, settlingSince := 5 })
    now.runs = true ∧ now.timeRuns = true ∧ (now.elapse 0).tb / 10000000 ≠ (now.hk 0).tickAt
      ∧ (now.elapse 0).tb / 1000000000 ≠ (now.hk 0).checkAt ∧ tr.runs = true ∧ tr.timeRuns = true
      ∧ tr.flag Fld.hkCfg_en 1 = true ∧ tr.fld Fld.hkCfg_trig 1 = 0 ∧ 1 ≤ tr.fld Fld.hkCfg_periodMs 1
      ∧ (tr.elapse 0).tb / (tr.fld Fld.hkCfg_periodMs 1 * 1000000) ≠ (tr.hk 1).tickAt
      ∧ ln.timeRuns = true ∧ ln.flag Fld.hkCfg_en 1 = true ∧ ln.fld Fld.hkCfg_trig 1 ≠ 0 ∧ (ln.hk 1).due = [0, 5] ∧ 0 ≤ ln.clk + 0
      ∧ (en.hk 0).work = [hkEntry] ∧ (en.hk 0).calHold = false ∧ hkEntry.check = false ∧ hkEntry.channel < 32 ∧ ([5] : List Int).length = hkEntry.n ∧ 1 ≤ hkEntry.n
      ∧ (en.hk 0).frontAt + dwellUs hkEntry.preset hkEntry.n * 1000 ≤ en.clk + 100000000
      ∧ (seven.hk 0).work = [hkEntry] ∧ (seven.hk 0).restarts = 7
      ∧ seven.clk < (seven.hk 0).frontAt + (settleUs hkEntry.preset + 2) * 1000 ∧ seven.cal.run = none
      ∧ (ref.hk 0).refSettling = true ∧ (ref.hk 0).settlingSince + 2000000 ≤ ref.clk + 2000005
      ∧ headed.runs = true ∧ (headed.elapse 0).rtdStart 0 = some 0 ∧ 0 ≤ (headed.elapse 0).tb ∧ (∀ q : Port, (headed.raman q).pulse = none)
      ∧ (headed.raman 0).lastPulse = none := by decide +kernel

/-- A pulse of 2 ms on the RTD of port 0 that has ended. -/
def pulsed : State :=
  { headed.setRaman 0 (fun r => { r with pulse := some ⟨0, 2, 1000, 2, false, 32768, 2500000, false, 0⟩, lastRecord := List.replicate 512 1 }) with
    tb := 2000000, clk := 2000000 }

/-- Outputs of its filter: one in the reading, one after it, and one in the reading at compliance. -/
def rtdIn (compliance : Bool) : RtdOutput := ⟨1216000, 2100000, 2100000, compliance, false, false⟩
def rtdLate : RtdOutput := ⟨1888000, 2100000, 2100000, false, false, true⟩

theorem witness_HousekeepingAndRtdPulses_rtd :
    let x : RtdPulse := ⟨0, 2, 1000, 2, false, 32768, 2500000, false, 0⟩
    let r0 := u32At (pulsed.raman 0).lastRecord 0x168
    pulsed.runs = true ∧ (pulsed.raman 0).pulse = some x ∧ x.start + x.pulseMs * msNs ≤ (pulsed.elapse 0).tb
      ∧ x.held = false ∧ pulsed.house.hk[1].calHold = false
      ∧ (pulsed.elapse 0).rtdSettled x [] = []
      ∧ ((pulsed.elapse 0).rtdSettled x [rtdIn false, rtdLate]).getLast? = some rtdLate
      ∧ readingOf x [rtdIn false, rtdLate] = [rtdIn false] ∧ rtdJudge x [rtdIn false] r0 = none ∧ (pulsed.hk 1).fault = false
      ∧ pulsed.cal.run = none
      ∧ ((pulsed.elapse 0).rtdSettled x [rtdIn true]).getLast? = some (rtdIn true)
      ∧ rtdJudge x [rtdIn true] r0 = some .open_ := by decide +kernel

/-! ## Blocks, zones, snapshots, Sumac: what the hypotheses of the statements ask -/

/-- A block of port 0 as the queue forms it. -/
def block (m : BlockMode) (cutoff : Nat) : Block := { taken cutoff with mode := m }

/-- Port 0's queue holds one block. -/
def queued (b : Block) : State := ready.setQueue 0 (fun q => { q with taking := true, blocks := [b] })

theorem witness_BlockQueueEvents :
    let j := withSeq (fun q => { q with mode := .running, gridPos := 100000, spans := [(0, 0, 1)] })
    let k := { (j.setQueue 0 (fun q => { q with taking := true })).setGrid 0 (fun g =>
      { g with epoch := some 0, cycle := 100000, launched := true }) with tb := 1000000000000 }
    let b := block .ready 10
    let t := block (.taken 0) 10
    let cp := (queued t).setEngine 0 (fun x => { x with mode := .copying 0 0 0 })
    let ru := ready.setEngine 0 (fun x => { x with mode := .running 0 0 0, cutoff := 10 })
    k.runs = true ∧ k.clocked = true ∧ (queued b).clocked = true ∧ cp.clocked = true ∧ ru.engineRuns 0 = true
      ∧ (k.port 0).queue.taking = true ∧ 0 < (k.elapse 0).columns 0
      ∧ (k.elapse 0).blockUsable 0 0 = true
      ∧ (queued b).runs = true ∧ ((queued b).elapse 0).engineIdle 0 = true ∧ ((queued b).elapse 0).grantOf 0 = some (0, b)
      ∧ (cp.engine 0).mode = .copying 0 0 0
      ∧ (cp.port 0).queue.blocks.find? (fun b => b.column = 0 && b.index = 0 && (b.mode = .taken 0)) = some t
      ∧ (queued b).tb + 10 = 10
      ∧ ((queued b).port 0).queue.blocks.find? (fun b => b.column = 0 && isOpen b
          && decide (b.tCutoff ≤ ((queued b).elapse 10).tb)) = some b
      ∧ isRunning (ru.engine 0) = true
      ∧ (ru.engine 0).cutoff + ru.fld Fld.cloveCfg_watchdog 0 * 1000000 ≤ (ru.elapse 20000000).tb := by decide

/-- A snapshot of group 0 with one part, complete. -/
def snapshot (published : Bool) : Snapshot :=
  { id := 7, group := some 0, content := 1, ports := 1, forced := false, spec := false, early := false, truncated := false,
    frozen := false, mask := false, eventId := 0, location := 0, tTrig := 0, preReqMs := 0, preValidUs := 0,
    postReqMs := 0, postValidUs := 0, zone := none, parts := [⟨0, .raw, [], true, []⟩], trigPos := -1, unconfirmed := false, published := published }

/-- The device holds that snapshot. -/
def holding (published : Bool) : State := ready.setCapture (fun c => { c with snapshots := [snapshot published] })

theorem witness_ZonesAndSnapshots :
    let v := ((withSeq (fun q => { q with mode := .running })).setFld Fld.zone_en 5 1).setFld Fld.zone_kind 5 0
    let t := ((ready.setFld Fld.zone_en 5 1).setFld Fld.zone_kind 5 1).setRaman 0 (fun r => { r with profile := some (zeros 64) })
    let a := ((ready.setFld Fld.group_snap 3 1).setFld Fld.snapCfg_autoEn 3 1).setGroup 3 (fun g => { g with snapMode := .armed, autoDone := false })
    let h := (ready.setFld Fld.snapCfg_holdoffMode 3 1).setGroup 3 (fun g => { g with snapMode := .holdoff })
    let r := ready.setQueue 0 (fun q => { q with released := [block (.committed []) 0] })
    let b := v.setQueue 0 (fun q => { q with recent := [block (.committed []) 0] })
    v.runs = true ∧ v.detect.off = false ∧ v.flag Fld.zone_en 5 = true ∧ v.zoneTemp 5 = false
      ∧ portLaunches (v.port (v.zonePort 5)).seq = true ∧ (b.elapse 0).sampleBlock 5 = some 0
      ∧ b.clocked = true ∧ (b.elapse 0).zoneTurn 5 = true ∧ (t.elapse 0).zoneTurn 5 = true ∧ t.detect.off = false ∧ t.flag Fld.zone_en 5 = true
      ∧ t.zoneTemp 5 = true ∧ (t.port (t.zonePort 5)).raman.profile = some (zeros 64)
      ∧ (t.zone 5).profSeq ≠ some (u32At (zeros 64) 4)
      ∧ (holding false).runs = true ∧ (holding false).capture.snapshots.find? (fun n => n.id = 7) = some (snapshot false)
      ∧ (snapshot false).published = false ∧ (snapshot false).unconfirmed = false ∧ (∀ q ∈ (snapshot false).parts, q.done = true)
      ∧ a.snapOn 3 = true ∧ a.flag Fld.snapCfg_autoEn 3 = true ∧ (a.group 3).snapMode = .armed
      ∧ (a.group 3).autoDone = false ∧ (a.group 3).armedAt + a.fld Fld.snapCfg_autoTimeout 3 * 1000000000 ≤ a.clk + 100000000000000
      ∧ (h.group 3).snapMode = .holdoff ∧ h.fld Fld.snapCfg_holdoffMode 3 = 1
      ∧ (h.group 3).since + h.fld Fld.snapCfg_holdoff 3 * 1000000 ≤ h.clk + 100000000000000
      ∧ (r.port 0).queue.released = [block (.committed []) 0]
      ∧ (({ ready with tb := 1000050000 } : State).elapse 0).tb % 1000000000 < 100000
      ∧ (({ ready with tb := 1000050000 } : State).elapse 0).tb / 1000000000 ≠ ready.detect.periodicAt := by decide

theorem witness_ZonesAndSnapshots_raw :
    let s (n : Nat) : State := { withRx (fun x => { x with raw := some (n, [5], [6]) }) with tb := 32800 }
    (s 32760).runs = true ∧ ((s 32760).port 0).rx.raw = some (32760, [5], [6]) ∧ ([5] : List Half).length = ([6] : List Half).length
      ∧ ([1, 2] : List Code).length = ([3, 4] : List Code).length ∧ 32760 + 1 + 2 ≤ ((s 32760).elapse 0).tb
      ∧ 1 + 2 < 32768 - 32760 % 32768 ∧ 32765 + 1 + 2 ≤ ((s 32765).elapse 0).tb ∧ 1 + 2 = 32768 - 32765 % 32768 := by
  decide +kernel

/-- Stream 1 with a share of capture memory and one record in its queue. -/
def crowded (bs : List Byte) : State :=
  (((ready.setFld Fld.stream_en 1 1).setFld Fld.stream_share 1 1).setMem (fun m => { m with trained := true })).setStream 1
    (fun x => { x with queue := [{ typ := 1, source := 0, flags := 0, seq := 0, stream := 1, payload := bs }] })

theorem witness_ZonesAndSnapshots_share (bs : List Byte) (h : bs.length = 300000) :
    (crowded bs).runs = true ∧ (crowded bs).flag Fld.stream_en 1 = true ∧ (crowded bs).shareBytes 1 ≠ 0
      ∧ (crowded bs).quota < recsBytes ((crowded bs).stream 1).queue := by
  refine ⟨rfl, rfl, ?_, ?_⟩
  · have q : (crowded bs).shareBytes 1 = (crowded []).shareBytes 1 := rfl
    rw [q]
    decide
  · have q : (crowded bs).quota = 262144 := (rfl : _ = (crowded []).quota).trans (by decide)
    have g : ((crowded bs).stream 1).queue
        = [{ typ := 1, source := 0, flags := 0, seq := 0, stream := 1, payload := bs }] := rfl
    rw [q, g]
    simp only [recsBytes, recBytes, List.map_cons, List.map_nil, List.foldl_cons, List.foldl_nil, h]
    omega

theorem witness_CaptureMemoryEvents :
    let m (f : CapMemSt → CapMemSt) : State := ready.setMem f
    let rq : Req := ⟨3, 0, 0, .link⟩
    let sb := (ready.setPower (fun w => { w with mode := .standby })).setMem (fun m => { m with trained := true })
    let k := { ((withSeq (fun q => { q with mode := .running })).setFld Fld.mask_en 0 1).setMask 0 (fun x =>
      { x with traces := [⟨0, 2 ^ ready.fld Fld.mask_avg 0, 0, []⟩] }) with tb := 1000000 }
    let good : CapDevice := ⟨true, true, false, false, 8, 1⟩
    let bad : CapDevice := ⟨true, true, true, false, 8, 1⟩
    ready.runs = true ∧ deviceOk good = true ∧ deviceOk bad = false ∧ trainFails ⟨List.replicate 4 good, none⟩ = none
      ∧ trainFails ⟨List.replicate 4 good, some (1, 8)⟩ = some (1, 8)
      ∧ (m (fun x => { x with training := some none, due := false })).capture.mem.training = some none
      ∧ (m (fun x => { x with training := some none, due := false })).capture.mem.due = false
      ∧ (m (fun x => { x with training := some (some rq), due := false })).capture.mem.training = some (some rq)
      ∧ (m (fun x => { x with training := some (some rq), due := false })).capture.mem.due = false
      ∧ (m (fun x => { x with trained := true })).capture.mem.trained = true
      ∧ (m (fun x => { x with trained := true })).capture.mem.lastCal + 64000000 ≤ ready.clk + 64000000
      ∧ sb.runs = true ∧ sb.power.mode = .standby ∧ sb.capture.mem.trained = true
      ∧ sb.capture.mem.lastAccess + 1000000 ≤ sb.clk + 1000000
      ∧ k.runs = true ∧ k.flag Fld.mask_en 0 = true ∧ (k.mask 0).stopped = false ∧ (k.port 0).seq.mode = .running
      ∧ (k.mask 0).lastRuns = [] ∧ (k.mask 0).traces = [⟨0, 2 ^ ready.fld Fld.mask_avg 0, 0, []⟩]
      ∧ 2 ^ k.fld Fld.mask_avg 0 ≤ 2 ^ ready.fld Fld.mask_avg 0 ∧ 0 + (k.elapse 0).dRxNs 0 ≤ (k.elapse 0).tb ∧ (ready.setFld Fld.mask_action 0 0).flag Fld.mask_action 0 = false := by decide

theorem witness_SumacJobsEnd :
    let rq : Req := ⟨3, 0, 0, .link⟩
    let r : Rec := { typ := typRaw, source := 0, flags := 0, seq := 0, stream := 1, payload := zeros 4 }
    let sj := ready.setSumac (fun x => { x with streamJobs := [(1, r, 1, 0, false)] })
    let bj := ready.setSumac (fun x => { x with blockJobs := [(rq, zeros 224, [])], laneBlocks := [3] })
    let dj (u : DecUse) (bs : List Byte) : State := ready.setSumac (fun x => { x with decJobs := [⟨rq, u, bs⟩] })
    sj.runs = true ∧ sj.sumac.streamJobs = [(1, r, 1, 0, false)] ∧ 1 ∈ sj.sumac.laneStreams ∧ bj.runs = true ∧ 3 ∈ bj.sumac.laneBlocks
      ∧ bj.sumac.blockJobs.find? (fun j => j.1.tag = 3) = some (rq, zeros 224, []) ∧ chainBytes (zeros 224) < 16
      ∧ (dj (.job (zeros 224)) []).sumac.decJobs = [⟨rq, .job (zeros 224), []⟩]
      ∧ (dj .zonePack []).sumac.decJobs = [⟨rq, .zonePack, []⟩] ∧ (∀ d, DecUse.zonePack ≠ .job d)
      ∧ (decompress (decLimit .zonePack)
          [1, 0, 1, 0, 2, 0, 0, 0, 0, 0, 0, 0, 0, 0, 0, 0, 4, 0, 0x50, 0, 5, 0, 0, 0]).status = .ok ∧ (decompress (decLimit .zonePack) [0xFF]).status ≠ .ok := by
  refine ⟨by decide, by decide, by decide, by decide, by decide, by decide +kernel, by decide +kernel, by decide +kernel, by decide, (fun d h => by cases h), by decide +kernel, by decide +kernel⟩

/-! ## The Cherex link: what the hypotheses of the statements ask -/

/-- The link changed. -/
def withLink (f : LinkSt → LinkSt) : State := ready.setLink f

/-- The link in ACTIVE with one lane. -/
def linked (f : LinkSt → LinkSt) : State :=
  withLink (fun l => f { l with stage := .active, width := 1, rate := 2, frameMax := 72, granted := [(0, 9), (1, 9), (2, 9)] })

/-- A stream of a class with a record of 16 bytes queued. -/
def streaming (i cls : Nat) (s : State) : State :=
  ((s.setFld Fld.stream_en i 1).setFld Fld.stream_class i cls).setStream i (fun x =>
    { x with queue := [{ typ := 1, source := 0, flags := 0, seq := 0, stream := i, payload := [] }] })

theorem witness_LinkTraffic :
    let a := linked id
    let k := linked (fun l => { l with creditDue := true })
    let z := a.setMbox (fun m => { m with toHost := [zeros 16] })
    let u := streaming 1 clsConf a
    let o := streaming 2 clsRaw a
    a.runs = true ∧ a.link.stage = .active ∧ a.link.txPm = .awake ∧ a.link.txReadyAt ≤ a.clk + 0
      ∧ a.link.idleSince = none ∧ k.link.idleSince = none ∧ k.link.stage = .active ∧ k.link.txPm = .awake ∧ k.link.txReadyAt ≤ k.clk + 0 ∧ k.sendNext = some .credit
      ∧ z.link.txPm = .awake ∧ z.sendNext = some .zero ∧ u.sendNext = some (.urgent 1) ∧ o.sendNext = some (.other 2)
      ∧ a.link.rxPm ≠ .sleep ∧ a.link.rxReadyAt ≤ a.clk + 0 ∧ 2048 < 2049
      ∧ (linked (fun l => { l with rxPm := .sleep })).link.rxPm = .sleep
      ∧ (linked (fun l => { l with rxReadyAt := 5 })).clk + 4 < (linked (fun l => { l with rxReadyAt := 5 })).link.rxReadyAt
      -- granted 9: a total of 8 is behind it, 8,388,616 is the last ahead of it
      ∧ 8388608 ≤ (8 % 16777216 + 16777216 - (Tab.find? a.link.granted 1).getD 0) % 16777216
      ∧ (8388616 % 16777216 + 16777216 - (Tab.find? a.link.granted 1).getD 0) % 16777216 < 8388608
      ∧ a.link.creditAt + 100000000 ≤ a.clk + 100000000 ∧ (0 : Fin 8).val < a.link.width
      ∧ blockGood [0x1E, 0, 0, 0, 0, 0, 0, 1] = false ∧ blockGood [0x1E, 0, 0, 0, 0, 0, 0, 0] = true := by decide

/-- A capability block of a host for the given rate, with its CRC worked out outside the model. -/
def peerBlock (rate : Byte) (crc : List Byte) : List Byte :=
  [1, 0, 1, 7, rate, 8, 255, 72, 0, 8, 32, 0] ++ zeros 48 ++ crc

theorem witness_LinkBringUpSteps :
    let d (n : Nat) (m : Byte) : State := withLink (fun l => { l with stage := .detect, goodChecks := n, lanesSeen := m })
    let ok (s : State) (m : Byte) : Bool := s.allowedWidths.any (lanesFrom m)
    let t (since : Option Nat) : State := withLink (fun l => { l with stage := .train, width := 1, framesSince := since })
    let e := withLink (fun l => { l with stage := .exchange, width := 1, rate := 2 })
    let good := peerBlock 2 [171, 147, 131, 52]
    let bad := peerBlock 1 [210, 167, 60, 18]
    (d 0 0).runs = true ∧ (d 0 0).link.stage = .detect ∧ (d 0 0).link.idleSince = none
      ∧ max (d 0 0).link.since (d 0 0).link.checkAt + 100000 ≤ (d 0 0).clk + 100000 ∧ ok (d 0 0) 0 = false
      ∧ (d 0 0).link.goodChecks = 0 ∧ ok (d 4 0xFF) (0xFF &&& 0) = false ∧ ok (d 0 0) 0xFF = true ∧ ok (d 8 0xFF) (0xFF &&& 0xFF) = true ∧ (d 8 0xFF).link.goodChecks < 9
      ∧ 1 ≤ (d 8 0xFF).link.goodChecks ∧ 9 ≤ (d 9 0xFF).link.goodChecks
      ∧ ok (d 9 0xFF) (0xFF &&& 0xFF) = true
      ∧ (t none).link.stage = .train ∧ (t none).link.framesSince = none ∧ (t none).link.since + 1000000 ≤ (t none).clk + 1000000
      ∧ (t (some 3)).link.framesSince = some 3 ∧ (0 : Fin 8).val < (t (some 3)).link.width ∧ e.runs = true
      ∧ e.link.stage = .exchange ∧ good.length = 64 ∧ bad.length = 64
      ∧ u32At good 0x3C = crc32 (bytesAt good 0 60) ∧ u32At bad 0x3C = crc32 (bytesAt bad 0 60)
      ∧ e.capMismatch good = false ∧ e.capMismatch bad = true := by decide +kernel

/-- A lane's marker as its end expects it, and one with a wrong count. -/
def markerIn (mcount : Nat) : Vector (Option AlignIn) 8 := Vector.replicate 8 (some ⟨0, 0, 0, mcount, 0⟩)

theorem witness_LanesDescrambleAndAlign :
    let at_ (g : LinkStage) (n b : Nat) : State := withLink (fun l =>
      { l with stage := g, width := 1, lanes := l.lanes.set 0 { l.lanes[0] with mcount := 6, goodMarks := n, badMarks := b, blockLock := true } })
    let after (s : State) (m : Nat) : State := (s.elapse 0).alignLanes 1 (markerIn m)
    (at_ .lock 1 0).runs = true ∧ (0 : Fin 8).val < (at_ .lock 1 0).link.width ∧ (at_ .lock 1 0).link.width ≤ (7 : Fin 8).val
      ∧ (∃ c, lockFails (at_ .lock 1 0).linkLanes 0 (markerIn 7) = some c)
      ∧ lockFails (at_ .lock 1 0).linkLanes 1 (markerIn 7) = none
      ∧ (∀ j ∈ (at_ .lock 1 0).linkLanes, 2 ≤ ((after (at_ .lock 1 0) 7).link.lanes[j]).goodMarks)
      ∧ (∃ j ∈ (at_ .lock 0 0).linkLanes, ((after (at_ .lock 0 0) 7).link.lanes[j]).goodMarks < 2)
      ∧ (at_ .exchange 0 0).link.stage = .exchange ∧ (at_ .active 0 0).link.stage = .active
      ∧ (∃ j ∈ (at_ .active 0 1).linkLanes, 2 ≤ ((after (at_ .active 0 1) 9).link.lanes[j]).badMarks)
      ∧ (∀ j ∈ (at_ .active 0 1).linkLanes, ((after (at_ .active 0 1) 7).link.lanes[j]).badMarks < 2)
      ∧ (at_ .loop 0 0).link.stage = .loop := by
  refine ⟨by decide +kernel, by decide, by decide, ⟨causeBlockLock, by decide +kernel⟩, by decide +kernel, by decide +kernel,
    ⟨0, by decide +kernel⟩, by decide, by decide, ⟨0, by decide +kernel⟩, by decide +kernel, by decide⟩

theorem witness_LinkFailures :
    let at_ (g : LinkStage) (f : LinkSt → LinkSt) : State := withLink (fun l => f { l with stage := g, width := 1 })
    let d := at_ .detect id
    let t := at_ .train (fun l => { l with framesSince := some 3 })
    let k := at_ .lock (fun l => { l with failCount := 15 })
    let i := at_ .detect (fun l => { l with idleSince := some 3 })
    let lp := at_ .loop (fun l => { l with loop := some ⟨1, 1, 1, 10, none, 0, 0, false⟩ })
    let seen : Vector (Option AlignIn) 8 := Vector.replicate 8 (some ⟨0, 0, 0, 0, 0⟩)
    lp.link.stage = .loop ∧ lp.loopFrames 0 = true ∧ k.life.shutNext = none ∧ d.runs = true ∧ d.link.stage = .detect ∧ d.link.idleSince = none ∧ d.link.since + 100000000 ≤ d.clk + 100000000
      ∧ t.link.stage = .train ∧ t.link.framesSince = some 3 ∧ 3 + 500000000 ≤ t.clk + 500000003 ∧ k.link.stage = .lock
      ∧ k.link.since + 10000000 ≤ k.clk + 10000000 ∧ (at_ .exchange id).link.stage = .exchange
      ∧ (at_ .exchange id).link.since + 20000000 ≤ (at_ .exchange id).clk + 20000000
      ∧ i.link.idleSince = some 3 ∧ 3 + 1000000 ≤ i.clk + 1000003 ∧ (at_ .down id).link.stage = .down
      ∧ (at_ .down id).link.since + 1000000000 ≤ (at_ .down id).clk + 1000000000
      ∧ lanesFrom 0xFF (2 ^ (at_ .down id).fld Fld.linkCfg_minWidth 0) = true
      ∧ lanesFrom 0x00 (2 ^ (at_ .down id).fld Fld.linkCfg_minWidth 0) = false
      ∧ (at_ .active id).link.stage = .active ∧ (0 : Fin 8).val < (at_ .active id).link.width
      ∧ (at_ .active id).link.rxPm = .awake ∧ (∀ j ∈ k.linkLanes, (seen[j]).isSome = true ∧ (0 : Byte).getLsbD j.val = false)
      ∧ k.linkLanes ≠ [] ∧ k.link.fromDown = false ∧ k.fld Fld.linkCfg_retries 0 ≤ min 15 (k.link.failCount + 1) := by decide

theorem witness_LinkPowerAndLoops :
    let peer := peerBlock 2 [171, 147, 131, 52]
    let a := linked (fun l => { l with peerCap := some peer })
    let q := (a.setFld Fld.linkCfg_quietEn 0 1).setFld Fld.linkCfg_sleepEn 0 1
    let r : LoopRun := ⟨1, 0, 1, 10, none, 0, 0, false⟩
    let fr (out : Bool) : LoopRun := ⟨1, 1, 1, 10, none, 0, 3, out⟩
    let lf (out : Bool) : State := withLink (fun l => { l with stage := .loop, loop := some (fr out) })
    let lp (b : Bool) : State := withLink (fun l =>
      { l with stage := .loop, loop := some r, lanes := l.lanes.set 0 { l.lanes[0] with prbsLock := b } })
    a.runs = true ∧ a.link.stage = .active ∧ q.link.txPm = .awake ∧ q.flag Fld.linkCfg_quietEn 0 = true
      ∧ q.peerFlags.testBit 1 = true ∧ q.sendNext = none
      ∧ q.link.txIdleSince + q.fld Fld.linkCfg_quietIdle 0 * 1000 ≤ q.clk + 1000000000
      ∧ q.flag Fld.linkCfg_sleepEn 0 = true ∧ q.peerFlags.testBit 2 = true ∧ q.link.txPm ≠ .sleep
      ∧ q.link.txIdleSince + q.fld Fld.linkCfg_sleepIdle 0 * 1000000 ≤ q.clk + 100000000000
      ∧ (linked (fun l => { l with creditDue := true })).sendNext ≠ none
      ∧ (linked (fun l => { l with rxPm := .sleep })).link.rxPm = .sleep
      ∧ (linked (fun l => { l with txPm := .quiet })).link.txPm = .quiet
      ∧ (linked (fun l => { l with txPm := .quiet })).link.refreshAt + 1000000 ≤ ready.clk + 1000000
      ∧ (linked (fun l => { l with loop := some r })).link.loop = some r
      ∧ (linked (fun l => { l with loop := some r })).link.stage ≠ .loop
      ∧ (linked (fun l => { l with loop := some r })).link.stage ≠ .disabled ∧ r.awaits = none ∧ r.startAt ≤ ready.clk
      ∧ (lf false).link.loop = some (fr false) ∧ (lf false).link.stage = .loop ∧ (fr false).pattern = 1 ∧ (fr false).out = false
      ∧ (lf true).link.loop = some (fr true) ∧ (lf true).link.stage = .loop ∧ (fr true).out = true
      ∧ (lp true).runs = true ∧ (lp true).link.loop = some r ∧ (lp true).link.stage = .loop
      ∧ (lp true).link.since + r.timeMs * 1000000 ≤ (lp true).clk + 10000000 ∧ r.pattern = 0 ∧ r.lanes.getLsbD 0 = true
      ∧ ((lp true).link.lanes[0]).prbsLock = true ∧ ((lp false).link.lanes[0]).prbsLock = false := by decide

/-- R318: CRC-8 of the string 123456789 is F4, its check value; R66: CRC-32 of it is CBF43926. -/
theorem test_crcs :
    crc8 [0x31, 0x32, 0x33, 0x34, 0x35, 0x36, 0x37, 0x38, 0x39] = 0xF4
      ∧ crc32 [0x31, 0x32, 0x33, 0x34, 0x35, 0x36, 0x37, 0x38, 0x39] = 0xCBF43926 := by decide +kernel

/-! ## Time base, intervals, outputs, calibration: what the hypotheses of the statements ask -/

def withTime (f : TimeSt → TimeSt) : State := ready.setTime f

theorem witness_ReferenceAndPps :
    let tb := ready.setBank .tb .v33
    let on := (tb.setFld Fld.timeCfg_ppsEn 0 1).setSeq 0 (fun q => { q with mode := .running })
    let far (n : Nat) : State := ({ on.setTime (fun t => { t with ppsOver := n }) with tb := 100000 } : State)
    let at_ (r : RefState) : State := tb.setTime (fun t => { t with refState := r, refSince := 0, ocxoReady := false, ocxoSince := 0 })
    let ppsOut := ready.setFld Fld.timeCfg_ppsOutEn 0 1
    ready.runs = true ∧ (at_ .free).refPresent = true ∧ (at_ .free).time.refSince + 100000000 ≤ (at_ .free).clk + 100000000
      ∧ (at_ .free).time.refState = .free ∧ (at_ .holdover).time.refState = .holdover ∧ (at_ .locked).time.refState = .locked
      ∧ (200 : Int).natAbs ≤ 200 ∧ (-200 : Int).natAbs ≤ 200 ∧ ¬ (201 : Int).natAbs ≤ 200
      ∧ (at_ .free).start.xtalFault = false ∧ ((at_ .free).setStart (fun t => { t with xtalFault := true })).start.xtalFault = true
      ∧ (at_ .free).clk + 99999999 < (at_ .free).time.refSince + 100000000
      ∧ (at_ .free).bankUp .tb = true ∧ (at_ .free).time.ocxoSince + 10000000 ≤ (at_ .free).clk + 10000000
      ∧ (at_ .free).time.ocxoReady ≠ true
      ∧ ((at_ .free).setFld Fld.timeCfg_ocxoUse 0 1).flag Fld.timeCfg_ocxoUse 0 = true
      ∧ ((at_ .free).setFld Fld.timeCfg_ocxoUse 0 0).flag Fld.timeCfg_ocxoUse 0 = false
      ∧ ready.bankUp .tb = false ∧ (at_ .free).clk + 9999999 < (at_ .free).time.ocxoSince + 10000000
      ∧ on.runs = true ∧ on.flag Fld.timeCfg_ppsEn 0 = true ∧ on.timeRuns = true ∧ on.bankUp .tb = true
      ∧ on.time.ppsLast = none ∧ on.anyEnabled = true
      ∧ ¬ 256 * on.fld Fld.timeCfg_ppsTol 0 < (ppsOffsetOf (fine (on.stampNs ⟨0, 0⟩) 0)).natAbs
      ∧ (far 1).time.ppsLast = none ∧ (far 1).anyEnabled = true
      ∧ 256 * (far 1).fld Fld.timeCfg_ppsTol 0 < (ppsOffsetOf (fine ((far 1).stampNs ⟨0, 0⟩) 0)).natAbs
      ∧ (far 1).time.ppsOver < 2 ∧ 2 ≤ (far 2).time.ppsOver ∧ (far 2).time.ppsDrift = false
      ∧ (withTime (fun t => { t with ppsPresent := true, ppsLast := some (0, 7) })).time.ppsLast = some (0, 7)
      ∧ (withTime (fun t => { t with ppsPresent := true, ppsLast := some (0, 7) })).time.ppsPresent = true
      ∧ 7 + 384000000000 ≤ 256 * (ready.clk + 1500000001)
      ∧ ppsOut.flag Fld.timeCfg_ppsOutEn 0 = true ∧ ppsOut.timeRuns = true ∧ (ppsOut.elapse 0).tb % 1000000000 < 1000000
      ∧ ppsOut.time.ppsOutFrom ≤ (ppsOut.elapse 0).tb ∧ (on.setTime (fun t => { t with ppsFresh := true })).time.ppsFresh = true := by
  decide

/-- A slave of a site in some state. -/
def slaveIn (g : SiteState) (f : TimeSt → TimeSt) : State :=
  (ready.setFld Fld.siteCfg_role 0 2).setTime (fun t => f { t with site := g })

theorem witness_SiteSynchronisation :
    let falls : List Nat := List.replicate 72 (256 * 40)
    let k := slaveIn .seeking (fun t => { t with lastMarker := some (0, 0) })
    let o := ({ slaveIn .locked (fun t => { t with syncOffset := 1 }) with tb := 5, tbFrac := 0 } : State)
    k.runs = true ∧ k.timeRuns = true ∧ k.slave = true ∧ markerCount ([].map periodClass) = none
      ∧ markerCount (falls.map periodClass) = some 0
      ∧ (slaveIn .aligning id).time.site = .aligning ∧ k.time.site = .seeking ∧ k.anyEnabled = false
      ∧ k.time.lastMarker = some (0, 0) ∧ secondApart 0 (fine (k.clk + 1000000000 - 0) 0) = true
      ∧ (slaveIn .locked (fun t => { t with lastMarker := some (0, 0) })).time.lastMarker = some (0, 0)
      ∧ 0 + 384000000000 ≤ 256 * (k.clk + 1500000000) ∧ o.time.site = .locked ∧ 0 < o.time.syncOffset ∧ o.tbFrac < 256
      ∧ o.time.stepAt + 1000000 ≤ o.clk + 1000000 ∧ o.clk + 999999 < o.time.stepAt + 1000000
      ∧ 0 < (o.elapse 1000000).tb * 256 + o.tbFrac := by decide +kernel

theorem witness_SiteSynchronisation_lock :
    let v := (slaveIn .aligning (fun t => { t with syncGood := 2 })).setFld Fld.siteCfg_inDelay 0 0
    let e : Int := 100 * (fine (v.stampNs ⟨0, 0⟩) 0 : Nat) - v.inDelay
    v.time.site = .aligning ∧ divHalfUp e siteSecond.toNat = 0 ∧ (to256 (e - siteSecond * 0)).natAbs ≤ 64
      ∧ 2 ≤ v.time.syncGood := by
  have h : ∀ b : Bool, (divNearest b 0 100).natAbs ≤ 64 := by decide
  exact ⟨by decide, by decide, h _, by decide⟩

/-- An arm of the time-interval unit with stops on TI_STOP0 and the echo of port 0, and a measurement under way on that port. -/
def arm (src : Nat) : TiArm := ⟨src, 0, 0, 0, 17, 2, 1000, 0, 10, 1, 1, 1000⟩
def timed (src : Nat) (m : Option TiMeas) : State :=
  ({ ((withSeq (fun q => { q with mode := .running })).setBank .tb .v33).setTi (fun t => { t with arm := some (arm src), meas := m })
    with tb := 2000 } : State)

theorem witness_TimeIntervals :
    let m (stops : Nat) : TiMeas := ⟨1000, 0, stops, [], []⟩
    let s := timed tiPin (some (m 0))
    let l : TiMeas := ⟨1000, 0, 0, [(0, 256 * 2000 - 511)], []⟩
    let x := (timed tiPin none).setTi (fun t => { t with excess := some (m 2, arm tiPin) })
    let f := timed tiFreq (some (m 0))
    (timed tiPin none).runs = true ∧ (timed tiPin none).time.ti.arm = some (arm tiPin) ∧ (timed tiPin none).time.ti.meas = none
      ∧ (timed tiPin none).bankUp .tb = true ∧ s.time.ti.meas = some (m 0) ∧ (timed tiFreq none).time.ti.arm = some (arm tiFreq)
      ∧ (timed tiFreq none).time.ti.meas = none ∧ (arm tiPin).src = tiPin ∧ (arm tiFreq).src = tiFreq
      ∧ s.stopTaken (arm tiPin) 0 (.pin false) = true ∧ s.stopTaken (arm tiPin) 4 (.echo 10001 0) = true
      ∧ s.stopTaken (arm tiPin) 4 (.echo 10000 (-10000)) = false ∧ echoRearms (arm tiPin).level 4999 (-4999) = true
      ∧ portLaunches (s.port (echoPort 4)).seq = true ∧ 4 ≤ (4 : Fin 12).val
      ∧ fine 1000 0 ≤ fine (s.stampNs ⟨0, 0⟩) 0 ∧ fine (s.stampNs ⟨0, 0⟩) 0 ≤ fine 1000 0 + 256 * (arm tiPin).windowNs
      ∧ fine 1000 0 + 256 * (arm tiPin).blankNs ≤ fine (s.stampNs ⟨0, 0⟩) 0
      ∧ nearLast (m 0).last 0 (fine (s.stampNs ⟨0, 0⟩) 0) = false ∧ (m 0).stops + 1 < (arm tiPin).stops
      ∧ (arm tiPin).stops ≤ (m 1).stops + 1 ∧ (timed tiPin (some l)).time.ti.meas = some l
      ∧ nearLast l.last 0 (fine (s.stampNs ⟨0, 0⟩) 0) = true
      ∧ x.time.ti.meas = none ∧ x.time.ti.excess = some (m 2, arm tiPin) ∧ x.stopTaken (arm tiPin) 0 (.pin false) = true
      ∧ (arm tiPin).src ≠ tiFreq ∧ (m 0).ns + (arm tiPin).windowNs ≤ (s.elapse 0).tb ∧ f.time.ti.meas = some (m 0)
      ∧ fine 1000 0 + 256 * (arm tiFreq).gateNs ≤ fine (f.stampNs ⟨0, 0⟩) 0
      ∧ fine (f.stampNs ⟨0, 0⟩) 0 < fine 1000 0 + 256 * (arm tiFreq).gateNs + 1 ∧ 0 < 1 / max 1 (arm tiFreq).prescale
      ∧ 1 % max 1 (arm tiFreq).prescale = 0 := by decide

/-- Loop 0 and alarm contact 0 changed. -/
def withLoop (f : LoopSt → LoopSt) : State := (ready.setFld Fld.loopCfg_en 0 1).setLoop 0 f
def withAlarm (f : AlarmSt → AlarmSt) : State := ready.setAlarm 0 f

theorem witness_OutputEvents :
    let o := withLoop (fun l => { l with openC := true })
    let c := withLoop (fun l => { l with overCurrent := true, driveOn := true })
    let d := withLoop (fun l => { l with overCurrent := true, driveOn := false })
    let f := withLoop (fun l => { l with commandUa := 4000 })
    ready.runs = true ∧ (ready.elapse 0).tb % 1000000 = 0 ∧ (({ ready with tb := 999999 } : State).elapse 0).tb % 1000000 ≠ 0
      ∧ c.loopJudged 0 = true ∧ (c.loop 0).commandUa + 500 < 4501 ∧ f.runs = true ∧ f.loopJudged 0 = true ∧ 999 < 1000 ∧ 3600 ≤ (f.loop 0).commandUa
      ∧ 1000 + 200 < (f.loop 0).commandUa ∧ 21 * 71428 < 1500000 ∧ (f.loop 0).commandUa + 500 < 4501
      ∧ (f.loop 0).openC = false ∧ (f.loop 0).compliance = false ∧ (f.loop 0).overCurrent = false ∧ (o.loop 0).openC = true
      ∧ 1500000 ≤ 21 * 71429 ∧ (c.loop 0).overCurrent = true ∧ (c.loop 0).driveOn = true ∧ 500 ≤ (c.loop 0).commandUa + 500
      ∧ (d.loop 0).overCurrent = true ∧ (d.loop 0).driveOn = false
      ∧ (d.elapse 0).loopJudged 0 = true ∧ 1000000000 ≤ d.clk + 1000000000 - (d.loop 0).retryAt
      ∧ 1000000000 ≤ c.clk + 1000000000 - (c.loop 0).retryAt
      ∧ ((withAlarm (fun a => { a with conducting := true })).alarm 0).conducting = true
      ∧ ((withAlarm (fun a => { a with conducting := true })).alarm 0).overload = false
      ∧ ((withAlarm (fun a => { a with tripped := true, overload := true })).alarm 0).tripped = true
      ∧ ((withAlarm (fun a => { a with tripped := true, overload := true })).alarm 0).overload = true
      ∧ 1000000000 ≤ ready.clk + 1000000000 - (ready.alarm 0).tripAt := by decide

/-- A run of calibration. -/
def calRun (now : Option CalNow) (rq : Option Req) : CalRun :=
  { id := 1, ports := 1, steps := 1, req := rq, startUp := false, now := now, todo := [],
    outcomes := Vector.replicate 32 .notRun, results := [], holdA := false, holdB := false, holdLoops := 0, holdPorts := 0,
    began := 0 }
def calibrating (now : Option CalNow) (rq : Option Req) : State :=
  ({ ready with cal := { ready.cal with run := some (calRun now rq) } } : State)

/-- A step of port 0. -/
def stepNow (g : CalStep) : CalNow := ⟨g, 1, 0, Vector.replicate 8 0⟩

/-- A run in that step, a million seconds on. -/
def inStep (g : CalStep) : State := { calibrating (some (stepNow g)) none with clk := 1000000000000000 }

/-- All currents of REF at their nominal values. -/
def refIn : List RefMeasure := allPorts.map (fun p => ⟨p, 50000000, 100000000, 1000⟩)

theorem witness_CalibrationEvents :
    let a := ready.setFld Fld.calCfg_autoEn 0 1
    let rq : Req := ⟨3, 0, 0, .link⟩
    let ends (g : CalStep) (m : CalMeasure) : Prop :=
      (inStep g).runs = true ∧ ((inStep g).elapse 0).refHoldsEnd.cal.run = some (calRun (some (stepNow g)) none)
        ∧ (calRun (some (stepNow g)) none).now = some (stepNow g) ∧ (stepNow g).step = g ∧ (stepNow g).ports ≠ 0
        ∧ ((inStep g).elapse 0).refHoldsEnd.stepLasted (stepNow g) = true ∧ measureWhole (stepNow g) m = true
    a.runs = true ∧ a.flag Fld.calCfg_autoEn 0 = true ∧ a.power.mode = .active ∧ a.anyEnabled = false
      ∧ a.cal.run = none ∧ a.cal.lastCheck = none
      ∧ ends .ref (.ref 10000 0 0 refIn) ∧ ((inStep .ref).elapse 0).refHoldsEnd.refResult 10000 0 0 refIn ≠ none
      ∧ ((inStep .ref).elapse 0).refHoldsEnd.refResult 10001 0 0 refIn = none
      ∧ ends .ref .noRefin ∧ ends .skew (.skew 5 [5, 5, 5, 5] [5, 5] 0)
      ∧ ends .conv (.conv [⟨0, List.replicate 8 0, List.replicate 8 1000, [0, 0, 0, 0], List.replicate 8 1⟩])
      ∧ ends .raman (.raman [⟨0, 1, 2, 3⟩]) ∧ measureWhole (stepNow .skew) (.skew 5 [] [] 0) = false
      ∧ (({ inStep .skew with clk := 0 } : State).elapse 0).refHoldsEnd.stepLasted (stepNow .skew) = false
      ∧ (calibrating none none).cal.run = some (calRun none none) ∧ (calRun none none).now = none
      ∧ (calRun none none).todo = [] ∧ (calRun none none).req = none
      ∧ (calibrating none (some rq)).cal.run = some (calRun none (some rq)) ∧ (calRun none (some rq)).req = some rq := by
  decide +kernel

/-! ## Start, power, test: what the hypotheses of the statements ask -/

theorem witness_ResetCauses :
    let p := ready.setStart (fun t => { t with resetPending := some 0 })
    let h := ready.setStart (fun t => { t with holds := [.pin] })
    ready.start.holds = [] ∧ ready.start.flashWrite = none ∧ ready.power.mode ≠ .off ∧ ready.power.mode = .active ∧ p.start.holds = []
      ∧ p.start.resetPending ≠ none ∧ ready.runs = true ∧ 1250 < (1251 : Int) ∧ ready.start.dieAt = none
      ∧ ready.start.tripAt + 1000000 ≤ ready.clk + 1000000 ∧ ready.clk + 999999 < ready.start.tripAt + 1000000
      ∧ h.start.holds = [.pin]
      ∧ h.power.mode = .active := by decide

/-- A firmware image without a signature: header and one stored block of two plain bytes. -/
def image : List Byte :=
  [0x41, 0x4E, 0x49, 0x53, 1, 0, 0, 0, 7, 0, 0, 0, 9, 0, 0, 0, 24, 0, 0, 0, 2, 0, 0, 0, 0, 0, 0, 0] ++ zeros 100
    ++ [1, 0, 1, 0, 2, 0, 0, 0, 0, 0, 0, 0, 0, 0, 0, 0, 4, 0, 0x50, 0, 5, 0, 0, 0]

/-- The download of an image that stands in the staging window. -/
def downloading (img : List Byte) : State :=
  (State.reset.setMbox (fun m => { m with staging := memWriteAll blankByte m.staging 0 img })).setStart (fun t =>
    { t with boot := .waitHost, load := .download ⟨3, 0, 0, .link⟩ img.length })

theorem witness_ColdStart :
    let s := State.reset
    let off := s.setPower (fun w => { w with mode := .off })
    let c := s.setStart (fun t => { t with nextCause := .powerOn })
    let h := s.setStart (fun t => { t with holds := [.supply] })
    let f := (s.flashPut (imageSlotBase 0) image).setStart (fun t => { t with boot := .loading, load := .flash })
    let n := s.setStart (fun t => { t with boot := .loading, load := .flash })
    let i := s.setStart (fun t => { t with boot := .fwInit })
    off.power.mode = .off ∧ c.start.boot = .reset ∧ c.life.shutDown = false ∧ c.power.mode = .active ∧ c.start.holds = [] ∧ c.power.railsOut = []
      ∧ c.life.state ≠ .retired ∧ c.life.unrepaired = [] ∧ c.start.nextCause = .powerOn ∧ h.start.holds = [.supply]
      ∧ c.bankUp .cb = true ∧ f.bankUp .cb = true ∧ i.start.cause ≠ .brownout ∧ h.start.boot = .reset ∧ h.life.shutDown = false ∧ h.power.mode = .active
      ∧ f.start.load = .flash ∧ (f.elapse 0).flashCheck true = .good ⟨7, 9, false, [], some 0⟩ ∧ n.start.load = .flash
      ∧ (n.elapse 0).flashCheck true = .error 1 .badImage ∧ i.start.boot = .fwInit ∧ i.power.mode = .active
      ∧ (i.setStart (fun t => { t with cause := .brownout })).start.cause = .brownout := by decide +kernel

theorem witness_ColdStart_download :
    let good := downloading image
    let bad := downloading (zeros 128)
    good.start.load = .download ⟨3, 0, 0, .link⟩ 152 ∧ 152 = imageBytes ((good.elapse 0).staged 0 152)
      ∧ imageCheck good.life.state good.life.keyHash 152 none ((good.elapse 0).staged 0 152) = .good ⟨7, 9, false, [], none⟩
      ∧ bad.start.load = .download ⟨3, 0, 0, .link⟩ 128 ∧ 128 = imageBytes ((bad.elapse 0).staged 0 128)
      ∧ imageCheck bad.life.state bad.life.keyHash 128 none ((bad.elapse 0).staged 0 128) = .error 2 .badImage
      ∧ 128 ≤ 152 ∧ 128 ≤ 128 := by decide +kernel

theorem witness_DeviceSupervision :
    let hot := ready.setStart (fun t => { t with dieAbove110 := 9, dieHot := false })
    let x (n : Nat) : State := (withTime (fun t => { t with refState := .locked })).setStart (fun t => { t with xtalBad := n })
    let soon := ready.setStart (fun t => { t with dieAt := some 0, xtalAt := some 0 })
    let cal := (withTime (fun t => { t with refState := .locked })).setStart (fun t => { t with readyAt := some 0 })
    let w : FlashWrite := ⟨⟨3, 0, 0, .link⟩, 256, [1], false⟩
    let fl := ready.setStart (fun t => { t with flashWrite := some w })
    ready.runs = true ∧ hot.start.dieAt = none ∧ (x 0).start.xtalAt = none ∧ soon.start.dieAt = some 0
      ∧ soon.clk + 999999 < 0 + 1000000 ∧ soon.start.xtalAt = some 0 ∧ soon.clk + 999999999 < 0 + 1000000000
      ∧ soon.clk + 999999999 < soon.start.vaonAt + 1000000000 ∧ 1000 < (1100 : Int) ∧ hot.runs = true ∧ hot.start.dieAbove110 = 9
      ∧ hot.start.dieHot = false ∧ (x 0).runs = true ∧ (x 0).time.refState = .locked ∧ 500 < (501 : Int)
      ∧ (x 0).start.xtalBad = 0 ∧ (x 1).start.xtalBad = 1 ∧ (x 1).start.xtalFault = false ∧ cal.runs = true
      ∧ cal.start.readyAt = some 0 ∧ cal.power.mode = .active ∧ cal.start.startCalBegun = false ∧ cal.cal.run = none
      ∧ (cal.setFld Fld.timeCfg_ocxoUse 0 0).startCalReady = true ∧ fl.runs = true ∧ fl.start.flashWrite = some w
      ∧ fl.bankUp .cb = true ∧ (fl.setBank .cb .absent).bankUp .cb = false ∧ w.offset ≠ 0 ∧ w.final = false := by decide

theorem witness_DeviceSupervision_banks :
    let at_ (b : IoBank) (m : BankMode) (present : Bool) : State := (ready.setBank b m).setHead 0 (fun h => { h with present := present })
    (∀ b ∈ [IoBank.cb, .ab, .tb, .hb 0], (at_ b .absent false).runs = true ∧ (at_ b .absent false).banks[bankIx b] = .absent
        ∧ (at_ b .v33 false).banks[bankIx b] ≠ .absent)
      ∧ bankModeOf 1800 = .v18 ∧ bankModeOf 3300 = .v33 ∧ bankModeOf 2500 = .fault
      ∧ (at_ (.hb 0) .fault false).banks[bankIx (.hb 0)] = .fault ∧ (at_ (.hb 0) .v18 true).bankUp (.hb 0) = true
      ∧ ((at_ (.hb 0) .v18 true).port 0).head.present = true ∧ ((at_ (.hb 0) .v18 false).port 0).head.present = false := by decide

/-- RETAIN under way. -/
def retaining (m : PowerMode) (f : RetainSt → RetainSt) : State :=
  let r : RetainSt :=
    { req := ⟨3, 0, 0, .link⟩, banks := 0xFF, acceptedAt := 0, noisyAt := none, armedAt := none, commitAt := none, tCommit := 0, presAtCommit := 0, presence := 0,
      latched := none, wokenAt := none, report := ready.power.lastWake, suppliesGood := false, goodBanks := none,
      presLost := 0, serialChecks := 0, serialGood := 0, kept := Vector.replicate 8 (zeros 512), brownout := false }
  ready.setPower (fun w => { w with mode := m, retain := some (f r) })

theorem witness_PowerMoves :
    let rq : Req := ⟨3, 0, 0, .link⟩
    let sb := ready.setPower (fun w => { w with move := some (rq, .standby, 0) })
    let ac := ready.setPower (fun w => { w with mode := .standby, move := some (rq, .active, 0), portsAtStandby := 0 })
    let en := retaining .entering id
    let ar := retaining .entering (fun r => { r with armedAt := some 0 })
    let no := retaining .entering (fun r => { r with noisyAt := some 900000 })
    sb.power.move = some (rq, .standby, 0) ∧ allPorts.all (sb.elapse 0).portDark = true
      ∧ ac.power.move = some (rq, .active, 0) ∧ ac.power.portsAtStandby = 0
      ∧ en.power.retain.any (fun r => r.armedAt = none && r.acceptedAt = 0 && bankCount r.banks = 8) = true
      ∧ en.power.mode = .entering ∧ 0 + 40960 * 8 ≤ en.clk + 327680 ∧ en.clk + 327679 < 0 + 40960 * 8 ∧ en.link.stage ≠ .active
      ∧ en.power.retain.any (fun r => r.noisyAt.isNone) = true ∧ no.power.mode = .entering
      ∧ no.power.retain.any (fun r => r.noisyAt = some 900000 && r.armedAt.isNone) = true
      ∧ 900000 + 100000 ≤ no.clk + 1000000 ∧ no.clk + 999999 < 900000 + 100000
      ∧ ar.power.mode = .entering ∧ ar.power.retain.any (fun r => r.armedAt = some 0) = true
      ∧ ar.clk + 60999 < 0 + 61000 ∧ 0 + 61000 ≤ ar.clk + 61000 := by decide

theorem witness_WakeEvents :
    let oe := (retaining .entering id).setFld Fld.powerCfg_wakeAct 0 1
    let on := (retaining .entering (fun r => { r with armedAt := some 0 })).setFld Fld.powerCfg_wakeAct 0 1
    let re := (retaining .retain (fun r => { r with commitAt := some 0 })).setFld Fld.powerCfg_wakeAct 0 1
    let la := retaining .retain (fun r => { r with commitAt := some 0, latched := some [.activity] })
    let wa := retaining .waking (fun r => { r with wokenAt := some 0 })
    let se := (retaining .waking (fun r => { r with serialChecks := 1 })).setHead 0 (fun h =>
      { h with present := true, idState := .reading, read := none })
    let lk := (retaining .waking id).setTime (fun t => { t with refState := .locked })
    let co := (lk.setLink (fun l => { l with stage := .down })).setMem (fun m => { m with due := false, training := none })
    (oe.elapse 0).wakeSources [.activity] = [.activity] ∧ oe.power.retain.any (fun r => r.armedAt.isNone) = true
      ∧ oe.power.mode = .entering
      ∧ (on.elapse 0).wakeSources [.activity] = [.activity] ∧ on.power.mode = .entering
      ∧ on.power.retain.any (fun r => r.armedAt.isSome) = true ∧ (re.elapse 0).wakeSources [.activity] = [.activity]
      ∧ re.power.mode = .retain ∧ re.power.retain.any (fun r => r.commitAt = some 0 && r.latched = none && !r.brownout) = true
      ∧ re.clk + 122070 < 0 + 122071 ∧ 0 + 122071 ≤ re.clk + 122071 ∧ la.power.mode = .retain
      ∧ la.power.retain.any (fun r => r.commitAt = some 0 && r.latched = some [.activity]) = true
      ∧ wa.power.mode = .waking ∧ wa.power.retain.any (fun r => !r.suppliesGood && r.wokenAt = some 0) = true
      ∧ wa.clk + 999999 < 0 + 1000000 ∧ 0 + 1000000 ≤ wa.clk + 1000000 ∧ wa.memoryBad = false
      ∧ (wa.setLife (fun l => { l with unrepaired := [(0x0A, 0)] })).memoryBad = true
      ∧ serialWhole [none, some ⟨0, .data (zeros 16)⟩] = true ∧ serialWhole [some ⟨0, .nack⟩, none, some ⟨9, .busHeld⟩, none] = true
      ∧ (se.port 0).head.presAt + (10 + 25 * ([none, some ⟨0, .data (zeros 16)⟩].filter (fun a : Option IdAttempt => a.isNone)).length) * 1000000 ≤ se.clk + 35000000
      ∧ serialOf [none, some ⟨0, .data (zeros 16)⟩] = some (zeros 16) ∧ serialOf [some ⟨0, .nack⟩, none, some ⟨9, .busHeld⟩, none] = none
      ∧ se.runs = true ∧ se.power.retain.any (fun r => maskHas r.serialChecks 0) = true ∧ (se.port 0).head.present = true
      ∧ (se.port 0).head.idState = .reading ∧ (se.port 0).head.read = none 
      ∧ co.power.mode = .waking ∧ co.wakeReady = true
      ∧ co.power.retain.any (fun r => !(co.elapse 0).wakeResumes r) = true := by decide +kernel

theorem witness_SelfTestAndLifeCycle :
    let rq : Req := ⟨3, 0, 0, .link⟩
    let l (f : LifeSt → LifeSt) : State := State.reset.setLife f
    let ok : FailRecord := ⟨1, 0, 1, 0, 0, 0, 1, 0, 1⟩
    (l (fun x => { x with test := .shutdown 5 })).life.test = .shutdown 5
      ∧ (l (fun x => { x with test := .block rq 1 0 0 5 })).life.test = .block rq 1 0 0 5 ∧ [ok].any beyondRepair = false
      ∧ (shutdownTests ok.memId = true ∧ recordOk 0 ok = true) ∧ (ok.memId = 1 ∧ ok.inst = 0)
      ∧ (l (fun x => { x with setting := some (rq, .retired, []) })).life.setting = some (rq, .retired, [])
      ∧ allPorts.all ((l (fun x => { x with setting := some (rq, .retired, []) })).elapse 0).portDark = true
      ∧ allPorts.all (((l (fun x => { x with setting := some (rq, .retired, []) })).setSeq 0
          (fun q => { q with draining := true })).elapse 0).portDark = false
      ∧ (l (fun x => { x with setting := some (rq, .deployed, []) })).life.setting = some (rq, .deployed, [])
      ∧ (l id).bankUp .cb = true ∧ ((l id).setBank .cb .absent).bankUp .cb = false ∧ jtagAllowed (l id).life.state .idcode = true
      ∧ 5 + shutdownTestNs (l id).life.otpMap [] ≤ (l id).clk + 85000005 ∧ (l id).clk + 85000004 < 5 + 85000000
      ∧ 5 + 100000000 ≤ (l id).clk + 100000005
      ∧ (∃ g : LifeCycle, ∃ j : JtagInstr, jtagAllowed (l (fun x => { x with state := g })).life.state j = false) := by
  refine ⟨rfl, rfl, by decide, by decide, by decide, rfl, by decide +kernel, by decide +kernel, rfl, by decide, by decide, by decide, by decide, by decide, by decide, .deployed, .bistResult, by decide⟩

theorem witness_LevelsAtTheBalls :
    let held := ready.setStart (fun t => { t with holds := [.pin] })
    let iso := ready.setPower (fun w => { w with isolated := true })
    let ar := (retaining .entering (fun r => { r with armedAt := some 0 }))
    (Ball.idBus 0).bank = some (.hb 0) ∧ ready.bankUp (.hb 0) = false ∧ held.start.holds ≠ [] ∧ iso.start.holds = []
      ∧ iso.life.shutDown = false ∧ iso.power.isolated = true ∧ Ball.hrdy.bank = some .cb ∧ iso.bankUp .cb = true
      ∧ Ball.hrdy.clamp = some .low ∧ (Ball.probeI 0).slice = some 0 ∧ ready.accepts 0 = false
      ∧ (Ball.probeI 0).clamp = some (.probe 0) ∧ ready.power.mode ≠ .off ∧ ar.power.mode = .entering
      ∧ ar.power.retain.any (fun r => r.armedAt = some 0) = true ∧ ar.start.holds = [] ∧ ar.life.shutDown = false
      ∧ iso.shutTest = false ∧ iso.power.railsOut = [] ∧ Rail.vser09 ∈ (Ball.laneTx 0).rails
      ∧ Rail.vser09 ∈ (iso.setPower (fun w => { w with railsOut := [.vser09] })).power.railsOut := by decide

/-! ## Commands of the host: what the hypotheses of the statements ask -/

abbrev rq0 : Req := ⟨3, 0, 0, .controlPort⟩

/-- A command of the control port begins, and the state its work starts from. -/
def begins (s : State) (code : Nat) (params : List Byte) : Bool := (s.began 100000 rq0 code params).isSome
def work (s : State) (code : Nat) (params : List Byte) : State := (s.began 100000 rq0 code params).getD s

theorem witness_HostCommandBegins :
    let e := ready.setPower (fun w => { w with mode := .entering })
    ready.mbox.flights = [] ∧ (ready.elapse 100000).serving .controlPort = .full
      ∧ cmdRow 0x20 = some ⟨0x20, .padded [1], 100, 100⟩ ∧ paramsOf (.padded [1]) (param 1 1 ++ param 1 1) = none ∧ paramsOf (.padded [1]) (param 1 1) = some (param 1 1)
      ∧ e.mbox.flights = [] ∧ (e.elapse 100000).serving .controlPort = .full ∧ (e.elapse 0).gate rq0 0x20 = some .badState
      ∧ (ready.elapse 0).gate rq0 0x20 = none ∧ 100 < (101 : Half).toNat ∧ rq0.timeout.toNat ≤ 100 := by decide +kernel

theorem witness_blockOf : blockOf 0x15 = some rtdCfgBlock := rfl

theorem witness_HostReads :
    let ev := ready.setDetect (fun d => { d with ring := [zeros 32, zeros 32], nextRun := 5 })
    let ts := ready.setLife (fun l => { l with shutRecords := List.replicate 20 ⟨1, 0, 1, 0, 0, 0, 0, 0, 1⟩ })
    begins ready 0x01 [] = true ∧ begins ready 0x02 [] = true ∧ (work ready 0x02 []).romAnswers = false
      ∧ begins ev 0x03 (param 4 0 ++ param 1 0) = true ∧ begins ev 0x03 (param 4 2 ++ param 1 7) = true
      ∧ ev.detect.ring.length < (ev.detect.nextRun - 2).toNat ∧ begins ev 0x03 (param 4 3 ++ param 1 7) = true
      ∧ (ev.detect.nextRun - 3).toNat ≤ ev.detect.ring.length
      ∧ begins ready 0x10 (leBytes 2 0x15 ++ leBytes 2 0 ++ leBytes 2 0 ++ leBytes 1 1 ++ [0]) = true
      ∧ (blockOf 0x15).any (fun b => b.id = rtdCfgBlock.id) = true ∧ hasInst rtdCfgBlock 0 = true ∧ 0 + 1 ≤ rtdCfgBlock.words
      ∧ begins ready 0x91 (param 2 0 ++ param 1 1) = true ∧ begins ready 0x74 (param 4 0) = true
      ∧ ready.life.state ≠ .retired ∧ begins ts 0x74 (param 4 20) = true ∧ 20 ≤ ts.life.shutRecords.length := by decide +kernel

/-- The parameters of a PARAM_WRITE of one word of RTD_CFG of port 0. -/
def rtdWrite (d m : Word) : List Byte := paramWriteBytes 0x15 0 0 0 [(d, m)]
def rtdFields (d m : Word) : List FieldWrite := (fieldWrites rtdCfgBlock 0 (writeNums 0 [(d, m)])).getD []

theorem witness_HostParameters :
    begins ready 0x11 (rtdWrite 2 2) = true ∧ (0 : Byte).toNat ≤ 1 ∧ writeShape 0x15 0 0 1 = none
      ∧ (fieldWrites rtdCfgBlock 0 (writeNums 0 [(2, 2)])).isSome = true
      ∧ (work ready 0x11 (rtdWrite 2 2)).writeTested (rtdFields 2 2) = false
      ∧ (work ready 0x11 (rtdWrite 2 2)).fieldFails (rtdFields 2 2) = none
      ∧ (work ready 0x11 (rtdWrite 2 2)).writeFails (rtdFields 2 2)
          (judgedPlaces false (placesOf ((rtdFields 2 2).map FieldWrite.at_))) = none
      -- a PULSE of 1 is below its range; a DELAY of 30 does not fit the PULSE
      ∧ begins ready 0x11 (rtdWrite 0x4 0x7C) = true
      ∧ (work ready 0x11 (rtdWrite 0x4 0x7C)).fieldFails (rtdFields 0x4 0x7C) = some .badParam
      ∧ begins ready 0x11 (rtdWrite 0x3C0000 0x3E0000) = true
      ∧ (work ready 0x11 (rtdWrite 0x3C0000 0x3E0000)).fieldFails (rtdFields 0x3C0000 0x3E0000) = none
      ∧ (work ready 0x11 (rtdWrite 0x3C0000 0x3E0000)).writeFails (rtdFields 0x3C0000 0x3E0000)
          (judgedPlaces false (placesOf ((rtdFields 0x3C0000 0x3E0000).map FieldWrite.at_))) = some (.badParam, 0x15, 0)
      ∧ begins ready 0x12 (param 1 1) = true ∧ begins ready 0x12 (param 1 0) = true ∧ ready.held = []
      ∧ begins ready 0x04 (param 2 0xFFFF ++ param 2 0xFFFF) = true := by decide +kernel

/-- A field of instance 0 held at a value, and the fields that are held. -/
def holds (f : Fld) (v : Nat) : State := { ready with held := [(fldKey f 0, v)] }
def heldFields (s : State) : List FieldWrite :=
  s.held.filterMap (fun e => (fieldAt e.1).map (fun f => (⟨f, keyInst e.1, e.2⟩ : FieldWrite)))

/-- SLOT_MASK 3 may be released; a profile without an end may not. -/
theorem witness_HostParameters_commit :
    let good := holds Fld.seqPort_slotMask 3
    let bad := holds Fld.rxProfile_end0 0
    (∀ s ∈ [good, bad], begins s 0x12 (param 1 0) = true ∧ (work s 0x12 (param 1 0)).writeTested (heldFields s) = false)
      ∧ (work good 0x12 (param 1 0)).writeFails (heldFields good) (placesOf ((heldFields good).map FieldWrite.at_)) = none
      ∧ (work bad 0x12 (param 1 0)).writeFails (heldFields bad) (placesOf ((heldFields bad).map FieldWrite.at_))
          = some (.badParam, 0x0E, 0) := by decide +kernel

/-- Port 0 as PORT_START takes it. -/
def startable : State :=
  let b := (warm 0).setBank (.hb 0) .v18
  (b.setTime (fun t => { t with refState := .locked, ocxoReady := true })).setHead 0 (fun h =>
    { h with record := List.replicate 512 0x7F })
    |>.setClove (fun c => { c with programs := [(0, ⟨[0, 0, 0, 0], [], 0, 0, false⟩)] })

theorem witness_HostPorts :
    let sh := (headed.setSeq 0 (fun q => { q with mode := .shut })).setDrive 0 (fun d => { d with latched := true })
    let l1 := sh.setDrive 0 (fun d => { d with causeMask := causeBit 10 })
    let l2 := sh.setDrive 0 (fun d => { d with causeMask := causeBit causeOvertemp, caseTemp := some ⟨800, 1⟩ })
    let bt := startable.setLife (fun l => { l with test := .block rq0 3 0 0 0 })
    begins bt 0x20 (param 1 1) = true ∧ begins bt 0x20 (param 1 3) = true ∧ maskPorts 3 = [0, 1]
      ∧ ((work bt 0x20 (param 1 1)).enableFails 0).any (fun x => x.1 = .busySelftest) = true
      ∧ begins startable 0x20 (param 1 1) = true ∧ maskPorts 1 = [0]
      ∧ (∀ q ∈ maskPorts 1, (work startable 0x20 (param 1 1)).enableFails q = none)
      ∧ begins ready 0x20 (param 1 1) = true ∧ (work ready 0x20 (param 1 1)).enableFails 0 = some (.noResource, 0)
      ∧ begins ready 0x21 (param 1 0xFF) = true ∧ begins headed 0x22 (param 1 0) = true ∧ (headed.port 0).head.present = true
      ∧ (headed.port 0).head.idState ≠ .reading ∧ (headed.port 0).seq.mode = .stopped
      ∧ begins ready 0x23 (param 1 0) = true ∧ (ready.port 0).drive.latched = false
      ∧ begins l1 0x23 (param 1 0) = true ∧ (l1.port 0).drive.latched = true
      ∧ (∀ c : Fin 10, (l1.port 0).drive.causeMask.getLsbD c.val = true →
          (work l1 0x23 (param 1 0)).clearable 0 (c.val + 1) = true)
      ∧ begins l2 0x23 (param 1 0) = true ∧ (l2.port 0).drive.latched = true
      ∧ (∃ c : Fin 10, (l2.port 0).drive.causeMask.getLsbD c.val = true
          ∧ (work l2 0x23 (param 1 0)).clearable 0 (c.val + 1) = false)
      ∧ begins ready 0x24 (param 1 0 ++ param 1 3) = true ∧ (work ready 0x24 (param 1 0 ++ param 1 3)).inActive = true
      ∧ ((work ready 0x24 (param 1 0 ++ param 1 3)).flightOf 3).isSome = true
      ∧ begins (ready.setPower (fun w => { w with mode := .standby })) 0x24 (param 1 0 ++ param 1 3) = true
      ∧ (work (ready.setPower (fun w => { w with mode := .standby })) 0x24 (param 1 0 ++ param 1 3)).inActive = false := by decide +kernel

/-- A user program of one word. -/
def program : List Byte := [0x43, 0x4C, 0x56, 0x50, 1, 0, 0, 0, 4, 0, 0, 0] ++ zeros 56

/-- The staging window with some bytes from 0. -/
def staging (bs : List Byte) : State := ready.setMbox (fun m => { m with staging := memWriteAll blankByte m.staging 0 bs })

/-- The descriptor of a COMPRESS job: two bytes from the staging window to 4,096 bytes of it. -/
def compressJob : List Byte :=
  [1, 0, 0, 0, 2, 0, 0, 0] ++ leBytes 8 stagingBase ++ zeros 8 ++ [1, 0, 0, 0, 0, 0, 0, 0] ++ leBytes 8 (stagingBase + 8192)
    ++ leBytes 4 4096 ++ zeros 180

theorem witness_HostLoads :
    let s := staging program
    let ld := param 1 8 ++ param 4 0 ++ param 4 68
    let img := (work s 0x30 ld).staged 0 68
    let two := param 4 0 ++ param 4 24
    let mk := ready.setFld Fld.mask_en 0 1
    let wh := State.reset.setStart (fun t => { t with boot := .waitHost, bootErr := 1 })
    begins s 0x30 ld = true ∧ s.programUsed 8 = false ∧ s.clove.load = none
      ∧ programCheck s.life.state s.life.keyHash 0 (codeTotal (Tab.erase s.clove.programs 8)) img
          = .good ⟨zeros 4, [], 0, 0, false⟩
      ∧ begins ready 0x30 ld = true
      ∧ programCheck ready.life.state ready.life.keyHash 0 (codeTotal (Tab.erase ready.clove.programs 8))
          ((work ready 0x30 ld).staged 0 68) = .bad .badImage
      ∧ begins ready 0x31 (param 1 15) = true ∧ ready.programUsed 15 = false
      ∧ begins ready 0x40 two = true ∧ (work ready 0x40 two).testOn 0x06 0 = false ∧ 0 + 24 ≤ stagingMapped
      ∧ begins ready 0x41 two = true ∧ begins ready 0x52 (param 1 0 ++ two) = true ∧ ready.flag Fld.mask_en 0 = false
      ∧ begins mk 0x52 (param 1 0 ++ two) = true ∧ mk.flag Fld.mask_en 0 = true
      ∧ begins ready 0x55 (zeros 224) = true ∧ (work ready 0x55 (zeros 224)).jobOk (zeros 224) = false
      ∧ begins ready 0x55 compressJob = true ∧ (work ready 0x55 compressJob).jobOk compressJob = true
      ∧ compressJob.length = 224 ∧ u8At compressJob 0 = 1
      ∧ begins wh 0xA0 (param 4 152) = true ∧ wh.start.boot = .waitHost ∧ wh.start.bootErr ≠ 8 ∧ wh.life.state ≠ .retired
      ∧ wh.start.load = .none ∧ begins ready 0xA1 (param 4 0 ++ param 4 24 ++ param 1 1) = true
      ∧ ready.start.flashWrite = none := by decide +kernel

theorem witness_HostDetection :
    let g (f : GroupSt → GroupSt) : State := ready.setGroup 3 f
    let sn := ((holding true).setFld Fld.stream_en 5 1).setFld Fld.stream_class 5 clsSnapshot
    let rd := param 4 7 ++ param 2 5 ++ param 1 0
    let bu := ready.setMask 0 (fun m => { m with snapId := some 1 })
    let us := ready.setFld Fld.stream_share 5 1
    let inuse := us.setFld Fld.stream_en 5 1
    begins ready 0x32 (param 1 1 ++ param 1 3) = true ∧ (work ready 0x32 (param 1 1 ++ param 1 3)).testOn 0x01 7 = false
      ∧ (work ready 0x32 (param 1 1 ++ param 1 3)).testOn 0x02 7 = false ∧ (ready.engine 7).mode = .idle
      ∧ begins (g (fun x => { x with activeZones := 1 })) 0x42 (param 1 3) = true
      ∧ ((g (fun x => { x with activeZones := 1 })).group 3).activeZones ≠ 0
      ∧ begins (g (fun x => { x with latched := true })) 0x42 (param 1 3) = true
      ∧ ((g (fun x => { x with latched := true })).group 3).activeZones = 0
      ∧ ((g (fun x => { x with latched := true })).group 3).latched = true ∧ (ready.group 3).latched = false
      ∧ begins sn 0x50 rd = true ∧ sn.capture.snapshots.find? (fun n => n.id = 7) = some (snapshot true)
      ∧ sn.flag Fld.stream_en 5 = true ∧ sn.streamClass 5 = clsSnapshot ∧ (snapshot true).published = true
      ∧ sn.capture.readouts.any (fun r => r.stream = 5) = false ∧ begins sn 0x51 (param 4 7) = true
      ∧ sn.capture.readouts.any (fun r => r.snapId = 7) = false
      ∧ begins bu 0x53 (param 1 0) = true ∧ (bu.mask 0).snapId ≠ none ∧ begins ready 0x53 (param 1 0) = true
      ∧ (ready.mask 0).snapId = none ∧ (∀ k : RingKind, (ready.ring 0 k).mode ≠ .frozen) ∧ (ready.port 0).seq.mode ≠ .halted
      ∧ begins inuse 0x54 [] = true ∧ (work inuse 0x54 []).captureInUse = true ∧ begins ready 0x54 [] = true
      ∧ (work ready 0x54 []).captureInUse = false ∧ ready.capture.mem.training = none := by
  refine ⟨?_, ?_, ?_, ?_, ?_, ?_, ?_, ?_, ?_, ?_, ?_, ?_, ?_, ?_, ?_, ?_, ?_, ?_, ?_, ?_, ?_, ?_, ?_, ?_, ?_, ?_, ?_, ?_, ?_⟩
  all_goals first | decide +kernel | (intro k; cases k <;> decide +kernel)

theorem witness_HostLinkAndPower :
    let lk := withLink (fun l => { l with stage := .down })
    let lp := param 1 1 ++ param 1 0 ++ param 1 1 ++ param 2 10
    let sb := ready.setPower (fun w => { w with mode := .standby })
    let act (r : Route) : Bool :=
      ((linked id).began 100000 ⟨3, 0, 0, r⟩ 0x61 lp).isSome
    let re := (sb.setFld Fld.powerCfg_wakeAct 0 1).setHouse (fun h => { h with values := h.values.set 27 18350 })
    begins ready 0x60 [] = true ∧ begins lk 0x61 lp = true ∧ act .link = true ∧ act .controlPort = true
      ∧ (linked id).link.stage ≠ .disabled ∧ lk.link.stage ≠ .disabled
      ∧ begins ready 0x70 (param 1 1 ++ param 1 0) = true ∧ (work ready 0x70 (param 1 1 ++ param 1 0)).blockTest = false
      ∧ ready.power.move = none ∧ ready.power.mode = .active ∧ begins sb 0x70 (param 1 1 ++ param 1 0) = true
      ∧ sb.power.mode = .standby ∧ begins sb 0x70 (param 1 0 ++ param 1 0) = true
      ∧ begins re 0x70 (param 1 2 ++ param 1 0) = true
      ∧ (work re 0x70 (param 1 2 ++ param 1 0)).retainFails rq0 0 = none
      ∧ begins sb 0x70 (param 1 2 ++ param 1 0) = true
      ∧ (work (sb.setFld Fld.powerCfg_wakeAct 0 0) 0x70 (param 1 2 ++ param 1 0)).retainFails rq0 0 ≠ none
      ∧ begins ready 0x05 [] = true := by decide +kernel

theorem witness_HostTestAndLife :
    let sb := ready.setPower (fun w => { w with mode := .standby })
    let t (x : SelfTestRun) : State := ready.setLife (fun l => { l with test := x })
    let de (n : Nat) : State := ready.setLife (fun l => { l with state := .deployed, failures := n })
    let key := leBytes 32 0 ++ leBytes 32 0
    let g := beBytes 32 p256Gx ++ beBytes 32 p256Gy
    let sr := param 2 0x101 ++ param 1 3
    let off := ready.setFld Fld.cloveCluster_engineEn 0 0
    let sl := (linked id).setPower (fun w => { w with mode := .standby })
    let byLink (f : Nat) : Bool := (sl.began 100000 ⟨3, 0, 0, .link⟩ 0x71 (param 1 f)).isSome
    byLink 0 = true ∧ byLink 1 = true ∧ sl.power.mode = .standby ∧ sl.power.move = none ∧ (sl.elapse 100000).blockTest = false
      ∧ begins sb 0x71 (param 1 1) = true ∧ begins sb 0x71 (param 1 0) = true ∧ sb.power.mode = .standby ∧ sb.power.move = none
      ∧ (work sb 0x71 (param 1 1)).blockTest = false ∧ begins ready 0x72 [] = true ∧ ready.life.test = .none
      ∧ begins (t (.block rq0 1 0 0 0)) 0x72 [] = true ∧ (t (.block rq0 1 0 0 0)).life.test = .block rq0 1 0 0 0
      ∧ begins off 0x73 sr = true ∧ openLife off.life.state = true ∧ off.power.mode = .active
      ∧ blockInstances (0x101 / 256) = some 32 ∧ (work off 0x73 sr).blockFree 1 1 = true
      ∧ begins ready 0x73 sr = true ∧ (work ready 0x73 sr).blockFree 1 1 = false
      ∧ begins (de 4) 0x75 [] = true ∧ (de 4).life.state = .deployed ∧ (de 4).life.failures < 5
      ∧ begins (de 5) 0x75 [] = true ∧ 5 ≤ (de 5).life.failures ∧ begins (de 0) 0x76 (zeros 64) = true
      ∧ begins (staging g) 0x77 (param 1 1) = true ∧ (work (staging g) 0x77 (param 1 1)).blockTest = false
      ∧ (staging g).life.setting = none ∧ (staging g).life.state = .blank
      ∧ onP256 (beNat (((work (staging g) 0x77 (param 1 1)).staged 0 64).take 32))
          (beNat (((work (staging g) 0x77 (param 1 1)).staged 0 64).drop 32)) = true
      ∧ begins (staging key) 0x77 (param 1 1) = true
      ∧ onP256 (beNat (((work (staging key) 0x77 (param 1 1)).staged 0 64).take 32))
          (beNat (((work (staging key) 0x77 (param 1 1)).staged 0 64).drop 32)) = false := by decide +kernel

/-- The parameters of a TI_ARM with a source. -/
def tiBytes (src : Byte) : List Byte :=
  [src, 0, 0, 0, 1, 0, 1, 0] ++ leBytes 4 1000 ++ leBytes 4 0 ++ leBytes 2 10 ++ leBytes 2 0 ++ leBytes 2 1 ++ zeros 2
    ++ leBytes 4 1000

theorem witness_HostCalibration :
    let run := param 1 1 ++ param 2 1
    let b := headed.setFld Fld.calPort_bathFirst 0 1000
    let bath := (b.setFld Fld.calPort_bathLast 0 1015).setFld Fld.seqPort_fibreLen 0 1016
    let deg := param 1 0 ++ param 4 20000
    let armed := ready.setTi (fun t => { t with arm := tiParams (tiBytes 1) })
    begins headed 0x80 run = true ∧ headed.cal.run = none ∧ (work headed 0x80 run).inActive = true
      ∧ (∀ q ∈ maskPorts 1, headed.record q ≠ none) ∧ (work headed 0x80 run).calEstimate 1 1 ≤ 10000 * 1000000
      ∧ (headed.began 100000 ⟨3, 0, 1, .controlPort⟩ 0x80 run).isSome = true ∧ 1 * 1000000 < headed.calEstimate 1 1
      ∧ begins ready 0x81 (param 4 95000) = true ∧ begins ready 0x81 (param 4 94999) = true ∧ ready.cal.run = none
      ∧ begins bath 0x82 deg = true ∧ bath.record 0 = some (zeros 512)
      ∧ bath.fld Fld.calPort_bathFirst 0 + 15 ≤ bath.fld Fld.calPort_bathLast 0
      ∧ bath.fld Fld.calPort_bathLast 0 < bath.fld Fld.seqPort_fibreLen 0
      ∧ 10000 * bath.fld Fld.seqPort_groupIndex 0 ≤ (twiceFromCoil (bath.ramanCoef 0) (bath.fld Fld.calPort_bathFirst 0)
          (bath.fld Fld.calPort_bathLast 0)).natAbs * 14989623
      ∧ (work bath 0x82 deg).calOn .raman 0 = false
      ∧ begins ready 0x90 (tiBytes 0) = true ∧ (tiBytes 0).length = 28 ∧ (tiParams (tiBytes 0)).isSome = true
      ∧ (work ready 0x90 (tiBytes 0)).skewRuns = false ∧ (work ready 0x90 (tiBytes 0)).inActive = true
      ∧ begins ready 0x90 (tiBytes 1) = true ∧ (tiParams (tiBytes 1)).any (fun a => a.src ≠ 0) = true ∧ ready.time.ti.arm = none
      ∧ begins armed 0x90 (tiBytes 1) = true ∧ armed.time.ti.arm ≠ none := by decide +kernel

/-- What a transaction of the control port puts on the data lines: the opcode on one line, then the address and the rest. -/
def spelled (lines : Nat) (code : Byte) (rest : List Byte) : List (BitVec 4) :=
  (byteClocks 1 code ++ rest.flatMap (byteClocks lines)).map (BitVec.ofNat 4)

/-- A write of one word by the single-line write. -/
def wrote (addr : Nat) (v : Word) : List (BitVec 4) := spelled 1 0x02 (beBytes 3 addr ++ leBytes 4 v.toNat)

theorem witness_MailboxWrites :
    let act := linked id
    let cmd := [1, 0, 0, 0, 24, 0, 0, 0] ++ [1, 0, 3, 0] ++ zeros 12
    let stg := [4, 0, 0, 0, 16, 0, 0, 0, 0, 0, 0, 0, 9, 9, 9, 9]
    let fl (code : Nat) (b : Bool) : Flight := ⟨3, 0, .link, code, [], 100, 0, b⟩
    let on (f : Flight) : State := ready.setMbox (fun m => { m with flights := [f] })
    let w : PortOp := ⟨0x02, true, 1, 0, 50⟩
    let q : PortOp := ⟨0x32, true, 4, 0, 100⟩
    let r : PortOp := ⟨0x03, false, 1, 0, 25⟩
    let fat := ready.setMbox (fun m => { m with irq := irqFatal })
    let data (v : Word) : List (BitVec 4) := ((leBytes 4 v.toNat).flatMap (byteClocks 1)).map (BitVec.ofNat 4)
    (∀ a ∈ [0x20, 0x28, 0x4000, 0x7FFC, 0x8000, 0x9FFC], portParse (wrote a 0x12345678) = some (w, a, data 0x12345678) ∧ a % 4 = 0)
      ∧ clockBytes 1 (data 0x12345678) = leBytes 4 0x12345678 ∧ 50000 ≤ 1000 * w.mhz
      ∧ (portParse (spelled 4 0x32 (beBytes 3 0x28 ++ leBytes 4 7))).any (fun x => x.1 = q ∧ x.2.1 = 0x28
          ∧ clockBytes 4 x.2.2 = leBytes 4 7) = true
      ∧ (portParse (spelled 1 0x03 (beBytes 3 0x00 ++ zeros 4))).any (fun x => x.1 = r ∧ x.2.1 = 0) = true
      ∧ portParse (spelled 1 0x05 (zeros 8)) = none ∧ portParse (spelled 1 0x02 (zeros 3)) = none
      ∧ ready.fatal = (ready.setMbox (fun m => { m with irq := m.irq &&& ~~~irqFatal })).fatal
      ∧ fat.fatal ≠ (fat.setMbox (fun m => { m with irq := m.irq &&& ~~~irqFatal })).fatal
      ∧ (ready.elapse 100000).portAnswers = true ∧ 64 ≤ (64 : Word).toNat ∧ (63 : Word).toNat < 64
      ∧ ready.cqUsed < ((1 : Byte) - ready.mbox.cqHead).toNat ∧ ((0 : Byte) - ready.mbox.cqHead).toNat ≤ ready.cqUsed
      ∧ (act.elapse 0).takesMessages = true ∧ messageOk 1 24 (zeros 24) = false ∧ messageOk 1 24 cmd = true
      ∧ u8At (cmd.drop 8) 2 ≤ 63 ∧ messageOk 4 12 stg = true
      ∧ (on (fl 0x20 false)).flightOf 3 = some (fl 0x20 false) ∧ (on (fl 0x22 true)).flightOf 3 = some (fl 0x22 true)
      ∧ (fl 0x20 false).acceptedAt + (fl 0x20 false).timeoutMs * 1000000 ≤ ready.clk + 100000000
      ∧ (fl 0x20 false).started = false ∧ (fl 0x22 true).code ≠ 0x70 := by decide +kernel

/-! ## The whole machine -/

theorem witness_StepRunsFrontCommand : ready.pending = [] := by decide

theorem witness_EveryStepKeepsInv : ready.Inv ∧ step ready = .next ready := by
  refine ⟨⟨?_, ?_⟩, rfl⟩
  · unfold State.memsOk
    decide +kernel
  · unfold State.enginesOk EngineSt.ok
    decide +kernel

theorem witness_CompletionEntry : ready.memsOk ∧ rq0.route = .controlPort ∧ (zeros 240).length ≤ 240 := by
  unfold State.memsOk
  decide +kernel

end Sys2Proof.Tests
end

/-! # The Clove instruction set: lane logic and shuffles, address moves -/

namespace Sys2Proof.Machine

/-! ## How an instruction runs on an engine that fetches its word -/

/-- With no repeat pending, what an engine fetches runs once, on the engine as `ahead` makes it, and retires. -/
theorem cloveOp_of_fetches {s : State} {e : EngineId} {fs : List WordField} (hf : Fetches s e fs)
    (hrc : (s.engine e).rc = 0) {f : EngineSt → Option EngineSt} {y : EngineSt}
    (hy : f (ahead (s.engine e)) = some y) (mayRepeat : Bool) (cycles : Nat) :
    s.cloveOp e fs mayRepeat cycles f = s.setEngine e (fun _ => retire y cycles) := by
  obtain ⟨hclk, hrun, hon, hword, hdef⟩ := hf
  simp [State.cloveOp, State.cloveRun, State.engineRuns, repeatOp, hclk, hrun, hon, hword, hdef, hrc, hy]

/-- An instruction answers the engine after its operation: what holds of that engine holds of the one it runs to. -/
theorem op_runsTo {i : Instr} {s : State} {e : EngineId} {fs : List WordField} {mayRepeat : Bool} {cycles : Nat}
    {f : EngineSt → Option EngineSt} {y : EngineSt} {P : EngineSt → Prop} (hf : Fetches s e fs)
    (hrc : (s.engine e).rc = 0) (hi : exec i s = .next (s.cloveOp e fs mayRepeat cycles f))
    (hy : f (ahead (s.engine e)) = some y) (h : P (retire y cycles)) : ∃ y, RunsTo i s e y ∧ P y :=
  ⟨_, hi.trans (congrArg _ (cloveOp_of_fetches hf hrc hy mayRepeat cycles)), h⟩

/-- The same for an instruction that cannot fault. -/
theorem plain_runsTo {i : Instr} {s : State} {e : EngineId} {fs : List WordField} {cycles : Nat}
    {f : EngineSt → EngineSt} {P : EngineSt → Prop} (hf : Fetches s e fs) (hrc : (s.engine e).rc = 0)
    (hi : exec i s = .next (s.clovePlain e fs cycles f)) (h : P (retire (f (ahead (s.engine e))) cycles)) :
    ∃ y, RunsTo i s e y ∧ P y :=
  op_runsTo hf hrc hi rfl h

/-! ## What flags, PC and cycles do not touch -/

section
variable {x y : EngineSt}

theorem OnlyV.setFlag {d : VReg} (h : OnlyV x y d) (i : Nat) (b : Bool) : OnlyV x (setFlag y i b) d := h
theorem OnlyV.retire {d : VReg} (h : OnlyV x y d) (n : Nat) : OnlyV x (retire y n) d := h
theorem OnlyA.setFlag (h : OnlyA x y) (i : Nat) (b : Bool) : OnlyA x (setFlag y i b) := h
theorem OnlyA.retire (h : OnlyA x y) (n : Nat) : OnlyA x (retire y n) := h

@[simp] theorem ahead_pc (x : EngineSt) : (ahead x).pc = x.pc := rfl
@[simp] theorem ahead_cycles (x : EngineSt) : (ahead x).cycles = x.cycles := rfl

/-- What left PC, its mark and the cycles as `ahead` made them has advanced when it retires. -/
theorem advanced_retire (hpc : y.pc = x.pc) (hbeyond : y.beyond = (ahead x).beyond) (hcycles : y.cycles = x.cycles)
    (n : Nat) : Advanced x (retire y n) n :=
  ⟨congrArg (· + 4) hpc, hbeyond, congrArg (· + n) hcycles, rfl⟩

end

/-! ## Vector registers: what a write changes and what it leaves -/

section
variable (x : EngineSt) (d : VReg) (u : Vec)

theorem mkVec_lane (f : Lane → BitVec 16) (l : Lane) : (mkVec f)[l] = f l := by
  match l with
  | 0 | 1 | 2 | 3 | 4 | 5 | 6 | 7 => rfl

theorem setV_v_same : (setV x d u).v[d] = u := by simp [setV]

theorem setV_v_other {r : VReg} (h : r ≠ d) : (setV x d u).v[r] = x.v[r] := by
  simp [setV, Fin.val_ne_of_ne (Ne.symm h)]

theorem onlyV_setV : OnlyV x (setV (ahead x) d u) d :=
  ⟨fun _ h => setV_v_other (ahead x) d u h, rfl, rfl, ⟨rfl, rfl, rfl, rfl⟩, ⟨rfl, rfl⟩,
    ⟨rfl, rfl, rfl, rfl, rfl, rfl, rfl⟩⟩

end

/-! ## Instructions that write one vector register -/

/-- An instruction that writes the lanes of one vector register and keeps FLG. -/
theorem plain_writes_lanes {i : Instr} {s : State} {e : EngineId} {fs : List WordField} {d : VReg}
    {u : EngineSt → Vec} {f : Lane → BitVec 16} (hf : Fetches s e fs) (hrc : (s.engine e).rc = 0)
    (hi : exec i s = .next (s.clovePlain e fs 1 (fun x => setV x d (u x))))
    (hu : ∀ l : Lane, (u (ahead (s.engine e)))[l] = f l) :
    ∃ y, RunsTo i s e y ∧ (∀ l : Lane, y.v[d][l] = f l) ∧ y.flg = (s.engine e).flg ∧ OnlyV (s.engine e) y d
      ∧ Advanced (s.engine e) y 1 := by
  refine plain_runsTo hf hrc hi ⟨fun l => ?_, rfl, (onlyV_setV _ d _).retire 1, advanced_retire rfl rfl rfl 1⟩
  have hv : (setV (ahead (s.engine e)) d (u (ahead (s.engine e)))).v[d][l] = f l := by rw [setV_v_same, hu]
  exact hv

theorem lane_neg_iff_msb (x : EngineSt) (v : VReg) (l : Lane) : lane x v l < 0 ↔ (x.v[v][l]).msb = true := by
  simp [lane, BitVec.msb_eq_toInt]

/-- One truth for some lane, told lane by lane. -/
theorem any_lane_iff (p : Lane → Bool) :
    (p 0 || p 1 || p 2 || p 3 || p 4 || p 5 || p 6 || p 7) = true ↔ ∃ l : Lane, p l = true := by
  simp [Fin.exists_fin_succ, or_assoc]

/-- R231: VCMPGT sets ANY where some lane compared and clears it otherwise. -/
theorem opVcmpgt_flg (x : EngineSt) (d a b : VReg) :
    (opVcmpgt x d a b).flg
      = if ∃ l : Lane, lane x b l < lane x a l then x.flg ||| 0x80 else x.flg &&& 0xFF7F := by
  have hany := any_lane_iff (fun l => decide (lane x b l < lane x a l))
  simp only [decide_eq_true_eq] at hany
  exact ite_congr (propext hany) (fun _ => rfl) (fun _ => rfl)

theorem opVcmpgt_lane (x : EngineSt) (d a b : VReg) (l : Lane) :
    (opVcmpgt x d a b).v[d][l] = if lane x b l < lane x a l then 0xFFFF else 0 := by
  have hv : (opVcmpgt x d a b).v[d]
      = mkVec (fun i => if decide (lane x b i < lane x a i) = true then 0xFFFF else 0) := setV_v_same x d _
  rw [hv, mkVec_lane]
  simp only [decide_eq_true_eq]

/-- The shuffle patterns table of R232, row by row. -/
def shuffleTable : Vector (Vector (Fin 16) 8) 4 :=
  #v[#v[0, 8, 1, 9, 2, 10, 3, 11], #v[4, 12, 5, 13, 6, 14, 7, 15], #v[0, 1, 8, 9, 2, 3, 10, 11],
     #v[4, 5, 12, 13, 6, 7, 14, 15]]

theorem shufIndex_eq_table : ∀ (p : Fin 4) (l : Lane), (shufIndex p).getD l.val 0 = (shuffleTable[p][l]).val := by
  decide

theorem toList_getD (u : Vec) {n : Nat} (h : n < 8) : u.toList.getD n 0 = u[n] := by simp [h]

/-- W[0..15] of R232: the lanes of the first vector, then those of the second. -/
theorem joined_getD (a b : Vec) (n : Fin 16) :
    (a.toList ++ b.toList).getD n.val 0 = if h : n.val < 8 then a[n.val] else b[n.val - 8] := by
  have hlen : a.toList.length = 8 := Vector.length_toList
  split
  case isTrue h =>
    rw [List.getD_eq_getElem?_getD, List.getElem?_append_left (by omega), ← List.getD_eq_getElem?_getD, toList_getD a h]
  case isFalse h =>
    rw [List.getD_eq_getElem?_getD, List.getElem?_append_right (by omega), ← List.getD_eq_getElem?_getD, hlen,
      toList_getD b (by omega)]

theorem opVshuf_lane (x : EngineSt) (d a b : VReg) (p : Fin 4) (l : Lane) :
    (opVshuf x d a b p).v[d][l]
      = let n := shuffleTable[p][l]; if h : n.val < 8 then x.v[a][n.val] else x.v[b][n.val - 8] := by
  have hv : (opVshuf x d a b p).v[d]
      = mkVec (fun i => (x.v[a].toList ++ x.v[b].toList).getD ((shufIndex p).getD i.val 0) 0) := setV_v_same x d _
  rw [hv, mkVec_lane, shufIndex_eq_table, joined_getD]

/-- Settles O2: each instruction writes the lanes of Vd alone; VCMPGT also gives ANY. -/
theorem cloveLaneLogicAndShuffles : Obligations.CloveLaneLogicAndShuffles := by
  intro s e d a b imm p hrc
  refine ⟨fun hf => ?vand, fun hf => ?vor, fun hf => ?vxor, fun hf => ?vcmpgt, fun hf => ?vsel, fun hf => ?vmov,
    fun hf => ?vsplat, fun hf => ?vshuf⟩
  case vand | vor | vxor | vsplat => exact plain_writes_lanes hf hrc rfl (mkVec_lane _)
  case vcmpgt =>
    exact plain_runsTo hf hrc rfl ⟨opVcmpgt_lane (ahead _) d a b, opVcmpgt_flg (ahead _) d a b,
      OnlyV.retire (OnlyV.setFlag (onlyV_setV _ d _) _ _) 1, advanced_retire rfl rfl rfl 1⟩
  case vsel =>
    refine plain_writes_lanes hf hrc rfl fun l => ?_
    rw [mkVec_lane]
    exact ite_congr (propext (lane_neg_iff_msb _ d l).symm) (fun _ => rfl) (fun _ => rfl)
  case vmov => exact plain_writes_lanes hf hrc rfl fun _ => rfl
  case vshuf =>
    exact plain_runsTo hf hrc rfl ⟨opVshuf_lane (ahead _) d a b p, rfl, OnlyV.retire (onlyV_setV _ d _) 1,
      advanced_retire rfl rfl rfl 1⟩

/-! ## Address registers: what a write changes and what it leaves -/

section
variable (x : EngineSt) (sel : Fin 4) (k : AReg) (r : BitVec 18)

theorem getSel_setSel_same : getSel (setSel x sel k r) sel k = r := by
  match sel with
  | 0 | 1 | 2 | 3 => exact Vector.getElem_set_self k.isLt

theorem getSel_setSel_other {t : Fin 4} {n : AReg} (h : t ≠ sel ∨ n ≠ k) :
    getSel (setSel x sel k r) t n = getSel x t n := by
  by_cases ht : t = sel
  · subst ht
    have hn : k.val ≠ n.val := Fin.val_ne_of_ne (Ne.symm (h.resolve_left (fun hne => hne rfl)))
    match t with
    | 0 | 1 | 2 | 3 => exact Vector.getElem_set_ne k.isLt n.isLt hn
  · match sel, t with
    | 0, 0 | 1, 1 | 2, 2 | 3, 3 => exact absurd rfl ht
    | 0, 1 | 0, 2 | 0, 3 | 1, 0 | 1, 2 | 1, 3 | 2, 0 | 2, 1 | 2, 3 | 3, 0 | 3, 1 | 3, 2 => rfl

theorem onlyA_setSel : OnlyA x (setSel (ahead x) sel k r) := by
  unfold setSel
  split <;> exact ⟨rfl, rfl, ⟨rfl, rfl⟩, ⟨rfl, rfl, rfl, rfl, rfl, rfl, rfl⟩⟩

@[simp] theorem setSel_flg : (setSel x sel k r).flg = x.flg := by
  match sel with
  | 0 | 1 | 2 | 3 => rfl
@[simp] theorem setSel_bexp : (setSel x sel k r).bexp = x.bexp := by
  match sel with
  | 0 | 1 | 2 | 3 => rfl
@[simp] theorem setSel_pc : (setSel x sel k r).pc = x.pc := by
  match sel with
  | 0 | 1 | 2 | 3 => rfl
@[simp] theorem setSel_beyond : (setSel x sel k r).beyond = x.beyond := by
  match sel with
  | 0 | 1 | 2 | 3 => rfl
@[simp] theorem setSel_cycles : (setSel x sel k r).cycles = x.cycles := by
  match sel with
  | 0 | 1 | 2 | 3 => rfl

end

/-- One address-side register holds a value and every other one what it held. -/
def HoldsOnly (x y : EngineSt) (k : AReg) (sel : Fin 4) (r : BitVec 18) : Prop :=
  getSel y sel k = r ∧ ∀ (t : Fin 4) (n : AReg), (t ≠ sel ∨ n ≠ k) → getSel y t n = getSel x t n

theorem holdsOnly_setSel (x : EngineSt) (sel : Fin 4) (k : AReg) (r : BitVec 18) :
    HoldsOnly x (setSel (ahead x) sel k r) k sel r :=
  ⟨getSel_setSel_same (ahead x) sel k r, fun _ _ h => getSel_setSel_other (ahead x) sel k r h⟩

theorem HoldsOnly.setFlag {x y : EngineSt} {k : AReg} {sel : Fin 4} {r : BitVec 18} (h : HoldsOnly x y k sel r) (i : Nat)
    (b : Bool) : HoldsOnly x (setFlag y i b) k sel r := h
theorem HoldsOnly.retire {x y : EngineSt} {k : AReg} {sel : Fin 4} {r : BitVec 18} (h : HoldsOnly x y k sel r) (n : Nat) :
    HoldsOnly x (retire y n) k sel r := h

/-! ## Flags of address arithmetic (R225) -/

section
variable (x : EngineSt) (i : Nat) (b : Bool)

@[simp] theorem setFlag_bexp : (setFlag x i b).bexp = x.bexp := rfl
@[simp] theorem setFlag_pc : (setFlag x i b).pc = x.pc := rfl
@[simp] theorem setFlag_beyond : (setFlag x i b).beyond = x.beyond := rfl
@[simp] theorem setFlag_cycles : (setFlag x i b).cycles = x.cycles := rfl

end

theorem setFlag_getLsbD (x : EngineSt) {i : Nat} (hi : i < 16) (b : Bool) (j : Nat) :
    (setFlag x i b).flg.getLsbD j = if j = i then b else x.flg.getLsbD j := by
  unfold setFlag
  rcases Nat.lt_or_ge j 16 with hj | hj
  · by_cases h : j = i
    · cases b <;> simp [h, hi]
    · have hsub : ¬ (i ≤ j ∧ j - i = 0) := by omega
      cases b <;> simp [h, hj] <;> omega
  · have h : j ≠ i := by omega
    simp [h, BitVec.getLsbD_of_ge, hj]

/-- Z, N, C and V are those of a result, every other bit of FLG is what it was. -/
def HasAddrFlags (flg : BitVec 16) (r : BitVec 18) (c v : Bool) (f : BitVec 16) : Prop :=
  f.getLsbD 0 = decide (r = 0) ∧ f.getLsbD 1 = r.msb ∧ f.getLsbD 2 = c ∧ f.getLsbD 3 = v
    ∧ ∀ i : Nat, 4 ≤ i → f.getLsbD i = flg.getLsbD i

theorem addrFlags_hasAddrFlags (x : EngineSt) (r : BitVec 18) (c v : Bool) :
    HasAddrFlags x.flg r c v (addrFlags x r c v).flg := by
  have hbit (j : Nat) : (addrFlags x r c v).flg.getLsbD j
      = if j = 3 then v else if j = 2 then c else if j = 1 then r.msb else if j = 0 then decide (r = 0)
        else x.flg.getLsbD j := by
    simp only [addrFlags, flgZ, flgN, flgC, flgV, setFlag_getLsbD _ (show 0 < 16 by decide),
      setFlag_getLsbD _ (show 1 < 16 by decide), setFlag_getLsbD _ (show 2 < 16 by decide),
      setFlag_getLsbD _ (show 3 < 16 by decide)]
  refine ⟨hbit 0, hbit 1, hbit 2, hbit 3, fun i hi => ?_⟩
  rw [hbit, if_neg (by omega), if_neg (by omega), if_neg (by omega), if_neg (by omega)]

/-- V of address arithmetic: an 18-bit result differs from the exact one where that leaves the signed range. -/
theorem ne_bmod_iff (z : Int) : z ≠ z.bmod 262144 ↔ z < -131072 ∨ 131071 < z := by
  rw [Int.bmod_def]
  split <;> omega

/-- R229: ADDA's V. -/
theorem add_overflow_iff (a b : BitVec 18) :
    a.toInt + b.toInt ≠ (a + b).toInt ↔ a.toInt + b.toInt < -131072 ∨ 131071 < a.toInt + b.toInt := by
  rw [BitVec.toInt_add]
  exact ne_bmod_iff _

/-- R229: CMPA's V. -/
theorem sub_overflow_iff (a b : BitVec 18) :
    a.toInt - b.toInt ≠ (a - b).toInt ↔ a.toInt - b.toInt < -131072 ∨ 131071 < a.toInt - b.toInt := by
  rw [BitVec.toInt_sub]
  exact ne_bmod_iff _

/-! ## Address and move instructions -/

/-- An instruction that writes one address-side register and keeps FLG and BEXP. -/
theorem plain_writes_sel {i : Instr} {s : State} {e : EngineId} {fs : List WordField} {sel : Fin 4} {k : AReg}
    {f : EngineSt → EngineSt} {r : BitVec 18} (hf : Fetches s e fs) (hrc : (s.engine e).rc = 0)
    (hi : exec i s = .next (s.clovePlain e fs 1 f))
    (hset : f (ahead (s.engine e)) = setSel (ahead (s.engine e)) sel k r) :
    ∃ y, RunsTo i s e y ∧ HoldsOnly (s.engine e) y k sel r ∧ y.flg = (s.engine e).flg ∧ y.bexp = (s.engine e).bexp
      ∧ OnlyA (s.engine e) y ∧ Advanced (s.engine e) y 1 := by
  refine plain_runsTo hf hrc hi ?_
  rw [hset]
  exact ⟨(holdsOnly_setSel _ sel k r).retire 1, setSel_flg .., setSel_bexp .., (onlyA_setSel _ sel k r).retire 1,
    advanced_retire (setSel_pc ..) (setSel_beyond ..) (setSel_cycles ..) 1⟩

section
variable {x y : EngineSt} (res : BitVec 18) (c v : Bool)

theorem HoldsOnly.addrFlags {k : AReg} {sel : Fin 4} {r : BitVec 18} (h : HoldsOnly x y k sel r) :
    HoldsOnly x (addrFlags y res c v) k sel r :=
  HoldsOnly.setFlag (HoldsOnly.setFlag (HoldsOnly.setFlag (HoldsOnly.setFlag h _ _) _ _) _ _) _ _

theorem OnlyA.addrFlags (h : OnlyA x y) : OnlyA x (addrFlags y res c v) :=
  OnlyA.setFlag (OnlyA.setFlag (OnlyA.setFlag (OnlyA.setFlag h _ _) _ _) _ _) _ _

@[simp] theorem addrFlags_bexp : (addrFlags y res c v).bexp = y.bexp := by simp [addrFlags]
@[simp] theorem addrFlags_pc : (addrFlags y res c v).pc = y.pc := by simp [addrFlags]
@[simp] theorem addrFlags_beyond : (addrFlags y res c v).beyond = y.beyond := by simp [addrFlags]
@[simp] theorem addrFlags_cycles : (addrFlags y res c v).cycles = y.cycles := by simp [addrFlags]

end

/-- ADDA and CMPA write ARk, which CMPA gives the value it holds, and set Z, N, C and V of a result. -/
theorem plain_writes_ar_and_flags {i : Instr} {s : State} {e : EngineId} {fs : List WordField} {k : AReg}
    {f : EngineSt → EngineSt} {r res : BitVec 18} {c v : Bool} (hf : Fetches s e fs) (hrc : (s.engine e).rc = 0)
    (hi : exec i s = .next (s.clovePlain e fs 1 f))
    (hset : f (ahead (s.engine e)) = addrFlags (setSel (ahead (s.engine e)) 0 k r) res c v) :
    ∃ y, RunsTo i s e y ∧ HoldsOnly (s.engine e) y k 0 r ∧ HasAddrFlags (s.engine e).flg res c v y.flg
      ∧ y.bexp = (s.engine e).bexp ∧ OnlyA (s.engine e) y ∧ Advanced (s.engine e) y 1 := by
  refine plain_runsTo hf hrc hi ?_
  rw [hset]
  refine ⟨((holdsOnly_setSel _ 0 k r).addrFlags res c v).retire 1,
    addrFlags_hasAddrFlags (setSel (ahead (s.engine e)) 0 k r) res c v, ?_,
    ((onlyA_setSel _ 0 k r).addrFlags res c v).retire 1, advanced_retire ?_ ?_ ?_ 1⟩
  · exact (addrFlags_bexp res c v).trans (setSel_bexp ..)
  all_goals simp

theorem opAdda_eq (x : EngineSt) (k : AReg) (imm : BitVec 18) :
    opAdda x k imm = addrFlags (setSel x 0 k (x.ar[k] + imm)) (x.ar[k] + imm)
      (decide (262144 ≤ x.ar[k].toNat + imm.toNat))
      (decide (x.ar[k].toInt + imm.toInt < -131072 ∨ 131071 < x.ar[k].toInt + imm.toInt)) :=
  congrArg (addrFlags _ _ _) (decide_eq_decide.mpr (add_overflow_iff _ _))

theorem setSel_ar_self (x : EngineSt) (k : AReg) : setSel x 0 k x.ar[k] = x := by
  simp [setSel]

theorem opCmpa_eq (x : EngineSt) (k : AReg) (imm : BitVec 18) :
    opCmpa x k imm = addrFlags (setSel x 0 k x.ar[k]) (x.ar[k] - imm) (decide (x.ar[k].toNat < imm.toNat))
      (decide (x.ar[k].toInt - imm.toInt < -131072 ∨ 131071 < x.ar[k].toInt - imm.toInt)) := by
  rw [setSel_ar_self]
  exact congrArg (addrFlags _ _ _) (decide_eq_decide.mpr (sub_overflow_iff _ _))

/-- GETS reads FLG, BEXP or RC. -/
theorem opGets_eq_setSel (x : EngineSt) (k : AReg) (w : Fin 3) :
    opGets x k w
      = setSel x 0 k (BitVec.ofNat 18 (if w = 0 then x.flg.toNat else if w = 1 then x.bexp.toNat else x.rc.toNat)) := by
  match w with
  | 0 => exact congrArg (setAr x k) (BitVec.ofNat_toNat 18 x.flg).symm
  | 1 => exact congrArg (setAr x k) (BitVec.ofNat_toNat 18 x.bexp).symm
  | 2 => exact congrArg (setAr x k) (BitVec.ofNat_toNat 18 x.rc).symm

/-- R229: PUTS gives FLG the value ARk[7:0], or BEXP the value min(ARk, 24), and changes nothing else. -/
theorem opPuts_eq (x : EngineSt) (w : Fin 2) (k : AReg) :
    ∃ (f : BitVec 16) (n : BitVec 5), opPuts x w k = { x with flg := f, bexp := n }
      ∧ (w = 0 → f.toNat = x.ar[k].toNat % 256 ∧ n = x.bexp)
      ∧ (w = 1 → n.toNat = min x.ar[k].toNat 24 ∧ f = x.flg) := by
  match w with
  | 0 =>
    have hlt : x.ar[k].toNat % 256 < 65536 := by omega
    exact ⟨(x.ar[k].extractLsb' 0 8).setWidth 16, x.bexp, rfl, fun _ => ⟨by simpa using hlt, rfl⟩, nofun⟩
  | 1 =>
    have hlt : min x.ar[k].toNat 24 < 32 := by omega
    exact ⟨x.flg, BitVec.ofNat 5 (min x.ar[k].toNat 24), rfl, nofun, fun _ => ⟨Nat.mod_eq_of_lt hlt, rfl⟩⟩

/-- What leaves the four address-side registers leaves each of them. -/
theorem holdsOnly_of_sameAddrs {x y : EngineSt} (h : SameAddrs x y) (k : AReg) : HoldsOnly x y k 0 x.ar[k] := by
  obtain ⟨har, hof, hcs, hcl⟩ := h
  refine ⟨by simp [getSel, har], fun t n _ => ?_⟩
  simp only [getSel, har, hof, hcs, hcl]

/-- R229: MVAL puts the low 16 bits of ARk into one lane and leaves the others. -/
theorem setV_one_lane (x : EngineSt) (a : VReg) (l : Lane) (r : BitVec 16) :
    (setV x a (x.v[a].set l.val r l.isLt)).v[a][l] = r
      ∧ ∀ i : Lane, i ≠ l → (setV x a (x.v[a].set l.val r l.isLt)).v[a][i] = x.v[a][i] := by
  rw [setV_v_same]
  exact ⟨by simp, fun i hi => by simp [Fin.val_ne_of_ne (Ne.symm hi)]⟩

/-- Settles O8: LDI, MOVA, GETS and MVLA write one address-side register, ADDA and CMPA set the flags as well, PUTS writes
FLG or BEXP, MVAL one lane. -/
theorem cloveAddressMoves : Obligations.CloveAddressMoves := by
  intro s e k j sel src imm a l hrc
  refine ⟨fun hf => ?ldi, fun hf => ?adda, fun hf => ?cmpa, fun hf => ?mova, fun w hf => ?gets, fun w hf => ?puts,
    fun hf => ?mvla, fun hf => ?mval⟩
  case ldi | mova | mvla => exact plain_writes_sel hf hrc rfl rfl
  case adda => exact plain_writes_ar_and_flags hf hrc rfl (opAdda_eq (ahead _) k imm)
  case cmpa => exact plain_writes_ar_and_flags hf hrc rfl (opCmpa_eq (ahead _) k imm)
  case gets =>
    refine plain_writes_sel hf hrc rfl ((opGets_eq_setSel _ k w).trans ?_)
    rw [show (ahead (s.engine e)).rc = 0 from hrc]
    rfl
  case puts =>
    obtain ⟨f, n, hputs, hflg, hbexp⟩ := opPuts_eq (ahead (s.engine e)) w k
    refine plain_runsTo hf hrc rfl ?_
    rw [hputs]
    exact ⟨holdsOnly_of_sameAddrs ⟨rfl, rfl, rfl, rfl⟩ k, ⟨rfl, rfl, ⟨rfl, rfl⟩, ⟨rfl, rfl, rfl, rfl, rfl, rfl, rfl⟩⟩,
      advanced_retire rfl rfl rfl 1, hflg, hbexp⟩
  case mval =>
    obtain ⟨hlane, hothers⟩ := setV_one_lane (ahead (s.engine e)) a l ((s.engine e).ar[k].setWidth 16)
    exact plain_runsTo hf hrc rfl ⟨(congrArg BitVec.toNat hlane).trans (BitVec.toNat_setWidth _ _), hothers, rfl,
      (onlyV_setV _ a _).retire 1, advanced_retire rfl rfl rfl 1⟩

end Sys2Proof.Machine

/-! # The Clove instruction set: the butterfly -/

namespace Sys2Proof.Machine

/-! ## Saturated lanes (R227) -/

theorem sat16_range (z : Int) : -32768 ≤ sat16 z ∧ sat16 z ≤ 32767 := by
  unfold sat16 clampInt
  split
  · omega
  · split <;> omega

theorem sat16_eq_self_iff (z : Int) : sat16 z = z ↔ -32768 ≤ z ∧ z ≤ 32767 := by
  unfold sat16 clampInt
  split
  · omega
  · split <;> omega

theorem fits16_eq_false_iff (z : Int) : fits16 z = false ↔ sat16 z ≠ z := by
  rw [Ne, sat16_eq_self_iff, fits16, Bool.and_eq_false_iff, decide_eq_false_iff_not, decide_eq_false_iff_not]
  omega

theorem toInt_ofInt_sat16 (z : Int) : (BitVec.ofInt 16 (sat16 z)).toInt = sat16 z := by
  obtain ⟨hlo, hhi⟩ := sat16_range z
  exact BitVec.toInt_ofInt_eq_self (by decide) (by omega) (by omega)

theorem laneMap_lane (f : Lane → Int) (l : Lane) : ((laneMap f).1[l]).toInt = sat16 (f l) := by
  rw [laneMap, mkVec_lane, toInt_ofInt_sat16]

theorem laneMap_saturates_iff (f : Lane → Int) : (laneMap f).2 = true ↔ ∃ l : Lane, sat16 (f l) ≠ f l := by
  rw [← exists_congr (fun l => fits16_eq_false_iff (f l))]
  simp [laneMap, Fin.exists_fin_succ, or_assoc]

/-- A sticky flag changes FLG alone. -/
theorem stick_eq (x : EngineSt) (i : Nat) (b : Bool) : stick x i b = { x with flg := stuckFlag x.flg i (b = true) } := by
  cases b <;> rfl

/-! ## Pointers -/

/-- Post-modification reads the address-side registers alone. -/
theorem postMod_ar_congr {x y : EngineSt} (h : SameAddrs x y) (k : AReg) : (postMod y k).ar = (postMod x k).ar := by
  obtain ⟨har, hof, hcs, hcl⟩ := h
  simp only [postMod, setAr, circular, har, hof, hcs, hcl]

theorem even_of_parts {x : EngineSt} {ea : Ea} {n : Nat} (h : ∀ i : Nat, i < n → ea.part x 2 i % 2 = 0) :
    ea.even x n = true := by
  simpa [Ea.even, evenAddr] using h

theorem loadVec_getD (x : EngineSt) (ea : Ea) {i : Nat} (h : i < 8) :
    (loadVec x ea 0).toList.getD i 0 = delem x (ea.part x 2 i) := by
  rw [toList_getD _ h]
  exact (mkVec_lane _ ⟨i, h⟩).trans (by rw [Nat.zero_add])

/-! ## The butterfly (R235) -/

/-- Component `i` of a vector: real parts stand in the even lanes, imaginary parts in the odd ones. -/
def component (u : Vec) (i : Nat) : Int := (u.toList.getD i 0).toInt

/-- tr and ti of the butterfly rule before they saturate. -/
def turnedRe (b w : Vec) (m : Nat) : Int :=
  rnd (component b (2 * m) * component w (2 * m) - component b (2 * m + 1) * component w (2 * m + 1)) 15
def turnedIm (b w : Vec) (m : Nat) : Int :=
  rnd (component b (2 * m) * component w (2 * m + 1) + component b (2 * m + 1) * component w (2 * m)) 15

/-- tr in the even lanes and ti in the odd ones, saturated. -/
def turned (b w : Vec) (l : Lane) : Int :=
  if l.val % 2 = 0 then sat16 (turnedRe b w (l.val / 2)) else sat16 (turnedIm b w (l.val / 2))

def flySum (a b w : Vec) (l : Lane) : Int := ((a[l]).toInt + turned b w l + 1) / 2
def flyDif (a b w : Vec) (l : Lane) : Int := ((a[l]).toInt - turned b w l + 1) / 2

/-- Some tr, ti or difference saturates. -/
def flySaturates (a b w : Vec) : Bool :=
  [0, 1, 2, 3].any (fun m => !fits16 (turnedRe b w m) || !fits16 (turnedIm b w m)) || (laneMap (flyDif a b w)).2

theorem opVbfly_eq {x : EngineSt} {k : AReg} (h : (Ea.post k).even x 8 = true) (va vb : VReg) :
    opVbfly x va vb k
      = let w := loadVec x (.post k) 0
        some (postMod (stick (setV (setV x va (laneMap (flySum x.v[va] x.v[vb] w)).1) vb
          (laneMap (flyDif x.v[va] x.v[vb] w)).1) flgSat (flySaturates x.v[va] x.v[vb] w)) k) :=
  if_pos h

/-- The lanes of the real and of the imaginary part of complex lane `m`. -/
def reLane (m : Fin 4) : Lane := ⟨2 * m.val, by omega⟩
def imLane (m : Fin 4) : Lane := ⟨2 * m.val + 1, by omega⟩

theorem exists_lane_iff (p : Lane → Prop) : (∃ l : Lane, p l) ↔ ∃ m : Fin 4, p (reLane m) ∨ p (imLane m) := by
  constructor
  · rintro ⟨l, hl⟩
    refine ⟨⟨l.val / 2, by omega⟩, ?_⟩
    rcases Nat.mod_two_eq_zero_or_one l.val with h | h
    · exact .inl (by rwa [show reLane ⟨l.val / 2, _⟩ = l from Fin.ext (by simp only [reLane]; omega)])
    · exact .inr (by rwa [show imLane ⟨l.val / 2, _⟩ = l from Fin.ext (by simp only [imLane]; omega)])
  · rintro ⟨m, hm | hm⟩
    · exact ⟨_, hm⟩
    · exact ⟨_, hm⟩

section
variable (a b w : Vec) (m : Fin 4)

theorem turned_reLane : turned b w (reLane m) = sat16 (turnedRe b w m.val) := by
  simp [turned, reLane]

theorem turned_imLane : turned b w (imLane m) = sat16 (turnedIm b w m.val) := by
  have hodd : ¬ (2 * m.val + 1) % 2 = 0 := by omega
  have hhalf : (2 * m.val + 1) / 2 = m.val := by omega
  simp only [turned, imLane, if_neg hodd, hhalf]

theorem component_reLane : component a (2 * m.val) = (a[reLane m]).toInt := congrArg _ (toList_getD a (reLane m).isLt)
theorem component_imLane : component a (2 * m.val + 1) = (a[imLane m]).toInt := congrArg _ (toList_getD a (imLane m).isLt)

theorem flySum_reLane :
    flySum a b w (reLane m) = (component a (2 * m.val) + sat16 (turnedRe b w m.val) + 1) / 2 := by
  rw [flySum, turned_reLane, component_reLane]
theorem flySum_imLane :
    flySum a b w (imLane m) = (component a (2 * m.val + 1) + sat16 (turnedIm b w m.val) + 1) / 2 := by
  rw [flySum, turned_imLane, component_imLane]
theorem flyDif_reLane :
    flyDif a b w (reLane m) = (component a (2 * m.val) - sat16 (turnedRe b w m.val) + 1) / 2 := by
  rw [flyDif, turned_reLane, component_reLane]
theorem flyDif_imLane :
    flyDif a b w (imLane m) = (component a (2 * m.val + 1) - sat16 (turnedIm b w m.val) + 1) / 2 := by
  rw [flyDif, turned_imLane, component_imLane]

theorem component_laneMap_re (f : Lane → Int) : component (laneMap f).1 (2 * m.val) = sat16 (f (reLane m)) := by
  rw [component_reLane, laneMap_lane]
theorem component_laneMap_im (f : Lane → Int) : component (laneMap f).1 (2 * m.val + 1) = sat16 (f (imLane m)) := by
  rw [component_imLane, laneMap_lane]

/-- A sum never saturates (R235). -/
theorem sat16_flySum (l : Lane) : sat16 (flySum a b w l) = flySum a b w l := by
  have ht : -32768 ≤ turned b w l ∧ turned b w l ≤ 32767 := by
    unfold turned
    split <;> exact sat16_range _
  have hlo := BitVec.le_toInt (a[l])
  have hhi := BitVec.toInt_lt (x := a[l])
  rw [sat16_eq_self_iff, flySum]
  omega

end

/-- SAT of the butterfly: some tr, ti or difference saturates. -/
theorem flySaturates_iff (a b w : Vec) :
    flySaturates a b w = true ↔ ∃ m : Fin 4, sat16 (turnedRe b w m.val) ≠ turnedRe b w m.val
      ∨ sat16 (turnedIm b w m.val) ≠ turnedIm b w m.val
      ∨ sat16 (flyDif a b w (reLane m)) ≠ flyDif a b w (reLane m)
      ∨ sat16 (flyDif a b w (imLane m)) ≠ flyDif a b w (imLane m) := by
  have hturned : [0, 1, 2, 3].any (fun m => !fits16 (turnedRe b w m) || !fits16 (turnedIm b w m)) = true
      ↔ ∃ m : Fin 4, fits16 (turnedRe b w m.val) = false ∨ fits16 (turnedIm b w m.val) = false := by
    simp [Fin.exists_fin_succ]
  rw [flySaturates, Bool.or_eq_true, hturned, laneMap_saturates_iff, exists_lane_iff, ← exists_or]
  simp only [fits16_eq_false_iff, or_assoc]

/-- The engine after a butterfly with the two results `u` and `v`. -/
def flown (x : EngineSt) (va vb : VReg) (k : AReg) (u v : Vec) (sat : Bool) : EngineSt :=
  retire (postMod (stick (setV (setV (ahead x) va u) vb v) flgSat sat) k) 2

section
variable (x : EngineSt) (va vb : VReg) (k : AReg) (u v : Vec) (sat : Bool)

theorem flown_v : (flown x va vb k u v sat).v = (setV (setV (ahead x) va u) vb v).v := by
  rw [flown, stick_eq]
  rfl

/-- R221: the result listed last is kept where Va and Vb are one register. -/
theorem flown_v_second : (flown x va vb k u v sat).v[vb] = v := by
  simp only [flown_v, setV_v_same]

theorem flown_v_first (h : va ≠ vb) : (flown x va vb k u v sat).v[va] = u := by
  simp only [flown_v, setV_v_other _ _ _ h, setV_v_same]

theorem flown_v_other {r : VReg} (ha : r ≠ va) (hb : r ≠ vb) : (flown x va vb k u v sat).v[r] = x.v[r] := by
  simp only [flown_v, setV_v_other _ _ _ hb, setV_v_other _ _ _ ha]
  rfl

theorem flown_flg : (flown x va vb k u v sat).flg = stuckFlag x.flg 4 (sat = true) := by
  rw [flown, stick_eq]
  rfl

/-- Beside the two results, FLG, PC and cycles, a butterfly changes its pointer alone. -/
theorem flown_frame :
    (flown x va vb k u v sat).ar = (postMod x k).ar ∧ (flown x va vb k u v sat).of = x.of
      ∧ (flown x va vb k u v sat).cs = x.cs ∧ (flown x va vb k u v sat).cl = x.cl ∧ (flown x va vb k u v sat).acc = x.acc
      ∧ (flown x va vb k u v sat).bexp = x.bexp ∧ SameMems x (flown x va vb k u v sat)
      ∧ SamePlace x (flown x va vb k u v sat) ∧ Advanced x (flown x va vb k u v sat) 2 := by
  rw [flown, stick_eq]
  exact ⟨postMod_ar_congr ⟨rfl, rfl, rfl, rfl⟩ k, rfl, rfl, rfl, rfl, rfl, ⟨rfl, rfl⟩,
    ⟨rfl, rfl, rfl, rfl, rfl, rfl, rfl⟩, advanced_retire rfl rfl rfl 2⟩

end

/-- The twiddle that VBFLY reads, component by component. -/
theorem component_twiddle (x : EngineSt) (k : AReg) {i : Nat} (hi : i < 8) :
    component (loadVec (ahead x) (.post k) 0) i = (delem x ((Ea.post k).part x 2 i)).toInt :=
  congrArg BitVec.toInt (loadVec_getD (ahead x) (.post k) hi)

/-- Settles O11: VBFLY leaves the engine as `flown`, whose lanes, SAT and frame are those of the butterfly rule. -/
theorem cloveButterfly : Obligations.CloveButterfly := by
  intro s e a b k hrc hf heven x w at_ tr ti dif exceeds
  have hrun := opVbfly_eq (x := ahead x) (even_of_parts heven) a b
  let wv : Vec := loadVec (ahead x) (.post k) 0
  have htr (m : Fin 4) : turnedRe x.v[b] wv m.val = tr m.val := by
    simp only [turnedRe, wv, component_twiddle x k (show 2 * m.val < 8 by omega),
      component_twiddle x k (show 2 * m.val + 1 < 8 by omega)]
    rfl
  have hti (m : Fin 4) : turnedIm x.v[b] wv m.val = ti m.val := by
    simp only [turnedIm, wv, component_twiddle x k (show 2 * m.val < 8 by omega),
      component_twiddle x k (show 2 * m.val + 1 < 8 by omega)]
    rfl
  have hdifRe (m : Fin 4) : flyDif x.v[a] x.v[b] wv (reLane m) = dif (2 * m.val) (tr m.val) := by
    rw [flyDif_reLane, htr]; rfl
  have hdifIm (m : Fin 4) : flyDif x.v[a] x.v[b] wv (imLane m) = dif (2 * m.val + 1) (ti m.val) := by
    rw [flyDif_imLane, hti]; rfl
  refine op_runsTo hf hrc rfl hrun ⟨fun m => ⟨?_, ?_, fun hab => ⟨?_, ?_⟩⟩,
    ⟨flySaturates x.v[a] x.v[b] wv, ?_, flown_flg ..⟩, fun r ha hb => flown_v_other x a b k _ _ _ ha hb,
    flown_frame x a b k _ _ _⟩
  · rw [← hdifRe m, ← component_laneMap_re]
    exact congrArg (component · (2 * m.val)) (flown_v_second ..)
  · rw [← hdifIm m, ← component_laneMap_im]
    exact congrArg (component · (2 * m.val + 1)) (flown_v_second ..)
  · refine (congrArg (component · (2 * m.val)) (flown_v_first _ _ _ _ _ _ _ hab)).trans ?_
    rw [component_laneMap_re, sat16_flySum, ← htr]
    exact flySum_reLane ..
  · refine (congrArg (component · (2 * m.val + 1)) (flown_v_first _ _ _ _ _ _ _ hab)).trans ?_
    rw [component_laneMap_im, sat16_flySum, ← hti]
    exact flySum_imLane ..
  · refine (flySaturates_iff ..).trans (exists_congr fun m => ?_)
    rw [htr, hti, hdifRe, hdifIm]

end Sys2Proof.Machine

/-! # The Clove instruction set: control flow -/

namespace Sys2Proof.Machine

/-! ## CALL at the last word of program memory -/

/-- The engine that an instruction leaves is determined. -/
theorem runsTo_unique {i : Instr} {s : State} {e : EngineId} {y z : EngineSt} (hy : RunsTo i s e y)
    (hz : RunsTo i s e z) : y = z := by
  have hset : s.setEngine e (fun _ => y) = s.setEngine e (fun _ => z) := Host.Outcome.next.inj (hy.symm.trans hz)
  have heng := congrArg (fun t => State.engine t e) hset
  simpa only [setEngine_engine] using heng

/-- R228: CALL writes the address of the next instruction, which has 18 bits in ARk: it does not wrap with the PC. -/
theorem call_links_next {s : State} {e : EngineId} {k : AReg} {off : BitVec 22}
    (hf : Fetches s e [(26, 6, 0x05), (23, 3, k.val), (22, 1, 0), (0, 22, off.toNat)]) (hrc : (s.engine e).rc = 0) :
    ∃ y, RunsTo (.call e k off) s e y ∧ y.ar[k] = (s.engine e).pc.setWidth 18 + 4 :=
  plain_runsTo hf hrc rfl (getSel_setSel_same (ahead (s.engine e)) 0 k _)

/-- Engine 0 runs, its code fills program memory, and the last word of it, at 0xFFFC, is CALL AR0 with the offset 0. -/
def callAtLastWord : State :=
  State.reset.setEngine 0 (fun x =>
    { x with mode := .running 0 0 0, pc := 0xFFFC, codeEnd := 65536, pmem := [(0xFFFF, 0x14)] })

theorem callAtLastWord_fetches : Fetches callAtLastWord 0 [(26, 6, 0x05), (23, 3, 0), (22, 1, 0), (0, 22, 0)] := by
  unfold Fetches
  decide

theorem callAtLastWord_rc : (callAtLastWord.engine 0).rc = 0 := by decide

/-- Refutes O9: the link of CALL at 0xFFFC is 0x10000, where the statement, which adds 4 in the 16 bits of the PC, has 0. -/
theorem not_cloveControlFlowAndRepeat : ¬ Obligations.CloveControlFlowAndRepeat := by
  intro h
  obtain ⟨_, hplain⟩ := h callAtLastWord 0 0 0 0 0 0
  obtain ⟨_, _, _, _, _, hcall, _⟩ := hplain callAtLastWord_rc
  obtain ⟨y, hy, _, _, _, _, hstated, _⟩ := hcall callAtLastWord_fetches
  obtain ⟨z, hz, hlink⟩ := call_links_next (k := 0) (off := 0) callAtLastWord_fetches callAtLastWord_rc
  have hpc : (callAtLastWord.engine 0).pc = 0xFFFC := rfl
  rw [← runsTo_unique hy hz, hstated, hpc] at hlink
  exact absurd hlink (by decide)

end Sys2Proof.Machine

/-! # The whole machine: what every step keeps -/

namespace Sys2Proof.Machine

/-- No command faults and the model refuses none: each answers a next state. -/
theorem exec_next (i : Instr) (s : State) : ∃ t, exec i s = .next t := by
  cases i <;> exact ⟨_, rfl⟩

/-- Whatever the command, its row keeps the invariant and the queue. -/
theorem exec_kept {q : List Instr} (i : Instr) (s t : State) (h : s.Kept q) (he : exec i s = .next t) : t.Kept q := by
  cases i with
  | identify => exact execIdentify_inv _ _ s t h he
  | status => exact execStatus_inv _ _ s t h he
  | eventQuery => exact execEventQuery_inv _ _ _ _ s t h he
  | clearStats => exact execClearStats_inv _ _ _ _ s t h he
  | deviceReset => exact execDeviceReset_inv _ _ s t h he
  | paramRead => exact execParamRead_inv _ _ _ _ _ _ s t h he
  | paramWrite => exact execParamWrite_inv _ _ _ _ _ _ _ s t h he
  | commit => exact execCommit_inv _ _ _ s t h he
  | portStart => exact execPortStart_inv _ _ _ s t h he
  | portStop => exact execPortStop_inv _ _ _ s t h he
  | headRescan => exact execHeadRescan_inv _ _ _ s t h he
  | clearFault => exact execClearFault_inv _ _ _ s t h he
  | launchShot => exact execLaunchShot_inv _ _ _ _ s t h he
  | loadProgram => exact execLoadProgram_inv _ _ _ _ _ s t h he
  | unloadProgram => exact execUnloadProgram_inv _ _ _ s t h he
  | engineReset => exact execEngineReset_inv _ _ _ _ s t h he
  | loadZonePack => exact execLoadZonePack_inv _ _ _ _ s t h he
  | loadBaselines => exact execLoadBaselines_inv _ _ _ _ s t h he
  | ackGroup => exact execAckGroup_inv _ _ _ s t h he
  | snapRead => exact execSnapRead_inv _ _ _ _ _ s t h he
  | snapRelease => exact execSnapRelease_inv _ _ _ s t h he
  | loadMask => exact execLoadMask_inv _ _ _ _ _ s t h he
  | maskRearm => exact execMaskRearm_inv _ _ _ s t h he
  | capmemRetrain => exact execCapmemRetrain_inv _ _ s t h he
  | sumacJob => exact execSumacJob_inv _ _ _ s t h he
  | linkRestart => exact execLinkRestart_inv _ _ s t h he
  | linkLoop => exact execLinkLoop_inv _ _ _ _ _ _ s t h he
  | powerState => exact execPowerState_inv _ _ _ _ s t h he
  | shutdown => exact execShutdown_inv _ _ _ s t h he
  | abortSelftest => exact execAbortSelftest_inv _ _ s t h he
  | selftestRun => exact execSelftestRun_inv _ _ _ _ s t h he
  | selftestResult => exact execSelftestResult_inv _ _ _ s t h he
  | serviceChallenge => exact execServiceChallenge_inv _ _ s t h he
  | serviceResponse => exact execServiceResponse_inv _ _ _ s t h he
  | lifecycleSet => exact execLifecycleSet_inv _ _ _ s t h he
  | calRun => exact execCalRun_inv _ _ _ _ s t h he
  | calSetRefres => exact execCalSetRefres_inv _ _ _ s t h he
  | calSetBath => exact execCalSetBath_inv _ _ _ _ s t h he
  | tiArm => exact execTiArm_inv _ _ _ s t h he
  | tiRead => exact execTiRead_inv _ _ _ _ s t h he
  | fwDownload => exact execFwDownload_inv _ _ _ s t h he
  | fwFlashWrite => exact execFwFlashWrite_inv _ _ _ _ _ s t h he
  | commandTimeout => exact execCommandTimeout_inv _ _ s t h he
  | doorbell => exact execDoorbell_inv _ _ s t h he
  | cqHeadWrite => exact execCqHeadWrite_inv _ _ s t h he
  | irqStatusClear => exact execIrqStatusClear_inv _ _ s t h he
  | registerWrite => exact execRegisterWrite_inv _ _ _ s t h he
  | stream0Command => exact execStream0Command_inv _ _ s t h he
  | stageWrite => exact execStageWrite_inv _ _ s t h he
  | vaonRise => exact execVaonRise_inv _ s t h he
  | resetAssert => exact execResetAssert_inv _ s t h he
  | coldStart => exact execColdStart_inv _ _ _ s t h he
  | bootImageChecked => exact execBootImageChecked_inv _ _ s t h he
  | fwInitDone => exact execFwInitDone_inv _ _ _ s t h he
  | supplyTrip => exact execSupplyTrip_inv _ _ s t h he
  | supplyRelease => exact execSupplyRelease_inv _ s t h he
  | deviceResetTrigger => exact execDeviceResetTrigger_inv _ s t h he
  | watchdogExpiry => exact execWatchdogExpiry_inv _ s t h he
  | dieTempSample => exact execDieTempSample_inv _ _ s t h he
  | xtalCheck => exact execXtalCheck_inv _ _ s t h he
  | bankSupplyRise => exact execBankSupplyRise_inv _ _ _ s t h he
  | bankSupplyFall => exact execBankSupplyFall_inv _ _ s t h he
  | presAcceptLow => exact execPresAcceptLow_inv _ _ s t h he
  | presLoss => exact execPresLoss_inv _ _ s t h he
  | ilkChange => exact execIlkChange_inv _ _ _ s t h he
  | idReadStart => exact execIdReadStart_inv _ _ s t h he
  | idTransactionEnd => exact execIdTransactionEnd_inv _ _ _ s t h he
  | idTransactionTimeout => exact execIdTransactionTimeout_inv _ _ s t h he
  | driveUpdate => exact execDriveUpdate_inv _ s t h he
  | caseTempUpdate => exact execCaseTempUpdate_inv _ _ s t h he
  | caseStaleTimeout => exact execCaseStaleTimeout_inv _ _ s t h he
  | caseRangeTimeout => exact execCaseRangeTimeout_inv _ _ s t h he
  | overtempTimeout => exact execOvertempTimeout_inv _ _ s t h he
  | emitterFaultAccept => exact execEmitterFaultAccept_inv _ _ s t h he
  | proofDue => exact execProofDue_inv _ _ s t h he
  | proofPulse => exact execProofPulse_inv _ _ _ s t h he
  | pumpNrgSample => exact execPumpNrgSample_inv _ _ _ s t h he
  | cycleBoundary => exact execCycleBoundary_inv _ _ s t h he
  | gridLaunch => exact execGridLaunch_inv _ _ _ s t h he
  | hostLaunchRequest => exact execHostLaunchRequest_inv _ _ s t h he
  | launchDeferredRetry => exact execLaunchDeferredRetry_inv _ _ s t h he
  | windowOpen => exact execWindowOpen_inv _ _ s t h he
  | pumpLaunch => exact execPumpLaunch_inv _ _ s t h he
  | singleCheckWindow => exact execSingleCheckWindow_inv _ _ s t h he
  | stopFramesDrained => exact execStopFramesDrained_inv _ _ s t h he
  | rangeSwitch => exact execRangeSwitch_inv _ _ s t h he
  | ovldOnset => exact execOvldOnset_inv _ _ _ s t h he
  | pairCheckEnd => exact execPairCheckEnd_inv _ _ _ _ s t h he
  | gaugeSample => exact execGaugeSample_inv _ _ _ s t h he
  | biasFaultSet => exact execBiasFaultSet_inv _ _ _ s t h he
  | biasFaultClear => exact execBiasFaultClear_inv _ _ _ s t h he
  | ramanRecordingEnd => exact execRamanRecordingEnd_inv _ _ _ _ _ _ s t h he
  | ramanPeriodClose => exact execRamanPeriodClose_inv _ _ s t h he
  | profileReady => exact execProfileReady_inv _ _ s t h he
  | rtdPulseStart => exact execRtdPulseStart_inv _ _ s t h he
  | rtdPulseEnd => exact execRtdPulseEnd_inv _ _ _ s t h he
  | blockReady => exact execBlockReady_inv _ _ _ s t h he
  | engineRequest => exact execEngineRequest_inv _ _ s t h he
  | blockCopied => exact execBlockCopied_inv _ _ s t h he
  | blockCutoff => exact execBlockCutoff_inv _ _ _ s t h he
  | engineWatchdog => exact execEngineWatchdog_inv _ _ s t h he
  | clusterTempSample => exact execClusterTempSample_inv _ _ _ s t h he
  | undefinedOpcode => exact execUndefinedOpcode_inv _ s t h he
  | nop => exact execNop_inv _ s t h he
  | done => exact execDone_inv _ s t h he
  | rep => exact execRep_inv _ _ s t h he
  | br => exact execBr_inv _ _ _ s t h he
  | bnzd => exact execBnzd_inv _ _ _ s t h he
  | call => exact execCall_inv _ _ _ s t h he
  | ret => exact execRet_inv _ _ s t h he
  | clrf => exact execClrf_inv _ s t h he
  | ldi => exact execLdi_inv _ _ _ _ s t h he
  | adda => exact execAdda_inv _ _ _ s t h he
  | cmpa => exact execCmpa_inv _ _ _ s t h he
  | mova => exact execMova_inv _ _ _ _ _ s t h he
  | gets => exact execGets_inv _ _ _ s t h he
  | puts => exact execPuts_inv _ _ _ s t h he
  | mvla => exact execMvla_inv _ _ _ _ s t h he
  | mval => exact execMval_inv _ _ _ _ s t h he
  | vld => exact execVld_inv _ _ _ s t h he
  | vst => exact execVst_inv _ _ _ s t h he
  | vldb => exact execVldb_inv _ _ _ s t h he
  | vldq => exact execVldq_inv _ _ _ s t h he
  | eld => exact execEld_inv _ _ _ _ s t h he
  | est => exact execEst_inv _ _ _ _ s t h he
  | vcpy => exact execVcpy_inv _ _ _ s t h he
  | vadd => exact execVadd_inv _ _ _ _ s t h he
  | vsub => exact execVsub_inv _ _ _ _ s t h he
  | vmul => exact execVmul_inv _ _ _ _ s t h he
  | vabs => exact execVabs_inv _ _ _ s t h he
  | vmax => exact execVmax_inv _ _ _ _ s t h he
  | vmin => exact execVmin_inv _ _ _ _ s t h he
  | vshr => exact execVshr_inv _ _ _ _ s t h he
  | vshl => exact execVshl_inv _ _ _ _ s t h he
  | vand => exact execVand_inv _ _ _ _ s t h he
  | vor => exact execVor_inv _ _ _ _ s t h he
  | vxor => exact execVxor_inv _ _ _ _ s t h he
  | vcmpgt => exact execVcmpgt_inv _ _ _ _ s t h he
  | vsel => exact execVsel_inv _ _ _ _ s t h he
  | vmov => exact execVmov_inv _ _ _ s t h he
  | vsplat => exact execVsplat_inv _ _ _ s t h he
  | vshuf => exact execVshuf_inv _ _ _ _ _ s t h he
  | aclr => exact execAclr_inv _ _ s t h he
  | vmac => exact execVmac_inv _ _ _ _ s t h he
  | vmacb => exact execVmacb_inv _ _ _ _ s t h he
  | vsqa => exact execVsqa_inv _ _ _ s t h he
  | vpwr => exact execVpwr_inv _ _ _ s t h he
  | mva => exact execMva_inv _ _ _ _ _ s t h he
  | areds => exact execAreds_inv _ _ _ s t h he
  | vbfly => exact execVbfly_inv _ _ _ _ s t h he
  | maxx => exact execMaxx_inv _ _ _ s t h he
  | minx => exact execMinx_inv _ _ _ s t h he
  | maxxv => exact execMaxxv_inv _ _ _ s t h he
  | minxv => exact execMinxv_inv _ _ _ s t h he
  | vibrationZoneSample => exact execVibrationZoneSample_inv _ _ _ s t h he
  | temperatureZoneSample => exact execTemperatureZoneSample_inv _ _ s t h he
  | snapshotPublish => exact execSnapshotPublish_inv _ _ s t h he
  | autoTimeout => exact execAutoTimeout_inv _ _ s t h he
  | holdoffEnd => exact execHoldoffEnd_inv _ _ s t h he
  | recordEnqueue => exact execRecordEnqueue_inv _ _ s t h he
  | spillWriteTimeout => exact execSpillWriteTimeout_inv _ _ s t h he
  | summaryPeriodic => exact execSummaryPeriodic_inv _ s t h he
  | maskTraceEval => exact execMaskTraceEval_inv _ _ _ _ s t h he
  | capmemTrainDone => exact execCapmemTrainDone_inv _ _ s t h he
  | capmemPeriodicCal => exact execCapmemPeriodicCal_inv _ s t h he
  | capmemSelfRefresh => exact execCapmemSelfRefresh_inv _ s t h he
  | streamJobDone => exact execStreamJobDone_inv _ _ s t h he
  | compressBlockDone => exact execCompressBlockDone_inv _ _ s t h he
  | decompressDone => exact execDecompressDone_inv _ s t h he
  | frameSelect => exact execFrameSelect_inv _ s t h he
  | creditReceived => exact execCreditReceived_inv _ _ _ s t h he
  | creditRepeat => exact execCreditRepeat_inv _ s t h he
  | blockDiscard => exact execBlockDiscard_inv _ _ _ _ s t h he
  | hostFrameDiscard => exact execHostFrameDiscard_inv _ _ s t h he
  | detectCheck => exact execDetectCheck_inv _ _ s t h he
  | trainingFrameRx => exact execTrainingFrameRx_inv _ _ _ _ _ s t h he
  | alignRx => exact execAlignRx_inv _ _ _ s t h he
  | capabilitySend => exact execCapabilitySend_inv _ s t h he
  | capabilityRx => exact execCapabilityRx_inv _ _ s t h he
  | bringupStageTimeout => exact execBringupStageTimeout_inv _ s t h he
  | linkFailIdleEnd => exact execLinkFailIdleEnd_inv _ s t h he
  | downCheck => exact execDownCheck_inv _ _ s t h he
  | blockLockLoss => exact execBlockLockLoss_inv _ _ s t h he
  | idleLoss => exact execIdleLoss_inv _ _ s t h he
  | lrefUnlock => exact execLrefUnlock_inv _ s t h he
  | pmBlockRx => exact execPmBlockRx_inv _ _ s t h he
  | txQuietEntry => exact execTxQuietEntry_inv _ s t h he
  | txSleepEntry => exact execTxSleepEntry_inv _ s t h he
  | quietRefresh => exact execQuietRefresh_inv _ s t h he
  | txPmExit => exact execTxPmExit_inv _ s t h he
  | linkLoopStart => exact execLinkLoopStart_inv _ s t h he
  | linkLoopEnd => exact execLinkLoopEnd_inv _ s t h he
  | refQualified => exact execRefQualified_inv _ s t h he
  | refLost => exact execRefLost_inv _ s t h he
  | ocxoRdyChange => exact execOcxoRdyChange_inv _ _ s t h he
  | ppsEdge => exact execPpsEdge_inv _ _ _ s t h he
  | ppsTimeout => exact execPpsTimeout_inv _ s t h he
  | ppsOutSecond => exact execPpsOutSecond_inv _ s t h he
  | syncMarker => exact execSyncMarker_inv _ _ _ s t h he
  | syncTimeout => exact execSyncTimeout_inv _ s t h he
  | syncPhaseStep => exact execSyncPhaseStep_inv _ s t h he
  | tiStartEdge => exact execTiStartEdge_inv _ _ _ s t h he
  | tiStopEdge => exact execTiStopEdge_inv _ _ _ _ s t h he
  | tiWindowEnd => exact execTiWindowEnd_inv _ s t h he
  | tiFreqGateEnd => exact execTiFreqGateEnd_inv _ _ _ _ s t h he
  | hkaSequence => exact execHkaSequence_inv _ s t h he
  | hkbJobTrigger => exact execHkbJobTrigger_inv _ s t h he
  | hkCheckTrigger => exact execHkCheckTrigger_inv _ s t h he
  | hkEntryResult => exact execHkEntryResult_inv _ _ _ s t h he
  | refSettlingEnd => exact execRefSettlingEnd_inv _ _ s t h he
  | loopTick => exact execLoopTick_inv _ s t h he
  | loopCauseSet => exact execLoopCauseSet_inv _ _ _ _ s t h he
  | loopCauseClear => exact execLoopCauseClear_inv _ _ _ _ s t h he
  | loopDriveRetry => exact execLoopDriveRetry_inv _ _ s t h he
  | alarmOverload => exact execAlarmOverload_inv _ _ s t h he
  | alarmRetry => exact execAlarmRetry_inv _ _ s t h he
  | alarmOverloadClear => exact execAlarmOverloadClear_inv _ _ s t h he
  | alarmMinActiveEnd => exact execAlarmMinActiveEnd_inv _ _ s t h he
  | startUpCalBegin => exact execStartUpCalBegin_inv _ s t h he
  | calAutoCheck => exact execCalAutoCheck_inv _ s t h he
  | calStepEnd => exact execCalStepEnd_inv _ _ s t h he
  | calRunEnd => exact execCalRunEnd_inv _ s t h he
  | standbyGated => exact execStandbyGated_inv _ s t h he
  | retainArm => exact execRetainArm_inv _ s t h he
  | commitPoint => exact execCommitPoint_inv _ s t h he
  | wakeEvent => exact execWakeEvent_inv _ _ s t h he
  | wakeReplay => exact execWakeReplay_inv _ s t h he
  | brownout => exact execBrownout_inv _ s t h he
  | wakeSuppliesGood => exact execWakeSuppliesGood_inv _ s t h he
  | wakeSerialCheck => exact execWakeSerialCheck_inv _ _ _ s t h he
  | wakeComplete => exact execWakeComplete_inv _ s t h he
  | shutdownSelftestDone => exact execShutdownSelftestDone_inv _ _ s t h he
  | selftestBlockDone => exact execSelftestBlockDone_inv _ _ s t h he
  | vaonLoss => exact execVaonLoss_inv _ s t h he
  | clocksUngated => exact execClocksUngated_inv _ s t h he
  | flashWriteDone => exact execFlashWriteDone_inv _ s t h he
  | lifecycleProgrammed => exact execLifecycleProgrammed_inv _ s t h he
  | rxSleepExit => exact execRxSleepExit_inv _ s t h he
  | trainingFramesStart => exact execTrainingFramesStart_inv _ _ s t h he
  | loopCheckerLock => exact execLoopCheckerLock_inv _ _ _ _ s t h he
  | boundaryScanAccess => exact execBoundaryScanAccess_inv _ _ s t h he

/-- Settles O58: an idle step answers the state itself, any other the state that its row leaves. -/
theorem everyStepKeepsInv : Obligations.EveryStepKeepsInv := by
  intro s t hs he
  cases hq : s.pending with
  | nil =>
    rw [step, hq] at he
    cases he
    exact hs
  | cons c rest =>
    rw [step, hq] at he
    have hrest : ({ s with pending := rest } : State).Kept rest := ⟨hs, rfl⟩
    exact (exec_kept c _ t hrest he).1

end Sys2Proof.Machine

/-! # The whole machine: steps, reset, completions -/

namespace Sys2Proof.Machine

/-- Settles O56: both halves are the two branches of `step`. -/
theorem stepRunsFrontCommand : Obligations.StepRunsFrontCommand := by
  intro c rest s
  refine ⟨rfl, fun hempty => ?_⟩
  rw [step, hempty]

/-! ## The reset state -/

theorem reset_port (p : Port) : State.reset.port p = PortSt.reset := Vector.getElem_replicate p.isLt

theorem reset_emitter (p : Port) (e : Emitter) : State.reset.emitter p e = EmitterSt.reset := by
  rw [State.emitter, reset_port]
  exact Vector.getElem_replicate _

theorem reset_engine (e : EngineId) : State.reset.engine e = EngineSt.reset := Vector.getElem_replicate e.isLt

/-- Settles O59: the tables of values are empty, and every unit is as its own reset leaves it. -/
theorem resetState : Obligations.ResetState := by
  have hinv : State.reset.Inv := (reset_inv_of State.reset rfl rfl rfl rfl rfl rfl (q := []) rfl).1
  refine ⟨hinv, rfl, rfl, rfl, rfl, rfl, rfl, rfl, rfl, rfl, rfl, rfl, fun p => ⟨?_, ?_, ?_, fun e => ⟨?_, ?_⟩⟩,
    fun e => ?_, fun _ _ => rfl, fun _ _ => rfl⟩
  · rw [reset_port]; rfl
  · rw [reset_port]; rfl
  · rw [reset_port]; rfl
  · rw [reset_emitter]; rfl
  · rw [reset_emitter]; rfl
  · rw [reset_engine]; rfl

/-! ## Runs of bytes in a memory -/

section
variable {blank : Byte} {m : Memory} {x : Nat}

/-- Bytes written are read again. -/
theorem memReadAll_writeAll_here (hw : Memory.wf blank m = true) (vs : List Byte) :
    memReadAll blank (memWriteAll blank m x vs) x vs.length = vs := by
  induction vs generalizing m x with
  | nil => rfl
  | cons v vs ih =>
    have hhere := memRead_writeAll_here blank (v :: vs) m x 0 hw (Nat.zero_lt_succ _)
    rw [List.length_cons, memReadAll]
    exact congr (congrArg List.cons hhere) (ih (memWrite_wf blank m x v hw))

/-- Bytes written leave the runs before and behind them. -/
theorem memReadAll_writeAll_other (hw : Memory.wf blank m = true) (vs : List Byte) (y n : Nat)
    (h : y + n ≤ x ∨ x + vs.length ≤ y) :
    memReadAll blank (memWriteAll blank m x vs) y n = memReadAll blank m y n := by
  induction n generalizing y with
  | zero => rfl
  | succ n ih =>
    rw [memReadAll, memReadAll, ih (y + 1) (by omega), memRead_writeAll_other blank vs m x y hw (by omega)]

end

/-! ## Completions -/

@[simp] theorem leBytes_length (n v : Nat) : (leBytes n v).length = n := by
  induction n generalizing v with
  | zero => rfl
  | succ n ih => simp [leBytes, ih]

theorem bytesAt_length (bs : List Byte) (off n : Nat) : (bytesAt bs off n).length = n := by
  simp only [bytesAt, List.length_append, List.length_take, List.length_replicate]
  omega

theorem cqEntry_length (typ tag code seq time flags : Nat) (result : List Byte) :
    (cqEntry typ tag code seq time flags result).length = 32 := by
  simp [cqEntry, zeros, bytesAt_length]

/-- A completion by the control port: the mailbox afterwards. -/
theorem completeWith_controlPort (s : State) (rq : Req) (st : Status) (fl : CompFlags) (result more : List Byte)
    (hroute : rq.route = .controlPort) :
    s.completeWith rq st fl result more =
      { s with mbox :=
        { s.mbox with
          flights := s.mbox.flights.filter (fun f => f.tag != rq.tag),
          window := memWriteAll blankByte s.mbox.window (256 * rq.tag.toNat + 16) more,
          cq := memWriteAll blankByte s.mbox.cq (32 * s.mbox.cqTail.toNat)
            (cqEntry 1 rq.tag.toNat (statusCode st) rq.seq.toNat s.tb
              (bitNat (!more.isEmpty) + 2 * bitNat fl.pending + 4 * bitNat fl.held) result),
          cqTail := s.mbox.cqTail + 1 } } := by
  simp only [State.completeWith, hroute]
  rfl

/-- Settles O60: the entry takes its 32 bytes and no others, the result its bytes of the slot. -/
theorem completionEntry : Obligations.CompletionEntry := by
  intro rq st fl result more s hmems hroute _
  obtain ⟨hwindow, -, hcq, -, -⟩ := hmems
  simp only [completeWith_controlPort s rq st fl result more hroute]
  refine ⟨?_, trivial, fun i hi => ?_, memReadAll_writeAll_here hwindow more, fun a ha => ?_, trivial, _, rfl⟩
  · generalize hentry : cqEntry 1 rq.tag.toNat (statusCode st) rq.seq.toNat s.tb _ result = entry
    have hlen : entry.length = 32 := hentry ▸ cqEntry_length ..
    rw [← hlen]
    exact memReadAll_writeAll_here hcq entry
  · have hne : i.toNat ≠ s.mbox.cqTail.toNat := fun h => hi (BitVec.eq_of_toNat_eq h)
    refine memReadAll_writeAll_other hcq _ _ _ ?_
    rw [cqEntry_length]
    omega
  · exact memRead_writeAll_other blankByte more _ _ a hwindow (by omega)

end Sys2Proof.Machine

/-! # The Clove instruction set: lane arithmetic -/

namespace Sys2Proof.Machine

/-! ## Sticky flags and saturated lanes -/

theorem stuckFlag_congr (flg : BitVec 16) (i : Nat) {b c : Prop} [Decidable b] [Decidable c] (h : b ↔ c) :
    stuckFlag flg i b = stuckFlag flg i c := by
  simp only [stuckFlag, h]

/-- A value is saturated where it lies outside 16 bits. -/
theorem sat16_ne_iff (z : Int) : sat16 z ≠ z ↔ z < -32768 ∨ 32767 < z := by
  rw [Ne, sat16_eq_self_iff]
  omega

section
variable (x : EngineSt) (d : VReg) (f : Lane → Int) (n : Nat)

theorem putLanes_eq : putLanes x d f =
    { setV x d (laneMap f).1 with flg := stuckFlag x.flg flgSat ((laneMap f).2 = true) } := stick_eq ..

theorem putLanes_lanesSaturated : LanesSaturated x (retire (putLanes (ahead x) d f) n) d f := by
  rw [putLanes_eq]
  refine ⟨fun i => ?_, stuckFlag_congr _ _ ?_⟩
  · exact (congrArg (fun u : Vec => (u[i]).toInt) (setV_v_same (ahead x) d _)).trans (laneMap_lane f i)
  · exact (laneMap_saturates_iff f).trans (exists_congr fun i => sat16_ne_iff (f i))

theorem putLanes_onlyV : OnlyV x (retire (putLanes (ahead x) d f) n) d := by
  rw [putLanes_eq]
  exact onlyV_setV x d _

theorem putLanes_advanced : Advanced x (retire (putLanes (ahead x) d f) n) n := by
  rw [putLanes_eq]
  exact advanced_retire rfl rfl rfl n

end

/-- An instruction that writes the saturated lanes of exact results. -/
theorem plain_puts_lanes {i : Instr} {s : State} {e : EngineId} {fs : List WordField} {d : VReg} {cycles : Nat}
    {g : EngineSt → Lane → Int} {f : Lane → Int} (hf : Fetches s e fs) (hrc : (s.engine e).rc = 0)
    (hi : exec i s = .next (s.clovePlain e fs cycles (fun x => putLanes x d (g x))))
    (hg : ∀ l : Lane, g (ahead (s.engine e)) l = f l) :
    ∃ y, RunsTo i s e y ∧ LanesSaturated (s.engine e) y d f ∧ OnlyV (s.engine e) y d ∧ Advanced (s.engine e) y cycles := by
  obtain rfl : g (ahead (s.engine e)) = f := funext hg
  exact plain_runsTo hf hrc hi ⟨putLanes_lanesSaturated .., putLanes_onlyV .., putLanes_advanced ..⟩

/-- Settles O1: each instruction puts the saturated lanes of its exact function. -/
theorem cloveLaneArithmetic : Obligations.CloveLaneArithmetic := by
  intro s e d a b sh hrc
  refine ⟨fun hf => ?vadd, fun hf => ?vsub, fun hf => ?vmul, fun hf => ?vabs, fun hf => ?vmax, fun hf => ?vmin,
    fun hf => ?vshr, fun hf => ?vshl⟩
  case vadd | vsub | vmul | vmax | vmin | vshr | vshl => exact plain_puts_lanes hf hrc rfl fun _ => rfl
  case vabs =>
    refine plain_puts_lanes hf hrc rfl fun l => ?_
    change ((lane (s.engine e) a l).natAbs : Int) = _
    split <;> omega

end Sys2Proof.Machine

/-! # The Clove instruction set: the accumulator registers -/

namespace Sys2Proof.Machine

/-! ## Accumulators: what a write changes and what it leaves -/

theorem mkAcc_lane (f : Lane → BitVec 40) (l : Lane) : (mkAcc f)[l] = f l := by
  match l with
  | 0 | 1 | 2 | 3 | 4 | 5 | 6 | 7 => rfl

section
variable (x : EngineSt) (d : AccReg) (u : Acc)

theorem setAcc_acc_same : (setAcc x d u).acc[d] = u := by simp [setAcc]

theorem setAcc_acc_other {r : AccReg} (h : r ≠ d) : (setAcc x d u).acc[r] = x.acc[r] := by
  simp [setAcc, Fin.val_ne_of_ne (Ne.symm h)]

theorem onlyAcc_setAcc : OnlyAcc x (setAcc (ahead x) d u) d :=
  ⟨fun _ h => setAcc_acc_other (ahead x) d u h, rfl, rfl, ⟨rfl, rfl, rfl, rfl⟩, ⟨rfl, rfl⟩,
    ⟨rfl, rfl, rfl, rfl, rfl, rfl, rfl⟩⟩

end

/-! ## Accumulation with 40-bit saturation (R227) -/

theorem sat40_range (z : Int) : -549755813888 ≤ sat40 z ∧ sat40 z ≤ 549755813887 := by
  unfold sat40 clampInt
  split
  · omega
  · split <;> omega

theorem toInt_ofInt_sat40 (z : Int) : (BitVec.ofInt 40 (sat40 z)).toInt = sat40 z := by
  obtain ⟨hlo, hhi⟩ := sat40_range z
  exact BitVec.toInt_ofInt_eq_self (by decide) (by omega) (by omega)

/-- A flag that sticks where a test holds of some lane, the lanes tried in turn. -/
theorem stick_any_lane (x : EngineSt) (i : Nat) (p : Lane → Prop) [∀ l, Decidable (p l)] :
    stick x i (decide (p 0) || decide (p 1) || decide (p 2) || decide (p 3) || decide (p 4) || decide (p 5) || decide (p 6)
      || decide (p 7)) = { x with flg := stuckFlag x.flg i (∃ l : Lane, p l) } := by
  rw [stick_eq, stuckFlag_congr x.flg i (any_lane_iff fun l => decide (p l))]
  simp only [decide_eq_true_eq]

section
variable {x y : EngineSt} {d : AccReg}

theorem Accumulated.retire {f : Lane → Int} (h : Accumulated x y d f) (n : Nat) : Accumulated x (retire y n) d f := h
theorem OnlyAcc.retire (h : OnlyAcc x y d) (n : Nat) : OnlyAcc x (retire y n) d := h

end

section
variable (x : EngineSt) (d : AccReg) (f : Lane → Int)

theorem accumulate_eq : accumulate x d f =
    { setAcc x d (mkAcc fun i => BitVec.ofInt 40 (sat40 (accLane x d i + f i))) with
      flg := stuckFlag x.flg 5 (∃ i : Lane, sat40 (accLane x d i + f i) ≠ accLane x d i + f i) } :=
  stick_any_lane (setAcc x d (mkAcc fun i => BitVec.ofInt 40 (sat40 (accLane x d i + f i)))) 5
    fun i => sat40 (accLane x d i + f i) ≠ accLane x d i + f i

theorem accumulate_accumulated {z : EngineSt} {g : Lane → Int} (hacc : z.acc = x.acc) (hflg : z.flg = x.flg)
    (hg : ∀ l, f l = g l) : Accumulated x (accumulate z d f) d g := by
  obtain rfl : f = g := funext hg
  have hlane (i : Lane) : accLane z d i = accLane x d i := by unfold accLane; rw [hacc]
  rw [accumulate_eq]
  constructor
  · intro i
    refine (congrArg (fun u : Acc => (u[i]).toInt) (setAcc_acc_same z d _)).trans ?_
    rw [mkAcc_lane, toInt_ofInt_sat40, hlane]
  · dsimp only
    rw [hflg]
    exact stuckFlag_congr x.flg 5 (exists_congr fun i => by rw [hlane])

theorem accumulate_onlyAcc : OnlyAcc x (accumulate (ahead x) d f) d := by
  rw [accumulate_eq]
  exact onlyAcc_setAcc x d _

end

/-! ## The sum of an accumulator (AREDS, R233) -/

theorem acc_toList (a : Acc) : a.toList = [a[0], a[1], a[2], a[3], a[4], a[5], a[6], a[7]] := by
  match a with
  | ⟨⟨[_, _, _, _, _, _, _, _]⟩, _⟩ => rfl

theorem acc_sum (a : Acc) (f : BitVec 40 → Int) : (a.toList.map f).foldl (· + ·) 0
    = f a[0] + f a[1] + f a[2] + f a[3] + f a[4] + f a[5] + f a[6] + f a[7] := by
  simp only [acc_toList, List.map_cons, List.map_nil, List.foldl_cons, List.foldl_nil, Int.zero_add]

theorem shifted_lane (a : Acc) (r : BitVec 40) (i : Lane) :
    (#v[a[1], a[2], a[3], a[4], a[5], a[6], a[7], r] : Acc)[i] = if h : i.val < 7 then a[i.val + 1] else r := by
  match i with
  | 0 | 1 | 2 | 3 | 4 | 5 | 6 | 7 => rfl

/-! ## The shift of a move from an accumulator (R200) -/

/-- A lane that fits after a shift fits after every longer one. -/
theorem fits16_rnd_succ {z : Int} {n : Nat} (h : fits16 (rnd z n) = true) : fits16 (rnd z (n + 1)) = true := by
  simp only [fits16, Bool.and_eq_true, decide_eq_true_eq] at h ⊢
  cases n with
  | zero =>
    simp only [rnd, if_true, Nat.succ_ne_zero, if_false] at h ⊢
    omega
  | succ n =>
    have hpos : (0 : Int) < 2 ^ n := Int.pow_pos (by decide)
    have hone : (2 : Int) ^ (n + 1) = 2 * 2 ^ n := by rw [Int.pow_succ, Int.mul_comm]
    have htwo : (2 : Int) ^ (n + 1 + 1) = 4 * 2 ^ n := by rw [Int.pow_succ, hone]; omega
    simp only [rnd, Nat.succ_ne_zero, if_false, Nat.add_sub_cancel] at h ⊢
    rw [hone] at h
    rw [htwo, hone]
    generalize (2 : Int) ^ n = q at *
    obtain ⟨hlo, hhi⟩ := h
    rw [Int.le_ediv_iff_mul_le (by omega)] at hlo ⊢
    rw [Int.ediv_le_iff_le_mul (by omega)] at hhi ⊢
    omega

theorem fits16_rnd_of_le {z : Int} {n m : Nat} (hle : n ≤ m) (h : fits16 (rnd z n) = true) :
    fits16 (rnd z m) = true := by
  induction hle with
  | refl => exact h
  | step _ ih => exact fits16_rnd_succ ih

theorem accFits_iff (a : Acc) (n : Nat) : accFits a n = true ↔ ∀ i : Lane, fits16 (rnd (a[i]).toInt n) = true := by
  match a with
  | ⟨⟨[a0, a1, a2, a3, a4, a5, a6, a7]⟩, _⟩ => simp [accFits, Fin.forall_fin_succ]

/-- The search of `shiftNeed` stops at the smallest shift at which every lane fits. -/
theorem shiftNeed_eq {a : Acc} {need : Nat} (hfits : accFits a need = true) (fuel n : Nat) (hlo : n ≤ need)
    (hhi : need ≤ n + fuel) (hleast : ∀ m, n ≤ m → m < need → accFits a m = false) : shiftNeed a fuel n = need := by
  induction fuel generalizing n with
  | zero => exact Nat.le_antisymm hlo hhi
  | succ fuel ih =>
    rw [shiftNeed]
    split
    case isTrue hn =>
      exact Decidable.byContradiction fun hne => absurd hn (by simp [hleast n (Nat.le_refl n) (by omega)])
    case isFalse hn =>
      have hne : n ≠ need := fun h => hn (h ▸ hfits)
      exact ih (n + 1) (by omega) (by omega) fun m hm => hleast m (by omega)

/-- R200: AUTO takes the larger of BEXP and the smallest shift at which every lane fits. -/
theorem opMvaAuto_eq (x : EngineSt) (d : VReg) (a : AccReg) {need : Nat} (hneed : need ≤ 24)
    (hfits : ∀ i : Lane, fits16 (rnd (accLane x a i) need) = true)
    (hleast : ∀ m : Nat, m < need → ∃ i : Lane, fits16 (rnd (accLane x a i) m) = false) :
    opMvaAuto x d a =
      let n := max x.bexp.toNat need
      { setV x d (mkVec fun i => BitVec.ofInt 16 (rnd (accLane x a i) n)) with bexp := BitVec.ofNat 5 n } := by
  have hshift : shiftNeed x.acc[a] 24 0 = need := by
    refine shiftNeed_eq ((accFits_iff ..).2 hfits) 24 0 (Nat.zero_le _) (by omega) fun m _ hm => ?_
    obtain ⟨i, hi⟩ := hleast m hm
    exact Bool.eq_false_iff.2 fun h => Bool.false_ne_true (hi.symm.trans ((accFits_iff ..).1 h i))
  have hlong (i : Lane) : fits16 (rnd (x.acc[a][i]).toInt (max x.bexp.toNat need)) = true :=
    fits16_rnd_of_le (Nat.le_max_right ..) (hfits i)
  simp only [opMvaAuto, hshift, hlong, if_true]
  rfl

/-- R200: what a move in mode AUTO leaves. -/
theorem mvaAuto_moves (x : EngineSt) (d : VReg) (a : AccReg) {need : Nat} (hneed : need ≤ 24)
    (hfits : ∀ i : Lane, fits16 (rnd (accLane x a i) need) = true)
    (hleast : ∀ m : Nat, m < need → ∃ i : Lane, fits16 (rnd (accLane x a i) m) = false) :
    let n := max x.bexp.toNat need
    let y := retire (opMvaAuto (ahead x) d a) 2
    (∀ i : Lane, (y.v[d][i]).toInt = rnd (accLane x a i) n) ∧ y.bexp.toNat = n ∧ y.flg = x.flg
      ∧ (∀ r : VReg, r ≠ d → y.v[r] = x.v[r]) ∧ y.acc = x.acc ∧ SameAddrs x y ∧ SameMems x y ∧ SamePlace x y
      ∧ Advanced x y 2 := by
  intro n
  have hauto : opMvaAuto (ahead x) d a =
      { setV (ahead x) d (mkVec fun i => BitVec.ofInt 16 (rnd (accLane x a i) n)) with bexp := BitVec.ofNat 5 n } :=
    opMvaAuto_eq (ahead x) d a hneed hfits hleast
  rw [hauto]
  refine ⟨fun i => ?_, ?_, rfl, fun r hr => setV_v_other (ahead x) d _ hr, rfl, ⟨rfl, rfl, rfl, rfl⟩, ⟨rfl, rfl⟩,
    ⟨rfl, rfl, rfl, rfl, rfl, rfl, rfl⟩, advanced_retire rfl rfl rfl 2⟩
  · refine (congrArg (fun w : Vec => (w[i]).toInt) (setV_v_same (ahead x) d _)).trans ?_
    have hlane : fits16 (rnd (accLane x a i) n) = true := fits16_rnd_of_le (Nat.le_max_right ..) (hfits i)
    simp only [fits16, Bool.and_eq_true, decide_eq_true_eq] at hlane
    rw [mkVec_lane]
    exact BitVec.toInt_ofInt_eq_self (by decide) (by omega) (by omega)
  · have hlt : n < 32 := by have := x.bexp.isLt; omega
    exact Nat.mod_eq_of_lt hlt

/-- Settles O3: each instruction writes one accumulator, or one vector register from it. -/
theorem cloveAccumulatorRegisters : Obligations.CloveAccumulatorRegisters := by
  intro s e d a c u v sh hrc
  refine ⟨fun hf => ?aclr, fun hf => ?vmac, fun hf => ?areds, fun hf => ?fixed, fun hf need hneed hfits hleast => ?auto⟩
  case aclr =>
    refine plain_runsTo hf hrc rfl ⟨fun i => ?_, rfl, onlyAcc_setAcc _ c _, advanced_retire rfl rfl rfl 1⟩
    refine (congrArg (fun w : Acc => (w[i]).toInt) (setAcc_acc_same (ahead (s.engine e)) c _)).trans ?_
    rw [mkAcc_lane]
    exact BitVec.toInt_zero
  case vmac =>
    refine plain_runsTo hf hrc rfl ⟨?acc, OnlyAcc.retire (accumulate_onlyAcc _ c _) 1, advanced_retire ?_ ?_ ?_ 1⟩
    case acc =>
      refine Accumulated.retire ?_ 1
      exact accumulate_accumulated _ c _ rfl rfl fun _ => rfl
    all_goals rw [accumulate_eq]; rfl
  case areds =>
    have hsum := acc_sum (s.engine e).acc[a] (·.toInt)
    refine plain_runsTo hf hrc rfl ?_
    simp only [opAreds, show (ahead (s.engine e)).acc = (s.engine e).acc from rfl, hsum, stick_eq]
    refine ⟨fun i => ?_, stuckFlag_congr _ _ decide_eq_true_iff, onlyAcc_setAcc _ c _, advanced_retire rfl rfl rfl 2⟩
    refine (congrArg (fun w : Acc => (w[i]).toInt) (setAcc_acc_same (ahead (s.engine e)) c _)).trans ?_
    rw [shifted_lane]
    split
    · rfl
    · exact toInt_ofInt_sat40 _
  case fixed => exact plain_puts_lanes hf hrc rfl fun _ => rfl
  case auto =>
    exact plain_runsTo (f := fun x => opMvaAuto x d a) hf hrc rfl (mvaAuto_moves _ d a hneed hfits hleast)

end Sys2Proof.Machine

/-! # The Clove instruction set: loads, and post-modification -/

namespace Sys2Proof.Machine

/-! ## Effective addresses read the address registers alone -/

@[simp] theorem ahead_ar (x : EngineSt) : (ahead x).ar = x.ar := rfl
@[simp] theorem ahead_v (x : EngineSt) : (ahead x).v = x.v := rfl
@[simp] theorem ahead_dmem (x : EngineSt) : (ahead x).dmem = x.dmem := rfl

section
variable {x y : EngineSt} (h : SameAddrs x y)
include h

theorem circular_congr (k : AReg) (new : Int) : circular y k new = circular x k new := by
  obtain ⟨-, -, hcs, hcl⟩ := h
  simp only [circular, hcs, hcl]

theorem Ea.addr_congr (ea : Ea) : ea.addr y = ea.addr x := by
  cases ea <;> simp only [Ea.addr, h.1]

theorem EaLane.addr_congr (ea : EaLane) : ea.addr y = ea.addr x := by
  cases ea <;> simp only [EaLane.addr, h.1]

theorem Ea.part_congr (ea : Ea) (n i : Nat) : ea.part y n i = ea.part x n i := by
  cases ea with
  | disp k d => simp only [Ea.part, Ea.addr_congr h]
  | post k => simp only [Ea.part, wrapAddr, circular_congr h, h.1]

theorem Ea.even_congr (ea : Ea) (n : Nat) : ea.even y n = ea.even x n := by
  simp only [Ea.even, Ea.part_congr h]

theorem Ea.mod_ar_congr (ea : Ea) : (ea.mod y).ar = (ea.mod x).ar := by
  cases ea with
  | disp k d => exact h.1
  | post k => exact postMod_ar_congr h k

theorem EaLane.mod_ar_congr (ea : EaLane) : (ea.mod y).ar = (ea.mod x).ar := by
  cases ea with
  | disp k d => exact h.1
  | post k => exact postMod_ar_congr h k

end

theorem sameAddrs_ahead (x : EngineSt) : SameAddrs x (ahead x) := ⟨rfl, rfl, rfl, rfl⟩

/-- Post-modification changes the address registers alone. -/
theorem Ea.mod_eq (ea : Ea) (y : EngineSt) : ea.mod y = { y with ar := (ea.mod y).ar } := by
  cases ea <;> rfl

theorem EaLane.mod_eq (ea : EaLane) (y : EngineSt) : ea.mod y = { y with ar := (ea.mod y).ar } := by
  cases ea <;> rfl

/-- An engine that has the address registers of another and post-modifies as it does. -/
theorem Ea.mod_of_sameAddrs {x y : EngineSt} (h : SameAddrs x y) (ea : Ea) : ea.mod y = { y with ar := (ea.mod x).ar } := by
  rw [Ea.mod_eq, Ea.mod_ar_congr h]

theorem EaLane.mod_of_sameAddrs {x y : EngineSt} (h : SameAddrs x y) (ea : EaLane) :
    ea.mod y = { y with ar := (ea.mod x).ar } := by
  rw [EaLane.mod_eq, EaLane.mod_ar_congr h]

/-! ## Data memory reads -/

theorem dbyte_congr {x y : EngineSt} (h : y.dmem = x.dmem) (a : Nat) : dbyte y a = dbyte x a := by
  simp only [dbyte, h]

theorem delem_congr {x y : EngineSt} (h : y.dmem = x.dmem) (a : Nat) : delem y a = delem x a := by
  simp only [delem, dbyte_congr h]

/-- The eight elements at an effective address. -/
def elemsAt (x : EngineSt) (ea : Ea) : Vec := mkVec fun i => delem x (ea.part x 2 i.val)

theorem loadVec_ahead (x : EngineSt) (ea : Ea) : loadVec (ahead x) ea 0 = elemsAt x ea := by
  simp only [loadVec, elemsAt, Ea.part_congr (sameAddrs_ahead x), delem_congr (ahead_dmem x), Nat.zero_add]

theorem evenAddr_of {a : Nat} (h : a % 2 = 0) : evenAddr a = true := decide_eq_true h

/-! ## Loads -/

/-- The engine after a load: one vector register and the address registers. -/
def loaded (x : EngineSt) (d : VReg) (u : Vec) (ar : Vector (BitVec 18) 8) : EngineSt :=
  { setV (ahead x) d u with ar := ar }

section
variable (x : EngineSt) (d : VReg)

theorem opVld_eq {ea : Ea} (h : ∀ i : Nat, i < 8 → ea.part x 2 i % 2 = 0) :
    opVld (ahead x) d ea = some (loaded x d (elemsAt x ea) (ea.mod x).ar) := by
  rw [opVld, if_pos ((Ea.even_congr (sameAddrs_ahead x) ea 8).trans (even_of_parts h)), loadVec_ahead,
    Ea.mod_of_sameAddrs (x := x) (y := setV (ahead x) d _) ⟨rfl, rfl, rfl, rfl⟩]
  rfl

theorem opVldb_eq {ea : Ea} (h : ea.addr x % 2 = 0) :
    opVldb (ahead x) d ea = some (loaded x d (mkVec fun _ => delem x (ea.addr x)) (ea.mod x).ar) := by
  rw [opVldb, Ea.addr_congr (sameAddrs_ahead x), if_pos (evenAddr_of h), delem_congr (ahead_dmem x),
    Ea.mod_of_sameAddrs (x := x) (y := setV (ahead x) d _) ⟨rfl, rfl, rfl, rfl⟩]
  rfl

theorem opVldq_eq (ea : Ea) : opVldq (ahead x) d ea
    = some (loaded x d (mkVec fun i => (dbyte x (ea.part x 1 i.val)).setWidth 16) (ea.mod x).ar) := by
  simp only [opVldq, Ea.part_congr (sameAddrs_ahead x), dbyte_congr (ahead_dmem x)]
  rw [Ea.mod_of_sameAddrs (x := x) (y := setV (ahead x) d _) ⟨rfl, rfl, rfl, rfl⟩]
  rfl

theorem opEld_eq (l : Lane) {ea : EaLane} (h : ea.addr x % 2 = 0) : opEld (ahead x) d l ea
    = some (loaded x d (x.v[d].set l.val (delem x (ea.addr x)) l.isLt) (ea.mod x).ar) := by
  rw [opEld, EaLane.addr_congr (sameAddrs_ahead x), if_pos (evenAddr_of h), delem_congr (ahead_dmem x),
    EaLane.mod_of_sameAddrs (x := x) (y := setV (ahead x) d _) ⟨rfl, rfl, rfl, rfl⟩]
  rfl

end

/-- An instruction that loads one vector register and may post-modify its pointer. -/
theorem op_loads {i : Instr} {s : State} {e : EngineId} {fs : List WordField} {mayRepeat : Bool} {d : VReg} {u : Vec}
    {ar : Vector (BitVec 18) 8} {f : EngineSt → Option EngineSt} (hf : Fetches s e fs) (hrc : (s.engine e).rc = 0)
    (hi : exec i s = .next (s.cloveOp e fs mayRepeat 1 f))
    (hload : f (ahead (s.engine e)) = some (loaded (s.engine e) d u ar)) :
    ∃ y, RunsTo i s e y ∧ y.v[d] = u
      ∧ y.ar = ar ∧ y.of = (s.engine e).of ∧ y.cs = (s.engine e).cs ∧ y.cl = (s.engine e).cl
      ∧ (∀ r : VReg, r ≠ d → y.v[r] = (s.engine e).v[r]) ∧ y.acc = (s.engine e).acc ∧ y.bexp = (s.engine e).bexp
      ∧ y.flg = (s.engine e).flg ∧ SameMems (s.engine e) y ∧ SamePlace (s.engine e) y ∧ Advanced (s.engine e) y 1 :=
  op_runsTo hf hrc hi hload ⟨setV_v_same (ahead _) d u, rfl, rfl, rfl, rfl, fun _ hr => setV_v_other (ahead _) d u hr, rfl,
    rfl, rfl, ⟨rfl, rfl⟩, ⟨rfl, rfl, rfl, rfl, rfl, rfl, rfl⟩, advanced_retire rfl rfl rfl 1⟩

/-- Settles O4: each load writes Vd, or one lane of it, with what stands at its address. -/
theorem cloveLoads : Obligations.CloveLoads := by
  intro s e d l ea el hrc
  refine ⟨fun hf heven => ?vld, fun hf heven => ?vldb, fun hf => ?vldq, fun hf heven => ?eld⟩
  case vld =>
    obtain ⟨y, hrun, hv, hrest⟩ := op_loads (i := .vld e d ea) hf hrc rfl (opVld_eq _ d heven)
    exact ⟨y, hrun, fun i => by rw [hv, elemsAt, mkVec_lane], hrest⟩
  case vldb =>
    obtain ⟨y, hrun, hv, hrest⟩ := op_loads (i := .vldb e d ea) hf hrc rfl (opVldb_eq _ d heven)
    exact ⟨y, hrun, fun i => by rw [hv, mkVec_lane], hrest⟩
  case vldq =>
    obtain ⟨y, hrun, hv, hrest⟩ := op_loads (i := .vldq e d ea) hf hrc rfl (opVldq_eq _ d ea)
    refine ⟨y, hrun, fun i => ?_, hrest⟩
    rw [hv, mkVec_lane]
    exact BitVec.toNat_setWidth_of_le (by decide)
  case eld =>
    obtain ⟨y, hrun, hv, hrest⟩ := op_loads (i := .eld e d l el) hf hrc rfl (opEld_eq _ d l heven)
    refine ⟨y, hrun, ?_, fun i hi => ?_, hrest⟩
    · rw [hv]; simp
    · rw [hv]; simp [Fin.val_ne_of_ne (Ne.symm hi)]

/-! ## Post-modification (R196) -/

theorem postMod_ar_same (x : EngineSt) (k : AReg) :
    (((postMod x k).ar[k]).toNat : Int) = circular x k ((x.ar[k].toNat : Int) + x.of[k].toInt) % 262144 := by
  have hget : (postMod x k).ar[k] = BitVec.ofInt 18 (circular x k ((x.ar[k].toNat : Int) + x.of[k].toInt)) := by
    simp [postMod, setAr]
  rw [hget, BitVec.toNat_ofInt]
  omega

theorem postMod_ar_other (x : EngineSt) {k r : AReg} (h : r ≠ k) : (postMod x k).ar[r] = x.ar[r] := by
  simp [postMod, setAr, Fin.val_ne_of_ne (Ne.symm h)]

/-- Settles O6: VLDQ post-modifies its pointer once, and ARk wraps into its circular region. -/
theorem clovePostModification : Obligations.ClovePostModification := by
  intro s e d k hrc hf x new wrapped
  obtain ⟨y, hrun, -, har, -⟩ := op_loads (i := .vldq e d (.post k)) hf hrc rfl (opVldq_eq _ d (.post k))
  refine ⟨y, hrun, ?_, fun r hr => ?_⟩
  · have hwrapped : circular x k new = wrapped := by
      simp only [circular, wrapped, ite_not]
    rw [har, ← hwrapped]
    exact postMod_ar_same x k
  · rw [har]
    exact postMod_ar_other x hr

end Sys2Proof.Machine

/-! # The Clove instruction set: stores, and accumulation from memory -/

namespace Sys2Proof.Machine

/-! ## Data memory after a store -/

section
variable {x : EngineSt} (hw : Memory.wf blankByte x.dmem = true) (a : Nat) (v : BitVec 16)

theorem dput_eq : dput x a v = { x with dmem := (dput x a v).dmem } := rfl

include hw

theorem dput_wf : Memory.wf blankByte (dput x a v).dmem = true := memWriteAll_wf blankByte _ _ _ hw

theorem dput_dbyte_other {b : Nat} (h0 : b % 262144 ≠ a % 262144) (h1 : b % 262144 ≠ a % 262144 + 1) :
    dbyte (dput x a v) b = dbyte x b := by
  refine memRead_writeAll_other blankByte _ _ _ _ hw ?_
  simp only [List.length_cons, List.length_nil]
  omega

/-- The element stored is read again. -/
theorem dput_delem_same (heven : a % 2 = 0) : delem (dput x a v) a = v := by
  have hnext : (a + 1) % 262144 = a % 262144 + 1 := by omega
  have hlo : dbyte (dput x a v) a = v.extractLsb' 0 8 :=
    memRead_writeAll_here blankByte [v.extractLsb' 0 8, v.extractLsb' 8 8] x.dmem (a % 262144) 0 hw (by simp)
  have hhi : dbyte (dput x a v) (a + 1) = v.extractLsb' 8 8 := by
    unfold dbyte
    rw [hnext]
    exact memRead_writeAll_here blankByte [v.extractLsb' 0 8, v.extractLsb' 8 8] x.dmem (a % 262144) 1 hw (by simp)
  rw [delem, hlo, hhi]
  exact BitVec.extractLsb'_append_extractLsb'_eq_extractLsb' (by decide) |>.trans BitVec.extractLsb'_eq_self

/-- Another element at an even address reads as before. -/
theorem dput_delem_other {b : Nat} (ha : a % 2 = 0) (hb : b % 2 = 0) (hne : b % 262144 ≠ a % 262144) :
    delem (dput x a v) b = delem x b := by
  rw [delem, delem, dput_dbyte_other hw a v (by omega) (by omega), dput_dbyte_other hw a v (by omega) (by omega)]

end

/-! ## A run of elements stored in turn -/

/-- Elements stored at the addresses that lanes have, lane after lane. -/
def dputAll (x : EngineSt) (at_ : Lane → Nat) (u : Lane → BitVec 16) (ls : List Lane) : EngineSt :=
  ls.foldl (fun t i => dput t (at_ i) (u i)) x

section
variable (at_ : Lane → Nat) (u : Lane → BitVec 16)

/-- A store changes data memory alone. -/
theorem dputAll_eq (ls : List Lane) (x : EngineSt) : dputAll x at_ u ls = { x with dmem := (dputAll x at_ u ls).dmem } := by
  induction ls generalizing x with
  | nil => rfl
  | cons i ls ih => exact ih (dput x (at_ i) (u i))

theorem dputAll_dbyte_other (ls : List Lane) {x : EngineSt} (hw : Memory.wf blankByte x.dmem = true) {b : Nat}
    (h : ∀ i ∈ ls, b % 262144 ≠ at_ i % 262144 ∧ b % 262144 ≠ at_ i % 262144 + 1) :
    dbyte (dputAll x at_ u ls) b = dbyte x b := by
  induction ls generalizing x with
  | nil => rfl
  | cons i ls ih =>
    obtain ⟨h0, h1⟩ := h i List.mem_cons_self
    exact (ih (dput_wf hw _ _) fun j hj => h j (List.mem_cons_of_mem i hj)).trans (dput_dbyte_other hw _ _ h0 h1)

theorem dputAll_delem_other (heven : ∀ i, at_ i % 2 = 0) (ls : List Lane) {x : EngineSt}
    (hw : Memory.wf blankByte x.dmem = true) {b : Nat} (hb : b % 2 = 0) (h : ∀ i ∈ ls, b % 262144 ≠ at_ i % 262144) :
    delem (dputAll x at_ u ls) b = delem x b := by
  induction ls generalizing x with
  | nil => rfl
  | cons i ls ih =>
    exact (ih (dput_wf hw _ _) fun j hj => h j (List.mem_cons_of_mem i hj)).trans
      (dput_delem_other hw _ _ (heven i) hb (h i List.mem_cons_self))

/-- Elements stored at addresses that differ are all read again. -/
theorem dputAll_delem_same (heven : ∀ i, at_ i % 2 = 0) (hne : ∀ i j, i ≠ j → at_ i % 262144 ≠ at_ j % 262144)
    (ls : List Lane) (hls : ls.Nodup) {x : EngineSt} (hw : Memory.wf blankByte x.dmem = true) {i : Lane} (hi : i ∈ ls) :
    delem (dputAll x at_ u ls) (at_ i) = u i := by
  induction ls generalizing x with
  | nil => exact absurd hi List.not_mem_nil
  | cons j ls ih =>
    obtain ⟨hj, hls⟩ := List.nodup_cons.1 hls
    by_cases hij : i = j
    · subst hij
      exact (dputAll_delem_other at_ u heven ls (dput_wf hw _ _) (heven i) fun k hk => hne i k fun h => hj (h ▸ hk)).trans
        (dput_delem_same hw _ _ (heven i))
    · exact ih hls (dput_wf hw _ _) ((List.mem_cons.1 hi).resolve_left hij)

end

/-- The lanes in order. -/
def laneList : List Lane := [0, 1, 2, 3, 4, 5, 6, 7]

theorem storeVec_eq (x : EngineSt) (ea : Ea) (u : Vec) :
    storeVec x ea u = dputAll x (fun i => ea.part x 2 i.val) (fun i => u[i]) laneList := rfl

/-! ## Stores -/

/-- The engine after a store: data memory and the address registers. -/
def stored (x : EngineSt) (m : Memory) (ar : Vector (BitVec 18) 8) : EngineSt := { ahead x with dmem := m, ar := ar }

/-- An instruction that stores and may post-modify its pointers. -/
theorem op_stores {i : Instr} {s : State} {e : EngineId} {fs : List WordField} {mayRepeat : Bool} {m : Memory}
    {ar : Vector (BitVec 18) 8} {f : EngineSt → Option EngineSt} (hf : Fetches s e fs) (hrc : (s.engine e).rc = 0)
    (hi : exec i s = .next (s.cloveOp e fs mayRepeat 1 f))
    (hstore : f (ahead (s.engine e)) = some (stored (s.engine e) m ar)) :
    ∃ y, RunsTo i s e y ∧ y.dmem = m ∧ y.ar = ar ∧ y.of = (s.engine e).of ∧ y.cs = (s.engine e).cs ∧ y.cl = (s.engine e).cl
      ∧ y.v = (s.engine e).v ∧ y.acc = (s.engine e).acc ∧ y.bexp = (s.engine e).bexp ∧ y.flg = (s.engine e).flg
      ∧ y.pmem = (s.engine e).pmem ∧ SamePlace (s.engine e) y ∧ Advanced (s.engine e) y 1 :=
  op_runsTo hf hrc hi hstore ⟨rfl, rfl, rfl, rfl, rfl, rfl, rfl, rfl, rfl, rfl, ⟨rfl, rfl, rfl, rfl, rfl, rfl, rfl⟩,
    advanced_retire rfl rfl rfl 1⟩

section
variable (x : EngineSt) {ea : Ea} (u : Vec)

/-- Data memory after eight elements have been stored at an effective address. -/
def storedElems (ea : Ea) : Memory := (dputAll x (fun i => ea.part x 2 i.val) (fun i => u[i]) laneList).dmem

theorem dputAll_ahead_dmem (at_ : Lane → Nat) (v : Lane → BitVec 16) (ls : List Lane) (y : EngineSt)
    (h : y.dmem = x.dmem) : (dputAll y at_ v ls).dmem = (dputAll x at_ v ls).dmem := by
  induction ls generalizing x y with
  | nil => exact h
  | cons i ls ih => exact ih _ _ (by simp only [dput, h])

theorem storeVec_ahead (ea : Ea) : storeVec (ahead x) ea u = { ahead x with dmem := storedElems x u ea } := by
  simp only [storeVec_eq, Ea.part_congr (sameAddrs_ahead x)]
  rw [dputAll_eq, dputAll_ahead_dmem x _ _ _ (ahead x) rfl]
  rfl

theorem opVst_eq (v : VReg) (h : ∀ i : Nat, i < 8 → ea.part x 2 i % 2 = 0) :
    opVst (ahead x) ea v = some (stored x (storedElems x x.v[v] ea) (ea.mod x).ar) := by
  rw [opVst, if_pos ((Ea.even_congr (sameAddrs_ahead x) ea 8).trans (even_of_parts h)), storeVec_ahead,
    Ea.mod_of_sameAddrs (x := x) (y := { ahead x with dmem := _ }) ⟨rfl, rfl, rfl, rfl⟩]
  rfl

theorem opEst_eq (v : VReg) (l : Lane) {el : EaLane} (h : el.addr x % 2 = 0) :
    opEst (ahead x) el v l = some (stored x (dput x (el.addr x) x.v[v][l]).dmem (el.mod x).ar) := by
  rw [opEst, EaLane.addr_congr (sameAddrs_ahead x), if_pos (evenAddr_of h), dput_eq,
    EaLane.mod_of_sameAddrs (x := x) (y := { ahead x with dmem := _ }) ⟨rfl, rfl, rfl, rfl⟩]
  rfl

theorem postMod2_of_sameAddrs {x y : EngineSt} (h : SameAddrs x y) (k j : AReg) :
    postMod2 y k j = { y with ar := (if k = j then postMod x k else postMod (postMod x k) j).ar } := by
  obtain ⟨har, hof, hcs, hcl⟩ := h
  unfold postMod2
  split
  · exact Ea.mod_of_sameAddrs ⟨har, hof, hcs, hcl⟩ (.post k)
  · have hone : SameAddrs (postMod x k) (postMod y k) := ⟨postMod_ar_congr ⟨har, hof, hcs, hcl⟩ k, hof, hcs, hcl⟩
    exact Ea.mod_of_sameAddrs hone (.post j)

theorem opVcpy_eq (k j : AReg)
    (h : ∀ i : Nat, i < 8 → (Ea.post k).part x 2 i % 2 = 0 ∧ (Ea.post j).part x 2 i % 2 = 0) :
    opVcpy (ahead x) k j = some (stored x (storedElems x (elemsAt x (.post j)) (.post k))
      (if k = j then postMod x k else postMod (postMod x k) j).ar) := by
  have heven : ((Ea.post k).even (ahead x) 8 && (Ea.post j).even (ahead x) 8) = true := by
    rw [Ea.even_congr (sameAddrs_ahead x), Ea.even_congr (sameAddrs_ahead x), even_of_parts fun i hi => (h i hi).1,
      even_of_parts fun i hi => (h i hi).2]
    rfl
  rw [opVcpy, if_pos heven, loadVec_ahead, storeVec_ahead,
    postMod2_of_sameAddrs (x := x) (y := { ahead x with dmem := _ }) ⟨rfl, rfl, rfl, rfl⟩]
  rfl

variable (hw : Memory.wf blankByte x.dmem = true)
include hw

/-- What data memory holds after eight elements have been stored. -/
theorem storedElems_delem {y : EngineSt} (hy : y.dmem = storedElems x u ea) (h : ∀ i : Nat, i < 8 → ea.part x 2 i % 2 = 0)
    (hne : ∀ m n : Lane, m ≠ n → ea.part x 2 m.val % 262144 ≠ ea.part x 2 n.val % 262144) (i : Lane) :
    delem y (ea.part x 2 i.val) = u[i] := by
  rw [delem_congr (x := dputAll x _ _ laneList) hy]
  have hmem : i ∈ laneList := by
    match i with
    | 0 | 1 | 2 | 3 | 4 | 5 | 6 | 7 => decide
  exact dputAll_delem_same (fun i => ea.part x 2 i.val) (fun i => u[i]) (fun i => h i.val i.isLt) hne laneList
    (by decide) hw hmem

theorem storedElems_outside {y : EngineSt} (hy : y.dmem = storedElems x u ea) : DataOutside x y (vecBytes x ea) := by
  intro a ha hout
  rw [dbyte_congr (x := dputAll x _ _ laneList) hy]
  refine dputAll_dbyte_other _ _ laneList hw fun i _ => ?_
  rw [Nat.mod_eq_of_lt ha]
  have hval : i.val ∈ ([0, 1, 2, 3, 4, 5, 6, 7] : List Nat) := by
    match i with
    | 0 | 1 | 2 | 3 | 4 | 5 | 6 | 7 => decide
  constructor <;> rintro rfl <;> exact hout (List.mem_flatMap.2 ⟨i.val, hval, by simp⟩)

end

/-- Settles O5: each store writes its elements at its address, and no byte elsewhere. -/
theorem cloveStores : Obligations.CloveStores := by
  intro s e v l ea el k j hrc hw
  refine ⟨fun hf heven => ?vst, fun hf heven => ?est, fun hf heven => ?vcpy⟩
  case vst =>
    obtain ⟨y, hrun, hmem, hrest⟩ := op_stores (i := .vst e ea v) hf hrc rfl (opVst_eq _ v heven)
    exact ⟨y, hrun, storedElems_delem _ _ hw hmem heven, storedElems_outside _ _ hw hmem, hrest⟩
  case est =>
    obtain ⟨y, hrun, hmem, hrest⟩ := op_stores (i := .est e el v l) hf hrc rfl (opEst_eq _ v l heven)
    refine ⟨y, hrun, ?_, fun a ha hout => ?_, hrest⟩
    · rw [delem_congr (x := dput (s.engine e) _ _) hmem]
      exact dput_delem_same hw _ _ heven
    · rw [dbyte_congr (x := dput (s.engine e) _ _) hmem]
      simp only [List.mem_cons, List.not_mem_nil, or_false, not_or] at hout
      refine dput_dbyte_other hw _ _ ?_ ?_
      · rw [Nat.mod_eq_of_lt ha]; exact hout.1
      · rw [Nat.mod_eq_of_lt ha]; exact hout.2
  case vcpy =>
    obtain ⟨y, hrun, hmem, hrest⟩ := op_stores (i := .vcpy e k j) hf hrc rfl (opVcpy_eq _ k j heven)
    refine ⟨y, hrun, fun hne i => ?_, storedElems_outside _ _ hw hmem, hrest⟩
    rw [storedElems_delem _ _ hw hmem (fun i hi => (heven i hi).1) hne i, elemsAt, mkVec_lane]

/-! ## Accumulation from memory -/

/-- The engine after an accumulation from memory: one accumulator and the address registers. -/
def gathered (x : EngineSt) (d : AccReg) (f : Lane → Int) (ar : Vector (BitVec 18) 8) : EngineSt :=
  { accumulate (ahead x) d f with ar := ar }

section
variable (x : EngineSt) (d : AccReg)

theorem accumulate_ahead_sameAddrs (f : Lane → Int) : SameAddrs x (accumulate (ahead x) d f) := by
  rw [accumulate_eq]
  exact ⟨rfl, rfl, rfl, rfl⟩

theorem opVmacb_eq (k j : AReg) (hk : ∀ i : Nat, i < 8 → (Ea.post k).part x 2 i % 2 = 0) (hj : x.ar[j].toNat % 2 = 0) :
    opVmacb (ahead x) d k j = some (gathered x d
      (fun i => (delem x ((Ea.post k).part x 2 i.val)).toInt * (delem x x.ar[j].toNat).toInt)
      (if k = j then postMod x k else postMod (postMod x k) j).ar) := by
  have heven : ((Ea.post k).even (ahead x) 8 && evenAddr (ahead x).ar[j].toNat) = true := by
    rw [Ea.even_congr (sameAddrs_ahead x), even_of_parts hk]
    exact evenAddr_of hj
  rw [opVmacb, if_pos heven]
  simp only [loadVec_ahead, delem_congr (ahead_dmem x), ahead_ar, elemsAt, mkVec_lane]
  rw [postMod2_of_sameAddrs (accumulate_ahead_sameAddrs x d _)]
  rfl

theorem opVsqa_eq {ea : Ea} (h : ∀ i : Nat, i < 8 → ea.part x 2 i % 2 = 0) :
    opVsqa (ahead x) d ea = some (gathered x d
      (fun i => (delem x (ea.part x 2 i.val)).toInt * (delem x (ea.part x 2 i.val)).toInt) (ea.mod x).ar) := by
  simp only [opVsqa, if_pos ((Ea.even_congr (sameAddrs_ahead x) ea 8).trans (even_of_parts h)), loadVec_ahead, elemsAt,
    mkVec_lane]
  rw [Ea.mod_of_sameAddrs (accumulate_ahead_sameAddrs x d _)]
  rfl

theorem opVpwr_eq {ea : Ea} (h : ∀ i : Nat, i < 16 → ea.part x 2 i % 2 = 0) :
    opVpwr (ahead x) d ea = some (gathered x d
      (fun i => (delem x (ea.part x 2 (2 * i.val))).toInt * (delem x (ea.part x 2 (2 * i.val))).toInt
        + (delem x (ea.part x 2 (2 * i.val + 1))).toInt * (delem x (ea.part x 2 (2 * i.val + 1))).toInt) (ea.mod x).ar) := by
  simp only [opVpwr, if_pos ((Ea.even_congr (sameAddrs_ahead x) ea 16).trans (even_of_parts h)),
    Ea.part_congr (sameAddrs_ahead x), delem_congr (ahead_dmem x)]
  rw [Ea.mod_of_sameAddrs (accumulate_ahead_sameAddrs x d _)]
  rfl

end

theorem Accumulated.setAr {x y : EngineSt} {d : AccReg} {f : Lane → Int} (h : Accumulated x y d f)
    (ar : Vector (BitVec 18) 8) : Accumulated x { y with ar := ar } d f := h

/-- Beside its accumulator, FLG, PC and cycles, an accumulation from memory changes its pointers alone. -/
theorem gathered_frame (x : EngineSt) (c : AccReg) (g : Lane → Int) (ar : Vector (BitVec 18) 8) (n : Nat) :
    let y := retire (gathered x c g ar) n
    y.ar = ar ∧ y.of = x.of ∧ y.cs = x.cs ∧ y.cl = x.cl ∧ y.v = x.v ∧ (∀ r : AccReg, r ≠ c → y.acc[r] = x.acc[r])
      ∧ y.bexp = x.bexp ∧ SameMems x y ∧ SamePlace x y ∧ Advanced x y n := by
  rw [gathered, accumulate_eq]
  exact ⟨rfl, rfl, rfl, rfl, rfl, fun _ hr => setAcc_acc_other (ahead x) c _ hr, rfl, ⟨rfl, rfl⟩,
    ⟨rfl, rfl, rfl, rfl, rfl, rfl, rfl⟩, advanced_retire rfl rfl rfl n⟩

theorem gathered_accumulated (x : EngineSt) (c : AccReg) (g : Lane → Int) (ar : Vector (BitVec 18) 8) (n : Nat) :
    Accumulated x (retire (gathered x c g ar) n) c g :=
  Accumulated.retire (Accumulated.setAr (accumulate_accumulated (z := ahead x) x c g rfl rfl fun _ => rfl) ar) n

/-- An instruction that accumulates from memory and may post-modify its pointers. -/
theorem op_gathers {i : Instr} {s : State} {e : EngineId} {fs : List WordField} {mayRepeat : Bool} {n : Nat} {c : AccReg}
    {g : Lane → Int} {ar : Vector (BitVec 18) 8} {f : EngineSt → Option EngineSt} (hf : Fetches s e fs)
    (hrc : (s.engine e).rc = 0) (hi : exec i s = .next (s.cloveOp e fs mayRepeat n f))
    (hgather : f (ahead (s.engine e)) = some (gathered (s.engine e) c g ar)) :
    ∃ y, RunsTo i s e y ∧ Accumulated (s.engine e) y c g ∧ y.ar = ar ∧ y.of = (s.engine e).of ∧ y.cs = (s.engine e).cs
      ∧ y.cl = (s.engine e).cl ∧ y.v = (s.engine e).v ∧ (∀ r : AccReg, r ≠ c → y.acc[r] = (s.engine e).acc[r])
      ∧ y.bexp = (s.engine e).bexp ∧ SameMems (s.engine e) y ∧ SamePlace (s.engine e) y ∧ Advanced (s.engine e) y n :=
  op_runsTo hf hrc hi hgather ⟨gathered_accumulated .., gathered_frame ..⟩

/-- Settles O7: each instruction accumulates the terms that stand at its addresses. -/
theorem cloveAccumulateFromMemory : Obligations.CloveAccumulateFromMemory := by
  intro s e c ea k j hrc
  exact ⟨fun hf hk hj => op_gathers hf hrc rfl (opVmacb_eq _ c k j hk hj),
    fun hf heven => op_gathers hf hrc rfl (opVsqa_eq _ c heven),
    fun hf heven => op_gathers hf hrc rfl (opVpwr_eq _ c heven)⟩

end Sys2Proof.Machine

/-! # The Clove instruction set: searches -/

namespace Sys2Proof.Machine

/-! ## An instruction with something to do before its first time -/

theorem cloveRun_of_fetches {s : State} {e : EngineId} {fs : List WordField} (hf : Fetches s e fs)
    (hrc : (s.engine e).rc = 0) {first : EngineSt → EngineSt} {f : EngineSt → Option EngineSt} {y : EngineSt}
    (hy : f (first (ahead (s.engine e))) = some y) (mayRepeat : Bool) (cycles : Nat) :
    s.cloveRun e fs mayRepeat cycles first f = s.setEngine e (fun _ => retire y cycles) := by
  obtain ⟨hclk, hrun, hon, hword, hdef⟩ := hf
  simp [State.cloveRun, State.engineRuns, repeatOp, hclk, hrun, hon, hword, hdef, hrc, hy]

/-! ## The scan of a search (R234) -/

/-- The comparison of a search: above for a maximum, below for a minimum. -/
def beats (max_ : Bool) (u v : Int) : Bool := if max_ then decide (v < u) else decide (u < v)

/-- Extremum, its index and whether it changed, after one more element. -/
def scanOne (better : Int → Int → Bool) (base : BitVec 16) (el : Nat → BitVec 16) (st : BitVec 16 × BitVec 16 × Bool)
    (i : Nat) : BitVec 16 × BitVec 16 × Bool :=
  if better (el i).toInt st.1.toInt then (el i, base + BitVec.ofNat 16 i, true) else st

/-- A scan of eight elements, from the extremum and index that a vector holds. -/
def scanEight (better : Int → Int → Bool) (u : Vec) (el : Nat → BitVec 16) : BitVec 16 × BitVec 16 × Bool :=
  (List.range 8).foldl (scanOne better u[2] el) (u[0], u[1], false)

/-- A vector with an extremum and its index in lanes 0 and 1. -/
def putBest (u : Vec) (st : BitVec 16 × BitVec 16 × Bool) : Vec := (u.set 0 st.1).set 1 st.2.1

theorem putBest_putBest (u : Vec) (st r : BitVec 16 × BitVec 16 × Bool) :
    ((putBest u st).set 0 r.1).set 1 r.2.1 = putBest u r := by
  simp only [putBest, Vector.ext_iff, Vector.getElem_set]
  intro i hi
  split
  · rfl
  · split
    · rfl
    · simp [*]

/-- The step of the model on one lane. -/
def searchOne (max_ : Bool) (u e : Vec) (st : Vec × Bool) (i : Lane) : Vec × Bool :=
  if (if max_ then (st.1[0]).toInt < (e[i]).toInt else (e[i]).toInt < (st.1[0]).toInt) then
    (((st.1.set 0 (e[i])).set 1 (u[2] + BitVec.ofNat 16 i.val)), true)
  else st

theorem searchOne_putBest (max_ : Bool) (u e : Vec) {el : Nat → BitVec 16} (hel : ∀ i : Lane, el i.val = e[i])
    (st : BitVec 16 × BitVec 16 × Bool) (i : Lane) :
    searchOne max_ u e (putBest u st, st.2.2) i
      = (putBest u (scanOne (beats max_) u[2] el st i.val), (scanOne (beats max_) u[2] el st i.val).2.2) := by
  have h0 : (putBest u st)[0] = st.1 := by simp [putBest]
  have hbest := putBest_putBest u st (e[i], u[2] + BitVec.ofNat 16 i.val, true)
  cases max_ <;> simp only [searchOne, scanOne, beats, h0, hel, reduceIte, Bool.false_eq_true, decide_eq_true_eq]
  all_goals split <;> simp only [hbest]

theorem searchOne_foldl (max_ : Bool) (u e : Vec) {el : Nat → BitVec 16} (hel : ∀ i : Lane, el i.val = e[i])
    (ls : List Lane) (st : BitVec 16 × BitVec 16 × Bool) :
    ls.foldl (searchOne max_ u e) (putBest u st, st.2.2)
      = (putBest u ((ls.map (·.val)).foldl (scanOne (beats max_) u[2] el) st),
          ((ls.map (·.val)).foldl (scanOne (beats max_) u[2] el) st).2.2) := by
  induction ls generalizing st with
  | nil => rfl
  | cons i ls ih =>
    simp only [List.foldl_cons, List.map_cons]
    rw [searchOne_putBest max_ u e hel, ih]

/-- A search leaves the extremum and its index in lanes 0 and 1, and the index of the next element in lane 2. -/
theorem searchStep_eq (max_ : Bool) (u e : Vec) {el : Nat → BitVec 16} (hel : ∀ i : Lane, el i.val = e[i]) :
    searchStep max_ u e = ((putBest u (scanEight (beats max_) u el)).set 2 (u[2] + 8),
      (scanEight (beats max_) u el).2.2) := by
  have hfold := searchOne_foldl max_ u e hel [0, 1, 2, 3, 4, 5, 6, 7] (u[0], u[1], false)
  have hstart : putBest u (u[0], u[1], false) = u := by simp [putBest]
  rw [hstart] at hfold
  have hstep : searchStep max_ u e = (let r := ([0, 1, 2, 3, 4, 5, 6, 7] : List Lane).foldl (searchOne max_ u e) (u, false)
    (r.1.set 2 (u[2] + 8), r.2)) := rfl
  rw [hstep, hfold]
  rfl

/-! ## FOUND -/

theorem or_of_cleared (f m : BitVec 16) : (f &&& ~~~m) ||| m = f ||| m := by
  ext i hi
  cases h : m[i] <;> simp [h]

/-- FOUND is cleared before the first time, and set where the extremum changed. -/
theorem found_flg (f : BitVec 16) (found : Bool) :
    (if found then (f &&& ~~~(1#16 <<< flgFound)) ||| (1#16 <<< flgFound) else f &&& ~~~(1#16 <<< flgFound))
      = if found then f ||| 0x40 else f &&& 0xFFBF := by
  cases found
  · rfl
  · exact or_of_cleared f 0x40

/-! ## The four searches -/

/-- The engine after a search. -/
def searched (x : EngineSt) (d : VReg) (max_ : Bool) (el : Nat → BitVec 16) (ar : Vector (BitVec 18) 8) : EngineSt :=
  { setV (ahead x) d ((putBest x.v[d] (scanEight (beats max_) x.v[d] el)).set 2 (x.v[d][2] + 8)) with
    flg := if (scanEight (beats max_) x.v[d] el).2.2 then x.flg ||| 0x40 else x.flg &&& 0xFFBF, ar := ar }

section
variable (x : EngineSt) (d : VReg) (max_ : Bool)

theorem search_eq (e : Vec) {el : Nat → BitVec 16} (hel : ∀ i : Lane, el i.val = e[i]) :
    search max_ (setFlag (ahead x) flgFound false) d e = searched x d max_ el x.ar := by
  have hstick (z : EngineSt) (i : Nat) (b : Bool) :
      stick z i b = { z with flg := if b then z.flg ||| (1#16 <<< i) else z.flg } := by cases b <;> rfl
  have hv : (setFlag (ahead x) flgFound false).v = x.v := rfl
  rw [search, hv, searchStep_eq max_ x.v[d] e hel, hstick]
  exact congrArg (fun f => { setV (ahead x) d _ with flg := f }) (found_flg x.flg _)

theorem opSearchMem_eq {ea : Ea} (h : ∀ i : Nat, i < 8 → ea.part x 2 i % 2 = 0) :
    opSearchMem max_ (setFlag (ahead x) flgFound false) d ea
      = some (searched x d max_ (fun i => delem x (ea.part x 2 i)) (ea.mod x).ar) := by
  have hsame : SameAddrs x (setFlag (ahead x) flgFound false) := ⟨rfl, rfl, rfl, rfl⟩
  have hload : loadVec (setFlag (ahead x) flgFound false) ea 0 = elemsAt x ea := by
    simp only [loadVec, elemsAt, Ea.part_congr hsame, delem_congr (x := x) (y := setFlag (ahead x) flgFound false) rfl,
      Nat.zero_add]
  rw [opSearchMem, if_pos ((Ea.even_congr hsame ea 8).trans (even_of_parts h)), hload,
    search_eq x d max_ (elemsAt x ea) (el := fun i => delem x (ea.part x 2 i)) fun i => by rw [elemsAt, mkVec_lane],
    Ea.mod_of_sameAddrs (x := x) (y := searched x d max_ _ x.ar) ⟨rfl, rfl, rfl, rfl⟩]
  rfl

/-- What a search leaves in Vd, FLG and the rest. -/
theorem searched_frame (el : Nat → BitVec 16) (ar : Vector (BitVec 18) 8) :
    let y := retire (searched x d max_ el ar) 2
    let st := scanEight (beats max_) x.v[d] el
    y.v[d][0] = st.1 ∧ y.v[d][1] = st.2.1 ∧ y.v[d][2] = x.v[d][2] + 8 ∧ (∀ i : Lane, 3 ≤ i.val → y.v[d][i] = x.v[d][i])
      ∧ (∀ r : VReg, r ≠ d → y.v[r] = x.v[r]) ∧ y.flg = (if st.2.2 then x.flg ||| 0x40 else x.flg &&& 0xFFBF) ∧ y.ar = ar
      ∧ y.of = x.of ∧ y.cs = x.cs ∧ y.cl = x.cl ∧ y.acc = x.acc ∧ y.bexp = x.bexp ∧ SameMems x y ∧ SamePlace x y
      ∧ Advanced x y 2 := by
  intro y st
  have hv : y.v[d] = (putBest x.v[d] st).set 2 (x.v[d][2] + 8) := setV_v_same (ahead x) d _
  refine ⟨?_, ?_, ?_, fun i hi => ?_, fun _ hr => setV_v_other (ahead x) d _ hr, rfl, rfl, rfl, rfl, rfl, rfl, rfl,
    ⟨rfl, rfl⟩, ⟨rfl, rfl, rfl, rfl, rfl, rfl, rfl⟩, advanced_retire rfl rfl rfl 2⟩
  · rw [hv]; simp [putBest]
  · rw [hv]; simp [putBest]
  · rw [hv]; simp
  · rw [hv]
    simp only [putBest, Fin.getElem_fin, Vector.getElem_set]
    rw [if_neg (by omega), if_neg (by omega), if_neg (by omega)]

end

/-- A search that an engine fetches. -/
theorem search_runs {i : Instr} {s : State} {e : EngineId} {fs : List WordField} {mayRepeat : Bool} {d : VReg} {max_ : Bool}
    {el : Nat → BitVec 16} {ar : Vector (BitVec 18) 8} {f : EngineSt → Option EngineSt} (hf : Fetches s e fs)
    (hrc : (s.engine e).rc = 0)
    (hi : exec i s = .next (s.cloveRun e fs mayRepeat 2 (fun x => setFlag x flgFound false) f))
    (hsearch : f (setFlag (ahead (s.engine e)) flgFound false) = some (searched (s.engine e) d max_ el ar)) :
    RunsTo i s e (retire (searched (s.engine e) d max_ el ar) 2) :=
  hi.trans (congrArg _ (cloveRun_of_fetches (first := fun x => setFlag x flgFound false) hf hrc hsearch mayRepeat 2))

/-- A search on the lanes of a vector register. -/
theorem opSearchReg_eq (x : EngineSt) (d : VReg) (max_ : Bool) (a : VReg) :
    (fun z : EngineSt => some (search max_ z d z.v[a])) (setFlag (ahead x) flgFound false)
      = some (searched x d max_ (fun i => x.v[a].toList.getD i 0) x.ar) :=
  congrArg some (search_eq x d max_ x.v[a] fun i => toList_getD x.v[a] i.isLt)

/-- Settles O10: each search runs on the elements it names, in lane order. -/
theorem cloveSearches : Obligations.CloveSearches := by
  intro s e d a ea hrc x scan found above below mem reg
  have hfound (max_ : Bool) (better : Int → Int → Bool) (hbetter : beats max_ = better) (el : Nat → BitVec 16)
      (ar : Vector (BitVec 18) 8) : found better el ar (retire (searched x d max_ el ar) 2) := by
    subst hbetter
    exact searched_frame x d max_ el ar
  exact ⟨fun hf heven => ⟨_, search_runs hf hrc rfl (opSearchMem_eq x d true heven), hfound true above rfl mem (ea.mod x).ar⟩,
    fun hf heven => ⟨_, search_runs hf hrc rfl (opSearchMem_eq x d false heven), hfound false below rfl mem (ea.mod x).ar⟩,
    fun hf => ⟨_, search_runs hf hrc rfl (opSearchReg_eq x d true a), hfound true above rfl reg x.ar⟩,
    fun hf => ⟨_, search_runs hf hrc rfl (opSearchReg_eq x d false a), hfound false below rfl reg x.ar⟩⟩

end Sys2Proof.Machine

/-! # Clove engines: faults, and DONE -/

namespace Sys2Proof.Machine

/-! ## Instructions that an engine faults on (R197, R223) -/

/-- The first time an instruction runs it faults. -/
theorem cloveOp_faults {s : State} {e : EngineId} {fs : List WordField} (hf : Fetches s e fs)
    (hrc : (s.engine e).rc = 0) {f : EngineSt → Option EngineSt} (hy : f (ahead (s.engine e)) = none) (mayRepeat : Bool)
    (cycles : Nat) : s.cloveOp e fs mayRepeat cycles f = s.engineFault e faultR197 := by
  obtain ⟨hclk, hrun, hon, hword, hdef⟩ := hf
  simp [State.cloveOp, State.cloveRun, State.engineRuns, repeatOp, hclk, hrun, hon, hword, hdef, hrc, hy]

/-- An instruction that may not follow REP faults where a repeat is pending. -/
theorem cloveOp_faults_after_rep {s : State} {e : EngineId} {fs : List WordField} (hf : Fetches s e fs)
    (hrc : (s.engine e).rc ≠ 0) (cycles : Nat) (f : EngineSt → Option EngineSt) :
    s.cloveOp e fs false cycles f = s.engineFault e faultR197 := by
  obtain ⟨hclk, hrun, hon, hword, hdef⟩ := hf
  have hpending : ¬ (s.engine e).rc = 0#17 := hrc
  simp [State.cloveOp, State.cloveRun, State.engineRuns, hclk, hrun, hon, hword, hdef, hpending]

theorem even_of_odd_part {x : EngineSt} {ea : Ea} {i : Nat} (hi : i < 8) (h : ea.part x 2 i % 2 = 1) :
    ea.even x 8 = false := by
  have hodd : evenAddr (ea.part x 2 i) = false := decide_eq_false (by omega)
  exact List.all_eq_false.2 ⟨i, List.mem_range.2 hi, by simp [hodd]⟩

theorem opVld_odd (x : EngineSt) (d : VReg) {ea : Ea} (h : ∃ i : Nat, i < 8 ∧ ea.part x 2 i % 2 = 1) :
    opVld (ahead x) d ea = none := by
  obtain ⟨i, hi, hodd⟩ := h
  rw [opVld, Ea.even_congr (sameAddrs_ahead x), even_of_odd_part hi hodd]
  rfl

theorem opVldb_odd (x : EngineSt) (d : VReg) {ea : Ea} (h : ea.addr x % 2 = 1) : opVldb (ahead x) d ea = none := by
  have hodd : evenAddr (ea.addr x) = false := decide_eq_false (by omega)
  rw [opVldb, Ea.addr_congr (sameAddrs_ahead x), hodd]
  rfl

/-- The row of words that may not run faults an engine that meets one. -/
theorem undefinedOpcode_faults {s : State} {e : EngineId} (hrun : s.engineRuns e = true)
    (h : (s.engine e).beyond = true ∨ (s.engine e).codeEnd ≤ (s.engine e).pc.toNat
      ∨ undefinedWord (fetchWord (s.engine e)) = true
      ∨ ((s.engine e).rc ≠ 0 ∧ notAfterRep (fetchWord (s.engine e)) = true)) :
    undefinedOpcode e s = s.engineFault e faultR197 := by
  unfold undefinedOpcode
  rw [if_pos]
  obtain h | h | h | ⟨hrc, h⟩ := h
  · simp [offCode, hrun, h]
  · simp [offCode, hrun, h]
  · simp [hrun, h]
  · have hpending : ¬ (s.engine e).rc = 0#17 := hrc
    simp [hrun, h, hpending]

/-! ## An engine at its block boundary -/

section
variable (s : State) (e : EngineId)

theorem loadDone_engines : s.loadDone.clove.engines = s.clove.engines := by
  unfold State.loadDone
  split
  · rfl
  · split
    · simp [State.setClove]
    · rfl

theorem loadDone_ports : s.loadDone.ports = s.ports := by
  unfold State.loadDone
  split
  · rfl
  · split <;> simp

theorem engineIdles_mode (dest : EngineMode) : ((s.engineIdles e dest).engine e).mode = dest := by
  have hload (u : State) : u.loadDone.engine e = u.engine e := congrArg (fun es => es[e]) (loadDone_engines u)
  have hclove (u : State) (g : CloveSt → CloveSt) (hg : (g u.clove).engines = u.clove.engines) :
      (u.setClove g).engine e = u.engine e := congrArg (fun es => es[e]) hg
  unfold State.engineIdles State.engineBoundary
  rw [hload, hclove _ _ rfl]
  simp

theorem engineIdles_ports (dest : EngineMode) : (s.engineIdles e dest).ports = s.ports := by
  unfold State.engineIdles State.engineBoundary
  simp [loadDone_ports]

end

/-! ## The output sequencer keeps the blocks and the column state -/

/-- The blocks that a port's queue still has or has released. -/
def State.blocksOut (s : State) (p : Port) : List Block := (s.port p).queue.released ++ (s.port p).queue.blocks

theorem releaseBlocks_keeps (p : Port) (fuel : Nat) (s : State) :
    (State.releaseBlocks p fuel s).blocksOut p = s.blocksOut p
      ∧ ((State.releaseBlocks p fuel s).port p).queue.state = (s.port p).queue.state := by
  induction fuel generalizing s with
  | zero => exact ⟨rfl, rfl⟩
  | succ fuel ih =>
    unfold State.releaseBlocks
    split
    · exact ⟨rfl, rfl⟩
    · next b bs hblocks =>
      split
      · refine ⟨(ih _).1.trans ?_, (ih _).2.trans (by simp)⟩
        simp [State.blocksOut, hblocks]
      · exact ⟨rfl, rfl⟩

theorem release_keeps (s : State) (p : Port) :
    (s.release p).blocksOut p = s.blocksOut p ∧ ((s.release p).port p).queue.state = (s.port p).queue.state := by
  obtain ⟨hblocks, hstate⟩ := releaseBlocks_keeps p (s.port p).queue.blocks.length s
  refine ⟨Eq.trans ?_ hblocks, Eq.trans ?_ hstate⟩
  · simp [State.release, State.forgetBlocks, State.blocksOut]
  · simp [State.release, State.forgetBlocks]

/-! ## DONE (R198, R206, R209) -/

/-- The engine has counted DONE and stands behind it. -/
def State.pastDone (s : State) (e : EngineId) : State :=
  s.setEngine e (fun y => { y with cycles := y.cycles + 1, pc := y.pc + 4 })

/-- The length of the results that an engine has left. -/
def EngineSt.resultLen (x : EngineSt) : Int := (x.ar[2].toNat : Int) - 0x14000

section
variable {s : State} {e : EngineId} {p : Port} {j m : Nat}

theorem exec_done_eq (hf : Fetches s e [(26, 6, 0x01), (0, 26, 0)]) (hrc : (s.engine e).rc = 0)
    (hmode : (s.engine e).mode = .running p j m) : exec (.done e) s = .next ((s.pastDone e).commitBlock e p j m) := by
  obtain ⟨hclk, -, hon, hword, -⟩ := hf
  have hdone : cloveDone e s = (s.pastDone e).commitBlock e p j m := by
    unfold cloveDone
    simp only [hmode, hclk, hon, encC0, hword, hrc]
    rfl
  exact congrArg _ hdone

theorem commitBlock_length (h : (s.engine e).resultLen < 0 ∨ 16384 < (s.engine e).resultLen) :
    s.commitBlock e p j m = s.engineFault e faultLength := if_pos h

theorem commitBlock_late {b : Block} (h0 : 0 ≤ (s.engine e).resultLen) (h1 : (s.engine e).resultLen ≤ 16384)
    (hb : s.takenBy e p j m = some b) (hlate : b.tCutoff ≤ s.tb) :
    s.commitBlock e p j m = (s.count Ctr.cloveStats_discarded p.val 1).engineIdles e .idle := by
  refine (if_neg (not_or.2 ⟨Int.not_lt.2 h0, Int.not_lt.2 h1⟩)).trans ?_
  simp only [hb, hlate, if_true]

/-- The column state that DONE commits: the bytes that the program of the port keeps. -/
def State.stateBytesOf (s : State) (e : EngineId) (p : Port) : List Byte :=
  match Tab.find? s.programsNow (s.fld Fld.clovePort_program p.val) with
  | some prog => memReadAll blankByte (s.engine e).dmem 0x10000 prog.stateBytes
  | none => []

/-- The result window of an engine. -/
def EngineSt.results (x : EngineSt) : List Byte := memReadAll blankByte x.dmem 0x14000 x.resultLen.toNat

/-- The queue with a taken block committed and the state of its column written. -/
def QueueSt.commit (q : QueueSt) (e : EngineId) (j m : Nat) (results bytes : List Byte) : QueueSt :=
  { (mapBlocks (fun y => if y.mode = .taken e ∧ y.column = j ∧ y.index = m then { y with mode := .committed results } else y) q)
    with state := listSet q.state j (some m, bytes) }

theorem commitBlock_onTime {b : Block} (h0 : 0 ≤ (s.engine e).resultLen) (h1 : (s.engine e).resultLen ≤ 16384)
    (hb : s.takenBy e p j m = some b) (htime : s.tb < b.tCutoff) :
    s.commitBlock e p j m
      = (((((s.setQueue p (fun q => q.commit e j m (s.engine e).results (s.stateBytesOf e p))).count Ctr.cloveStats_blocks
          p.val 1).countIf Ctr.cloveStats_remote p.val (clusterOf e != p)).countIf Ctr.cloveStats_late p.val
          (b.deadline < s.tb)).release p).engineIdles e .idle := by
  refine (if_neg (not_or.2 ⟨Int.not_lt.2 h0, Int.not_lt.2 h1⟩)).trans ?_
  simp only [hb, Nat.not_le.2 htime, if_false]
  rfl

theorem count_port (s : State) (c : Ctr) (i n : Nat) (p : Port) : (s.count c i n).port p = s.port p := rfl

theorem countIf_port (s : State) (c : Ctr) (i : Nat) (b : Bool) (p : Port) : (s.countIf c i b).port p = s.port p := by
  cases b <;> rfl

/-- A block found by its engine, column and index is committed in the queue. -/
theorem commit_blocks_mem {q : QueueSt} {b : Block} (results bytes : List Byte)
    (hb : q.blocks.find? (fun b => b.mode = .taken e && b.column = j && b.index = m) = some b) :
    { b with mode := .committed results } ∈ (q.commit e j m results bytes).blocks := by
  have hmem := List.mem_of_find?_eq_some hb
  have hpick := List.find?_some hb
  simp only [Bool.and_eq_true, decide_eq_true_eq, and_assoc] at hpick
  exact List.mem_map.2 ⟨b, hmem, if_pos hpick⟩

/-- After a commit in time the engine is idle, and the queue of the port keeps what DONE committed. -/
theorem commitBlock_commits {b : Block} (h0 : 0 ≤ (s.engine e).resultLen) (h1 : (s.engine e).resultLen ≤ 16384)
    (hb : s.takenBy e p j m = some b) (htime : s.tb < b.tCutoff) :
    let t := s.commitBlock e p j m
    (t.engine e).mode = .idle
      ∧ (t.port p).queue.state = listSet (s.port p).queue.state j (some m, s.stateBytesOf e p)
      ∧ { b with mode := .committed (s.engine e).results } ∈ t.blocksOut p := by
  rw [commitBlock_onTime h0 h1 hb htime]
  refine ⟨engineIdles_mode _ e _, ?_, ?_⟩
  · rw [State.port, engineIdles_ports, ← State.port, (release_keeps _ p).2]
    simp only [countIf_port, count_port, setQueue_port]
    rfl
  · rw [State.blocksOut, State.port, engineIdles_ports, ← State.port, ← State.blocksOut, (release_keeps _ p).1]
    refine List.mem_append_right _ ?_
    simp only [countIf_port, count_port, setQueue_port]
    exact commit_blocks_mem _ _ hb

end

/-- Settles O12: what faults by the branch of the run that it takes, DONE by the branch of the commit. -/
theorem cloveFaultsAndDone : Obligations.CloveFaultsAndDone := by
  refine ⟨fun s e d a b ea k dis => ⟨fun hrun h => congrArg _ (undefinedOpcode_faults hrun h),
      fun hf hrc hodd => congrArg _ (cloveOp_faults hf hrc (opVld_odd _ d hodd) _ _),
      fun hf hrc hodd => congrArg _ (cloveOp_faults hf hrc (opVldb_odd _ d hodd) _ _),
      fun hf hrc => congrArg _ (cloveOp_faults_after_rep hf hrc _ _),
      fun hf hrc => congrArg _ (cloveOp_faults_after_rep hf hrc _ _)⟩, ?done⟩
  intro s e p j m b hf hrc hmode hb u len
  have hx : u.engine e = { s.engine e with cycles := (s.engine e).cycles + 1, pc := (s.engine e).pc + 4 } :=
    setEngine_engine s e _
  have hlen : (u.engine e).resultLen = len := by rw [hx]; rfl
  have hexec : exec (.done e) s = .next (u.commitBlock e p j m) := exec_done_eq hf hrc hmode
  refine ⟨fun h0 h1 hlate => ?_, fun h => ?_, fun h0 h1 htime => ?_⟩
  · rw [← hlen] at h0 h1
    have htaken : u.takenBy e p j m = some b := hb
    rw [hexec, commitBlock_late h0 h1 htaken hlate]
  · rw [hexec, commitBlock_length (hlen ▸ h)]
  · rw [← hlen] at h0 h1
    have htaken : u.takenBy e p j m = some b := hb
    obtain ⟨hidle, hstate, hblock⟩ := commitBlock_commits h0 h1 htaken htime
    refine ⟨_, hexec, hidle, hstate.trans ?_, ?_⟩
    · rw [State.stateBytesOf, hx]
      rfl
    · rw [EngineSt.results, hlen, hx] at hblock
      exact hblock

end Sys2Proof.Machine

/-! # Receive words -/

namespace Sys2Proof.Machine

/-! ## The word of a code (R137) -/

/-- A code left-justified, with a tag of two bits below it. -/
def tagged (c : Code) (tag : Nat) : Half := (c.setWidth 16 <<< 2) ||| BitVec.ofNat 16 tag

theorem tagged_toNat (c : Code) {tag : Nat} (h : tag < 4) : (tagged c tag).toNat = 4 * c.toNat + tag := by
  have hc : c.toNat < 16384 := c.isLt
  have hor : c.toNat <<< 2 ||| tag = c.toNat <<< 2 + tag := (Nat.shiftLeft_add_eq_or_of_lt (i := 2) h c.toNat).symm
  have hshift : c.toNat <<< 2 = c.toNat * 4 := Nat.shiftLeft_eq c.toNat 2
  have hsmall : (c.toNat <<< 2) % 65536 = c.toNat <<< 2 := Nat.mod_eq_of_lt (by omega)
  simp only [tagged, BitVec.toNat_or, BitVec.toNat_shiftLeft, BitVec.toNat_setWidth, BitVec.toNat_ofNat]
  rw [Nat.mod_eq_of_lt (by omega : c.toNat < 2 ^ 16), hsmall, Nat.mod_eq_of_lt (by omega : tag < 2 ^ 16), hor]
  omega

theorem tagged_toInt (c : Code) {tag : Nat} (h : tag < 4) : (tagged c tag).toInt = 4 * c.toInt + tag := by
  have hc : c.toNat < 16384 := c.isLt
  rw [BitVec.toInt_eq_toNat_cond, BitVec.toInt_eq_toNat_cond, tagged_toNat c h]
  split <;> split <;> omega

theorem tagged_bit_one (c : Code) {tag : Nat} (h : tag < 4) : (tagged c tag).getLsbD 1 = decide (2 ≤ tag) := by
  have hbit : (tagged c tag).getLsbD 1 = decide ((tagged c tag).toNat / 2 ^ 1 % 2 = 1) :=
    Nat.testBit_eq_decide_div_mod_eq
  rw [hbit, tagged_toNat c h]
  exact decide_eq_decide.2 (by omega)

theorem bitNat_le_one (b : Bool) : bitNat b ≤ 1 := by cases b <;> decide

/-- The tag CLIP: the clip bit above the transit bit. -/
theorem clip_tag_le (clip transit : Bool) : 2 ≤ 2 * bitNat clip + bitNat transit ↔ clip = true := by
  cases clip <;> cases transit <;> decide

section
variable {s : State} {p : Port} {t : Nat} {c : Code}

theorem rawWord_aligned (h : s.flag Fld.rxCfg_align p.val = true) : (s.rawWord p t c).toInt = c.toInt := by
  rw [State.rawWord, if_pos h]
  exact BitVec.toInt_signExtend_of_le (by decide)

theorem rawWord_untagged (h : s.flag Fld.rxCfg_align p.val = false) (htag : s.fld Fld.rxCfg_rawTag p.val = 0) :
    s.rawWord p t c = tagged c 0 := by
  rw [State.rawWord, h, htag]
  rfl

/-- With the tag CLIP the word carries a tag below 4 that says whether the code is clipped. -/
theorem rawWord_clip (h : s.flag Fld.rxCfg_align p.val = false) (htag : s.fld Fld.rxCfg_rawTag p.val = 1) :
    ∃ tag, tag < 4 ∧ (2 ≤ tag ↔ clipped c.toInt = true) ∧ s.rawWord p t c = tagged c tag := by
  refine ⟨_, ?_, clip_tag_le (clipped c.toInt)
    ((s.port p).rx.switches.any (fun e => decide (e.1 ≠ 0 ∧ e.1 ≤ t ∧ t < e.1 + 20))), ?_⟩
  · have h1 := bitNat_le_one (clipped c.toInt)
    have h2 := bitNat_le_one ((s.port p).rx.switches.any (fun e => decide (e.1 ≠ 0 ∧ e.1 ≤ t ∧ t < e.1 + 20)))
    omega
  · rw [State.rawWord, h, htag]
    rfl

end

/-! ## Output words (R145) -/

theorem clampInt_eq_max_min (v : Int) : clampInt (-32768) 32767 v = max (-32768) (min 32767 v) := by
  unfold clampInt
  split
  · omega
  · split <;> omega

/-- An exact quotient needs no rounding. -/
theorem divOpenInt_exact {b : Nat} (hb : 0 < b) (v : Int) : divOpenInt (v * b) b = v := by
  have hb' : (b : Int) ≠ 0 := by omega
  simp [divOpenInt, Int.mul_ediv_cancel v hb']

theorem outWord_exact {r : Nat} {sum gain v : Int} (hgain : 0 < gain) (h : 4 * 2 ^ r * sum = v * (8 * fxOne * gain)) :
    outWord r sum gain = (BitVec.ofInt 16 (clampInt (-32768) 32767 v), decide (v < -32768 ∨ 32767 < v)) := by
  have hden : ((8 * fxOne.toNat * gain.natAbs : Nat) : Int) = 8 * fxOne * gain := by
    have hone : (fxOne.toNat : Int) = fxOne := rfl
    rw [Int.natCast_mul, Int.natCast_mul, hone, Int.natAbs_of_nonneg (Int.le_of_lt hgain)]
    rfl
  have hpos : 0 < 8 * fxOne.toNat * gain.natAbs := Nat.mul_pos (by decide) (by omega)
  have hquot : divOpenInt (4 * 2 ^ r * sum) (8 * fxOne.toNat * gain.natAbs) = v := by
    rw [h, ← hden]
    exact divOpenInt_exact hpos v
  simp only [outWord, if_neg (Int.not_lt.2 (Int.le_of_lt hgain)), hquot]

/-! ## The response of FILTER (R141) -/

/-- AUTO takes the response by the pulse width. -/
theorem filterResp_auto (width : Nat) : filterResp 0 width = if width ≤ 7 then 0 else if width ≤ 14 then 1 else 2 := rfl

/-- Settles O21: an exact quotient for the output word, the tag below the code for the raw word. -/
theorem receiveWords : Obligations.ReceiveWords := by
  intro s p t r width c sum gain v
  refine ⟨fun hgain h => ?out, rawWord_aligned, fun halign htag => ?plain, fun halign htag => ?clip, fun h => ?_,
    fun h8 h14 => ?_, fun h => ?_, rfl, rfl, rfl⟩
  case out =>
    rw [outWord_exact hgain h]
    refine ⟨?_, decide_eq_true_iff⟩
    rw [clampInt_eq_max_min]
    exact BitVec.toInt_ofInt_eq_self (by decide) (by omega) (by omega)
  case plain =>
    rw [rawWord_untagged halign htag, tagged_toInt c (by decide)]
    omega
  case clip =>
    obtain ⟨tag, hlt, hclip, hword⟩ := rawWord_clip (s := s) (p := p) (t := t) (c := c) halign htag
    rw [hword, tagged_toInt c hlt, tagged_bit_one c hlt]
    refine ⟨by omega, ?_⟩
    rw [Bool.eq_iff_iff, decide_eq_true_iff, hclip]
  · rw [filterResp_auto, if_pos h]
  · rw [filterResp_auto, if_neg (by omega), if_pos h14]
  · rw [filterResp_auto, if_neg (by omega), if_neg (by omega)]

end Sys2Proof.Machine

/-! # Rows of the running device -/

namespace Sys2Proof.Machine

/-- A row of the running device answers what its operation gives. -/
theorem exec_of_runs {i : Instr} {s t : State} {dt : Nat} {f : Nat → State → State} (hruns : s.runs = true)
    (hi : exec i s = .next (whenRuns dt f s)) (ht : f dt s = t) : exec i s = .next t := by
  rw [hi, whenRuns, if_pos hruns, ht]

/-! ## What a span of time leaves -/

section
variable (s : State) (dt : Nat)

@[simp] theorem elapse_linkLanes : (s.elapse dt).linkLanes = s.linkLanes := rfl

end

end Sys2Proof.Machine

/-! # The lanes of the link: scrambling and alignment -/

namespace Sys2Proof.Machine

/-! ## Scrambling (R317) -/

theorem push_bit (r : LaneBits) (b : Bool) {i : Nat} (hi : i < 58) :
    (r.push b).getLsbD i = if i = 0 then b else r.getLsbD (i - 1) := by
  have hprev : i ≠ 0 → r[i - 1]'(by omega) = r.getLsbD (i - 1) := fun _ => (BitVec.getLsbD_eq_getElem (by omega)).symm
  by_cases h : i = 0
  · subst h
    cases b <;> simp [LaneBits.push, bitNat]
  · cases b <;> simp [LaneBits.push, bitNat, hi, h, hprev h]

/-- A receiver in step gives back what was scrambled, and stays in step. -/
theorem descramble_scramble (r : LaneBits) (bits : List Bool) :
    descramble r (scramble r bits).1 = (bits, (scramble r bits).2) := by
  induction bits generalizing r with
  | nil => rfl
  | cons b bits ih => simp [scramble, descramble, ih]

/-- A receiver whose register agrees in its n newest bits is in step 58 - n bits later. -/
theorem descramble_drop (bits : List Bool) {n : Nat} (hn : n ≤ 58) (r q : LaneBits)
    (h : ∀ i, i < n → q.getLsbD i = r.getLsbD i) :
    ((descramble q (scramble r bits).1).1).drop (58 - n) = bits.drop (58 - n) := by
  induction bits generalizing n r q with
  | nil => rfl
  | cons b bits ih =>
    by_cases hfull : n = 58
    · obtain rfl : q = r := BitVec.eq_of_getLsbD_eq fun i hi => h i (by omega)
      rw [descramble_scramble]
    · obtain ⟨m, hm⟩ : ∃ m, 58 - n = m + 1 := ⟨57 - n, by omega⟩
      have hlater : m = 58 - (n + 1) := by omega
      simp only [scramble, descramble, hm, List.drop_succ_cons, hlater]
      refine ih (by omega) _ _ fun i hi => ?_
      rw [push_bit _ _ (by omega), push_bit _ _ (by omega)]
      split
      · rfl
      · exact h (i - 1) (by omega)

/-! ## A marker period on the lanes (R320) -/

section
variable (s : State)

@[simp] theorem setLane_lane (k : Fin 8) (f : LaneSt → LaneSt) :
    (s.setLane k f).link.lanes[k] = f s.link.lanes[k] := vmod_same ..

theorem setLane_lane_other {k j : Fin 8} (f : LaneSt → LaneSt) (h : k ≠ j) :
    (s.setLane k f).link.lanes[j] = s.link.lanes[j] := vmod_other _ _ _ _ h

/-- What a lane in use notes in a marker period. -/
def State.laneNotes (locked : BitVec 8) (seen : Vector (Option AlignIn) 8) (k : Fin 8) : LaneSt → LaneSt :=
  laneAlign (alignGood s.link.stage s.link.width k s.link.lanes[k] seen[k]) (locked.getLsbD k.val)
    (decide (s.link.stage = .active) && decide (s.link.rxPm = .awake)) seen[k]

/-- One lane of a marker period: it notes what it showed, and its parity errors are counted. -/
def laneStep (locked : BitVec 8) (seen : Vector (Option AlignIn) 8) (s0 t : State) (k : Fin 8) : State :=
  match seen[k] with
  | some y => (t.setLane k (s0.laneNotes locked seen k)).count (laneCtr Ctr.linkStats_bipErr0 k) 0 (min 8 y.bip)
  | none => t.setLane k (s0.laneNotes locked seen k)

theorem alignLanes_eq (locked : BitVec 8) (seen : Vector (Option AlignIn) 8) :
    s.alignLanes locked seen = s.linkLanes.foldl (laneStep locked seen s) s := rfl

theorem laneStep_link (locked : BitVec 8) (seen : Vector (Option AlignIn) 8) (t : State) (k : Fin 8) :
    (laneStep locked seen s t k).link = (t.setLane k (s.laneNotes locked seen k)).link := by
  unfold laneStep
  split <;> rfl

theorem laneStep_foldl_lane (locked : BitVec 8) (seen : Vector (Option AlignIn) 8) (k : Fin 8) (ls : List (Fin 8))
    (hls : ls.Nodup) (t : State) :
    (ls.foldl (laneStep locked seen s) t).link.lanes[k]
      = if k ∈ ls then s.laneNotes locked seen k t.link.lanes[k] else t.link.lanes[k] := by
  induction ls generalizing t with
  | nil => rfl
  | cons j ls ih =>
    obtain ⟨hj, hls⟩ := List.nodup_cons.1 hls
    rw [List.foldl_cons, ih hls, laneStep_link]
    by_cases hk : k = j
    · subst hk
      rw [if_neg hj, if_pos List.mem_cons_self, setLane_lane]
    · rw [setLane_lane_other _ _ (Ne.symm hk)]
      simp [hk]

theorem linkLanes_nodup : s.linkLanes.Nodup := List.Pairwise.filter _ (by decide)

theorem mem_linkLanes (k : Fin 8) : k ∈ s.linkLanes ↔ k.val < s.link.width := by
  have hall : k ∈ allLanes := by revert k; decide
  simp [State.linkLanes, hall]

theorem alignLanes_lane (locked : BitVec 8) (seen : Vector (Option AlignIn) 8) (k : Fin 8) :
    (s.alignLanes locked seen).link.lanes[k]
      = if k.val < s.link.width then s.laneNotes locked seen k s.link.lanes[k] else s.link.lanes[k] := by
  rw [alignLanes_eq, laneStep_foldl_lane s locked seen k _ (linkLanes_nodup s)]
  simp only [mem_linkLanes]

end

/-- Settles O31: the registers of both ends come to agree bit by bit; each stage by its branch of ALIGN_RX. -/
theorem lanesDescrambleAndAlign : Obligations.LanesDescrambleAndAlign := by
  refine ⟨fun r q bits => ⟨descramble_scramble r bits, descramble_drop bits (Nat.zero_le _) r q fun i hi => absurd hi (by omega)⟩,
    ?_⟩
  intro dt k locked seen s hruns u l v active
  have hexec {t : State} (ht : alignRx dt locked seen s = t) : exec (.alignRx dt locked seen) s = .next t.shutGo :=
    exec_of_runs (f := fun d t => (alignRx d locked seen t).shutGo) hruns rfl (congrArg State.shutGo ht)
  refine ⟨fun hk => ?inUse, fun hk => ?idle, fun hstage => ⟨fun c hc => hexec ?fails, fun hnone hall => hexec ?passes,
    fun hnone hsome => hexec ?waits⟩, fun hstage => hexec ?exchange, fun hstage => ⟨fun hbad => hexec ?lost,
    fun hgood => hexec ?stays⟩, fun hstage => hexec ?other⟩
  case inUse => exact (alignLanes_lane u locked seen k).trans (if_pos hk)
  case idle => exact (alignLanes_lane u locked seen k).trans (if_neg (Nat.not_lt.2 hk))
  case fails => simp only [alignRx, elapse_link, elapse_linkLanes, hc, show s.link.stage = _ from hstage]; rfl
  case passes =>
    have hpass : (s.linkLanes.all fun k => decide (2 ≤ (v.link.lanes[k]).goodMarks)) = true := by simpa using hall
    simp only [alignRx, elapse_link, elapse_linkLanes, hnone, show s.link.stage = _ from hstage]
    exact if_pos hpass
  case waits =>
    have hwait : ¬ (s.linkLanes.all fun k => decide (2 ≤ (v.link.lanes[k]).goodMarks)) = true := by simpa using hsome
    simp only [alignRx, elapse_link, elapse_linkLanes, hnone, show s.link.stage = _ from hstage]
    exact if_neg hwait
  case exchange => simp only [alignRx, elapse_link, show s.link.stage = _ from hstage]; rfl
  case lost =>
    have hloss : (s.linkLanes.any fun k => decide (2 ≤ (v.link.lanes[k]).badMarks)) = true := by simpa using hbad
    simp only [alignRx, elapse_link, elapse_linkLanes, show s.link.stage = _ from hstage]
    exact if_pos hloss
  case stays =>
    have hkept : ¬ (s.linkLanes.any fun k => decide (2 ≤ (v.link.lanes[k]).badMarks)) = true := by simpa using hgood
    simp only [alignRx, elapse_link, elapse_linkLanes, show s.link.stage = _ from hstage]
    exact if_neg hkept
  case other =>
    obtain h | h | h | h | h := hstage
    all_goals simp only [alignRx, elapse_link, show s.link.stage = _ from h]; rfl

end Sys2Proof.Machine

/-! # Levels at the balls -/

namespace Sys2Proof.Machine

/-! ## Supply, reset and clamp of a ball (R37, R41 to R43) -/

/-- A ball has no supply, as the statements say it. -/
def State.ballDead (s : State) (b : Ball) : Prop :=
  (∃ k, b.bank = some k ∧ s.bankUp k = false) ∨ (∃ x ∈ b.rails, x ∈ s.power.railsOut) ∨ s.power.mode = .off

section
variable (s : State) (b : Ball)

theorem unpowered_iff : s.unpowered b = true ↔ s.ballDead b := by
  unfold State.unpowered State.ballDead
  cases s.power.mode <;> simp [Option.any_eq_true]

variable {s b}

theorem ballLevel_dead (h : s.ballDead b) : s.ballLevel b = .highZ := if_pos ((unpowered_iff s b).2 h)

theorem ballLevel_inReset (h : ¬ s.ballDead b) (hreset : s.start.holds ≠ []) : s.ballLevel b = b.reset := by
  have hpow : ¬ s.unpowered b = true := fun h' => h ((unpowered_iff s b).1 h')
  rw [State.ballLevel, if_neg hpow, if_pos]
  simp [State.outputsReset, hreset]

section
variable (h : ¬ s.ballDead b) (hreset : s.start.holds = []) (hdown : s.life.shutDown = false) (htest : s.shutTest = false)
include h hreset hdown htest

/-- Outside every reset a ball with a supply shows its clamp state where its clamp is engaged. -/
theorem ballLevel_clamped {l : Level} (hl : b.clamp = some l) (hclamp : s.clamped b = true) : s.ballLevel b = l := by
  have hpow : ¬ s.unpowered b = true := fun h' => h ((unpowered_iff s b).1 h')
  have hout : ¬ s.outputsReset b = true := by simp [State.outputsReset, hreset, hdown, htest]
  rw [State.ballLevel, if_neg hpow, if_neg hout, hl]
  exact if_pos hclamp

theorem ballLevel_live (hl : b.clamp = none) : s.ballLevel b = s.liveLevel b := by
  have hpow : ¬ s.unpowered b = true := fun h' => h ((unpowered_iff s b).1 h')
  have hout : ¬ s.outputsReset b = true := by simp [State.outputsReset, hreset, hdown, htest]
  rw [State.ballLevel, if_neg hpow, if_neg hout, hl]

end

theorem clamped_of (h : s.power.isolated = true ∨ ∃ p, b.slice = some p ∧ s.accepts p = false) : s.clamped b = true := by
  obtain h | ⟨p, hp, hdown⟩ := h
  · simp [State.clamped, h]
  · simp [State.clamped, hp, State.sliceDown, hdown]

/-- Banks, removed rails and a mode that is not OFF decide whether a ball has a supply. -/
theorem ballDead_congr {t : State} (hbanks : t.banks = s.banks) (hrails : t.power.railsOut = s.power.railsOut)
    (ht : t.power.mode ≠ .off) (hs : s.power.mode ≠ .off) : t.ballDead b ↔ s.ballDead b := by
  simp only [State.ballDead, State.bankUp, hbanks, hrails, ht, hs]

end

/-! ## RESET_N (R43) -/

theorem cutWrite_start (s : State) : s.cutWrite.start = s.start := by
  unfold State.cutWrite State.eraseSlot
  split
  · split <;> rfl
  · rfl
theorem cutWrite_banks (s : State) : s.cutWrite.banks = s.banks := by
  unfold State.cutWrite State.eraseSlot
  split
  · split <;> rfl
  · rfl
theorem cutWrite_power (s : State) : s.cutWrite.power = s.power := by
  unfold State.cutWrite State.eraseSlot
  split
  · split <;> rfl
  · rfl

/-- RESET_N on a device that no reset holds leaves the supplies and holds it in reset. -/
theorem resetAssert_balls {dt : Nat} {s : State} (hreset : s.start.holds = []) (hmode : s.power.mode ≠ .off) :
    (resetAssert dt s).banks = s.banks ∧ (resetAssert dt s).power.railsOut = s.power.railsOut
      ∧ (resetAssert dt s).power.mode ≠ .off ∧ (resetAssert dt s).start.holds ≠ [] := by
  have hpow : ((s.elapse dt).powered && !(s.elapse dt).start.holds.contains .pin) = true := by
    simp [State.powered, hreset, hmode]
  rw [resetAssert, if_pos hpow, State.assertReset, if_pos (by simp [cutWrite_start, hreset])]
  refine ⟨(cutWrite_banks _).trans rfl, ?_, ?_, ?_⟩
  · simp [State.volatileReset, cutWrite_power]
  · simp [State.volatileReset, PowerSt.reset]
  · simp [State.volatileReset, State.setStart, cutWrite_start, hreset]

/-! ## The commit point (R436) -/

/-- The commit point leaves the supplies as they are, engages the clamps and raises PWR_RET, and no reset holds. -/
theorem commitPoint_balls {dt t0 : Nat} {r : RetainSt} {s : State} (hret : s.power.retain = some r)
    (hmode : s.power.mode = .entering) (harmed : r.armedAt = some t0) (htime : t0 + 61000 ≤ s.clk + dt) :
    let t := commitPoint dt s
    t.banks = s.banks ∧ t.power.railsOut = s.power.railsOut ∧ t.power.mode = .retain ∧ t.power.isolated = true
      ∧ t.power.pwrRet = true ∧ t.start.holds = s.start.holds ∧ t.life.shutDown = s.life.shutDown ∧ t.shutTest = false := by
  have hret' : (s.elapse dt).power.retain = some r := hret
  have hdue : ¬ ((s.elapse dt).power.mode ≠ .entering
      ∨ !r.armedAt.any (fun t => decide (t + aonCrossNs ≤ (s.elapse dt).clk))) := by
    have hcross : t0 + aonCrossNs ≤ (s.elapse dt).clk := htime
    simpa [-elapse_clk, hmode, harmed] using hcross
  simp only [commitPoint, hret']
  rw [if_neg hdue]
  have hcount (u : State) (b : Bool) : (u.countIf Ctr.linkStats_failures 0 b).banks = u.banks
      ∧ (u.countIf Ctr.linkStats_failures 0 b).power = u.power ∧ (u.countIf Ctr.linkStats_failures 0 b).start = u.start
      ∧ (u.countIf Ctr.linkStats_failures 0 b).life = u.life := by
    cases b <;> exact ⟨rfl, rfl, rfl, rfl⟩
  obtain ⟨hbanks, hpower, hstart, hlife⟩ := hcount (s.elapse dt) (decide ((s.elapse dt).link.stage = .active))
  refine ⟨?_, ?_, rfl, rfl, rfl, ?_, ?_, rfl⟩
  · exact hbanks
  · exact congrArg (·.railsOut) hpower
  · exact congrArg (·.holds) hstart
  · exact congrArg (·.shutDown) hlife

/-- Settles O45: the level by the branch of `ballLevel`, the two rows by what they leave of supply, reset and clamps. -/
theorem levelsAtTheBalls : Obligations.LevelsAtTheBalls := by
  intro dt t0 b l r s dead
  refine ⟨ballLevel_dead, ballLevel_inReset, fun h hreset hdown htest hl hclamp =>
    ballLevel_clamped h hreset hdown htest hl (clamped_of hclamp), fun hreset hmode => ?reset, fun hret hmode harmed htime hreset
    hdown => ?commit⟩
  case reset =>
    obtain ⟨hbanks, hrails, hon, hheld⟩ := resetAssert_balls (dt := dt) hreset hmode
    exact ⟨_, rfl, ballDead_congr hbanks hrails hon hmode, fun h => ballLevel_inReset h hheld⟩
  case commit =>
    obtain ⟨hbanks, hrails, hretain, hiso, hpwr, hholds, hlife, htest⟩ := commitPoint_balls hret hmode harmed htime
    have hon : (commitPoint dt s).power.mode ≠ .off := by simp [hretain]
    have hfree : (commitPoint dt s).start.holds = [] := hholds.trans hreset
    have hup : (commitPoint dt s).life.shutDown = false := hlife.trans hdown
    refine ⟨_, rfl, ballDead_congr hbanks hrails hon (by simp [hmode]), fun h hl =>
      ballLevel_clamped h hfree hup htest hl (clamped_of (.inl hiso)), fun h hb => ?_⟩
    subst hb
    rw [ballLevel_live h hfree hup htest rfl]
    simp [State.liveLevel, hpwr]

end Sys2Proof.Machine

/-! # Commands of the host begin -/

namespace Sys2Proof.Machine

/-- A device whose firmware is up and on which a shutdown is about to begin. -/
def awaitingShutdown : State :=
  { State.reset with
    start := { State.reset.start with boot := .ready }, life := { State.reset.life with shutNext := some (0, 0, false) } }

/-- A request of IDENTIFY on the control port. -/
def identifyRq : Req := ⟨0, 0, 0, .controlPort⟩

theorem awaitingShutdown_serves : (awaitingShutdown.elapse 100000).serving .controlPort = .full := by decide

/-- Nothing starts while a shutdown is about to begin. -/
theorem awaitingShutdown_begins_none : awaitingShutdown.began 100000 identifyRq 0x01 [] = none := by
  have hwaits : (awaitingShutdown.arrived 100000 identifyRq 0x01 []).mayStart identifyRq 0x01 [] = false := by decide
  rw [State.began, hwaits]
  rfl

/-- Refutes O46: the premises leave open that a shutdown is about to begin, and then IDENTIFY is accepted and does not begin. -/
theorem not_hostCommandBegins : ¬ Obligations.HostCommandBegins := by
  intro h
  obtain ⟨-, hwell⟩ := h 100000 identifyRq 0x01 ⟨0x01, .bytes 0, 100, 100⟩ [] [] id awaitingShutdown rfl
    awaitingShutdown_serves (by decide)
  obtain ⟨-, -, hbegins⟩ := hwell rfl
  obtain ⟨hbegan, -⟩ := hbegins (by decide) (by decide) rfl
  rw [awaitingShutdown_begins_none] at hbegan
  cases hbegan

end Sys2Proof.Machine

/-! # The link: traffic, bring-up, failures, low power and loops -/

namespace Sys2Proof.Machine

/-! ## What the rows of the link read of the time that has passed -/

section
variable (s : State) (dt : Nat)

@[simp] theorem elapse_sendNext : (s.elapse dt).sendNext = s.sendNext := rfl
@[simp] theorem elapse_allowedWidths : (s.elapse dt).allowedWidths = s.allowedWidths := rfl
@[simp] theorem elapse_peerFlags : (s.elapse dt).peerFlags = s.peerFlags := rfl
@[simp] theorem elapse_loopFrames (k : Fin 8) : (s.elapse dt).loopFrames k = s.loopFrames k := rfl

theorem rxTakes_iff :
    s.rxTakes = true ↔ s.link.stage = .active ∧ s.link.rxPm ≠ .sleep ∧ s.link.rxReadyAt ≤ s.clk := by
  simp [State.rxTakes, and_assoc]

variable {s dt}

/-- On an ACTIVE link the receive direction takes something once it is awake and has recovered. -/
theorem rxTakes_elapse (hstage : s.link.stage = .active) (hpm : s.link.rxPm ≠ .sleep) (hready : s.link.rxReadyAt ≤ s.clk + dt) :
    (s.elapse dt).rxTakes = true := (rxTakes_iff _).2 ⟨hstage, hpm, hready⟩

theorem rxTakes_elapse_not (h : s.link.rxPm = .sleep ∨ s.clk + dt < s.link.rxReadyAt) : (s.elapse dt).rxTakes = false := by
  rw [Bool.eq_false_iff, Ne, rxTakes_iff]
  rintro ⟨-, hpm, hready⟩
  obtain h | h := h
  · exact hpm h
  · exact absurd hready (Nat.not_le.2 h)

end

/-! ## Traffic (R319, R321, R329 to R332) -/

section
variable {s : State} {dt : Nat}

/-- What an ACTIVE link that may send sends next. -/
theorem frameSelect_eq (hstage : s.link.stage = .active) (hpm : s.link.txPm = .awake) (hidle : s.link.idleSince = none)
    (hready : s.link.txReadyAt ≤ s.clk + dt) : frameSelect dt s =
      match s.sendNext with
      | none => s.elapse dt
      | some .credit =>
        (s.elapse dt).setLink (fun l => { l with creditDue := false, creditAt := s.clk + dt, txIdleSince := s.clk + dt,
                                                 txBlocks := [creditBlock 0 l.hostTotal] })
      | some .zero => (s.elapse dt).sendZero
      | some (.urgent i) => ((s.elapse dt).sendStream i).setLink (fun l => { l with lastHigh := i })
      | some (.other i) => ((s.elapse dt).sendStream i).setLink (fun l => { l with lastLow := i }) := by
  have hmay : ¬ ((s.elapse dt).link.stage ≠ .active ∨ (s.elapse dt).link.txPm ≠ .awake ∨ (s.elapse dt).link.idleSince.isSome
      ∨ (s.elapse dt).clk < (s.elapse dt).link.txReadyAt) := by
    simp [hstage, hpm, hidle, hready]
  have hloop : ¬ (s.elapse dt).link.stage = .loop := by simp [hstage]
  rw [frameSelect, if_neg hloop, if_neg hmay]
  rfl

theorem blockDiscard_eq (hstage : s.link.stage = .active) {k : Fin 8} (hk : k.val < s.link.width) (sync : BitVec 2)
    (bytes : List Byte) : blockDiscard dt k sync bytes s =
      if sync = 0 ∨ sync = 3 then (s.elapse dt).count (laneCtr Ctr.linkStats_badSync0 k) 0 1
      else if sync = 2 ∧ !blockGood bytes then (s.elapse dt).count Ctr.linkStats_badBlock 0 1
      else s.elapse dt := by
  simp [blockDiscard, hstage, hk]

end

/-- Settles O29: each row by the branch that its premises choose. -/
theorem linkTraffic : Obligations.LinkTraffic := by
  intro dt i stream total n k sync bytes s hruns hstage u g ahead send
  have hsend {x : SendNext} {t : State} (h : s.link.txPm = .awake → s.link.idleSince = none → s.link.txReadyAt ≤ s.clk + dt →
      s.sendNext = some x → frameSelect dt s = t) : send x t := fun hpm hidle hready hx =>
    exec_of_runs (f := fun d t => (frameSelect d t).shutGo) hruns rfl (congrArg State.shutGo (h hpm hidle hready hx))
  refine ⟨hsend fun hpm hidle hready hx => ?_, hsend fun hpm hidle hready hx => ?_, hsend fun hpm hidle hready hx => ?_,
    hsend fun hpm hidle hready hx => ?_, fun hpm hready => ?takes, fun hnot => ?sleeps, fun hdue => ?again,
    fun hk hsync => ?badSync, fun hk hbad => ?badBlock, fun hk hgood => ?good⟩
  · rw [frameSelect_eq hstage hpm hidle hready, hx]
  · rw [frameSelect_eq hstage hpm hidle hready, hx]
  · rw [frameSelect_eq hstage hpm hidle hready, hx]
  · rw [frameSelect_eq hstage hpm hidle hready, hx]
  case takes =>
    have htakes : (s.elapse dt).rxTakes = true := rxTakes_elapse hstage hpm hready
    refine ⟨fun hbad => exec_of_runs hruns rfl ?_, fun hstream hstale => exec_of_runs hruns rfl ?_,
      fun hstream hfresh => exec_of_runs hruns rfl ?_, exec_of_runs hruns rfl ?_, fun hn => exec_of_runs hruns rfl ?_⟩
    · simp [creditReceived, htakes, hbad, u]
    · have hstale' : 8388608 ≤ (total % 16777216 + 16777216 - g) % 16777216 := hstale
      simp [creditReceived, htakes, Nat.not_lt.2 hstream, hstale', u, g]
    · have hfresh' : ¬ 8388608 ≤ (total % 16777216 + 16777216 - g) % 16777216 := Nat.not_le.2 hfresh
      simp [creditReceived, htakes, Nat.not_lt.2 hstream, hfresh', u, g]
    · simp [hostFrameDiscard, hstage, htakes, u]
    · simp [hostFrameDiscard, htakes, hn, u]
  case sleeps =>
    have hnone : (s.elapse dt).rxTakes = false := rxTakes_elapse_not hnot
    refine ⟨exec_of_runs hruns rfl ?_, exec_of_runs hruns rfl ?_, exec_of_runs hruns rfl ?_⟩
    · simp [creditReceived, hnone, u]
    · simp [hostFrameDiscard, hstage, hnone, u]
    · simp [hostFrameDiscard, hnone, u]
  case again => exact exec_of_runs hruns rfl (if_pos ⟨hstage, hdue⟩)
  case badSync => exact exec_of_runs hruns rfl ((blockDiscard_eq hstage hk sync bytes).trans (if_pos hsync))
  case badBlock =>
    refine exec_of_runs hruns rfl ((blockDiscard_eq hstage hk 2 bytes).trans ?_)
    simp [hbad, u]
  case good =>
    refine exec_of_runs hruns rfl ((blockDiscard_eq hstage hk sync bytes).trans ?_)
    obtain rfl | ⟨rfl, hblock⟩ := hgood
    · rfl
    · simp [hblock, u]

end Sys2Proof.Machine

/-! # The link: bring-up and failures -/

namespace Sys2Proof.Machine

/-! ## Detection (R323) -/

/-- A set of lanes carries one of the allowed widths. -/
def State.lanesOk (s : State) (m : BitVec 8) : Bool := s.allowedWidths.any (lanesFrom m)

/-- A check that comes in DETECT, outside the idle millisecond and at least 100 µs after the one before. -/
def State.checkComes (s : State) (dt : Nat) : Prop :=
  s.link.stage = .detect ∧ s.link.idleSince = none ∧ max s.link.since s.link.checkAt + 100000 ≤ s.clk + dt

section
variable {s : State} {dt : Nat} {found : BitVec 8}

theorem checkComes_iff : s.checkComes dt ↔ ¬ ((s.elapse dt).link.stage ≠ .detect ∨ (s.elapse dt).link.idleSince.isSome
    ∨ (s.elapse dt).clk < max (s.elapse dt).link.since (s.elapse dt).link.checkAt + 100 * usNs) := by
  have hus : 100 * usNs = 100000 := rfl
  simp only [elapse_link, elapse_clk, State.checkComes, hus, not_or, Classical.not_not, Nat.not_lt, Bool.not_eq_true,
    Option.isSome_eq_false_iff, Option.isNone_iff_eq_none, ne_eq]

/-- The lanes that a check adds to those of the good checks before it. -/
def State.lanesBoth (s : State) (found : BitVec 8) : BitVec 8 :=
  if s.link.goodChecks = 0 then found else s.link.lanesSeen &&& found

/-- Good checks in a row after a check, and their lanes. -/
def State.checkCount (s : State) (found : BitVec 8) : Nat :=
  if s.lanesOk (s.lanesBoth found) then s.link.goodChecks + 1 else if s.lanesOk found then 1 else 0
def State.checkLanes (s : State) (found : BitVec 8) : BitVec 8 :=
  if s.lanesOk (s.lanesBoth found) then s.lanesBoth found else found

/-- A check that does not complete ten good ones is noted with its lanes. -/
theorem detectCheck_noted (h : s.checkComes dt) (hfew : s.checkCount found < 10) :
    detectCheck dt found s = (s.elapse dt).setLink (fun l =>
      { l with goodChecks := s.checkCount found, checkAt := s.clk + dt, lanesSeen := s.checkLanes found }) :=
  (if_neg (checkComes_iff.1 h)).trans (if_neg (Nat.not_le.2 hfew))

/-- The tenth good check in a row takes the link to TRAIN. -/
theorem detectCheck_passes (h : s.checkComes dt) (hten : 10 ≤ s.checkCount found) :
    let l := (detectCheck dt found s).link
    l.stage = .train ∧ l.since = s.clk + dt
      ∧ l.width = (s.allowedWidths.find? (lanesFrom (s.checkLanes found))).getD 1
      ∧ l.rate = s.fld Fld.linkCfg_rate 0 ∧ l.framesSince = none := by
  have hpass : detectCheck dt found s = _ := (if_neg (checkComes_iff.1 h)).trans (if_pos hten)
  rw [hpass]
  exact ⟨rfl, rfl, rfl, rfl, rfl⟩

theorem lanesBoth_of_pos (h : 1 ≤ s.link.goodChecks) : s.lanesBoth found = s.link.lanesSeen &&& found :=
  if_neg (by omega)

/-- A check that goes on after good ones. -/
theorem check_goesOn (hok : s.lanesOk (s.link.lanesSeen &&& found) = true) (h : 1 ≤ s.link.goodChecks) :
    s.checkCount found = s.link.goodChecks + 1 ∧ s.checkLanes found = s.link.lanesSeen &&& found := by
  rw [State.checkCount, State.checkLanes, lanesBoth_of_pos h, if_pos hok, if_pos hok]
  exact ⟨rfl, rfl⟩

/-- A check that cannot go on begins the count again. -/
theorem check_beginsAgain (hok : s.link.goodChecks = 0 ∨ s.lanesOk (s.link.lanesSeen &&& found) = false) :
    s.checkCount found = (if s.lanesOk found then 1 else 0) ∧ s.checkLanes found = found := by
  unfold State.checkCount State.checkLanes State.lanesBoth
  by_cases h0 : s.link.goodChecks = 0
  · by_cases hf : s.lanesOk found = true <;> simp [h0, hf]
  · have hbad := hok.resolve_left h0
    simp [h0, hbad]

end

/-! ## The later stages (R323, R327, R328) -/

theorem bytesAt_whole {bytes : List Byte} {n : Nat} (h : bytes.length = n) : bytesAt bytes 0 n = bytes := by
  subst h
  simp [bytesAt]

section
variable {s : State} {dt : Nat}

theorem trainingFrameRx_eq {k : Fin 8} {since : Nat} (hstage : s.link.stage = .train) (hframes : s.link.framesSince = some since)
    (hk : k.val < s.link.width) (control status : Half) (own : Bool) :
    trainingFrameRx dt k control status own s =
      if ((s.elapse dt).setLane k (laneTrain control status own)).linkLanes.all
          (fun j => 8 ≤ (((s.elapse dt).setLane k (laneTrain control status own)).link.lanes[j]).readyFrames) then
        ((s.elapse dt).setLane k (laneTrain control status own)).setLink
          (fun l => { l with stage := .lock, since := s.clk + dt, lockCause := causeBlockLock })
      else (s.elapse dt).setLane k (laneTrain control status own) := by
  refine if_neg ?_
  simp [hstage, hframes, hk]

theorem all_linkLanes_iff (v : State) (q : Fin 8 → Bool) :
    v.linkLanes.all q = true ↔ ∀ j : Fin 8, j.val < v.link.width → q j = true := by
  simp only [List.all_eq_true, mem_linkLanes]

/-- A capability block with a good CRC is judged. -/
theorem capabilityRx_good {bytes : List Byte} (hstage : s.link.stage = .exchange) (hlen : bytes.length = 64)
    (hcrc : u32At bytes 0x3C = crc32 (bytesAt bytes 0 60)) :
    capabilityRx dt bytes s =
      if ((s.elapse dt).count Ctr.linkStats_framesRx 0 1).capMismatch bytes then
        ((s.elapse dt).count Ctr.linkStats_framesRx 0 1).stageFail causeMismatch
      else
        (((s.elapse dt).count Ctr.linkStats_framesRx 0 1).setLink (fun l =>
          { l with peerCap := some bytes,
                   acked := l.acked || (u8At bytes 2 = 1 && (u8At bytes 3) % 2 = 1 && u32At bytes 0x18 = s.link.ownCrc) })).exchangeCheck := by
  have hstage' : ¬ (s.elapse dt).link.stage ≠ .exchange := by simp [hstage]
  rw [capabilityRx, if_neg hstage', bytesAt_whole hlen, if_neg (by simp [hlen, hcrc])]
  rfl

end

/-- Settles O30: each row by the branch that its premises choose. -/
theorem linkBringUpSteps : Obligations.LinkBringUpSteps := by
  intro dt k found polarity control status own bytes s hruns u l ok now again
  refine ⟨fun hagain hbad hrow => exec_of_runs hruns rfl ?_, fun hagain hok h1 h9 => exec_of_runs hruns rfl ?_,
    fun hagain hok hrow => exec_of_runs hruns rfl ?_, fun hagain hok h9 => ?_, fun hstage hnone htime =>
    exec_of_runs hruns rfl (if_pos ⟨hstage, by simp [show s.link.framesSince = none from hnone], htime⟩),
    fun since hstage hframes hk => ?_, fun hstage => exec_of_runs hruns rfl (if_pos hstage), fun hstage hlen hcrc => ?_⟩
  · obtain ⟨hcount, hlanes⟩ := check_beginsAgain hrow
    have hbad' : s.lanesOk found = false := hbad
    rw [hbad'] at hcount
    rw [detectCheck_noted hagain (by simp [hcount]), hcount, hlanes]
    rfl
  · obtain ⟨hcount, hlanes⟩ := check_goesOn hok h1
    rw [detectCheck_noted hagain (by rw [hcount]; exact Nat.succ_lt_succ h9), hcount, hlanes]
  · obtain ⟨hcount, hlanes⟩ := check_beginsAgain hrow
    have hok' : s.lanesOk found = true := hok
    rw [hok'] at hcount
    rw [detectCheck_noted hagain (by simp [hcount]), hcount, hlanes]
    rfl
  · obtain ⟨hcount, hlanes⟩ := check_goesOn hok (Nat.le_trans (by decide) h9)
    obtain ⟨hstage, hsince, hwidth, hrate, hframes⟩ := detectCheck_passes hagain (by rw [hcount]; exact Nat.succ_le_succ h9)
    exact ⟨_, exec_of_runs hruns rfl rfl, hstage, hsince, by rw [hwidth, hlanes], hrate, hframes⟩
  · intro v all
    have hall : (v.linkLanes.all fun j => decide (8 ≤ (v.link.lanes[j]).readyFrames)) = true ↔ all := by
      rw [all_linkLanes_iff]
      simp only [decide_eq_true_eq]
      rfl
    exact ⟨fun h => exec_of_runs hruns rfl ((trainingFrameRx_eq hstage hframes hk control status own).trans (if_pos (hall.2 h))),
      fun h => exec_of_runs hruns rfl
        ((trainingFrameRx_eq hstage hframes hk control status own).trans (if_neg fun h' => h (hall.1 h')))⟩
  · intro v
    refine ⟨fun hmis => exec_of_runs hruns rfl ((capabilityRx_good hstage hlen hcrc).trans (if_pos hmis)), fun hmis =>
      exec_of_runs hruns rfl ((capabilityRx_good hstage hlen hcrc).trans ?_)⟩
    rw [if_neg (by rw [Bool.not_eq_true]; exact hmis)]

end Sys2Proof.Machine

/-! # The link: failures -/

namespace Sys2Proof.Machine

/-- A device whose firmware is up. -/
def upState : State := { State.reset with start := { State.reset.start with boot := .ready } }

theorem upState_runs : upState.runs = true := by decide

/-- The same with its link DISABLED, as at reset, and the mark of an idle millisecond left. -/
def idleDisabled : State := { upState with link := { upState.link with idleSince := some 0 } }

/-- LINK_FAIL_IDLE_END acts in DETECT alone. -/
theorem idleDisabled_idleEnd : exec (.linkFailIdleEnd 1000000) idleDisabled = .next (idleDisabled.elapse 1000000) :=
  exec_of_runs upState_runs rfl rfl

/-- Refutes O32: its clause of the idle millisecond leaves the stage open, and on a DISABLED link that millisecond does not
end. -/
theorem not_linkFailures : ¬ Obligations.LinkFailures := by
  intro h
  obtain ⟨-, -, -, -, hidle, -⟩ := h 1000000 0 0 0 0 (Vector.replicate 8 none) idleDisabled upState_runs
  have hend := hidle rfl (by decide)
  rw [idleDisabled_idleEnd] at hend
  have hsince : some 0 = (none : Option Nat) := congrArg (fun t : State => t.link.idleSince) (Host.Outcome.next.inj hend)
  cases hsince

end Sys2Proof.Machine

/-! # The link: low power and loops -/

namespace Sys2Proof.Machine

section
variable {s : State} {dt : Nat} {r : LoopRun} (hstage : s.link.stage = .loop) (hloop : s.link.loop = some r)
include hloop

theorem loopReturns_of_in (hout : r.out = false) : s.loopReturns = s := by
  simp [State.loopReturns, hloop, hout]

theorem sendLoop_of_in (hpattern : r.pattern = 1) (hout : r.out = false) : s.sendLoop =
    (s.setLink (fun l =>
      { l with txBlocks := loopFrame r.fseq, loop := some { r with fseq := (r.fseq + 1) % 256, out := true } })).count
        Ctr.linkStats_framesTx 0 1 := by
  simp [State.sendLoop, loopReturns_of_in hloop hout, hloop, hpattern]

theorem loopBad_of_out (hout : r.out = true) :
    s.loopBad = (s.setLink (fun l => { l with loop := some { r with out := false } })).count Ctr.linkStats_crcErr 0 1 := by
  simp [State.loopBad, hloop, hout]

include hstage

/-- A checker of a PRBS31 loop: its errors count while it was locked. -/
theorem loopCheckerLock_eq {k : Fin 8} (hpattern : r.pattern = 0) (hk : r.lanes.getLsbD k.val = true) (locked : Bool)
    (errors : Nat) : loopCheckerLock dt k locked errors s =
      (if (s.link.lanes[k]).prbsLock then (s.elapse dt).count (laneCtr Ctr.linkStats_prbsErr0 k) 0 errors
        else s.elapse dt).setLane k (fun x => { x with prbsLock := locked }) := by
  simp only [loopCheckerLock, elapse_link, hloop]
  exact if_pos ⟨hstage, hpattern, hk⟩

end

/-- Settles O33: each row by the branch that its premises choose. -/
theorem linkPowerAndLoops : Obligations.LinkPowerAndLoops := by
  intro dt errors n k locked r s hruns u l now
  refine ⟨fun hstage => ⟨exec_of_runs hruns rfl ?quiet, exec_of_runs hruns rfl ?sleep, fun hpm hen hpeer hnone htime =>
      exec_of_runs hruns rfl (if_pos ?txQuiet), fun hpm hen hpeer hnone htime => exec_of_runs hruns rfl (if_pos ?txSleep),
      fun hsome => exec_of_runs hruns rfl (if_pos ⟨hstage, Option.isSome_iff_ne_none.2 hsome⟩),
      fun hpm => exec_of_runs hruns rfl (if_pos ⟨hstage, hpm⟩)⟩,
    fun hpm htime => exec_of_runs hruns rfl (if_pos ⟨hpm, htime⟩), fun hloop => ⟨fun hout hon hawaits hdue =>
      exec_of_runs hruns rfl ?loopStart, fun hstage hend => exec_of_runs hruns rfl ?loopEnd,
      fun hstage hpattern hk hlock => exec_of_runs hruns rfl ?locked, fun hstage hpattern hk hlock =>
      exec_of_runs hruns rfl ?unlocked, fun hstage hpattern hout => ?frame, fun hstage hout => exec_of_runs hruns rfl ?bad⟩⟩
  case quiet => simp [pmBlockRx, show s.link.stage = _ from hstage, u]
  case sleep => simp [pmBlockRx, show s.link.stage = _ from hstage, u]
  case txQuiet =>
    simp only [Bool.and_eq_true, decide_eq_true_eq, Option.isNone_iff_eq_none, and_assoc]
    exact ⟨hstage, hpm, hen, hpeer, hnone, htime⟩
  case txSleep =>
    simp only [Bool.and_eq_true, decide_eq_true_eq, Option.isNone_iff_eq_none, and_assoc]
    exact ⟨hstage, hpm, hen, hpeer, hnone, htime⟩
  case loopStart =>
    simp only [linkLoopStart, elapse_link, show s.link.loop = _ from hloop]
    exact if_pos ⟨hout, hon, by rw [hawaits]; rfl, hdue⟩
  case loopEnd =>
    simp only [linkLoopEnd, elapse_link, show s.link.loop = _ from hloop]
    exact if_pos ⟨hstage, hend⟩
  case locked => rw [loopCheckerLock_eq hstage hloop hpattern hk, if_pos hlock]
  case unlocked => rw [loopCheckerLock_eq hstage hloop hpattern hk, if_neg (Bool.not_eq_true _ ▸ hlock)]
  case frame =>
    refine exec_of_runs (f := fun d t => (frameSelect d t).shutGo) hruns rfl (congrArg State.shutGo ?_)
    exact (if_pos hstage).trans (sendLoop_of_in (s := s.elapse dt) hloop hpattern hout)
  case bad =>
    simp only [hostFrameDiscard, elapse_link, show s.link.stage = _ from hstage]
    exact loopBad_of_out (s := s.elapse dt) hloop hout

end Sys2Proof.Machine

/-! # The frequency reference and the second pulses -/

namespace Sys2Proof.Machine

section
variable (s : State) (dt : Nat)

@[simp] theorem elapse_refPresent : (s.elapse dt).refPresent = s.refPresent := rfl
@[simp] theorem elapse_bankUp (b : IoBank) : (s.elapse dt).bankUp b = s.bankUp b := rfl
@[simp] theorem elapse_anyEnabled : (s.elapse dt).anyEnabled = s.anyEnabled := rfl

end

section
variable {s : State} {dt : Nat}

/-! ## The reference (R373, R474) -/

/-- The edges of the last 100 ms qualify the reference. -/
def State.qualifies (s : State) (dt : Nat) (ppm : Int) : Prop :=
  s.refPresent = true ∧ s.time.refSince + 100000000 ≤ s.clk + dt ∧ (ppm.natAbs ≤ 200 ∨ s.start.xtalFault = true)

theorem qualifies_iff (ppm : Int) : s.qualifies dt ppm ↔
    ¬ ((!(s.elapse dt).refPresent || !(s.elapse dt).refTimed
      || (!(s.elapse dt).start.xtalFault && decide (200 < ppm.natAbs))) = true) := by
  have htimed : (s.elapse dt).refTimed = true ↔ s.time.refSince + 100000000 ≤ s.clk + dt := decide_eq_true_iff
  rw [State.qualifies, ← htimed, elapse_refPresent, elapse_start]
  cases s.refPresent <;> cases (s.elapse dt).refTimed <;> cases s.start.xtalFault <;> simp

/-! ## The oven oscillator (R374) -/

theorem ocxoRdyChange_due (h : s.time.ocxoSince + 10000000 ≤ s.clk + dt) (level : Bool) :
    ocxoRdyChange dt level s = (s.elapse dt).ocxoLevel (level && s.bankUp .tb) := if_neg (Nat.not_lt.2 h)

theorem ocxoLevel_changes {level : Bool} (h : s.time.ocxoReady ≠ level) : s.ocxoLevel level =
    if s.flag Fld.timeCfg_ocxoUse 0 then
      (s.setTime (fun t => { t with ocxoReady := level, ocxoSince := s.clk })).event evOcxoChange noUnit noUnit []
    else s.setTime (fun t => { t with ocxoReady := level, ocxoSince := s.clk }) := if_neg h

/-! ## Second pulses (R376 to R378) -/

theorem ppsEdge_low (hen : s.flag Fld.timeCfg_ppsEn 0 = true) (hruns : s.timeRuns = true) (hbank : s.bankUp .tb = true)
    (x : Stamp) : ppsEdge dt x false s = (s.elapse dt).count Ctr.timeStats_ppsRejected 0 1 := by
  simp [ppsEdge, hen, hruns, hbank]

/-- The state after an accepted edge that loads nothing. -/
def State.ppsTaken (s : State) (dt : Nat) (x : Stamp) (n : Nat) (drift : Bool) : State :=
  (s.elapse dt).setTime (fun t =>
    { t with ppsPresent := true, ppsFresh := false,
             ppsLast := some (fine ((s.elapse dt).stampNs x) x.frac.toNat, fine (s.clk + dt - x.ago) x.frac.toNat), ppsOver := n,
             ppsOffset := ppsOffsetOf (fine ((s.elapse dt).stampNs x) x.frac.toNat), ppsDrift := drift })

/-- The first edge, or one after a gap, is accepted; while a port is enabled it loads nothing. -/
theorem ppsEdge_high (hen : s.flag Fld.timeCfg_ppsEn 0 = true) (hruns : s.timeRuns = true) (hbank : s.bankUp .tb = true)
    (hnear : s.time.ppsLast = none ∨ s.time.ppsFresh = true) (hports : s.anyEnabled = true) (x : Stamp) :
    ppsEdge dt x true s =
      let far := decide (256 * s.fld Fld.timeCfg_ppsTol 0 < (ppsOffsetOf (fine ((s.elapse dt).stampNs x) x.frac.toNat)).natAbs)
      let n := if far then s.time.ppsOver + 1 else 0
      let drift := if far then s.time.ppsDrift || decide (3 ≤ n) else false
      if drift && !s.time.ppsDrift then (s.ppsTaken dt x n drift).event evPpsDrift noUnit noUnit []
      else s.ppsTaken dt x n drift := by
  have hload : (s.elapse dt).ppsLoad x = s.elapse dt := by simp [State.ppsLoad, hports]
  have hnear' : (s.time.ppsFresh || s.time.ppsLast.all (fun y => secondApart y.2 (fine ((s.elapse dt).clk - x.ago) x.frac.toNat)))
      = true := by
    obtain h | h := hnear <;> simp [h]
  unfold ppsEdge
  rw [if_neg (by simp [hen, hruns, hbank])]
  simp only [elapse_time, hload]
  rw [if_neg (by simp only [hnear']; decide)]
  rfl

theorem ppsTimeout_late {a b : Nat} (hpresent : s.time.ppsPresent = true) (hlast : s.time.ppsLast = some (a, b))
    (h : b + 384000000000 ≤ 256 * (s.clk + dt)) : ppsTimeout dt s =
      (((s.elapse dt).setTime (fun t => { t with ppsPresent := false })).event evPpsLost noUnit noUnit []).count
        Ctr.timeStats_ppsMissing 0 1 := by
  have hsec : 384 * secNs = 384000000000 := rfl
  have hlate : b + 384 * secNs ≤ 256 * (s.elapse dt).clk := by rw [hsec]; exact h
  unfold ppsTimeout
  simp only [elapse_time, hlast, hpresent, decide_eq_true hlate, Bool.true_and, if_true]

end

/-- Settles O34: each row by the branch that its premises choose. -/
theorem referenceAndPps : Obligations.ReferenceAndPps := by
  intro dt ppm x level s hruns u now qualifies
  refine ⟨fun hq hstate => exec_of_runs hruns rfl ((if_neg ((qualifies_iff ppm).1 hq)).trans ?_), fun hq hstate =>
    exec_of_runs hruns rfl ((if_neg ((qualifies_iff ppm).1 hq)).trans ?_), fun hq =>
    exec_of_runs hruns rfl (if_pos (Classical.not_not.1 fun h => hq ((qualifies_iff ppm).2 h))), fun hstate =>
    exec_of_runs hruns rfl ?_, fun hstate => exec_of_runs hruns rfl ?_, fun hbank htime hlevel huse =>
    exec_of_runs hruns rfl ?_, fun hbank htime hlevel huse => exec_of_runs hruns rfl ?_, fun hbank => ?_, fun htime =>
    exec_of_runs hruns rfl (if_pos htime), fun hen htb hbank => exec_of_runs hruns rfl (ppsEdge_low hen htb hbank x),
    fun hen htb hbank hnear hports => ?pps, fun a b hpresent hlast htime => exec_of_runs hruns rfl ?_, fun hen htb hpast hfrom =>
    exec_of_runs hruns rfl (if_pos ?_)⟩
  · obtain h | h := hstate
    all_goals simp only [elapse_time, h]; rfl
  · simp only [elapse_time, hstate]
    rfl
  · simp only [refLost, elapse_time, hstate]
    rfl
  · obtain h | h := hstate
    all_goals simp only [refLost, elapse_time, h]; rfl
  · rw [ocxoRdyChange_due htime, hbank, Bool.and_true, ocxoLevel_changes (s := s.elapse dt) hlevel, if_pos (show (s.elapse dt).flag _ 0 = true from huse)]
    rfl
  · rw [ocxoRdyChange_due htime, hbank, Bool.and_true, ocxoLevel_changes (s := s.elapse dt) hlevel,
      if_neg (show ¬ (s.elapse dt).flag _ 0 = true by simp [huse])]
    rfl
  · have hlevels : ocxoRdyChange dt level s = ocxoRdyChange dt false s := by simp [ocxoRdyChange, hbank]
    rw [exec_of_runs hruns (i := .ocxoRdyChange dt level) rfl hlevels, exec_of_runs hruns (i := .ocxoRdyChange dt false) rfl rfl]
  case pps =>
    intro stamp off far arrived
    have hedge := ppsEdge_high (dt := dt) hen htb hbank hnear hports x
    refine ⟨fun hfar => exec_of_runs hruns rfl (hedge.trans ?_), fun hfar hfew => exec_of_runs hruns rfl (hedge.trans ?_),
      fun hfar hmany hdrift => exec_of_runs hruns rfl (hedge.trans ?_)⟩
    · rw [decide_eq_false hfar]
      rfl
    · rw [decide_eq_true hfar]
      have hfew' : ¬ 3 ≤ s.time.ppsOver + 1 := by omega
      simp [hfew', State.ppsTaken, arrived, stamp, off, u, now]
    · rw [decide_eq_true hfar]
      have hmany' : 3 ≤ s.time.ppsOver + 1 := by omega
      simp [hmany', hdrift, State.ppsTaken, arrived, stamp, off, u, now]
  · exact ppsTimeout_late hpresent hlast htime
  · simp only [Bool.and_eq_true, decide_eq_true_eq, and_assoc]
    exact ⟨hen, htb, hpast, hfrom⟩

end Sys2Proof.Machine

/-! # Site synchronisation -/

namespace Sys2Proof.Machine

@[simp] theorem elapse_slave (s : State) (dt : Nat) : (s.elapse dt).slave = s.slave := rfl
@[simp] theorem elapse_siteNow (s : State) (dt : Nat) : (s.elapse dt).siteNow = s.siteNow := rfl

section
variable {s : State} {dt : Nat}

theorem siteNow_of_ne_fault (h : s.time.site ≠ .fault) : s.siteNow = s.time.site := by
  unfold State.siteNow
  cases hs : s.time.site
  case fault => exact absurd hs h
  all_goals rfl

/-- A marker is noted with its stamp. -/
def State.noteMarker (t s : State) (dt : Nat) (x : Stamp) : State :=
  t.setTime (fun v => { v with lastMarker := some (fine (t.stampNs x) x.frac.toNat, fine (s.clk + dt - x.ago) x.frac.toNat) })

/-- A marker that spells a second with its CRC, at a slave that is not in FAULT. -/
theorem syncMarker_counted {n : Nat} {x : Stamp} {falls : List Nat} (hslave : s.slave = true) (hruns : s.timeRuns = true)
    (hcount : markerCount (falls.map periodClass) = some n) (hsite : s.time.site ≠ .fault) :
    syncMarker dt x falls s =
      match s.time.site with
      | .seeking =>
        let second := match s.time.lastMarker with
          | some (_, t) => secondApart t (fine (s.clk + dt - x.ago) x.frac.toNat)
          | none => false
        State.noteMarker (if second && !s.anyEnabled then (s.elapse dt).siteLoad x n else s.elapse dt) s dt x
      | .aligning | .locked | .holdover => State.noteMarker ((s.elapse dt).goodMarker s.time.site x n) s dt x
      | .fault | .none | .master => State.noteMarker (s.elapse dt) s dt x := by
  have hsame : (s.elapse dt).setTime (fun t => { t with site := s.time.site }) = s.elapse dt := rfl
  unfold syncMarker
  rw [if_neg (by simp [hslave, hruns])]
  simp only [hcount, elapse_siteNow, siteNow_of_ne_fault hsite, hsame]
  rfl

theorem syncTimeout_late {a b : Nat} (hsite : s.time.site = .locked) (hlast : s.time.lastMarker = some (a, b))
    (h : b + 384000000000 ≤ 256 * (s.clk + dt)) : syncTimeout dt s =
      ((s.elapse dt).setTime (fun t => { t with site := .holdover })).count Ctr.timeStats_syncLosses 0 1 := by
  have hsec : 384 * secNs = 384000000000 := rfl
  have hlate : b + 384 * secNs ≤ 256 * (s.elapse dt).clk := by rw [hsec]; exact h
  unfold syncTimeout
  simp only [elapse_time, hlast, hsite, decide_eq_true hlate, if_true]

/-- The time base and SYNC_OFFSET moved by a step of 1/256 ns. -/
def State.phaseMoved (s : State) (step : Int) : State :=
  let t := (((s.tb * 256 + s.tbFrac : Nat) : Int) + step).toNat
  ({ s with tb := t / 256 % 18446744073709551616, tbFrac := t % 256 }).setTime (fun u =>
    { u with syncOffset := u.syncOffset + step, stepAt := s.clk })

theorem syncPhaseStep_due (hsite : s.time.site = .aligning ∨ s.time.site = .locked) (hruns : s.timeRuns = true)
    (hdue : s.time.stepAt + 1000000 ≤ s.clk + dt) (hpos : 0 < s.time.syncOffset) :
    syncPhaseStep dt s = (s.elapse dt).phaseMoved (-1) := by
  have hgo : ((s.elapse dt).timeRuns && decide ((s.elapse dt).time.stepAt + msNs ≤ (s.elapse dt).clk)) = true := by
    simp only [Bool.and_eq_true, decide_eq_true_eq]
    exact ⟨hruns, hdue⟩
  have hstep : (if (s.elapse dt).time.syncOffset < 0 then (1 : Int) else if 0 < (s.elapse dt).time.syncOffset then -1 else 0)
      = -1 := by
    simp [Int.not_lt.2 (Int.le_of_lt hpos), hpos]
  unfold syncPhaseStep
  simp only [hstep]
  obtain h | h := hsite
  all_goals
    simp only [elapse_time, h]
    exact if_pos hgo

theorem syncPhaseStep_early (h : s.clk + dt < s.time.stepAt + 1000000) : syncPhaseStep dt s = s.elapse dt := by
  have hwait : ¬ ((s.elapse dt).timeRuns && decide ((s.elapse dt).time.stepAt + msNs ≤ (s.elapse dt).clk)) = true := by
    simp only [Bool.and_eq_true, decide_eq_true_eq]
    exact fun hgo => absurd hgo.2 (Nat.not_le.2 h)
  unfold syncPhaseStep
  simp only [elapse_time]
  split
  · exact if_neg hwait
  · exact if_neg hwait
  all_goals rfl

/-- A time base below 2^64 ns goes back by 1/256 ns. -/
theorem phaseMoved_down (htb : s.tb < 18446744073709551616) (hfrac : s.tbFrac < 256) (hpos : 0 < s.tb * 256 + s.tbFrac) :
    (s.phaseMoved (-1)).tb * 256 + (s.phaseMoved (-1)).tbFrac + 1 = s.tb * 256 + s.tbFrac := by
  have hlow : ((((s.tb * 256 + s.tbFrac : Nat) : Int) + -1).toNat) = s.tb * 256 + s.tbFrac - 1 := by omega
  have htb' : (s.phaseMoved (-1)).tb = (s.tb * 256 + s.tbFrac - 1) / 256 % 18446744073709551616 := by
    rw [← hlow]
    rfl
  have hfrac' : (s.phaseMoved (-1)).tbFrac = (s.tb * 256 + s.tbFrac - 1) % 256 := by
    rw [← hlow]
    rfl
  rw [htb', hfrac']
  omega

/-- The time base counts modulo 2^64 ns. -/
theorem elapse_tb_lt (hruns : s.timeRuns = true) : (s.elapse dt).tb < 18446744073709551616 := by
  have htb : (s.elapse dt).tb = (s.tb + dt) % 18446744073709551616 := if_pos hruns
  rw [htb]
  exact Nat.mod_lt _ (by decide)

end

/-- The third good marker in a row within 1/4 ns locks an aligning site. -/
theorem goodMarker_locks {v : State} {x : Stamp} {m : Nat}
    (hown : divHalfUp (100 * (fine (v.stampNs x) x.frac.toNat : Nat) - v.inDelay) siteSecond.toNat = m)
    (hnear : (to256 (100 * (fine (v.stampNs x) x.frac.toNat : Nat) - v.inDelay - siteSecond * m)).natAbs ≤ 64)
    (hgood : 2 ≤ v.time.syncGood) :
    v.goodMarker .aligning x m =
      ((v.setTime (fun t => { t with
          syncOffset := to256 (100 * (fine (v.stampNs x) x.frac.toNat : Nat) - v.inDelay - siteSecond * m) })).setTime
        (fun t => { t with syncGood := v.time.syncGood + 1 })).siteLock := by
  unfold State.goodMarker
  simp only [hown, hnear, ne_eq, not_true_eq_false, false_or, if_true]
  rw [if_neg (by omega), if_pos (by omega)]

/-- Settles O35: each row by the branch that its premises choose. -/
theorem siteSynchronisation : Obligations.SiteSynchronisation := by
  intro dt n a b x falls s hruns htime u now ps note
  refine ⟨fun hslave => ⟨fun hnone => exec_of_runs hruns rfl ?_, fun hcount hsite => exec_of_runs hruns rfl ?_,
    fun hcount hsite hports hlast hsecond => exec_of_runs hruns rfl ?_⟩, fun hsite hlast hlate => exec_of_runs hruns rfl ?_,
    fun hearly => exec_of_runs hruns rfl (syncPhaseStep_early hearly), fun hsite hdue hpos hfrac hnow => ?_, ?_⟩
  · simp [syncMarker, hslave, htime, show markerCount (falls.map periodClass) = none from hnone, u]
  · have hne : s.time.site ≠ .fault := by
      rintro h
      simp [h] at hsite
    rw [syncMarker_counted hslave htime hcount hne]
    obtain h | h | h := hsite
    all_goals simp only [h]; rfl
  · rw [syncMarker_counted hslave htime hcount (by simp [hsite])]
    simp only [hsite, hlast, hports]
    rw [if_pos (by simpa using hsecond)]
    rfl
  · exact syncTimeout_late hsite hlast hlate
  · rw [exec_of_runs hruns rfl (syncPhaseStep_due hsite htime hdue hpos)]
    exact ⟨_, rfl, phaseMoved_down (elapse_tb_lt htime) hfrac hnow, rfl⟩
  · intro v _ m e own off hown hnear hgood
    have hown' : divHalfUp e siteSecond.toNat = m := hown
    have hoff : off = to256 (e - siteSecond * m) := by rw [← hown]
    rw [hoff] at hnear ⊢
    exact goodMarker_locks hown' hnear hgood

end Sys2Proof.Machine

/-! # The time-interval unit -/

namespace Sys2Proof.Machine

/-- Currents that re-arm an echo comparator do not fire it. -/
theorem echoRearms_not_fires {level : Nat} {cx cy : Int} (h : echoRearms level cx cy = true) :
    echoFires level cx cy = false := by
  simp only [echoRearms, Bool.and_eq_true, decide_eq_true_eq] at h
  simp only [echoFires, Bool.or_eq_false_iff, decide_eq_false_iff_not]
  omega

/-- A stamp of an input lies where a measurement takes stops: inside its window, and past the blanking for an echo. -/
def TiArm.inside (c : TiArm) (m : TiMeas) (i : Fin 12) (t : Nat) : Prop :=
  c.src ≠ tiFreq ∧ fine m.ns m.frac ≤ t ∧ t ≤ fine m.ns m.frac + 256 * c.windowNs
    ∧ (i.val < 4 ∨ fine m.ns m.frac + 256 * c.blankNs ≤ t)

theorem inside_iff (c : TiArm) (m : TiMeas) (i : Fin 12) (t : Nat) : c.inside m i t ↔
    (decide (c.src ≠ tiFreq) && decide (fine m.ns m.frac ≤ t ∧ t ≤ fine m.ns m.frac + 256 * c.windowNs)
      && (decide (i.val < 4) || decide (fine m.ns m.frac + 256 * c.blankNs ≤ t))) = true := by
  simp [TiArm.inside, and_assoc]

section
variable {s : State} {dt : Nat} {a b : TiArm} {m : TiMeas} {i : Fin 12} {e : TiEdge} {x : Stamp}

/-- A stop in the window of the measurement in progress. -/
theorem tiStopEdge_inside (harm : s.time.ti.arm = some a) (hmeas : s.time.ti.meas = some m)
    (htaken : (s.elapse dt).stopTaken a i e = true)
    (hin : a.inside m i (fine ((s.elapse dt).stampNs x) x.frac.toNat)) : tiStopEdge dt i e x s =
      if nearLast m.last i.val (fine ((s.elapse dt).stampNs x) x.frac.toNat) then
        ((s.elapse dt).echoNote a i e).setTi (fun v =>
          { v with meas := some { m with last := Tab.put m.last i.val (fine ((s.elapse dt).stampNs x) x.frac.toNat) } })
      else ((s.elapse dt).echoNote a i e).tiStop a m i ((s.elapse dt).stampNs x) x.frac.toNat := by
  have hstop : ¬ ((!(s.elapse dt).stopTaken a i e || !(decide (a.src ≠ tiFreq)
      && decide (fine m.ns m.frac ≤ fine ((s.elapse dt).stampNs x) x.frac.toNat
        ∧ fine ((s.elapse dt).stampNs x) x.frac.toNat ≤ fine m.ns m.frac + 256 * a.windowNs)
      && (decide (i.val < 4) || decide (fine m.ns m.frac + 256 * a.blankNs ≤ fine ((s.elapse dt).stampNs x) x.frac.toNat))))
      = true) := by
    rw [htaken, (inside_iff a m i _).1 hin]
    decide
  unfold tiStopEdge
  simp only [elapse_time, harm, hmeas]
  exact if_neg hstop

/-- A stop while the window of the measurement closed last, by its stops, still lasts. -/
theorem tiStopEdge_excess (hmeas : s.time.ti.meas = none) (hexcess : s.time.ti.excess = some (m, b))
    (htaken : (s.elapse dt).stopTaken b i e = true)
    (hin : b.inside m i (fine ((s.elapse dt).stampNs x) x.frac.toNat)) : tiStopEdge dt i e x s =
      (((s.elapse dt).echoNote b i e).setTi (fun v =>
        { v with excess := some ({ m with last := Tab.put m.last i.val (fine ((s.elapse dt).stampNs x) x.frac.toNat) }, b) })).countIf
        Ctr.timeStats_stopOverflow 0 (!nearLast m.last i.val (fine ((s.elapse dt).stampNs x) x.frac.toNat)) := by
  have hstop : ¬ ((!(s.elapse dt).stopTaken b i e || !(decide (b.src ≠ tiFreq)
      && decide (fine m.ns m.frac ≤ fine ((s.elapse dt).stampNs x) x.frac.toNat
        ∧ fine ((s.elapse dt).stampNs x) x.frac.toNat ≤ fine m.ns m.frac + 256 * b.windowNs)
      && (decide (i.val < 4) || decide (fine m.ns m.frac + 256 * b.blankNs ≤ fine ((s.elapse dt).stampNs x) x.frac.toNat))))
      = true) := by
    rw [htaken, (inside_iff b m i _).1 hin]
    decide
  unfold tiStopEdge
  simp only [elapse_time, hmeas, hexcess]
  split
  · contradiction
  all_goals exact if_neg hstop

/-- An edge that is no stop only sets or re-arms its echo comparator. -/
theorem tiStopEdge_not_taken (harm : s.time.ti.arm = some a) (hmeas : s.time.ti.meas = some m)
    (htaken : (s.elapse dt).stopTaken a i e = false) : tiStopEdge dt i e x s = (s.elapse dt).echoNote a i e := by
  unfold tiStopEdge
  simp only [elapse_time, harm, hmeas, htaken]
  rfl

theorem echoNote_rearms {cx cy : Int} (hi : 4 ≤ i.val) (hport : portLaunches (s.port (echoPort i)).seq = true)
    (h : echoRearms a.level cx cy = true) : s.echoNote a i (.echo cx cy) =
      s.setTi (fun v => { v with fired := v.fired &&& ~~~(1#8 <<< (echoPort i).val) }) := by
  simp [State.echoNote, hi, hport, h, echoRearms_not_fires h]

theorem stopTaken_rearms {cx cy : Int} (h : echoRearms a.level cx cy = true) :
    s.stopTaken a i (.echo cx cy) = false := by
  simp [State.stopTaken, echoRearms_not_fires h]

theorem tiWindowEnd_over (harm : s.time.ti.arm = some a) (hmeas : s.time.ti.meas = some m) (hsrc : a.src ≠ tiFreq)
    (hover : m.ns + a.windowNs ≤ (s.elapse dt).tb) : tiWindowEnd dt s =
      ((s.elapse dt).setTi (fun t => { t with ring := shortLast t.ring })).tiClose false := by
  unfold tiWindowEnd
  simp only [elapse_time, harm, hmeas]
  exact if_neg (not_or.2 ⟨hsrc, Nat.not_lt.2 hover⟩)

end

/-- Settles O36: each row by the branch that its premises choose. -/
theorem timeIntervals : Obligations.TimeIntervals := by
  intro dt edges interval i e cx cy x a b m s hruns harm u t start inside
  refine ⟨fun hsrc hbank hmeas => exec_of_runs hruns rfl ?_, fun hsrc hbank hmeas => exec_of_runs hruns rfl ?_,
    fun hsrc hmeas => exec_of_runs hruns rfl ?_, fun hmeas htaken hin hfar => ?stamped, fun hmeas htaken hin hnear =>
    exec_of_runs hruns rfl ((tiStopEdge_inside harm hmeas htaken hin).trans (if_pos hnear)),
    fun hmeas hexcess htaken hin => exec_of_runs hruns rfl (tiStopEdge_excess hmeas hexcess htaken hin),
    fun hmeas hi hport hrearms => exec_of_runs hruns rfl ?_, fun hmeas hsrc hover =>
    exec_of_runs hruns rfl (tiWindowEnd_over harm hmeas hsrc hover), ?gate⟩
  · simp [tiStartEdge, harm, hsrc, hbank, hmeas, u]
  · simp [tiStartEdge, harm, hsrc, hbank, hmeas, u]
  · simp [tiStartEdge, harm, hsrc, hmeas, u]
  case stamped =>
    intro k v taken stamped
    have hstop := (tiStopEdge_inside harm hmeas htaken hin).trans (if_neg (by rw [Bool.not_eq_true]; exact hfar))
    refine ⟨fun hfew => exec_of_runs hruns rfl (hstop.trans ?_), fun hlast => exec_of_runs hruns rfl (hstop.trans ?_)⟩
    · have hgoesOn : decide (a.stops ≤ m.stops + 1) = false := decide_eq_false (Nat.not_le.2 hfew)
      simp only [State.tiStop, hgoesOn]
      rfl
    · have hcloses : decide (a.stops ≤ m.stops + 1) = true := decide_eq_true hlast
      simp only [State.tiStop, hcloses]
      rfl
  · rw [tiStopEdge_not_taken harm hmeas (stopTaken_rearms hrearms)]
    exact echoNote_rearms hi hport hrearms
  case gate =>
    intro n gate hmeas hsrc hgate hend hn hwhole
    refine exec_of_runs hruns rfl ?_
    unfold tiFreqGateEnd
    simp only [elapse_time, harm, hmeas]
    refine if_neg ?_
    simp only [not_or]
    exact ⟨Classical.not_not.2 hsrc, Nat.not_lt.2 hgate, Nat.not_le.2 hend, Nat.pos_iff_ne_zero.1 hn,
      Classical.not_not.2 hwhole⟩

end Sys2Proof.Machine

/-! # Loop and alarm outputs -/

namespace Sys2Proof.Machine

section
variable {s : State} {dt : Nat} {n : Fin 8} {x : LoopReading}

theorem loopMeasured_loop (s : State) (n : Fin 8) (ua : Nat) :
    (s.loopMeasured n ua).loop n = { s.loop n with measuredUa := ua } := setLoop_loop s n _

/-! ## The conditions of R407 -/

theorem lowCompliance_iff : lowCompliance x = true ↔ 21 * x.cmpUv < 1500000 := decide_eq_true_iff

theorem openCondition_iff (s : State) : (s.loopMeasured n x.measuredUa).loopCondition n 0 x = true
    ↔ x.measuredUa < 1000 ∧ 3600 ≤ (s.loop n).commandUa ∧ 21 * x.cmpUv < 1500000 := by
  simp [State.loopCondition, loopMeasured_loop, lowCompliance_iff, and_assoc]

theorem complianceCondition_iff (s : State) : (s.loopMeasured n x.measuredUa).loopCondition n 1 x = true
    ↔ 1000 ≤ x.measuredUa ∧ x.measuredUa + 200 < (s.loop n).commandUa ∧ 21 * x.cmpUv < 1500000 := by
  simp [State.loopCondition, loopMeasured_loop, lowCompliance_iff, and_assoc]

theorem overCondition_iff (s : State) : (s.loopMeasured n x.measuredUa).loopCondition n 2 x = true
    ↔ (s.loop n).commandUa + 500 < x.measuredUa ∨ 23000 < x.measuredUa := by
  simp [State.loopCondition, loopMeasured_loop]

/-! ## Causes set and cleared (R407) -/

/-- A condition of a judged loop that has held for its time passes the check before a cause is set. -/
theorem loopCauseSet_guard {cause : Fin 3} (hjudged : s.loopJudged n = true)
    (hcond : (s.loopMeasured n x.measuredUa).loopCondition n cause x = true) (hheld : causeHold cause ≤ x.heldMs) :
    ¬ ((!(s.loopMeasured n x.measuredUa).loopJudged n || !(s.loopMeasured n x.measuredUa).loopCondition n cause x
      || decide (x.heldMs < causeHold cause)) = true) := by
  have hjudged' : (s.loopMeasured n x.measuredUa).loopJudged n = true := hjudged
  simp [hjudged', hcond, hheld]

/-- A condition that has been absent for a second passes the check before a cause is cleared. -/
theorem loopCauseClear_guard {cause : Fin 3}
    (hcond : (s.loopMeasured n x.measuredUa).loopCondition n cause x = false) (hheld : 1000 ≤ x.heldMs) :
    ¬ (((s.loopMeasured n x.measuredUa).loopCondition n cause x || decide (x.heldMs < 1000)) = true) := by
  simp [hcond, hheld]

/-- Cause 0 of a loop, not set before, is set with its event and its count. -/
theorem loopCauseSet_open (hjudged : s.loopJudged n = true)
    (hcond : ((s.elapse dt).loopMeasured n x.measuredUa).loopCondition n 0 x = true) (hheld : causeHold 0 ≤ x.heldMs)
    (hopen : (s.loop n).openC = false) : loopCauseSet dt n 0 x s =
      ((((s.elapse dt).loopMeasured n x.measuredUa).setLoop n (fun x => { x with openC := true })).event evLoopFault
        n.val noUnit [causeOpen]).count loopOpenCtr n.val 1 := by
  unfold loopCauseSet
  rw [if_neg (loopCauseSet_guard (s := s.elapse dt) hjudged hcond hheld)]
  exact if_neg (by rw [loopMeasured_loop, Bool.not_eq_true]; exact hopen)

/-- Cause 1 of a loop, not set before, is set with its event and its count. -/
theorem loopCauseSet_compliance (hjudged : s.loopJudged n = true)
    (hcond : ((s.elapse dt).loopMeasured n x.measuredUa).loopCondition n 1 x = true) (hheld : causeHold 1 ≤ x.heldMs)
    (hcompl : (s.loop n).compliance = false) : loopCauseSet dt n 1 x s =
      ((((s.elapse dt).loopMeasured n x.measuredUa).setLoop n (fun x => { x with compliance := true })).event evLoopFault
        n.val noUnit [causeCompliance]).count Ctr.outStats_word1 n.val 1 := by
  unfold loopCauseSet
  rw [if_neg (loopCauseSet_guard (s := s.elapse dt) hjudged hcond hheld)]
  exact if_neg (by rw [loopMeasured_loop, Bool.not_eq_true]; exact hcompl)

/-- Over-current turns the drive of its loop off, with event and count where the cause is new. -/
theorem loopCauseSet_overCurrent (hjudged : s.loopJudged n = true)
    (hcond : ((s.elapse dt).loopMeasured n x.measuredUa).loopCondition n 2 x = true) (hheld : causeHold 2 ≤ x.heldMs) :
    loopCauseSet dt n 2 x s =
      let w := ((s.elapse dt).loopMeasured n x.measuredUa).setLoop n
        (fun x => { x with overCurrent := true, driveOn := false, retryAt := s.clk + dt })
      (if (s.loop n).overCurrent then w
        else (w.event evLoopFault n.val noUnit [causeOverCurrent]).count Ctr.outStats_word2 n.val 1).loopEval n := by
  unfold loopCauseSet
  rw [if_neg (loopCauseSet_guard (s := s.elapse dt) hjudged hcond hheld)]
  simp only [loopMeasured_loop]
  rfl

theorem loopClear_open (h : (s.loop n).openC = true) : s.loopClear n causeOpen =
    (s.setLoop n (fun l => { l with openC := false })).event evLoopClear n.val noUnit [causeOpen] := if_pos h

theorem loopClear_overCurrent (h : (s.loop n).overCurrent = true) : s.loopClear n causeOverCurrent =
    (s.setLoop n (fun l => { l with overCurrent := false })).event evLoopClear n.val noUnit [causeOverCurrent] := if_pos h

end

/-- Settles O37: each row by the branch that its premises choose. -/
theorem outputEvents : Obligations.OutputEvents := by
  intro dt n x ms s hruns u m ua v now read
  refine ⟨fun htick => exec_of_runs (f := fun d t => loopTick d ms t) hruns rfl ?_,
    fun htick => exec_of_runs (f := fun d t => loopTick d ms t) hruns rfl ?_,
    exec_of_runs hruns rfl rfl, fun hjudged hlow hcmd hcmp hheld hopen => exec_of_runs hruns rfl ?_,
    fun hjudged hlow hcmd hcmp hheld hcompl => exec_of_runs hruns rfl ?_, fun hjudged hover hheld hcur =>
    exec_of_runs hruns rfl ?_, fun hjudged hover hheld hcur => exec_of_runs hruns rfl ?_, fun hnot hheld hopen =>
    exec_of_runs hruns rfl ?_, fun hlow hlow' hheld hcur hdrive htime => exec_of_runs hruns rfl ?_,
    fun hcur hdrive hjudged htime => exec_of_runs hruns rfl (if_pos ?_), fun hcond hover => exec_of_runs hruns rfl ?_,
    fun htrip htime => exec_of_runs hruns rfl (if_pos ?_), fun hover htime => exec_of_runs hruns rfl (if_pos ?_)⟩
  · exact if_pos htick
  · exact if_neg htick
  · exact loopCauseSet_open hjudged ((openCondition_iff (s.elapse dt)).2 ⟨hlow, hcmd, hcmp⟩) hheld hopen
  · exact loopCauseSet_compliance hjudged ((complianceCondition_iff (s.elapse dt)).2 ⟨hlow, hcmd, hcmp⟩) hheld hcompl
  · rw [loopCauseSet_overCurrent hjudged ((overCondition_iff (s.elapse dt)).2 hover) hheld]
    simp only [show (s.loop n).overCurrent = false from hcur, Bool.false_eq_true, if_false]
    rfl
  · rw [loopCauseSet_overCurrent hjudged ((overCondition_iff (s.elapse dt)).2 hover) hheld]
    simp only [show (s.loop n).overCurrent = true from hcur, if_true]
    rfl
  · have hcond : v.loopCondition n 0 x = false := by
      refine Bool.eq_false_iff.2 fun h => ?_
      obtain ⟨hlow, hcmd, hcmp⟩ := (openCondition_iff (s.elapse dt)).1 h
      have hlow' : m < 1000 := hlow
      have hcmd' : 3600 ≤ ua := hcmd
      omega
    unfold loopCauseClear
    rw [if_neg (loopCauseClear_guard (s := s.elapse dt) hcond hheld)]
    exact loopClear_open (by rw [loopMeasured_loop]; exact hopen)
  · have hcond : v.loopCondition n 2 x = false := Bool.eq_false_iff.2 fun h =>
      ((overCondition_iff (s.elapse dt)).1 h).elim (Nat.not_lt.2 hlow) (Nat.not_lt.2 hlow')
    unfold loopCauseClear
    rw [if_neg (loopCauseClear_guard (s := s.elapse dt) hcond hheld)]
    have hloop : v.loop n = { s.loop n with measuredUa := m } := loopMeasured_loop u n m
    refine (if_pos ?_).trans (congrArg (State.loopEval n) (loopClear_overCurrent (by rw [loopMeasured_loop]; exact hcur)))
    simp only [Bool.and_eq_true, decide_eq_true_eq]
    exact ⟨by rw [loopMeasured_loop]; exact hdrive, by rw [loopMeasured_loop]; exact htime⟩
  · simp only [Bool.and_eq_true, decide_eq_true_eq, Bool.not_eq_true', and_assoc]
    exact ⟨hcur, hdrive, hjudged, htime⟩
  · simp [alarmOverload, hcond, hover, u, now]
  · simp only [Bool.and_eq_true, decide_eq_true_eq]
    exact ⟨htrip, htime⟩
  · simp only [Bool.and_eq_true, decide_eq_true_eq]
    exact ⟨hover, htime⟩

end Sys2Proof.Machine

/-! # What the shared operations leave of a port -/

namespace Sys2Proof.Machine

section
variable (s : State) (p : Port)

@[simp] theorem event_port (code unit sub : Nat) (vs : List Nat) : (s.event code unit sub vs).port p = s.port p :=
  congrArg (·[p]) (event_ports s code unit sub vs)
@[simp] theorem complete_port (rq : Req) (st : Status) : (s.complete rq st).port p = s.port p :=
  congrArg (·[p]) (complete_ports s rq st)
@[simp] theorem completeResult_port (rq : Req) (st : Status) (r : List Byte) : (s.completeResult rq st r).port p = s.port p :=
  congrArg (·[p]) (completeResult_ports s rq st r)
@[simp] theorem setPower_port (f : PowerSt → PowerSt) : (s.setPower f).port p = s.port p := rfl
@[simp] theorem rescanEnds_port (q : Port) (rq : Option Req) (st : Status) : (s.rescanEnds q rq st).port p = s.port p := by
  cases rq with
  | none => rfl
  | some r => exact completeResult_port s p r st _

theorem setHead_port_other {q : Port} (h : p ≠ q) (f : HeadSt → HeadSt) : (s.setHead p f).port q = s.port q :=
  setPort_port_other s p q _ h
theorem setDrive_port_other {q : Port} (h : p ≠ q) (f : DriveSt → DriveSt) : (s.setDrive p f).port q = s.port q :=
  setPort_port_other s p q _ h
theorem setSeq_port_other {q : Port} (h : p ≠ q) (f : SeqSt → SeqSt) : (s.setSeq p f).port q = s.port q :=
  setPort_port_other s p q _ h

end

end Sys2Proof.Machine

/-! # Head ports: presence, interlock and the identity read -/

namespace Sys2Proof.Machine

section
variable {s : State} {dt : Nat} {p : Port}

/-! ## Presence and interlock (R58 to R60) -/

theorem presAcceptLow_of_held (habsent : (s.port p).head.present = false) (hbank : s.bankOk p = true)
    (hread : s.serialOnly p = false)
    (hheld : (s.port p).head.presAt + s.fld Fld.headCfg_presDeglitch p.val * 1000000 ≤ s.clk + dt) :
    presAcceptLow dt p s = ((s.elapse dt).setHead p (fun x =>
      { x with present := true, presAt := s.clk + dt, idState := .reading, rejectCause := 0, badOffset := 0, record := [],
               read := some (newRead (s.clk + dt + 100 * msNs) none) })).setPower (fun w =>
        { w with retain := w.retain.map (fun r =>
          { r with report := { r.report with rescanned := r.report.rescanned ||| (1#8 <<< p.val) } }) }) := by
  have hpass : ¬ ((((s.elapse dt).port p).head.present || !(s.elapse dt).bankOk p || !(s.elapse dt).presHeld p) = true) := by
    have habsent' : ((s.elapse dt).port p).head.present = false := habsent
    have hbank' : (s.elapse dt).bankOk p = true := hbank
    have hheld' : (s.elapse dt).presHeld p = true := decide_eq_true hheld
    rw [habsent', hbank', hheld']; decide
  have hread' : (s.elapse dt).serialOnly p = false := hread
  unfold presAcceptLow
  rw [if_neg hpass, hread']
  rfl

theorem presLoss_of_held (hpresent : (s.port p).head.present = true)
    (hheld : (s.port p).head.presAt + s.fld Fld.headCfg_ilkDeglitch p.val * 100 ≤ s.clk + dt) :
    presLoss dt p s = (((s.elapse dt).loseHead p).count Ctr.headStats_presLoss p.val 1).portFault p causeInterlock := by
  refine if_neg ?_
  have hpresent' : ((s.elapse dt).port p).head.present = true := hpresent
  have hheld' : (s.elapse dt).ilkHeld p ((s.elapse dt).port p).head.presAt = true := decide_eq_true hheld
  rw [hpresent', hheld']; decide

theorem ilkChange_of_held {closed : Bool} (hnew : (s.port p).head.ilkClosed ≠ closed) (hbank : s.bankOk p = true)
    (hheld : (s.port p).head.ilkAt + s.fld Fld.headCfg_ilkDeglitch p.val * 100 ≤ s.clk + dt) :
    ilkChange dt p closed s =
      let t := (s.elapse dt).setHead p (fun h => { h with ilkClosed := closed, ilkAt := s.clk + dt })
      if closed then t else (t.count Ctr.headStats_ilkOpen p.val 1).portFault p causeInterlock := by
  refine if_neg ?_
  have hnew' : ((s.elapse dt).port p).head.ilkClosed ≠ closed := hnew
  have hbank' : (s.elapse dt).bankOk p = true := hbank
  have hheld' : (s.elapse dt).ilkHeld p ((s.elapse dt).port p).head.ilkAt = true := decide_eq_true hheld
  rw [hbank', hheld']
  exact fun h => h.elim hnew' (by decide)

/-- A lost head leaves its port absent, without a record or a read. -/
theorem loseHead_head (s : State) (p : Port) :
    ((s.loseHead p).port p).head.present = false ∧ ((s.loseHead p).port p).head.idState = .absent
      ∧ ((s.loseHead p).port p).head.record = [] ∧ ((s.loseHead p).port p).head.read = none := by
  by_cases hbegun : ((s.port p).head.read.any (·.begun)) = true <;> simp [State.loseHead, hbegun]

end

/-- Settles O13: each row by the branch that its premises choose. -/
theorem headPresenceEvents : Obligations.HeadPresenceEvents := by
  intro dt p s hruns u h ilkNs
  refine ⟨fun habsent hbank hread hheld => ?_, fun hpresent hheld => ?_, fun _ _ => loseHead_head u p,
    fun hopen hbank hheld => ?_, fun hclosed hbank hheld => ?_⟩
  · refine ⟨_, exec_of_runs hruns rfl (presAcceptLow_of_held habsent hbank hread hheld), ?_⟩
    have hother : ∀ r : Port, r ≠ p → ∀ f, ((s.elapse dt).setHead p f).port r = s.port r := fun r hr f =>
      setHead_port_other (s.elapse dt) p (Ne.symm hr) f
    simp +contextual [hother]
  · have hrow : exec (.presLoss dt p) s = .next (if s.runs then presLoss dt p s else (s.elapse dt).presLostAsleep p) := rfl
    rw [hrow, if_pos hruns, presLoss_of_held hpresent hheld]
  · exact exec_of_runs hruns rfl (ilkChange_of_held (closed := true) (by rw [show (s.port p).head.ilkClosed = _ from hopen]; decide) hbank hheld)
  · exact exec_of_runs hruns rfl (ilkChange_of_held (closed := false) (by rw [show (s.port p).head.ilkClosed = _ from hclosed]; decide) hbank hheld)

end Sys2Proof.Machine

/-! # The read of an identity record -/

namespace Sys2Proof.Machine

section
variable {s : State} {dt : Nat} {p : Port} {x : IdRead}

theorem idReadStart_of_due (hread : (s.port p).head.read = some x) (hbegun : x.begun = false) (hdue : x.dueAt ≤ s.clk + dt) :
    idReadStart dt p s =
      (s.elapse dt).setHead p (fun h => { h with read := some { x with begun := true, attemptAt := s.clk + dt } }) := by
  simp only [idReadStart, elapse_port, hread]
  exact if_pos (by rw [hbegun]; exact decide_eq_true hdue)

/-- The end of a transaction of a read that runs, on a port that keeps its head. -/
theorem idTransactionEnd_of_begun {pulses : Fin 10} {r : IdResult} (hread : (s.port p).head.read = some x)
    (hlost : (s.port p).head.lost = none) (hbegun : x.begun = true) :
    idTransactionEnd dt p pulses r s = (s.elapse dt).transactionEnds p x pulses.val r := by
  simp only [idTransactionEnd, elapse_port, hread, hlost]
  exact if_pos hbegun

/-- The guard of 25 ms ends an attempt of a read that runs, on a port that keeps its head. -/
theorem idTransactionTimeout_of_late {pulses : Fin 10} (hread : (s.port p).head.read = some x)
    (hlost : (s.port p).head.lost = none) (hbegun : x.begun = true) (hkeeps : x.abandonTimeout = false)
    (hlate : s.idStart p x pulses.val + 25000000 ≤ s.clk + dt) :
    idTransactionTimeout dt p pulses s =
      ((s.elapse dt).setHead p (fun h => { h with bus := busTimedOut pulses.val })).attemptFails p x 8 := by
  simp only [idTransactionTimeout, elapse_port, hread, hlost]
  have hlate' : decide ((s.elapse dt).idStart p x pulses.val + 25 * msNs ≤ (s.elapse dt).clk) = true := decide_eq_true hlate
  refine (if_neg (by rw [hbegun, hlate']; decide)).trans (if_neg ?_)
  rw [hkeeps]
  decide

/-- A read that is not abandoned goes on by the result of its transaction. -/
theorem transactionEnds_nack {k : Nat} (hkeeps : x.abandonTimeout = false) (htime : s.clk ≤ s.idStart p x k + 25000000) :
    s.transactionEnds p x k .nack =
      (s.setHead p (fun h => { h with bus := busAttempt (busTransaction x.transaction) k .nack })).attemptFails p x 1 := by
  have htime' : ¬ s.idStart p x k + 25 * msNs < s.clk := Nat.not_lt.2 htime
  unfold State.transactionEnds
  simp only [hkeeps, htime', Bool.false_eq_true, if_false]

theorem transactionEnds_busHeld {k : Nat} (hkeeps : x.abandonTimeout = false) :
    s.transactionEnds p x k .busHeld =
      (s.setHead p (fun h => { h with bus := busAttempt (busTransaction x.transaction) k .busHeld })).attemptFails p x 9 :=
  if_neg (by rw [hkeeps]; decide)

theorem transactionEnds_data {k : Nat} {bytes : List Byte} (hkeeps : x.abandonTimeout = false)
    (htime : s.clk ≤ s.idStart p x k + 25000000) (hlen : bytes.length = 64) :
    s.transactionEnds p x k (.data bytes) =
      let t := s.setHead p (fun h => { h with bus := busAttempt (busTransaction x.transaction) k (.data bytes) })
      if x.transaction < 7 then
        t.setHead p (fun h =>
          { h with read := some { x with transaction := x.transaction + 1, attempt := 0, attemptAt := s.clk,
                                         bytes := x.bytes ++ bytes } })
      else t.readDone p (x.bytes ++ bytes) x.rescan := by
  have htime' : ¬ s.idStart p x k + 25 * msNs < s.clk := Nat.not_lt.2 htime
  have hbytes : bytesAt bytes 0 64 = bytes := by simp [bytesAt, ← hlen]
  unfold State.transactionEnds
  simp only [hkeeps, htime', Bool.false_eq_true, if_false, hbytes]

theorem attemptFails_retry {c : Nat} (h : x.attempt < 3) : s.attemptFails p x c =
    (s.setHead p (fun h => { h with read := some { x with attempt := x.attempt + 1, attemptAt := s.clk } })).count
      Ctr.headStats_idRetry p.val 1 := if_pos h

theorem attemptFails_last {c : Nat} (h : x.attempt = 3) : s.attemptFails p x c = s.readFaults p c x.rescan :=
  if_neg (by omega)

end

/-- Settles O14: each row by the branch that its premises choose. -/
theorem headIdentityRead : Obligations.HeadIdentityRead := by
  intro dt p k s x bytes hruns hread hlost u onBus inTime runs
  have hends (r : IdResult) (h : runs) {t : State} (ht : u.transactionEnds p x k.val r = t) :
      exec (.idTransactionEnd dt p ⟨k, r⟩) s = .next t :=
    exec_of_runs hruns rfl ((idTransactionEnd_of_begun hread hlost h.1).trans ht)
  refine ⟨fun hbegun hdue => exec_of_runs hruns rfl (idReadStart_of_due hread hbegun hdue),
    fun h htime hnth hlen => hends _ h ?_, fun h htime hnth hlen => hends _ h ?_, fun h hretry => ⟨hends _ h ?_, hends _ h ?_⟩,
    fun h hlast => ⟨fun htime => hends _ h ?_, hends _ h ?_⟩, fun h hlate => ⟨fun hretry => ?_, fun hlast => ?_⟩⟩
  · exact (transactionEnds_data (s := u) h.2 htime hlen).trans (if_pos hnth)
  · exact (transactionEnds_data (s := u) h.2 htime hlen).trans (if_neg (by omega))
  · unfold State.transactionEnds
    exact (if_neg (by rw [h.2]; decide)).trans (attemptFails_retry hretry)
  · exact (transactionEnds_busHeld h.2).trans (attemptFails_retry hretry)
  · exact (transactionEnds_nack (s := u) h.2 htime).trans (attemptFails_last hlast)
  · exact (transactionEnds_busHeld h.2).trans (attemptFails_last hlast)
  · exact exec_of_runs hruns rfl ((idTransactionTimeout_of_late hread hlost h.1 h.2 hlate).trans (attemptFails_retry hretry))
  · exact exec_of_runs hruns rfl ((idTransactionTimeout_of_late hread hlost h.1 h.2 hlate).trans (attemptFails_last hlast))

end Sys2Proof.Machine

/-! # Case temperatures -/

namespace Sys2Proof.Machine

section
variable (s : State) (p : Port) (f : DriveSt → DriveSt)

@[simp] theorem setDrive_record : (s.setDrive p f).record p = s.record p := by
  simp only [State.record, setDrive_port]

@[simp] theorem setDrive_knee : (s.setDrive p f).knee p = s.knee p := by
  simp only [State.knee, setDrive_record]
  rfl

@[simp] theorem setDrive_caseReading : (s.setDrive p f).caseReading p = s.caseReading p := by
  simp only [State.caseReading, setDrive_record]
  rfl

end

section
variable {s : State} {p : Port}

theorem caseDue_iff : s.caseDue p = true ↔ ∀ t, (s.port p).drive.caseUpdAt = some t → t + 10000000 ≤ s.clk := by
  unfold State.caseDue
  cases (s.port p).drive.caseUpdAt with
  | none => simp
  | some t =>
    rw [Option.all_some, decide_eq_true_iff]
    exact ⟨fun h _ ht => Option.some.inj ht ▸ h, fun h => h t rfl⟩

theorem caseOut_of_since {since : Nat} (h : (s.port p).drive.rangeSince = some since) (htime : since + 100000000 ≤ s.clk) :
    s.caseOut p = true := by
  unfold State.caseOut
  rw [h]
  exact decide_eq_true (show 100 * msNs ≤ s.clk - since by unfold msNs; omega)

/-- The time of an update stands in the drive of its port. -/
def State.caseUpdated (s : State) (p : Port) : State := s.setDrive p (fun d => { d with caseUpdAt := some s.clk })

theorem caseDelivered_none (h : s.caseReading p = none) :
    s.caseDelivered p = (s.caseUpdated p).setDrive p (fun d => { d with goodSince := none }) := by
  simp only [State.caseDelivered, setDrive_caseReading, h]
  rfl

theorem caseDelivered_out {x : Tenths} (h : s.caseReading p = some x) (hrange : inRange x = false) :
    s.caseDelivered p = (s.caseUpdated p).setDrive p (fun d =>
      { d with caseAt := s.clk, goodSince := none, hotSince := none, rangeSince := some (d.rangeSince.getD s.clk) }) := by
  simp only [State.caseDelivered, setDrive_caseReading, h, hrange]
  rfl

/-- A case temperature inside its range is used, and derating steps towards its factor. -/
theorem caseDelivered_drive {x : Tenths} (h : s.caseReading p = some x) (hrange : inRange x = true) :
    let d := ((s.caseDelivered p).port p).drive
    d.caseTemp = some x ∧ d.caseAt = s.clk ∧ d.rangeSince = none
      ∧ d.derate = stepFactor (s.port p).drive.derate (derateAt (s.knee p) x) := by
  simp only [State.caseDelivered, setDrive_caseReading, h, hrange, Bool.not_true, Bool.false_eq_true, if_false]
  split
  · simp [allEmitters, State.setEmitter, count_port]
  · split <;> simp [allEmitters, State.setEmitter]

end

/-- Settles O15: each row by the branch that its premises choose. -/
theorem caseTemperatureEvents : Obligations.CaseTemperatureEvents := by
  intro dt p s hruns u v
  refine ⟨⟨fun t hupd htime => exec_of_runs hruns rfl (if_neg fun hdue => ?_), fun hupd => ?_⟩,
    fun hstale => exec_of_runs hruns rfl (if_pos (decide_eq_true hstale)), fun since hsince htime =>
    exec_of_runs hruns rfl (if_pos (caseOut_of_since (s := u) hsince htime)), fun hhot => exec_of_runs hruns rfl (if_pos hhot)⟩
  · exact Nat.not_le.2 htime (caseDue_iff.1 hdue t hupd)
  · have hrow : caseTempUpdate dt p s = u.caseDelivered p := if_pos (caseDue_iff.2 hupd)
    refine ⟨fun hnone => exec_of_runs hruns rfl (hrow.trans (caseDelivered_none hnone)), fun x hx hrange =>
      exec_of_runs hruns rfl (hrow.trans (caseDelivered_out hx hrange)), fun x hx hrange =>
      ⟨_, exec_of_runs hruns rfl hrow, caseDelivered_drive hx hrange⟩⟩

end Sys2Proof.Machine

/-! # Emitters under supervision -/

namespace Sys2Proof.Machine

section
variable {s : State} {p : Port}

/-! ## Proof pulses (R90, R91) -/

theorem proofDue_waits {dt due : Nat} (hdue : (s.port p).drive.proofDue = some due) (htime : due ≤ s.clk + dt)
    (hactive : s.proofActive p = true) (hlaunches : portLaunches (s.port p).seq = true) :
    proofDue dt p s = (s.elapse dt).setDrive p (fun d => { d with proofWaits := true }) := by
  simp only [proofDue, elapse_port, hdue]
  refine if_pos ?_
  have hactive' : (s.elapse dt).proofActive p = true := hactive
  rw [hactive', hlaunches, Bool.and_true, Bool.true_and]
  exact decide_eq_true htime

theorem proofRuns_of_open {w : Window} {due : Nat} (hran : w.proofRan = false) (hpumped : w.pumped = false)
    (hwaits : (s.port p).drive.proofWaits = true) (hdue : (s.port p).drive.proofDue = some due)
    (htime : due + (s.tb - w.opened) ≤ s.clk) (hlaunches : portLaunches (s.port p).seq = true)
    (hactive : s.proofActive p = true) (hopen : w.opened + 1000 ≤ s.tb ∧ s.tb ≤ w.opened + 1200) :
    s.proofRuns p w = true := by
  simp only [State.proofRuns, hran, hpumped, hwaits, hdue, hlaunches, hactive, Option.any_some, Bool.and_eq_true,
    decide_eq_true_eq]
  exact ⟨⟨by decide, hopen⟩, htime⟩

/-! ## The energy of a PUMP pulse (R87, R89) -/

theorem record_of_accepted (h : (s.port p).head.idState = .accepted) : s.record p = some (s.port p).head.record := by
  simp only [State.record, h]

theorem energyCause_over {r : List Byte} {width mv : Nat} (hrec : s.record p = some r) (hlevel : s.checkLevel p .pump = true)
    (h : 5 * (u16At r (emitterBlock .pump + 0x0C) * s.driveLevel p .pump * width) < 4 * mv * (monDen * 100)) :
    s.energyCause p width mv = causeOver := by
  simp only [State.energyCause, hrec, hlevel, Bool.not_true, Bool.false_eq_true, if_false]
  exact if_pos h

theorem energyCause_low {r : List Byte} {width mv : Nat} (hrec : s.record p = some r) (hlevel : s.checkLevel p .pump = true)
    (h : 2 * mv * (monDen * 100) < u16At r (emitterBlock .pump + 0x0C) * s.driveLevel p .pump * width) :
    s.energyCause p width mv = causeNrgLow := by
  simp only [State.energyCause, hrec, hlevel, Bool.not_true, Bool.false_eq_true, if_false]
  refine (if_neg ?_).trans (if_pos h)
  generalize u16At r (emitterBlock .pump + 0x0C) * s.driveLevel p .pump * width = num at *
  generalize hd : mv * (monDen * 100) = d
  rw [Nat.mul_assoc, hd] at h
  rw [Nat.mul_assoc, hd]
  omega

theorem energyCause_dim {width mv : Nat} (hlevel : s.checkLevel p .pump = false) : s.energyCause p width mv = 0 := by
  unfold State.energyCause
  cases s.record p with
  | none => rfl
  | some r => exact if_pos (by rw [hlevel]; rfl)

theorem pumpNrgSample_of_due {dt at_ width mv : Nat} (hdue : (s.port p).drive.nrgDue = some (at_, width))
    (h0 : at_ ≤ (s.elapse dt).tb) (h1 : (s.elapse dt).tb ≤ at_ + 1000) :
    pumpNrgSample dt p mv s =
      let t := (s.elapse dt).setDrive p (fun d => { d with nrgDue := none })
      let cause := (s.elapse dt).energyCause p width mv
      if cause = 0 then t else t.acceptFaults [⟨p, causeBit cause, some .pump⟩] := by
  simp only [pumpNrgSample, elapse_port, hdue, Nat.not_lt.2 h0, Nat.not_lt.2 h1, if_false, or_false]

end

/-- Settles O16: each row by the branch that its premises choose. -/
theorem emitterSupervision : Obligations.EmitterSupervision := by
  intro dt p s rs x mv width at_ w due r hruns u
  refine ⟨exec_of_runs (f := fun d t => (driveUpdate d t).firstRuns) hruns rfl rfl, exec_of_runs hruns rfl rfl,
    fun hdue htime hactive hlaunches => exec_of_runs hruns rfl (proofDue_waits hdue htime hactive hlaunches),
    fun hwin hran hpumped hwaits hdue htime hlaunches hactive h0 h1 => ?_, fun hacc hrec hdue h0 h1 => ?_⟩
  · have hproof : u.proofRuns p w = true := proofRuns_of_open hran hpumped hwaits hdue htime hlaunches hactive ⟨h0, h1⟩
    intro start v found
    have hrow : proofPulse dt p x s =
        if found = 0 then v else v.acceptFaults [⟨p, found ||| causeBit causeProofFail, some .gate⟩] := by
      simp only [proofPulse, elapse_port, hwin]
      exact if_pos hproof
    exact ⟨fun hfound => exec_of_runs hruns rfl (hrow.trans (if_pos hfound)),
      fun hfound => exec_of_runs hruns rfl (hrow.trans (if_neg hfound))⟩
  · intro level num v
    have hrec' : u.record p = some r := (record_of_accepted (s := u) hacc).trans (congrArg some hrec)
    have hrow := pumpNrgSample_of_due (mv := mv) hdue h0 h1
    refine ⟨fun hlevel hover => exec_of_runs hruns rfl ?_, fun hlevel hlow => exec_of_runs hruns rfl ?_, fun hlevel =>
      exec_of_runs hruns rfl ?_⟩
    · rw [hrow, energyCause_over (s := u) hrec' (decide_eq_true hlevel) hover]
      exact if_neg (by decide)
    · rw [hrow, energyCause_low (s := u) hrec' (decide_eq_true hlevel) hlow]
      exact if_neg (by decide)
    · rw [hrow, energyCause_dim (s := u) (decide_eq_false (Nat.not_le.2 hlevel))]
      exact if_pos rfl

end Sys2Proof.Machine

/-! # Launches and cycle boundaries -/

namespace Sys2Proof.Machine

section
variable (s : State) (p q : Port)

@[simp] theorem hkLaunch_port (trig t : Nat) : (s.hkLaunch p trig t).port q = s.port q := by
  unfold State.hkLaunch
  split <;> rfl

@[simp] theorem tiOpen_port (ns frac input flags slot : Nat) :
    (s.tiOpen ns frac input flags slot).port q = s.port q := by
  simp only [State.tiOpen, State.tiWrite, count_port, countIf_port]
  rfl

@[simp] theorem tiLaunch_port (k : Fin 4) (t : Nat) : (s.tiLaunch p k t).port q = s.port q := by
  unfold State.tiLaunch
  split
  · rfl
  · split
    · split
      · rfl
      · exact tiOpen_port ..
    · rfl

end

section
variable (s : State) (p : Port) (k : Fin 4) (t stop cycle pos rank : Nat)

/-- What a launch leaves in the sequencer of its port. -/
theorem launch_seq : ((s.launch p k t stop cycle pos rank).port p).seq =
    let f := s.newFrame p k t stop cycle pos rank
    let q := (s.port p).seq
    { q with frames := (q.frames.filter (frameLive (s.dRxNs p) t)).map (blankBy t (blankBins f.pulse)) ++ [f],
             busyUntil := vmod q.busyUntil k (fun _ => stop), lastLaunch := t, window := none, started := true,
             realign := q.realign &&& ~~~(1#4 <<< k.val) } := by
  unfold State.launch
  simp only [tiLaunch_port, hkLaunch_port, count_port]
  split <;> simp [State.setEmitter, countIf_port]

/-- The frame of a launch is the last in flight. -/
theorem launch_lastFrame : ((s.launch p k t stop cycle pos rank).port p).seq.frames.getLast? =
    some (s.newFrame p k t stop cycle pos rank) := by
  rw [launch_seq]
  exact List.getLast?_concat

/-- The timing pair of GATE is high for the pulse width from the launch on. -/
theorem launch_gate : ((s.launch p k t stop cycle pos rank).emitter p .gate).pulse =
    some (t, t + s.fld Fld.seqPort_pulseWidth p.val) := by
  unfold State.launch State.emitter
  simp only [tiLaunch_port, hkLaunch_port, count_port]
  split <;> simp only [State.setEmitter, setDrive_port, countIf_port] <;>
    exact congrArg EmitterSt.pulse (vmod_same _ (emitterIx .gate) _)

theorem launch_port_other {q : Port} (h : p ≠ q) : (s.launch p k t stop cycle pos rank).port q = s.port q := by
  unfold State.launch
  simp only [tiLaunch_port, hkLaunch_port, count_port]
  split <;> simp [State.setEmitter, State.setDrive, State.setSeq, State.setRx, State.setGauge, countIf_port,
    setPort_port_other _ p q _ h]

end

section
variable {s : State} {dt : Nat} {p : Port}

theorem dueRequest_launches {r : LaunchReq} (h : (s.elapse dt).dueRequest p false = some r) :
    hostLaunchRequest dt p s = (s.elapse dt).arbitrate p r := by
  simp only [hostLaunchRequest, h]

theorem dueRequest_retries {r : LaunchReq} (h : (s.elapse dt).dueRequest p true = some r) :
    launchDeferredRetry dt p s = (s.elapse dt).arbitrate p r := by
  simp only [launchDeferredRetry, h]

/-- A grid that has launched enters its next cycle once that has come. -/
theorem cycleBoundary_enters {g : Fin 12} {v : State} {e : Nat} {ps : List Port}
    (hv : (if h : 8 ≤ g.val then (s.elapse dt).groupEpoch ⟨g.val - 8, by omega⟩ else s.elapse dt) = v)
    (hports : v.gridPorts g = p :: ps) (hepoch : v.grids[g].epoch = some e) (hframe : 0 < v.frame p)
    (hlaunched : v.grids[g].launched = true) (htime : e + (v.grids[g].cycle + 1) * (10 * v.frame p) ≤ v.tb) :
    cycleBoundary dt g s = v.enterCycle g p (v.grids[g].cycle + 1) 0 false := by
  have hframe' : ¬ 10 * v.frame p = 0 := by omega
  simp only [cycleBoundary, hv, hports, hepoch, hframe', hlaunched, Bool.not_true, Bool.false_eq_true, if_false]
  exact if_pos htime

end

/-- Settles O18: each row by the branch that its premises choose; what a launch leaves by its frame lemmas. -/
theorem launchEvents : Obligations.LaunchEvents := by
  intro dt p k g s e r ps hruns u v
  refine ⟨fun hports hepoch hframe hlaunched htime => ?_, fun hgrid hlaunched hslot hwindow hdue hfree => ?_,
    fun hreq => exec_of_runs hruns rfl (dueRequest_launches hreq), fun hreq => exec_of_runs hruns rfl (dueRequest_retries hreq),
    fun hmode hslot => ?_⟩
  · refine exec_of_runs (f := fun d t => (cycleBoundary d g t).firstRuns) hruns rfl (congrArg State.firstRuns ?_)
    exact cycleBoundary_enters (v := v) rfl hports hepoch hframe hlaunched htime
  · intro t0 width
    have hrow : gridLaunch dt p k s = u.launch p k t0
        (u.cycleStart p ((u.grid p).cycle + 1) + 10 * slotOffset (u.frame p) (max 1 (slotCount (u.slotMask p)))
          (slotRank (u.slotMask p) k))
        (u.grid p).cycle ((s.port p).seq.gridPos + slotRank (u.slotMask p) k) (slotRank (u.slotMask p) k) := by
      refine if_pos ?_
      simp only [Bool.and_eq_true, decide_eq_true_eq, Bool.not_eq_true', and_assoc]
      exact ⟨hgrid, hlaunched, hslot, hwindow, hdue, hfree⟩
    refine ⟨_, exec_of_runs hruns rfl hrow, ?_, ?_, ?_, launch_gate .., ⟨_, launch_lastFrame .., rfl, rfl, rfl, rfl, rfl⟩, fun q hq =>
      launch_port_other u p k t0 _ _ _ _ (Ne.symm hq)⟩
    · rw [launch_seq]
    · rw [launch_seq]
    · rw [launch_seq]
  · simp only [State.arbitrate, u, elapse_port, hmode]
    exact if_neg (by rw [hslot]; decide)

end Sys2Proof.Machine

/-! # Windows, the PUMP launch and the falling ramps -/

namespace Sys2Proof.Machine

section
variable (s : State) (p : Port)

theorem setRaman_port (f : RamanSt → RamanSt) : (s.setRaman p f).port p = { s.port p with raman := f (s.port p).raman } :=
  setPort_port s p _

/-- What waits for a period changes the Raman part of its port alone. -/
theorem takeNextWindow_eq (t : Nat) : s.takeNextWindow p t = s ∨ ∃ f, s.takeNextWindow p t = s.setRaman p f := by
  unfold State.takeNextWindow
  split
  · split
    · exact .inl rfl
    · exact .inr ⟨_, rfl⟩
  · exact .inl rfl

@[simp] theorem takeNextWindow_seq (t : Nat) : ((s.takeNextWindow p t).port p).seq = (s.port p).seq := by
  obtain h | ⟨f, h⟩ := takeNextWindow_eq s p t <;> simp [h, setRaman_port]

theorem takeNextWindow_port_other (t : Nat) {q : Port} (h : p ≠ q) : (s.takeNextWindow p t).port q = s.port q := by
  obtain h' | ⟨f, h'⟩ := takeNextWindow_eq s p t
  · rw [h']
  · rw [h', State.setRaman, setPort_port_other s p q _ h]

/-! ## The PUMP launch (R116) -/

section
variable (w : Window) (t : Nat)

/-- What a PUMP launch leaves in the sequencer of its port. -/
theorem pumpFires_seq : ((s.pumpFires p w t).port p).seq =
    { (s.port p).seq with window := some { w with pumped := true }, lastLaunch := t } := by
  simp [State.pumpFires, count_port, State.setEmitter, setRaman_port]

/-- The timing pair of PUMP is high for the pulse width from the launch on. -/
theorem pumpFires_pulse : ((s.pumpFires p w t).emitter p .pump).pulse = some (t, t + s.fld Fld.seqPort_pumpWidth p.val) := by
  simp only [State.emitter, State.pumpFires, hkLaunch_port, count_port, setDrive_port, State.setEmitter]
  exact congrArg EmitterSt.pulse (vmod_same _ (emitterIx .pump) _)

theorem pumpFires_nrgDue : ((s.pumpFires p w t).port p).drive.nrgDue =
    some (t + s.fld Fld.seqPort_pumpWidth p.val + 1000, s.fld Fld.seqPort_pumpWidth p.val) := by
  simp only [State.pumpFires, hkLaunch_port, count_port, setDrive_port]

theorem pumpFires_recording : ((s.pumpFires p w t).raman p).recording.map (·.pumpAt) = some t := by
  simp [State.pumpFires, State.raman, count_port, State.setEmitter, setRaman_port]

theorem pumpFires_port_other {q : Port} (h : p ≠ q) : (s.pumpFires p w t).port q = s.port q := by
  simp [State.pumpFires, count_port, State.setEmitter, State.setRaman, State.setDrive, State.setSeq,
    setPort_port_other _ p q _ h, takeNextWindow_port_other _ p _ h]

end

end

section
variable {s : State} {dt : Nat} {p : Port}

theorem pumpLaunch_fires {w : Window} (hwin : (s.port p).seq.window = some w) (hraman : w.raman = true)
    (hpumped : w.pumped = false) (hopen : w.opened + 2000 ≤ (s.elapse dt).tb) (hcloses : (s.elapse dt).tb < w.closes) :
    pumpLaunch dt p s = (s.elapse dt).pumpFires p w (w.opened + 2000) := by
  simp only [pumpLaunch, elapse_port, hwin]
  exact if_pos (by rw [hraman, hpumped, decide_eq_true ⟨hopen, hcloses⟩]; rfl)

end

/-- Settles O19: each row by the branch that its premises choose; what the PUMP launch leaves by its frame lemmas. -/
theorem windowEvents : Obligations.WindowEvents := by
  intro dt p s w hruns u
  refine ⟨fun hgrid hlaunched hcycle hwin hstart hclose => exec_of_runs hruns rfl (if_pos ?_),
    fun hwin hraman hpumped hopen hcloses => ?_, fun hmode hframes hsecond => exec_of_runs hruns rfl ?_,
    fun hdrain hframes => exec_of_runs hruns rfl (if_pos ?_)⟩
  · have hnew : (s.port p).seq.window.all (fun x => decide (x.opened ≠ u.windowStart p)) = true := by
      cases hw : (s.port p).seq.window with
      | none => rfl
      | some x => exact decide_eq_true (hwin x hw)
    simp only [Bool.and_eq_true, decide_eq_true_eq, and_assoc]
    exact ⟨hgrid, hlaunched, hcycle, hnew, hstart, hclose⟩
  · refine ⟨_, exec_of_runs hruns rfl (pumpLaunch_fires hwin hraman hpumped hopen hcloses), ?_, ?_, pumpFires_pulse ..,
      pumpFires_nrgDue .., pumpFires_recording .., fun q hq => pumpFires_port_other u p _ _ (Ne.symm hq)⟩
    · rw [pumpFires_seq]
    · rw [pumpFires_seq]
  · have hmax : max ((s.elapse dt).tb / secNs * secNs) (((s.port p).seq.frames.map (·.stop)).foldl max 0)
        = (s.elapse dt).tb / secNs * secNs := by
      rw [hframes]
      exact Nat.max_eq_left (Nat.zero_le _)
    have hrow : singleCheckWindow dt p s = u.openWindow p false (u.tb / secNs * secNs) (u.tb / secNs * secNs + 3000) := by
      refine (if_pos ⟨hmode, hsecond⟩).trans ?_
      simp only [elapse_port, hmax]
      exact if_pos (Nat.div_mul_le_self _ _)
    exact hrow
  · simp only [Bool.and_eq_true, List.all_eq_true, decide_eq_true_eq]
    exact ⟨hdrain, hframes⟩

end Sys2Proof.Machine

/-! # Receivers: range control, overloads and pair checks -/

namespace Sys2Proof.Machine

section
variable (s : State) (p : Port)

/-- Codes that have been seen change what the receiver has noted of codes alone. -/
theorem takeCodes_port (t : Nat) (xs ys : List Code) : ∃ seen clip, (s.takeCodes p t xs ys).port p =
    { s.port p with rx := { (s.port p).rx with seen := seen, clipSeen := clip } } :=
  ⟨joinSpan t (t + xs.length) (s.port p).rx.seen, (s.port p).rx.clipSeen
    || decide (newClips (s.port p).rx.seen t xs + newClips (s.port p).rx.seen t ys ≠ 0), by
      simp only [State.takeCodes, count_port, setRx_port]⟩

@[simp] theorem takeCodes_calPort (t : Nat) (xs ys : List Code) (q : Port) :
    (s.takeCodes p t xs ys).calPort q = s.calPort q := rfl

/-! ## The verdict of a pair check (R149, R150) -/

/-- The range of a check, as an index. -/
def checkedRange (s : State) (p : Port) : Fin 4 := ⟨(s.port p).rx.runRange % 4, Nat.mod_lt _ (by decide)⟩

/-- A reference amplitude of a port: as a CONV step measured it, or the starting value with its pilot current. -/
def State.refAmpl (s : State) (p : Port) (ampl : Nat) : Nat :=
  if (s.port p).rx.corr.isNone then ampl * (s.calPort p).pilot / 1000 else ampl

/-- The kinds of failure of a pair check of a port. -/
def State.pairBad (s : State) (p : Port) (xs ys : List Int) : List (Nat × Nat) :=
  pairFails xs ys (s.refAmpl p (s.port p).rx.refX[checkedRange s p]) (s.refAmpl p (s.port p).rx.refY[checkedRange s p])

/-- The receiver after the figures and the counts of a pair check. -/
def State.judged (s : State) (p : Port) (xs ys : List Int) : RxSt :=
  pairJudge (checkedRange s p) (!(s.pairBad p xs ys).isEmpty)
    { (s.port p).rx with checking := none, checkRange := (checkedRange s p).val, offsetX := offsetOf xs, offsetY := offsetOf ys,
                         amplX := amplOf xs, amplY := amplOf ys }

/-- What a judged check brings: the pair fault with the first kind that fails, or its end. -/
def State.pairOutcome (s : State) (p : Port) (r : Fin 4) : List (Nat × Nat) → State
  | (kind, input) :: _ =>
    if 3 ≤ (s.port p).rx.fails[r] ∧ ¬ (s.port p).rx.pairFault then
      (s.setRx p (fun z => { z with pairFault := true, faultInput := input, faultKind := kind, faultRange := r.val })).event
        evRxPairFault p.val input [kind, r.val]
    else s
  | [] => if 8 ≤ (s.port p).rx.passes then s.pairClear p else s

theorem pairVerdict_eq (xs ys : List Int) : s.pairVerdict p xs ys =
    (((s.setRx p (fun _ => s.judged p xs ys)).count Ctr.rxStats_pairChecks p.val 1).countIf Ctr.rxStats_pairFail p.val
      (!(s.pairBad p xs ys).isEmpty)).pairOutcome p (checkedRange s p) (s.pairBad p xs ys) := rfl

/-- A check that passes, the eighth in a row aside, leaves its figures and counts. -/
theorem pairVerdict_passes {xs ys : List Int} (hgood : s.pairBad p xs ys = []) (hfew : (s.port p).rx.passes + 1 < 8) :
    ((s.pairVerdict p xs ys).port p).rx = s.judged p xs ys := by
  have hpasses : ¬ 8 ≤ (s.judged p xs ys).passes := by
    simp only [State.judged, pairJudge, hgood, List.isEmpty_nil, Bool.not_true, Bool.false_eq_true, if_false]
    omega
  rw [pairVerdict_eq, hgood]
  simp only [State.pairOutcome, countIf_port, count_port, setRx_port, hpasses, if_false]

/-- The third failure at a range raises the pair fault with the first kind that fails. -/
theorem pairVerdict_fails {xs ys : List Int} {kind input : Nat} {rest : List (Nat × Nat)}
    (hbad : s.pairBad p xs ys = (kind, input) :: rest) (hthird : (s.port p).rx.fails[checkedRange s p] = 2)
    (hclear : (s.port p).rx.pairFault = false) :
    ((s.pairVerdict p xs ys).port p).rx =
      { s.judged p xs ys with pairFault := true, faultInput := input, faultKind := kind,
                              faultRange := (checkedRange s p).val } := by
  have hfails : (s.judged p xs ys).fails[checkedRange s p] = 3 := by
    simp only [State.judged, pairJudge, hbad, List.isEmpty_cons, Bool.not_false, if_true]
    rw [vmod_same, hthird]
  have hfault : (s.judged p xs ys).pairFault = false := by
    simp only [State.judged, pairJudge, hbad, List.isEmpty_cons, Bool.not_false, if_true]
    exact hclear
  rw [pairVerdict_eq, hbad]
  simp only [State.pairOutcome, countIf_port, count_port, setRx_port, hfails, hfault]
  rw [if_pos ⟨Nat.le_refl 3, Bool.false_ne_true⟩]
  simp only [event_port, setRx_port, countIf_port, count_port]

end

section
variable {s : State} {dt : Nat} {p : Port}

/-- A check in an open window whose codes are complete is judged on them. -/
theorem pairCheckEnd_judges {w : Nat} {win : Window} {xs ys : List Code} (hcheck : (s.port p).rx.checking = some w)
    (hx : xs.length = 2048) (hy : ys.length = 2048) (htime : w + 2400 ≤ (s.elapse dt).tb)
    (hwin : (s.port p).seq.window = some win) (hopen : (s.elapse dt).tb < win.closes) :
    pairCheckEnd dt p xs ys s =
      ((s.elapse dt).takeCodes p (w + 300) xs ys).pairVerdict p (xs.map (·.toInt)) (ys.map (·.toInt)) := by
  have hdone : (s.elapse dt).pairDone p w = true := by
    simp only [State.pairDone, elapse_port, hwin, Option.any_some, Bool.and_eq_true, decide_eq_true_eq]
    exact ⟨htime, hopen⟩
  simp only [pairCheckEnd, elapse_port, hcheck]
  exact if_pos (by rw [hdone, hx, hy]; rfl)

/-- An overload of the port was reported within the last second. -/
def State.ovldQuiet (s : State) (p : Port) : Bool :=
  match (s.port p).rx.lastOvld with
  | some t => decide (s.clk - t < secNs)
  | none => false

/-- An overload with the clocks running: counted, flagged, and reported unless it was within the last second. -/
theorem ovldOnset_of_clocked {i : Fin 2} {held : Nat} (hclk : s.clocked = true) : ovldOnset dt p i held s =
    let u := s.elapse dt
    let t := (u.count Ctr.rxStats_ovld p.val 1).setRx p (fun x =>
      { x with ovldSeen := true, ovld := (i, u.tb, u.tb + held) :: x.ovld.filter (fun o => u.tb < o.2.2 + rxKeepNs) })
    if (u.flag Fld.rxCfg_ovldEvent p.val && !u.ovldQuiet p) = true then
      (t.setRx p (fun x => { x with lastOvld := some u.clk })).event evRxOverload p.val (inputCode i) []
    else t := by
  unfold ovldOnset
  rw [hclk]
  rfl

/-- A requested range that is new is switched to at its boundary. -/
theorem rangeControl_switches {t n : Nat} (hreq : s.rangeRequest p t = some n) (hnew : n ≠ (s.port p).rx.range) :
    s.rangeControl p t = (s.setRx p (fun x =>
      { x with range := n, switches := addSwitch t x.range n x.switches })).count Ctr.rxStats_rangeSwitches p.val 1 := by
  simp only [State.rangeControl, hreq]
  exact if_neg hnew

end

/-- Settles O20: each row by the branch that its premises choose; a pair check by its verdict on the codes. -/
theorem receiverEvents : Obligations.ReceiverEvents := by
  intro dt held w p i s win xs ys hruns u r refOf cx cy raised complete
  refine ⟨fun n hreq hnew => exec_of_runs hruns rfl (rangeControl_switches (s := u) hreq hnew), fun hclk hflag =>
    exec_of_runs hruns rfl ?_, fun hclk hflag hlast => exec_of_runs hruns rfl ?_, fun hcomplete hgood hfew => ?_,
    fun kind input rest hcomplete hbad hthird hclear => ?_⟩
  · exact (ovldOnset_of_clocked hclk).trans (if_neg (by rw [show (s.elapse dt).flag _ p.val = false from hflag, Bool.false_and]; decide))
  · refine (ovldOnset_of_clocked hclk).trans (if_pos ?_)
    rw [show (s.elapse dt).flag _ p.val = true from hflag, show u.ovldQuiet p = false by simp only [State.ovldQuiet, u, elapse_port, hlast]]
    rfl
  all_goals
    obtain ⟨hcheck, hx, hy, htime, hwin, hopen⟩ := hcomplete
    obtain ⟨seen, clip, hport⟩ := takeCodes_port u p (w + 300) xs ys
    refine ⟨_, exec_of_runs hruns rfl (pairCheckEnd_judges hcheck hx hy htime hwin hopen), ?_⟩
  · have hgood' : (u.takeCodes p (w + 300) xs ys).pairBad p cx cy = [] := by
      simp only [State.pairBad, State.refAmpl, checkedRange, hport, takeCodes_calPort]
      exact hgood
    rw [pairVerdict_passes _ p hgood' (by rw [hport]; exact hfew)]
    simp [State.judged, hgood', pairJudge, hport, checkedRange, r, u]
  · have hbad' : (u.takeCodes p (w + 300) xs ys).pairBad p cx cy = (kind, input) :: rest := by
      simp only [State.pairBad, State.refAmpl, checkedRange, hport, takeCodes_calPort]
      exact hbad
    rw [pairVerdict_fails _ p hbad' (by simp only [checkedRange, hport]; exact hthird) (by rw [hport]; exact hclear)]
    simp [checkedRange, hport, r, u]

end Sys2Proof.Machine

/-! # A gauge sample joins its column -/

namespace Sys2Proof.Machine

/-- What is put into a table stands there. -/
theorem find?_put_same {α : Type} (t : Tab α) (x : Nat) (v : α) : Tab.find? (Tab.put t x v) x = some v := by
  induction t with
  | nil => simp [Tab.put, Tab.find?]
  | cons e t ih =>
    obtain ⟨k, w⟩ := e
    rw [Tab.put]
    split
    case isTrue => simp [Tab.find?]
    case isFalse =>
      split
      case isTrue => simp [Tab.find?]
      case isFalse h => rw [Tab.find?, if_neg (Ne.symm h), ih]

section
variable (s : State) (p : Port)

theorem gaugeSecond_mem (sec : Nat) (g : GaugeSt) : (gaugeSecond sec g).mem = g.mem := by
  unfold gaugeSecond
  split <;> rfl

theorem gaugeCount_port (f : Formed) : ∃ g : GaugeSt, ((s.gaugeCount p f).port p = { s.port p with gauge := g })
    ∧ g.mem = (s.port p).gauge.mem := by
  refine ⟨((s.gaugeCount p f).port p).gauge, ?_, ?_⟩ <;>
    simp only [State.gaugeCount, countIf_port, count_port, setGauge_port]
  exact gaugeSecond_mem _ _

theorem setGauge_port_other {q : Port} (h : p ≠ q) (f : GaugeSt → GaugeSt) : (s.setGauge p f).port q = s.port q :=
  setPort_port_other s p q _ h
theorem setQueue_port_other {q : Port} (h : p ≠ q) (f : QueueSt → QueueSt) : (s.setQueue p f).port q = s.port q :=
  setPort_port_other s p q _ h
theorem setRx_port_other {q : Port} (h : p ≠ q) (f : RxSt → RxSt) : (s.setRx p f).port q = s.port q :=
  setPort_port_other s p q _ h

/-- A sample of a queue that takes it joins its end, and the gauge's memory is the former's; no other port changes. -/
theorem sampleOut_joins {gauge pos era : Nat} {f : Formed} (htaking : (s.port p).queue.taking = true)
    (hera : (s.port p).queue.era = era) :
    let t := s.sampleOut p gauge pos era f
    Tab.find? (t.port p).gauge.mem gauge = some f.mem
      ∧ (t.port p).queue.samples = (s.port p).queue.samples ++ [⟨gauge, pos, f.inc, f.quality⟩]
      ∧ (∀ r : Port, r ≠ p → t.port r = s.port r) := by
  have htakes : ((s.port p).queue.taking && (s.port p).queue.era == era) = true := by simp [htaking, hera]
  obtain ⟨g, hport, hmem⟩ := gaugeCount_port (s.setGauge p (fun y => { y with mem := Tab.put y.mem gauge f.mem })) p f
  simp only [State.sampleOut, htakes, if_true, setQueue_port, hport, hmem, setGauge_port]
  refine ⟨find?_put_same .., trivial, fun r hr => ?_⟩
  rw [setQueue_port_other _ _ (Ne.symm hr)]
  simp only [State.gaugeCount, countIf_port, count_port]
  rw [setGauge_port_other _ _ (Ne.symm hr), setGauge_port_other _ _ (Ne.symm hr)]

@[simp] theorem maskAdd_port (q : Port) (c first : Nat) (bins : List BinOut) :
    (s.maskAdd p c first bins).port q = s.port q := rfl

/-- The channeliser leaves the queue and the gauges of its port. -/
theorem maceDeliver_keeps (f : Frame) (t : Nat) (xs ys : List Code) :
    ((s.maceDeliver p f t xs ys).port p).queue = (s.port p).queue
      ∧ ((s.maceDeliver p f t xs ys).port p).gauge = (s.port p).gauge := by
  simp only [State.maceDeliver]
  split
  · exact ⟨rfl, rfl⟩
  · split <;> simp [count_port]

theorem maceDeliver_port_other {q : Port} (h : p ≠ q) (f : Frame) (t : Nat) (xs ys : List Code) :
    (s.maceDeliver p f t xs ys).port q = s.port q := by
  simp only [State.maceDeliver]
  split
  · rfl
  · split <;> simp [count_port, setSeq_port_other s p h]

theorem takeCodes_port_other {q : Port} (h : p ≠ q) (t : Nat) (xs ys : List Code) :
    (s.takeCodes p t xs ys).port q = s.port q := by
  simp only [State.takeCodes, count_port, setRx_port_other s p h]

end

section
variable {s : State} {p : Port} {x : GaugeIn}

/-- The gauge's memory before a sample is formed. -/
def gaugeBefore (s : State) (p : Port) (gauge : Nat) : GaugeMem :=
  (Tab.find? (s.port p).gauge.mem gauge).getD freshGauge

/-- What a sample that is formed does to the queue, the gauge and the other ports. -/
def SampleJoins (s t : State) (p : Port) (gauge pos : Nat) (y : Formed) : Prop :=
  Tab.find? (t.port p).gauge.mem gauge = some y.mem
    ∧ (t.port p).queue.samples = (s.port p).queue.samples ++ [⟨gauge, pos, y.inc, y.quality⟩]
    ∧ (∀ r : Port, r ≠ p → t.port r = s.port r)

theorem formFrom_joins {f : Frame} (htaking : (s.port p).queue.taking = true) (hera : (s.port p).queue.era = f.era) :
    SampleJoins s (s.formFrom p f x) p x.gauge f.pos (s.frameSample p f x) := by
  obtain ⟨seen, clip, hcodes⟩ := takeCodes_port s p x.tFirst x.xs x.ys
  have hqueue := (maceDeliver_keeps (s.takeCodes p x.tFirst x.xs x.ys) p f x.tFirst x.xs x.ys).1
  rw [hcodes] at hqueue
  let v := ((s.takeCodes p x.tFirst x.xs x.ys).maceDeliver p f x.tFirst x.xs x.ys).setSeq p (fun q =>
    { q with frames := q.frames.map (fun g => if g.start = f.start ∧ g.slot = f.slot then { g with gauges := x.gauge + 1 } else g) })
  have hv : (({ v with free := v.free + 1 } : State).port p).queue = (s.port p).queue := by
    show (v.port p).queue = _
    rw [setSeq_port]
    exact hqueue
  obtain ⟨hmem, hsamples, hother⟩ := sampleOut_joins ({ v with free := v.free + 1 } : State) p (gauge := x.gauge) (pos := f.pos) (era := f.era)
    (f := s.frameSample p f x) (by rw [hv]; exact htaking) (by rw [hv]; exact hera)
  refine ⟨hmem, hsamples.trans (by rw [hv]), fun r hr => (hother r hr).trans ?_⟩
  show v.port r = _
  rw [setSeq_port_other _ _ (Ne.symm hr), maceDeliver_port_other _ _ (Ne.symm hr), takeCodes_port_other _ _ (Ne.symm hr)]

theorem formGap_joins {g : GapPos} {gauge : Nat} (htaking : (s.port p).queue.taking = true)
    (hera : (s.port p).queue.era = g.era) :
    SampleJoins s (s.formGap p g gauge) p gauge g.pos (gapSample (gaugeBefore s p gauge)) := by
  let v := s.setSeq p (fun q =>
    { q with gaps := q.gaps.map (fun y => if y.pos = g.pos ∧ y.era = g.era then { y with gauges := gauge + 1 } else y) })
  have hv : (v.port p).queue = (s.port p).queue := by rw [setSeq_port]
  obtain ⟨hmem, hsamples, hother⟩ := sampleOut_joins v p (gauge := gauge) (pos := g.pos) (era := g.era)
    (f := gapSample (gaugeBefore s p gauge)) (by rw [hv]; exact htaking) (by rw [hv]; exact hera)
  exact ⟨hmem, hsamples.trans (by rw [hv]), fun r hr => (hother r hr).trans (setSeq_port_other s p (Ne.symm hr) _)⟩

theorem gaugeSample_forms {dt : Nat} {f : Frame} (hgauge : x.gauge < s.gauges p) (hframe : (s.elapse dt).frameOf p x = some f)
    (hready : (s.elapse dt).sampleReady p f x = true) : gaugeSample dt p x s = (s.elapse dt).formFrom p f x := by
  refine (if_neg (Nat.not_le.2 hgauge)).trans ?_
  simp only [hframe]
  exact if_pos hready

theorem gaugeSample_gap {dt : Nat} {g : GapPos} (hgauge : x.gauge < s.gauges p) (hframe : (s.elapse dt).frameOf p x = none)
    (hgap : (s.elapse dt).gapOf p x = some g) : gaugeSample dt p x s = (s.elapse dt).formGap p g x.gauge := by
  refine (if_neg (Nat.not_le.2 hgauge)).trans ?_
  simp only [hframe, hgap]

end

/-- Settles O22: what the former answers, by the fault that shut the port, joins the queue. -/
theorem gaugeSampleIsFormed : Obligations.GaugeSampleIsFormed := by
  intro dt p x s f g hruns u m0 m len pitch ends bins joins hgauge htaking
  refine ⟨fun hframe hready hera => ?_, fun hframe hgap hera => ?_⟩
  · have hjoins (y : Formed) (hy : u.frameSample p f x = y) : joins f.pos y := by
      obtain ⟨hmem, hsamples, hother⟩ := formFrom_joins (s := u) (x := x) htaking hera
      rw [hy] at hmem hsamples
      exact ⟨_, exec_of_runs hruns rfl (gaugeSample_forms hgauge hframe hready), hmem, hsamples, hother⟩
    refine ⟨fun hcut => hjoins _ (if_neg fun h => ?_), fun t hcut hlate => hjoins _ (if_pos ?_)⟩
    · obtain ⟨t, ht, hlate⟩ := (Option.any_eq_true _ _).1 h
      exact Nat.not_lt.2 (hcut t ht) (of_decide_eq_true hlate)
    · rw [hcut]
      exact decide_eq_true hlate
  · obtain ⟨hmem, hsamples, hother⟩ := formGap_joins (s := u) (gauge := x.gauge) htaking hera
    exact ⟨_, exec_of_runs hruns rfl (gaugeSample_gap hgauge hframe hgap), hmem, hsamples, hother⟩

end Sys2Proof.Machine

/-! # Blocks, engines and clusters -/

namespace Sys2Proof.Machine

section
variable {s : State} {dt : Nat} {p : Port} {e : EngineId} {b : Block}

/-! ## A block is granted (R207) -/

/-- The engine that serves a grant, after the note of a remote one. -/
def State.granted (s : State) (e : EngineId) (p : Port) : State :=
  if p = clusterOf e then s else s.setClove (fun c => { c with lastRemote := clusterOf e })

theorem granted_ports : (s.granted e p).ports = s.ports := by
  unfold State.granted
  split <;> rfl

theorem granted_engines : (s.granted e p).clove.engines = s.clove.engines := by
  unfold State.granted
  split <;> rfl

/-- The state after a grant. -/
def State.takes (s : State) (e : EngineId) (p : Port) (b : Block) : State :=
  ((s.granted e p).setQueue p (mapBlocks (fun x =>
    if x.era = b.era ∧ x.column = b.column ∧ x.index = b.index then { x with mode := .taken e } else x))).setEngine e
    (fun x => { x with mode := .copying p b.column b.index, busySince := s.clk })

theorem engineRequest_takes (hclk : s.clocked = true) (hidle : (s.elapse dt).engineIdle e = true)
    (hgrant : (s.elapse dt).grantOf e = some (p, b)) : engineRequest dt e s = (s.elapse dt).takes e p b := by
  have hclk' : (s.elapse dt).clocked = true := hclk
  simp only [engineRequest, hclk', hidle, hgrant]
  rfl

theorem takes_engine : (s.takes e p b).engine e =
    { s.engine e with mode := .copying p b.column b.index, busySince := s.clk } := by
  rw [State.takes, setEngine_engine]
  have h : ((s.granted e p).setQueue p (mapBlocks (fun x =>
      if x.era = b.era ∧ x.column = b.column ∧ x.index = b.index then { x with mode := .taken e } else x))).engine e = s.engine e :=
    congrArg (·[e]) (granted_engines (s := s))
  rw [h]

theorem takes_engine_other {r : EngineId} (h : e ≠ r) : (s.takes e p b).engine r = s.engine r := by
  rw [State.takes, setEngine_engine_other _ _ _ _ h]
  exact congrArg (·[r]) (granted_engines (s := s))

theorem takes_blocks {x : Block} (hx : x ∈ (s.port p).queue.blocks) (hera : x.era = b.era) (hcol : x.column = b.column)
    (hidx : x.index = b.index) : { x with mode := .taken e } ∈ ((s.takes e p b).port p).queue.blocks := by
  have hport : ((s.granted e p).port p).queue.blocks = (s.port p).queue.blocks :=
    congrArg (fun v : Vector PortSt 8 => v[p].queue.blocks) granted_ports
  show _ ∈ (((s.granted e p).setQueue p _).port p).queue.blocks
  rw [setQueue_port]
  show _ ∈ ((s.granted e p).port p).queue.blocks.map _
  rw [hport]
  exact List.mem_map.2 ⟨x, hx, if_pos ⟨hera, hcol, hidx⟩⟩

theorem takes_port_other {q : Port} (h : p ≠ q) : (s.takes e p b).port q = s.port q := by
  show ((s.granted e p).setQueue p _).port q = _
  rw [setQueue_port_other _ _ h]
  exact congrArg (·[q]) granted_ports

/-! ## A block is copied, or passes its cut-off (R204, R209) -/

theorem blockCopied_copies {j m : Nat} (hclk : s.clocked = true) (hmode : (s.engine e).mode = .copying p j m)
    (hfind : (s.port p).queue.blocks.find? (fun b => b.column = j && b.index = m && (b.mode = .taken e)) = some b) :
    blockCopied dt e s =
      let b1 := { b with restart := b.first || ((s.port p).queue.state.getD j (none, [])).1 ≠ some (m - 1) }
      ((s.elapse dt).setQueue p (mapBlocks (fun x =>
        if x.mode = .taken e ∧ x.column = j ∧ x.index = m then b1 else x))).copyBlock e p b1 := by
  have hclk' : (s.elapse dt).clocked = true := hclk
  simp only [blockCopied, elapse_engine, hmode, elapse_port, hclk', Bool.true_and, hfind]
  rfl

theorem blockCutoff_gap {j : Nat} (hclk : s.clocked = true)
    (hfind : (s.port p).queue.blocks.find? (fun b => b.column = j && isOpen b && decide (b.tCutoff ≤ (s.elapse dt).tb)) = some b) :
    blockCutoff dt p j s = ((s.elapse dt).gapBlock p b (if isReady b then .noEngine else .late)).release p := by
  have hclk' : (s.elapse dt).clocked = true := hclk
  simp only [blockCutoff, elapse_port, hclk', Bool.true_and, hfind]

end

/-- Settles O25: each row by the branch that its premises choose; what a grant leaves by its frame lemmas. -/
theorem blockQueueEvents : Obligations.BlockQueueEvents := by
  intro dt p j eng s b temp m hruns u q
  refine ⟨fun hclk htaking hcol husable => exec_of_runs hruns rfl (if_pos ?_), fun hclk hidle hgrant => ?_,
    fun hclk hmode hfind => exec_of_runs hruns rfl (blockCopied_copies hclk hmode hfind), fun hclk hfind =>
    exec_of_runs hruns rfl (blockCutoff_gap hclk hfind), fun heng htime => exec_of_runs hruns rfl (if_pos ?_),
    exec_of_runs hruns rfl rfl⟩
  · simp only [Bool.and_eq_true, decide_eq_true_eq, and_assoc]
    exact ⟨hclk, htaking, hcol, husable⟩
  · refine ⟨_, exec_of_runs hruns rfl (engineRequest_takes hclk hidle hgrant), ?_, ?_, ?_,
      fun x hx hera hcol hidx => takes_blocks (s := u) hx hera hcol hidx, fun r hr => takes_port_other (s := u) (Ne.symm hr),
      fun e he => takes_engine_other (s := u) (Ne.symm he)⟩
    · rw [takes_engine]
    · rw [takes_engine]; rfl
    · rw [takes_engine]; rfl
  · simp only [Bool.and_eq_true, decide_eq_true_eq]
    exact ⟨heng, htime⟩

end Sys2Proof.Machine

/-! # Housekeeping converters and the pulses of the reference coil -/

namespace Sys2Proof.Machine

section
variable {s : State} {dt : Nat} {i : Fin 2}

/-! ## Triggers (R393 to R395) -/

theorem hkTick_triggers {ms : Nat} (hms : 1 ≤ ms) (hnew : s.tb / (ms * 1000000) ≠ (s.hk i).tickAt) : s.hkTick i ms =
    (s.setHk i (fun x => { x with tickAt := s.tb / (ms * 1000000) })).hkTrigger i := by
  have hmax : max 1 ms = ms := Nat.max_eq_right hms
  simp only [State.hkTick, hmax]
  exact if_neg hnew

theorem hkbJobTrigger_of_timer (hruns : (s.elapse dt).refHoldsEnd.timeRuns = true)
    (hen : (s.elapse dt).refHoldsEnd.flag Fld.hkCfg_en 1 = true) (htrig : (s.elapse dt).refHoldsEnd.fld Fld.hkCfg_trig 1 = 0) :
    hkbJobTrigger dt s =
      (s.elapse dt).refHoldsEnd.hkTick 1 ((s.elapse dt).refHoldsEnd.fld Fld.hkCfg_periodMs 1) := by
  simp only [hkbJobTrigger, hruns, hen, htrig, Bool.not_true, Bool.or_self, Bool.false_eq_true, if_false, if_true]

theorem hkbJobTrigger_of_due {at_ : Nat} {due : List Nat} (hruns : (s.elapse dt).refHoldsEnd.timeRuns = true)
    (hen : (s.elapse dt).refHoldsEnd.flag Fld.hkCfg_en 1 = true) (htrig : (s.elapse dt).refHoldsEnd.fld Fld.hkCfg_trig 1 ≠ 0)
    (hdue : ((s.elapse dt).refHoldsEnd.hk 1).due = at_ :: due) (htime : at_ ≤ (s.elapse dt).refHoldsEnd.clk) :
    hkbJobTrigger dt s = ((s.elapse dt).refHoldsEnd.setHk 1 (fun x => { x with due := due })).hkTrigger 1 := by
  simp only [hkbJobTrigger, hruns, hen, htrig, hdue, Nat.not_lt.2 htime, Bool.not_true, Bool.or_self, Bool.false_eq_true, if_false]

/-! ## Results (R397, R398, R400) -/

/-- An entry that has dwelt and is no check gives its result word. -/
theorem hkEntryResult_stores {e : HkEntry} {es : List HkEntry} {outs : List Int} {clip : Bool} {u : State}
    (hu : (s.elapse dt).refHoldsEnd = u) (hwork : (u.hk i).work = e :: es) (hhold : (u.hk i).calHold = false)
    (hcheck : e.check = false) (hlen : outs.length = e.n) (hn : 1 ≤ e.n)
    (hdwelt : (u.hk i).frontAt + dwellUs e.preset e.n * 1000 ≤ u.clk) :
    hkEntryResult dt i (some (outs, clip)) s =
      ((((u.hkStore i e (resultWord e.format (e.gain * outs.foldl (· + ·) 0) (32768 * e.n)
          (bitNat (u.hk i).overrunDue + 2 * bitNat e.late + 4 * bitNat e.settling + 8 * bitNat clip
            + 16 * bitNat (u.hk i).fault))).setHk i (fun y =>
          { y with overrunDue := false, neverSettled := y.neverSettled &&& ~~~(1#32 <<< e.channel) })).countIf
        Ctr.hkStats_late i.val e.late).countIf Ctr.hkStats_clipped i.val clip).hkAdvance i es := by
  have hdwelt' : dwelt u.clk (u.hk i) e = true := decide_eq_true hdwelt
  have hn' : ¬ e.n = 0 := by omega
  simp only [hkEntryResult, hu, hwork, hhold, hdwelt', hlen, hn', hcheck, Bool.not_true, Bool.or_self, ne_eq, not_true_eq_false,
    decide_false, Bool.false_eq_true, if_false, Bool.and_false, Bool.not_false, Bool.and_true]

/-! ## Channels that never settled (R398) -/

/-- The channels of a converter that never settled stay noted where its other parts change. -/
theorem setHk_neverSettled (s : State) (i j : Fin 2) {f : HkSt → HkSt} (hf : ∀ x, (f x).neverSettled = x.neverSettled) :
    ((s.setHk j f).hk i).neverSettled = (s.hk i).neverSettled := by
  by_cases h : j = i
  · subst h
    rw [setHk_hk, hf]
  · exact congrArg HkSt.neverSettled (vmod_other s.house.hk j i f h)

theorem startFront_neverSettled (s : State) (i j : Fin 2) : ((s.startFront j).hk i).neverSettled = (s.hk i).neverSettled :=
  setHk_neverSettled s i j fun _ => rfl

theorem hkaStart_neverSettled (s : State) (i : Fin 2) (late : Bool) :
    ((s.hkaStart late).hk i).neverSettled = (s.hk i).neverSettled :=
  (startFront_neverSettled _ i 0).trans (setHk_neverSettled s i 0 fun _ => rfl)

theorem hkbStart_neverSettled (s : State) (i : Fin 2) (a b : Bool) :
    ((s.hkbStart a b).hk i).neverSettled = (s.hk i).neverSettled := by
  simp only [State.hkbStart]
  split
  · rfl
  · split
    · exact (startFront_neverSettled _ i 1).trans (setHk_neverSettled s i 1 fun _ => rfl)
    · split
      · exact (startFront_neverSettled _ i 1).trans (setHk_neverSettled s i 1 fun _ => rfl)
      · rfl

theorem hkWaiting_neverSettled (s : State) (i j : Fin 2) : ((s.hkWaiting j).hk i).neverSettled = (s.hk i).neverSettled := by
  unfold State.hkWaiting
  split
  · split
    · exact hkaStart_neverSettled s i true
    · rfl
  · exact hkbStart_neverSettled s i true true

theorem countIf_hk (s : State) (c : Ctr) (n : Nat) (b : Bool) (i : Fin 2) : (s.countIf c n b).hk i = s.hk i := by
  cases b <;> rfl

theorem hkAdvance_neverSettled (s : State) (i j : Fin 2) (es : List HkEntry) :
    ((s.hkAdvance j es).hk i).neverSettled = (s.hk i).neverSettled := by
  simp only [State.hkAdvance]
  split
  · exact (startFront_neverSettled _ i j).trans (setHk_neverSettled s i j fun _ => rfl)
  · rw [hkWaiting_neverSettled, setHk_neverSettled _ i j fun _ => by rfl, countIf_hk, setHk_neverSettled s i j fun _ => by rfl]

/-- A channel that never settled is noted. -/
theorem neverSettles_bit (s : State) (i : Fin 2) {c : Nat} (hc : c < 32) :
    ((s.neverSettles i [c]).hk i).neverSettled.getLsbD c = true := by
  have hhk : (s.neverSettles i [c]).hk i =
      ((s.setHk i (fun y => { y with neverSettled := y.neverSettled ||| (1#32 <<< c) })).count Ctr.hkStats_neverSettled i.val
        1).hk i := congrArg (fun h : HouseSt => h.hk[i]) (event_house _ _ _ _ _)
  rw [hhk]
  show (((s.setHk i _).hk i).neverSettled).getLsbD c = true
  rw [setHk_hk]
  simp [hc]

theorem neverSettles_work (s : State) (i j : Fin 2) (cs : List Nat) :
    ((s.neverSettles j cs).hk i).work = (s.hk i).work := by
  refine (congrArg (fun h : HouseSt => h.hk[i].work) (event_house _ _ _ _ _)).trans ?_
  show ((s.setHk j _).hk i).work = _
  by_cases h : j = i
  · subst h
    rw [setHk_hk]
  · exact congrArg HkSt.work (vmod_other s.house.hk j i _ h)

/-- The work of a converter is untouched by what a change of reference does to the pulses. -/
theorem pulseRefChanged_work (s : State) (p : Port) (i : Fin 2) : ((s.pulseRefChanged p).hk i).work = (s.hk i).work := by
  unfold State.pulseRefChanged
  split
  · rfl
  · refine (apply_ite (fun t : State => (t.hk i).work) _ _ _).trans ?_
    rw [neverSettles_work]
    exact ite_self _

theorem pulsesRefChanged_work (s : State) (i : Fin 2) :
    ((forPorts allPorts (fun p t => t.pulseRefChanged p) s).hk i).work = (s.hk i).work := by
  unfold forPorts
  generalize allPorts = ps
  induction ps generalizing s with
  | nil => rfl
  | cons p ps ih => exact (ih _).trans (pulseRefChanged_work s p i)

/-- The eighth restart of a settle count gives the entry in front up. -/
theorem refChanged_neverSettled {e : HkEntry} {es : List HkEntry} (hwork : (s.hk i).work = e :: es) (hchannel : e.channel < 32)
    (hrestarts : (s.hk i).restarts = 7) (htime : s.clk < (s.hk i).frontAt + (settleUs e.preset + 2) * 1000) :
    ((s.refChanged i).hk i).neverSettled.getLsbD e.channel = true := by
  have hsettles : (s.hk i).work ≠ [] ∧
      s.clk < (s.hk i).frontAt + (((s.hk i).work.map (fun e => settleUs e.preset)).headD 0 + 2) * usNs := by
    rw [hwork]
    exact ⟨List.cons_ne_nil _ _, htime⟩
  have hpulses : ((if i = 1 then forPorts allPorts (fun p t => t.pulseRefChanged p) s else s).hk i).work = e :: es := by
    split
    · rw [pulsesRefChanged_work, hwork]
    · exact hwork
  simp only [State.refChanged, hrestarts, hsettles, ne_eq, not_false_eq_true, and_self, if_true, State.hkNeverSettles, setHk_hk, hpulses,
    List.mapIdx_cons]
  rw [hkAdvance_neverSettled]
  exact neverSettles_bit _ i hchannel

/-! ## Pulses on the reference coil (R184 to R187) -/

theorem rtdPulseStart_of_due {p : Port} {t : Nat} (hstart : (s.elapse dt).rtdStart p = some t) (hdue : t ≤ (s.elapse dt).tb)
    (hnone : ∀ q : Port, (s.raman q).pulse = none) (hlast : (s.raman p).lastPulse = none) :
    rtdPulseStart dt p s =
      let u := s.elapse dt
      let x : RtdPulse :=
        { start := t, pulseMs := u.fld Fld.rtdCfg_pulse p.val, current := u.rtdCurrent p (u.flag Fld.rtdCfg_current p.val),
          delay := u.fld Fld.rtdCfg_delay p.val, held := (u.hk 1).calHold, gain := u.hkGain 1, vref := u.hkVref 1,
          settling := (u.hk 1).refSettling, restarts := 0 }
      ((u.setRaman p (fun y => { y with lastPulse := some t, pulse := some x })).setHk 1 (fun y =>
        { y with frontAt := if y.work = [] then y.frontAt else u.clk + x.pulseMs * msNs })).count Ctr.ramanStats_rtdPulses p.val
          1 := by
  simp only [rtdPulseStart, hstart, elapse_raman]
  refine if_neg ?_
  simp [hnone, hlast, Nat.not_lt.2 hdue]

/-- A pulse that calibration does not hold ends with its reading. -/
theorem rtdPulseEnd_reads {p : Port} {x : RtdPulse} {outs : List RtdOutput} {u : State} (hu : (s.elapse dt).refHoldsEnd = u)
    (hpulse : (u.raman p).pulse = some x) (htime : x.start + x.pulseMs * msNs ≤ u.tb) (hheld : x.held = false)
    (hhold : u.house.hk[1].calHold = false) :
    rtdPulseEnd dt p outs s = (u.setRaman p (fun r => { r with pulse := none })).rtdRead p x outs := by
  simp only [rtdPulseEnd, hu, hpulse, Nat.not_lt.2 htime, hheld, hhold, Bool.or_self, Bool.false_eq_true, if_false]

section
variable {p : Port} {x : RtdPulse} {outs : List RtdOutput}

/-- What HK-B keeps of a pulse: its last settled output. -/
def State.rtdStored (s : State) (x : RtdPulse) (outs : List RtdOutput) : State :=
  match (s.rtdSettled x outs).getLast? with
  | some o => s.rtdStore x o
  | none => s

theorem rtdRead_unsettled (h : readingOf x (s.rtdSettled x outs) = [] ∨ (s.hk 1).fault = true) :
    s.rtdRead p x outs = (s.rtdStored x outs).rtdBad p .unsettled := by
  refine if_pos ?_
  rw [Bool.or_eq_true, List.isEmpty_iff]
  exact h

theorem rtdRead_judged (hsome : readingOf x (s.rtdSettled x outs) ≠ []) (hfault : (s.hk 1).fault = false) :
    s.rtdRead p x outs =
      match rtdJudge x (readingOf x (s.rtdSettled x outs)) (u32At (s.raman p).lastRecord 0x168) with
      | some c => (s.rtdStored x outs).rtdBad p c
      | none =>
        (s.rtdStored x outs).rtdGood p x.start (rtdTemp (50000 * sumVolts x (readingOf x (s.rtdSettled x outs))).toNat
          (x.current * u32At (s.raman p).lastRecord 0x168 * (readingOf x (s.rtdSettled x outs)).length * rtdUnit.toNat)
            + 10 * s.sfld Fld.calTrim_rtdOffset p.val) := by
  refine if_neg ?_
  rw [Bool.or_eq_true, List.isEmpty_iff, hfault, not_or]
  exact ⟨hsome, Bool.false_ne_true⟩

end

end

/-- Settles O24: each row by the branch that its premises choose. -/
theorem housekeepingAndRtdPulses : Obligations.HousekeepingAndRtdPulses := by
  intro dt s i e es outs clip at_ due p t x rds hruns u b now y
  refine ⟨fun htime hnew => exec_of_runs hruns rfl ?_, fun htime hen htrig hms hnew => exec_of_runs hruns rfl ?_,
    fun htime hen htrig hdue hat => exec_of_runs hruns rfl (hkbJobTrigger_of_due htime hen htrig hdue hat),
    fun htime hnew => exec_of_runs hruns rfl (if_neg ?_), fun hwork hhold hcheck hlen hn hdwelt =>
    exec_of_runs hruns rfl (hkEntryResult_stores rfl hwork hhold hcheck hlen hn hdwelt),
    fun hwork hchannel hrestarts htime => refChanged_neverSettled hwork hchannel hrestarts htime,
    fun hsettling htime => exec_of_runs hruns rfl (if_pos ?_), fun hstart hdue hnone hlast =>
    exec_of_runs hruns rfl (rtdPulseStart_of_due hstart hdue hnone hlast), ?_⟩
  · exact (if_pos htime).trans (hkTick_triggers (by decide) hnew)
  · exact (hkbJobTrigger_of_timer htime hen htrig).trans (hkTick_triggers hms hnew)
  · simp [show (s.elapse dt).refHoldsEnd.timeRuns = true from htime]
    exact hnew
  · simp only [Bool.and_eq_true, decide_eq_true_eq]
    have htime' : (s.hk i).settlingSince + 2000000 ≤ s.clk + dt := htime
    exact ⟨hsettling, show 2 * msNs ≤ s.clk + dt - (s.hk i).settlingSince by unfold msNs; omega⟩
  · intro v settled os r0 stored hpulse htime hheld hhold
    have hread := rtdPulseEnd_reads (outs := rds) rfl hpulse htime hheld hhold
    have hrow {z : State} (h : v.rtdRead p x rds = z) : exec (.rtdPulseEnd dt p rds) s = .next (z.hkbStart true true) :=
      exec_of_runs (f := fun d t => (rtdPulseEnd d p rds t).hkbStart true true) hruns rfl
        (congrArg (fun z : State => z.hkbStart true true) (hread.trans h))
    have hr0 : u32At (v.raman p).lastRecord 0x168 = r0 := by
      rw [show v.raman p = _ from setRaman_raman ..]
    have hjudged (h : os ≠ []) (hfault : (v.hk 1).fault = false) := rtdRead_judged (p := p) (outs := rds) (s := v) h hfault
    rw [hr0] at hjudged
    refine ⟨fun h => hrow (rtdRead_unsettled h), fun h hfault hgood => hrow ?_, fun c h hfault hbad => hrow ?_⟩
    · rw [hjudged h hfault, hgood]
      rfl
    · rw [hjudged h hfault, hbad]
      rfl

end Sys2Proof.Machine

/-! # What leaves the ports as they are -/

namespace Sys2Proof.Machine

@[simp] theorem ports_ite (c : Prop) [Decidable c] (s t : State) :
    (if c then s else t).ports = if c then s.ports else t.ports :=
  apply_ite _ _ _ _

@[simp] theorem ports_foldl {α : Type} (g : State → α → State) (l : List α) (s : State)
    (hg : ∀ t a, (g t a).ports = t.ports) :
    (l.foldl g s).ports = s.ports := by
  induction l generalizing s with
  | nil => rfl
  | cons a l ih => exact (ih _).trans (hg s a)

@[simp] theorem countIf_ports (s : State) (c : Ctr) (i : Nat) (b : Bool) :
    (s.countIf c i b).ports = s.ports := by cases b <;> rfl

@[simp] theorem memAccess_ports (s : State) : s.memAccess.ports = s.ports := by
  unfold State.memAccess
  simp

@[simp] theorem spillNote_ports (s : State) (i : Nat) : (s.spillNote i).ports = s.ports := by
  unfold State.spillNote
  simp

@[simp] theorem pushStream_ports (s : State) (i typ flags : Nat) (payload : List Byte) :
    (s.pushStream i typ flags payload).ports = s.ports := by
  unfold State.pushStream
  simp

@[simp] theorem pushData_ports (s : State) (i typ flags : Nat) (payload : List Byte) :
    (s.pushData i typ flags payload).ports = s.ports := by
  unfold State.pushData
  simp

@[simp] theorem placeMark_ports (s : State) (i typ : Nat) (payload : List Byte) :
    (s.placeMark i typ payload).ports = s.ports := by
  unfold State.placeMark
  simp

@[simp] theorem pushMark_ports (s : State) (i typ : Nat) (payload : List Byte) :
    (s.pushMark i typ payload).ports = s.ports := by
  unfold State.pushMark
  simp

@[simp] theorem ringStop_ports (s : State) (p : Port) (k : RingKind) : (s.ringStop p k).ports = s.ports := by
  unfold State.ringStop
  simp

@[simp] theorem cutParts_ports (s : State) (p : Port) (k : RingKind) : (s.cutParts p k).ports = s.ports := by
  unfold State.cutParts
  simp

@[simp] theorem pushRing_ports (s : State) (p : Port) (k : RingKind) (typ : Nat) (payload : List Byte) (t0 t1 : Nat) :
    (s.pushRing p k typ payload t0 t1).ports = s.ports := by
  unfold State.pushRing
  dsimp only
  (repeat' split) <;> simp

@[simp] theorem pushRingData_ports (s : State) (p : Port) (k : RingKind) (typ : Nat) (payload : List Byte) (t0 t1 : Nat) :
    (s.pushRingData p k typ payload t0 t1).ports = s.ports := by
  unfold State.pushRingData
  simp

@[simp] theorem ringResume_ports (s : State) (p : Port) (k : RingKind) : (s.ringResume p k).ports = s.ports := by
  unfold State.ringResume
  dsimp only
  (repeat' split) <;> simp

@[simp] theorem markStreams_ports (s : State) (p : Port) (classes : List Nat) (m : Mark) :
    (s.markStreams p classes m).ports = s.ports := by
  unfold State.markStreams
  simp

@[simp] theorem markRings_ports (s : State) (p : Port) (kinds : List RingKind) (m : Mark) :
    (s.markRings p kinds m).ports = s.ports := by
  unfold State.markRings
  simp

@[simp] theorem markStop_ports (s : State) (p : Port) (cause : Nat) : (s.markStop p cause).ports = s.ports := by
  unfold State.markStop
  simp

@[simp] theorem ringsStop_ports (s : State) (p : Port) : (s.ringsStop p).ports = s.ports := by
  unfold State.ringsStop
  simp

@[simp] theorem freeSnap_ports (s : State) (id : Nat) : (s.freeSnap id).ports = s.ports := by
  unfold State.freeSnap
  simp

@[simp] theorem discardSnap_ports (s : State) (g : GroupId) (id : Nat) : (s.discardSnap g id).ports = s.ports := by
  unfold State.discardSnap
  simp

@[simp] theorem snapRetract_ports (s : State) (g : GroupId) (eventId : Nat) : (s.snapRetract g eventId).ports = s.ports := by
  unfold State.snapRetract
  (repeat' split) <;> simp

@[simp] theorem loopClear_ports (s : State) (n : Fin 8) (cause : Nat) : (s.loopClear n cause).ports = s.ports := by
  unfold State.loopClear
  simp

@[simp] theorem loopUnjudge_ports (s : State) (n : Fin 8) : (s.loopUnjudge n).ports = s.ports := by
  unfold State.loopUnjudge
  simp

@[simp] theorem loopEval_ports (n : Fin 8) (s : State) : (State.loopEval n s).ports = s.ports := by
  unfold State.loopEval
  simp

@[simp] theorem alarmEval_ports (n : Fin 8) (s : State) : (State.alarmEval n s).ports = s.ports := by
  unfold State.alarmEval
  simp

@[simp] theorem outputsEval_ports (s : State) : s.outputsEval.ports = s.ports := by
  unfold State.outputsEval
  simp

@[simp] theorem toClass_ports (s : State) (cls typ : Nat) (payload : List Byte) :
    (s.toClass cls typ payload).ports = s.ports := by
  unfold State.toClass
  simp

@[simp] theorem toQuery_ports (s : State) (r : List Byte) : (s.toQuery r).ports = s.ports := by
  unfold State.toQuery
  simp

@[simp] theorem emitRecord_ports (s : State) (z : ZoneId) (kind : EventKind) (flags cause : Nat) :
    (s.emitRecord z kind flags cause).ports = s.ports := by
  unfold State.emitRecord
  simp

@[simp] theorem sendSummary_ports (s : State) (g : GroupId) (periodic : Bool) : (s.sendSummary g periodic).ports = s.ports := by
  unfold State.sendSummary
  simp

@[simp] theorem groupEval_ports (g : GroupId) (s : State) : (State.groupEval g s).ports = s.ports := by
  unfold State.groupEval
  simp

@[simp] theorem groupsEval_ports (s : State) (gs : List GroupId) : (s.groupsEval gs).ports = s.ports := by
  unfold State.groupsEval
  simp

@[simp] theorem zoneCarry_ports (s : State) (z : ZoneId) (refHeld : Bool) : (s.zoneCarry z refHeld).ports = s.ports := by
  unfold State.zoneCarry
  simp

@[simp] theorem snapsRetract_ports (s : State) (eventId : Nat) : (s.snapsRetract eventId).ports = s.ports := by
  unfold State.snapsRetract
  simp

@[simp] theorem zoneClose_ports (z : ZoneId) (cause : Nat) (dest : ZoneMode) (s0 : State) :
    (State.zoneClose z cause dest s0).ports = s0.ports := by
  unfold State.zoneClose
  dsimp only
  split <;> simp

@[simp] theorem zonesPortStop_ports (s : State) (p : Port) : (s.zonesPortStop p).ports = s.ports := by
  unfold State.zonesPortStop
  simp

@[simp] theorem streamData_ports (s : State) (i typ : Nat) (sub data : List Byte) (refDist : Nat) :
    (s.streamData i typ sub data refDist).ports = s.ports := by
  unfold State.streamData
  simp

@[simp] theorem enqueueRaw_ports (s : State) (p : Port) (tFirst : Nat) (xs ys : List Half) :
    (s.enqueueRaw p tFirst xs ys).ports = s.ports := by
  unfold State.enqueueRaw
  simp

@[simp] theorem calOutcome_ports (s : State) (st : CalStep) (p : Port) (o : CalOutcome) :
    (s.calOutcome st p o).ports = s.ports := by
  unfold State.calOutcome
  dsimp only
  (repeat' split) <;> simp

@[simp] theorem calAbortPort_ports (s : State) (p : Port) : (s.calAbortPort p).ports = s.ports := by
  unfold State.calAbortPort
  (repeat' split) <;> simp

@[simp] theorem setKey_ports (s : State) (k v : Nat) : (s.setKey k v).ports = s.ports := by
  unfold State.setKey
  split <;> simp

@[simp] theorem applyFields_ports (s : State) (es : Tab Nat) : (s.applyFields es).ports = s.ports := by
  unfold State.applyFields
  simp

end Sys2Proof.Machine
/-! # A port fault shuts its port -/

namespace Sys2Proof.Machine

/-! ## What keeps the drive and the sequencer of every port -/

/-- The drive and the sequencer of every port are as they were. -/
def SameDrive (s t : State) : Prop := ∀ r : Port, (t.port r).drive = (s.port r).drive ∧ (t.port r).seq = (s.port r).seq

section
variable {s t u : State}

theorem SameDrive.refl (s : State) : SameDrive s s := fun _ => ⟨rfl, rfl⟩

theorem SameDrive.trans (h : SameDrive s t) (g : SameDrive t u) : SameDrive s u := fun r =>
  ⟨(g r).1.trans (h r).1, (g r).2.trans (h r).2⟩

theorem sameDrive_of_ports (h : t.ports = s.ports) : SameDrive s t := fun r => by
  rw [show t.port r = s.port r from congrArg (·[r]) h]
  exact ⟨rfl, rfl⟩

/-- A change of a port that keeps its drive and its sequencer. -/
theorem sameDrive_setPort (s : State) (p : Port) (f : PortSt → PortSt) (hd : ∀ x, (f x).drive = x.drive)
    (hs : ∀ x, (f x).seq = x.seq) : SameDrive s (s.setPort p f) := fun r => by
  by_cases h : p = r
  · subst h
    rw [setPort_port]
    exact ⟨hd _, hs _⟩
  · rw [setPort_port_other s p r f h]
    exact ⟨rfl, rfl⟩

theorem sameDrive_setQueue (s : State) (p : Port) (f : QueueSt → QueueSt) : SameDrive s (s.setQueue p f) :=
  sameDrive_setPort s p _ (fun _ => rfl) (fun _ => rfl)

theorem sameDrive_setRx (s : State) (p : Port) (f : RxSt → RxSt) : SameDrive s (s.setRx p f) :=
  sameDrive_setPort s p _ (fun _ => rfl) (fun _ => rfl)

theorem sameDrive_foldl {α : Type} (g : State → α → State) (l : List α) (s : State) (hg : ∀ t a, SameDrive t (g t a)) :
    SameDrive s (l.foldl g s) := by
  induction l generalizing s with
  | nil => exact .refl s
  | cons a l ih => exact (hg s a).trans (ih _)

/-! ## A queue that stops (R205, R210) -/

theorem sameDrive_releaseBlocks (p : Port) (n : Nat) : ∀ s : State, SameDrive s (State.releaseBlocks p n s) := by
  induction n with
  | zero => exact .refl
  | succ n ih =>
    intro s
    rw [State.releaseBlocks]
    split
    · exact .refl s
    · split
      · exact (sameDrive_setQueue s p _).trans (ih _)
      · exact .refl s

theorem sameDrive_release (s : State) (p : Port) : SameDrive s (s.release p) :=
  (sameDrive_releaseBlocks p _ s).trans (sameDrive_setQueue _ p _)

theorem sameDrive_gapBlock (s : State) (p : Port) (b : Block) (c : GapCause) : SameDrive s (s.gapBlock p b c) :=
  ((sameDrive_setQueue s p _).trans (sameDrive_setQueue _ p _)).trans (sameDrive_of_ports (count_ports ..))

theorem sameDrive_blockJoins (s : State) (p : Port) (j : Nat) : SameDrive s (s.blockJoins p j) := by
  simp only [State.blockJoins]
  refine SameDrive.trans ?_ ((sameDrive_setQueue _ p _).trans (sameDrive_release _ p))
  split
  · split
    · exact sameDrive_gapBlock s p _ _
    · exact .refl s
  · exact .refl s

theorem sameDrive_closeColumn (p : Port) (j n : Nat) : ∀ s : State, SameDrive s (State.closeColumn p j n s) := by
  induction n with
  | zero => exact .refl
  | succ n ih =>
    intro s
    rw [State.closeColumn]
    split
    · exact (sameDrive_blockJoins s p j).trans (ih _)
    · exact .refl s

theorem sameDrive_queueStop (s : State) (p : Port) : SameDrive s (s.queueStop p) := by
  unfold State.queueStop
  split
  · exact .refl s
  · exact (sameDrive_setQueue s p _).trans (sameDrive_foldl _ _ _ fun t j => sameDrive_closeColumn p j _ t)

theorem sameDrive_rawEnd (s : State) (p : Port) : SameDrive s (s.rawEnd p) := by
  unfold State.rawEnd
  split
  · exact .refl s
  · refine SameDrive.trans (sameDrive_of_ports ?_) (sameDrive_setRx _ p _)
    split <;> simp

/-! ## A port that leaves (R121, R164) -/

/-- What a leaving port's sequencer becomes. -/
def State.leaveSeq (s : State) (p : Port) (mode : PortMode) (x : SeqSt) : SeqSt :=
  if portEnabled (s.port p).seq then
    { x with mode := mode, gridPos := s.firstAbsent p, window := none, windowUntil := 0, joined := false, resuming := false,
             gaps := x.gaps.filter (fun g => g.pos < s.firstAbsent p || g.era != (s.port p).queue.era) }
  else { x with mode := mode }

theorem leaveSeq_mode (s : State) (p : Port) (mode : PortMode) (x : SeqSt) : (s.leaveSeq p mode x).mode = mode := by
  unfold State.leaveSeq
  split <;> rfl

/-- A port that leaves changes its sequencer; its streams, rings, zones and its queue touch no drive and no sequencer. -/
theorem portLeaves_same (s : State) (p : Port) (mode : PortMode) (cause : Nat) :
    SameDrive (s.setSeq p (s.leaveSeq p mode)) (s.portLeaves p mode cause) := by
  unfold State.leaveSeq
  simp only [State.portLeaves]
  cases henabled : portEnabled (s.port p).seq
  · exact sameDrive_of_ports (calAbortPort_ports _ p)
  · simp only [Bool.not_true, Bool.false_eq_true, if_false, if_true]
    generalize s.setSeq p _ = t
    have hstop : SameDrive t ((t.setRx p (fun x => { x with checking := none })).setMask p (fun x =>
        { x with taking := false, owed := false })) :=
      SameDrive.trans (sameDrive_setRx t p _) (sameDrive_of_ports (setMask_ports ..))
    generalize (t.setRx p _).setMask p _ = v at *
    refine hstop.trans (SameDrive.trans ?_ ((sameDrive_of_ports (zonesPortStop_ports _ p)).trans
      (sameDrive_of_ports (calAbortPort_ports _ p))))
    have hout : SameDrive v (if (s.port p).queue.taking = true then ((v.rawEnd p).markStop p cause).queueStop p else v) := by
      split
      · exact (sameDrive_rawEnd v p).trans ((sameDrive_of_ports (markStop_ports _ p cause)).trans (sameDrive_queueStop _ p))
      · exact .refl v
    split
    · exact hout
    · exact hout.trans (sameDrive_of_ports (ringsStop_ports _ p))

/-- A port that leaves takes the mode it is given; every drive and the sequencers of other ports stay. -/
theorem portLeaves_keeps (s : State) (p : Port) (mode : PortMode) (cause : Nat) :
    ((s.portLeaves p mode cause).port p).seq.mode = mode
      ∧ (∀ r, ((s.portLeaves p mode cause).port r).drive = (s.port r).drive)
      ∧ (∀ r, p ≠ r → ((s.portLeaves p mode cause).port r).seq = (s.port r).seq) := by
  have hsame := portLeaves_same s p mode cause
  refine ⟨?_, fun r => ?_, fun r hr => ?_⟩
  · rw [(hsame p).2, setSeq_port]
    exact leaveSeq_mode ..
  · rw [(hsame r).1]
    by_cases h : p = r
    · subst h
      rw [setSeq_port]
    · rw [setSeq_port_other s p h]
  · rw [(hsame r).2, setSeq_port_other s p hr]

theorem sameDrive_applyPending (s : State) (p : Port) (t : Nat) : SameDrive s (s.applyPending p t) :=
  (sameDrive_of_ports (applyFields_ports s _)).trans (sameDrive_setRx _ p _)

/-! ## A port that shuts (R95, R98) -/

/-- An emitter that is dark. -/
def Dark (y : EmitterSt) : Prop := y.ramp = none ∧ y.ramped = 0 ∧ y.code = 0 ∧ y.timing = false ∧ y.pulse = none

/-- What a shutdown makes of an emitter. -/
def darken (y : EmitterSt) : EmitterSt := { y with ramp := none, ramped := 0, code := 0, timing := false, pulse := none }

theorem dark_darken (y : EmitterSt) : Dark (darken y) := ⟨rfl, rfl, rfl, rfl, rfl⟩

theorem setEmitter_emitter_other (s : State) (p : Port) {e r : Emitter} (h : e ≠ r) (f : EmitterSt → EmitterSt) :
    (s.setEmitter p e f).emitter p r = s.emitter p r := by
  have hix : emitterIx e ≠ emitterIx r := by revert h; cases e <;> cases r <;> decide
  simp only [State.emitter, State.setEmitter, setDrive_port]
  exact vmod_other _ _ _ _ hix

/-- The emitters of a port made dark. -/
def State.darkened (s : State) (p : Port) : State := allEmitters.foldl (fun u x => u.setEmitter p x darken) s

theorem darkened_emitter (s : State) (p : Port) (e : Emitter) : (s.darkened p).emitter p e = darken (s.emitter p e) := by
  simp only [State.darkened, allEmitters, List.foldl]
  cases e with
  | seed =>
    rw [setEmitter_emitter_other _ p (by decide), setEmitter_emitter_other _ p (by decide), setEmitter_emitter]
  | gate =>
    rw [setEmitter_emitter_other _ p (by decide), setEmitter_emitter, setEmitter_emitter_other _ p (by decide)]
  | pump =>
    rw [setEmitter_emitter, setEmitter_emitter_other _ p (by decide), setEmitter_emitter_other _ p (by decide)]

theorem darkened_port_other (s : State) {p r : Port} (h : p ≠ r) : (s.darkened p).port r = s.port r := by
  simp only [State.darkened, allEmitters, List.foldl, State.setEmitter]
  rw [setDrive_port_other _ p h, setDrive_port_other _ p h, setDrive_port_other _ p h]

/-- The sequencer of a port that has left for good. -/
def shutSeq (tb : Nat) (q : SeqSt) : SeqSt :=
  { q with draining := false, joined := false,
           frames := q.frames.map (fun f => if f.cutAt.isNone then { f with cutAt := some tb } else f) }

/-- The emitter that a latch names. -/
def faultEmitter (causes : BitVec 10) (e : Option Emitter) : Option Emitter :=
  if lowestCause causes = causeInterlock ∨ causeOvertemp ≤ lowestCause causes then none else e

/-- The drive of a port with its latch set. -/
def latchDrive (clk : Nat) (causes : BitVec 10) (e : Option Emitter) (d : DriveSt) : DriveSt :=
  { d with latched := true, firstCause := lowestCause causes, emitter := emitterCode (faultEmitter causes e), causeMask := causes,
           proofDue := none, proofWaits := false, shutAt := some clk }

/-- A port before its event goes out. -/
def State.latchedPort (s : State) (p : Port) (causes : BitVec 10) (e : Option Emitter) : State :=
  ((((s.darkened p).portLeaves p .shut 2).setSeq p (shutSeq s.tb)).setDrive p (latchDrive s.clk causes e))

theorem shutPort_eq (s : State) (p : Port) (causes : BitVec 10) (e : Option Emitter) (h : (s.port p).seq.mode ≠ .shut) :
    s.shutPort p causes e = (((s.latchedPort p causes e).count Ctr.safetyStats_shutdowns p.val 1).event evEmitterFault p.val
      (emitterUnit (faultEmitter causes e)) [lowestCause causes]).applyPending p s.tb := by
  unfold State.shutPort
  cases hmode : (s.port p).seq.mode with
  | shut => exact absurd hmode h
  | stopped => rfl
  | starting => rfl
  | running => rfl
  | single => rfl
  | halted => rfl

theorem shutPort_same (s : State) (p : Port) (causes : BitVec 10) (e : Option Emitter) (h : (s.port p).seq.mode ≠ .shut) :
    SameDrive (s.latchedPort p causes e) (s.shutPort p causes e) := by
  rw [shutPort_eq s p causes e h]
  refine SameDrive.trans ?_ (sameDrive_applyPending _ p _)
  exact SameDrive.trans (sameDrive_of_ports (count_ports ..)) (sameDrive_of_ports (event_ports ..))

/-- The port of a latch is shut, with its drive latched; no other drive or mode changes. -/
theorem latchedPort_keeps (s : State) (p : Port) (causes : BitVec 10) (e : Option Emitter) :
    ((s.latchedPort p causes e).port p).seq.mode = .shut
      ∧ ((s.latchedPort p causes e).port p).drive = latchDrive s.clk causes e ((s.darkened p).port p).drive
      ∧ (∀ r, p ≠ r → ((s.latchedPort p causes e).port r).drive = (s.port r).drive
        ∧ ((s.latchedPort p causes e).port r).seq = (s.port r).seq) := by
  obtain ⟨hmode, hdrive, hseq⟩ := portLeaves_keeps (s.darkened p) p .shut 2
  unfold State.latchedPort
  refine ⟨?_, ?_, fun r hr => ?_⟩
  · rw [setDrive_port, setSeq_port]
    exact hmode
  · rw [setDrive_port, setSeq_port]
    exact congrArg (latchDrive s.clk causes e) (hdrive p)
  · rw [setDrive_port_other _ p hr, setSeq_port_other _ p hr, hdrive, hseq r hr, darkened_port_other s hr]
    exact ⟨rfl, rfl⟩

/-! ## A single cause of a port (R97, R99) -/

theorem lowestCause_causeBit {c : Nat} (h1 : 1 ≤ c) (h10 : c ≤ 10) : lowestCause (causeBit c) = c := by
  have hall : ∀ i : Fin 10, lowestCause (causeBit (i.val + 1)) = i.val + 1 := by decide
  have hc := hall ⟨c - 1, by omega⟩
  rwa [show c - 1 + 1 = c by omega] at hc

theorem causeBit_ne_zero {c : Nat} (h1 : 1 ≤ c) (h10 : c ≤ 10) : causeBit c ≠ 0 := by
  have hall : ∀ i : Fin 10, causeBit (i.val + 1) ≠ 0 := by decide
  have hc := hall ⟨c - 1, by omega⟩
  rwa [show c - 1 + 1 = c by omega] at hc

theorem allPorts_only (p : Port) : allPorts.filter (fun q => p = q) = [p] := by
  revert p
  decide

/-- Without the device's scope a single cause of a port that takes causes shuts that port alone. -/
theorem portFault_shuts {s : State} {p : Port} {c : Nat} (h1 : 1 ≤ c) (h10 : c ≤ 10) (haccepts : s.accepts p = true)
    (hscope : s.flag Fld.safety_scope 0 = false) : s.portFault p c = s.shutPort p (causeBit c) none := by
  have hown (q : Port) : (([⟨p, causeBit c, none⟩] : List FaultReport).filter (fun f => f.port = q)).foldl
      (fun m f => m ||| f.causes) (0 : BitVec 10) = if p = q then causeBit c else 0 := by
    by_cases h : p = q <;> simp [h]
  have hhit : allPorts.filter (fun q => (if p = q then causeBit c else 0) ≠ 0 && s.accepts q) = [p] := by
    rw [← allPorts_only p]
    refine List.filter_congr fun q _ => ?_
    by_cases h : p = q
    · subst h
      simpa [haccepts] using causeBit_ne_zero h1 h10
    · simp [h]
  unfold State.portFault State.acceptFaults
  simp only [hown, hscope, Bool.false_and, Bool.false_eq_true, if_false]
  rw [hhit]
  simp

end

/-- Settles O17: the single cause shuts its port alone, and what follows the latch touches no drive and no mode. -/
theorem portFaultShutsThePort : Obligations.PortFaultShutsThePort := by
  intro s p c h1 h10 haccepts hmode hscope t
  have ht : t = s.shutPort p (causeBit c) none := portFault_shuts h1 h10 haccepts hscope
  obtain ⟨hshut, hlatch, hother⟩ := latchedPort_keeps s p (causeBit c) none
  have hsame := shutPort_same s p (causeBit c) none hmode
  rw [← ht] at hsame
  have hdrive : (t.port p).drive = latchDrive s.clk (causeBit c) none ((s.darkened p).port p).drive := (hsame p).1.trans hlatch
  refine ⟨?_, ?_, ?_, ?_, fun e => ?_, fun r hr => ?_⟩
  · rw [(hsame p).2]
    exact hshut
  · rw [hdrive]; rfl
  · rw [hdrive]
    exact lowestCause_causeBit h1 h10
  · rw [hdrive]; rfl
  · have hemitter : t.emitter p e = darken (s.emitter p e) := by
      rw [← darkened_emitter]
      simp only [State.emitter, hdrive]
      rfl
    rw [hemitter]
    exact dark_darken _
  · obtain ⟨hd, hs⟩ := hother r (Ne.symm hr)
    rw [(hsame r).1, (hsame r).2, hd, hs]
    exact ⟨rfl, rfl⟩

end Sys2Proof.Machine

/-! # Raman recordings, periods and profiles -/

namespace Sys2Proof.Machine

section
variable {s : State} {dt : Nat} {p : Port}

/-! ## Bias faults (R176) -/

theorem biasFaultSet_sets {x : BiasReading} (hen : portEnabled (s.port p).seq = true)
    (hclear : (if x.input = 0 then (s.raman p).biasStk else (s.raman p).biasAst) = false)
    (hout : x.common < 700000 ∨ 1100000 < x.common) (hheld : 10000 ≤ x.held)
    (htime : (s.raman p).biasAt[x.input] + 10000 ≤ s.clk + dt) :
    biasFaultSet dt p x s = ((s.elapse dt).setRaman p (fun y =>
        { y with biasStk := y.biasStk || x.input = 0, biasAst := y.biasAst || x.input = 1,
                 biasAt := vmod y.biasAt x.input (fun _ => s.clk + dt),
                 recording := y.recording.map (fun z => { z with bias := true }) })).event evRamanBias p.val x.input.val [] := by
  refine if_neg ?_
  have hinside : biasInside x = false := decide_eq_false (by omega)
  rw [elapse_port, hen, elapse_raman, hclear, hinside, decide_eq_false (show ¬ x.held < 10 * usNs from Nat.not_lt.2 hheld),
    decide_eq_false (show ¬ (s.elapse dt).clk < (s.raman p).biasAt[x.input] + 10 * usNs from Nat.not_lt.2 htime)]
  decide

theorem biasFaultClear_clears {x : BiasReading} (hen : portEnabled (s.port p).seq = true)
    (hset : (if x.input = 0 then (s.raman p).biasStk else (s.raman p).biasAst) = true)
    (hlow : 700000 ≤ x.common) (hhigh : x.common ≤ 1100000) (hheld : 100000000 ≤ x.held)
    (htime : (s.raman p).biasAt[x.input] + 100000000 ≤ s.clk + dt) :
    biasFaultClear dt p x s = ((s.elapse dt).setRaman p (fun y =>
        { y with biasAt := vmod y.biasAt x.input (fun _ => s.clk + dt), biasStk := y.biasStk && x.input ≠ 0,
                 biasAst := y.biasAst && x.input ≠ 1, biasEnd := some (s.clk + dt) })).event evRamanBiasClear p.val x.input.val
        [] := by
  refine if_neg ?_
  have hinside : biasInside x = true := decide_eq_true ⟨hlow, hhigh⟩
  rw [elapse_port, hen, elapse_raman, hset, hinside, decide_eq_false (show ¬ x.held < 100 * msNs from Nat.not_lt.2 hheld),
    decide_eq_false (show ¬ (s.elapse dt).clk < (s.raman p).biasAt[x.input] + 100 * msNs from Nat.not_lt.2 htime)]
  decide

/-! ## Recordings (R174 to R178) -/

/-- A code list of a recording, baseline-corrected. -/
def corrected (gain n : Nat) (base codes : List Int) : List Int := correctCodes gain 64 (codeSum base) n 0 codes

/-- What a recording is judged with: its codes, complete. -/
structure Recorded (s : State) (p : Port) (x : RamanRec) (baseS baseA codesS codesA : List Half) : Prop where
  recording : (s.raman p).recording = some x
  ended : x.pumpAt + (s.ramanCoef p).dRam + 10 * s.recLen p ≤ s.tb
  baseS_length : baseS.length = 64
  baseA_length : baseA.length = 64
  codesS_length : s.recLen p ≤ codesS.length
  codesA_length : s.recLen p ≤ codesA.length

/-- The state once a recording has left its port, its saturated codes counted. -/
def State.recordingEnds (s : State) (p : Port) (baseS baseA codesS codesA : List Half) : State :=
  (s.setRaman p (fun y => { y with recording := none })).count Ctr.ramanStats_satSamples p.val
    ((baseS.map BitVec.toInt ++ baseA.map BitVec.toInt ++ (codesS.take (s.recLen p)).map BitVec.toInt
      ++ (codesA.take (s.recLen p)).map BitVec.toInt).filter codeSat).length

section
variable {x : RamanRec} {baseS baseA codesS codesA : List Half}

/-- A complete recording is judged. -/
theorem Recorded.passes (h : Recorded s p x baseS baseA codesS codesA) :
    ¬ (s.tb < x.pumpAt + (s.ramanCoef p).dRam + 10 * s.recLen p ∨ (baseS.map BitVec.toInt).length ≠ 64
      ∨ (baseA.map BitVec.toInt).length ≠ 64 ∨ ((codesS.take (s.recLen p)).map BitVec.toInt).length < s.recLen p
      ∨ ((codesA.take (s.recLen p)).map BitVec.toInt).length < s.recLen p) := by
  have hend := h.ended
  have hs := h.codesS_length
  have ha := h.codesA_length
  simp only [List.length_map, List.length_take, h.baseS_length, h.baseA_length]
  omega

/-- A complete recording with a bias fault, or of a calibration step, is dropped; without a fault it joins the step's sums. -/
theorem ramanRecordingEnd_drops (h : Recorded (s.elapse dt) p x baseS baseA codesS codesA)
    (hdrop : (x.bias || (s.raman p).biasStk || (s.raman p).biasAst || x.cal) = true) :
    ramanRecordingEnd dt p baseS baseA codesS codesA s =
      let u := s.elapse dt
      let bias := x.bias || (s.raman p).biasStk || (s.raman p).biasAst
      let t := (((u.recordingEnds p baseS baseA codesS codesA).accAt p x.pumpAt (fun a =>
        { a with biasDrop := a.biasDrop || bias })).count Ctr.ramanStats_dropped p.val 1)
      match x.swap with
      | some swap =>
        if bias || !u.calOn .raman p then t
        else t.calWindow p swap
          (corrected 32768 (u.recLen p) (baseS.map BitVec.toInt) ((codesS.take (u.recLen p)).map BitVec.toInt))
          (corrected 32768 (u.recLen p) (baseA.map BitVec.toInt) ((codesA.take (u.recLen p)).map BitVec.toInt))
      | none => t := by
  simp only [ramanRecordingEnd, h.recording]
  exact (if_neg h.passes).trans (if_pos hdrop)

/-- A complete recording without a fault joins the sums of its period. -/
theorem ramanRecordingEnd_joins (h : Recorded (s.elapse dt) p x baseS baseA codesS codesA)
    (hclean : (x.bias || (s.raman p).biasStk || (s.raman p).biasAst || x.cal) = false) :
    ramanRecordingEnd dt p baseS baseA codesS codesA s =
      let u := s.elapse dt
      let stk := (codesS.take (u.recLen p)).map BitVec.toInt
      let ast := (codesA.take (u.recLen p)).map BitVec.toInt
      ((u.recordingEnds p baseS baseA codesS codesA).accAt p x.pumpAt (fun a =>
        { a with windows := a.windows + 1,
                 stk := addBins a.stk (corrected (s.raman p).gainStk (u.recLen p) (baseS.map BitVec.toInt) stk),
                 ast := addBins a.ast (corrected (s.raman p).gainAst (u.recLen p) (baseA.map BitVec.toInt) ast),
                 sat := orBins a.sat ((List.range (u.recLen p)).map
                   (fun k => codeSat (stk.getD k 0) || codeSat (ast.getD k 0))) })).count Ctr.ramanStats_windows p.val 1 := by
  simp only [ramanRecordingEnd, h.recording]
  exact (if_neg h.passes).trans (if_neg (by rw [Bool.not_eq_true]; exact hclean))

end

/-! ## Periods and profiles (R177, R190) -/

/-- The period and the last close of a port's Raman part. -/
def periodOf (r : RamanSt) : Option RamanAcc × Nat := (r.period, r.closedAt)

theorem raman_of_ports {t : State} (h : t.ports = s.ports) (p : Port) : t.raman p = s.raman p :=
  congrArg (fun v : Vector PortSt 8 => v[p].raman) h

theorem count_raman (s : State) (c : Ctr) (i n : Nat) (p : Port) : (s.count c i n).raman p = s.raman p := rfl

theorem countIf_raman (s : State) (c : Ctr) (i : Nat) (b : Bool) (p : Port) : (s.countIf c i b).raman p = s.raman p := by
  cases b <;> rfl

/-- A conversion leaves the period and its last close. -/
theorem convert_period (s : State) (p : Port) (c : RamanConv) : periodOf ((s.convert p c).raman p) = periodOf (s.raman p) := by
  simp only [State.convert]
  split
  · rw [count_raman, countIf_raman, setRaman_raman]
    rfl
  · rw [raman_of_ports (ports_foldl _ _ _ fun _ _ => pushStream_ports ..), count_raman, setRaman_raman, countIf_raman,
      setRaman_raman]
    rfl

theorem joinCarried_period (s : State) (p : Port) (a : RamanAcc) :
    periodOf ((s.joinCarried p a).2.raman p) = periodOf (s.raman p) := by
  unfold State.joinCarried
  split
  · rfl
  · dsimp only
    split
    · rw [count_raman, setRaman_raman]
      rfl
    · rw [setRaman_raman]
      rfl

theorem raman_ite (c : Prop) [Decidable c] (s t : State) (p : Port) :
    (if c then s else t).raman p = if c then s.raman p else t.raman p := apply_ite (State.raman · p) c s t

theorem period_ite (c : Prop) [Decidable c] (a b : RamanSt) : (if c then a else b).period = if c then a.period else b.period :=
  apply_ite RamanSt.period c a b

theorem closedAt_ite (c : Prop) [Decidable c] (a b : RamanSt) :
    (if c then a else b).closedAt = if c then a.closedAt else b.closedAt := apply_ite RamanSt.closedAt c a b

/-- A period that closes leaves no open one, and its end. -/
theorem closePeriod_period (s : State) (p : Port) (t0 t1 : Nat) :
    ((s.closePeriod p t0 t1).raman p).period = none ∧ ((s.closePeriod p t0 t1).raman p).closedAt = t1 := by
  have hconvert (s : State) (c : RamanConv) := Prod.mk.inj (convert_period s p c)
  have hjoin (s : State) (a : RamanAcc) := Prod.mk.inj (joinCarried_period s p a)
  constructor
  · simp only [State.closePeriod, raman_ite, period_ite, (hconvert _ _).1, setRaman_raman, (hjoin _ _).1, ite_self]
  · simp only [State.closePeriod, raman_ite, closedAt_ite, (hconvert _ _).2, setRaman_raman, (hjoin _ _).2, ite_self]

end

/-- Settles O23: each row by the branch that its premises choose. -/
theorem ramanEvents : Obligations.RamanEvents := by
  intro dt p b s baseS baseA codesS codesA x c t0 t1 swap hruns u n faulty baseStk baseAst stk ast corr complete clean ended
  have hrec (h : complete) : Recorded u p x baseS baseA codesS codesA := by
    obtain ⟨h1, h2, h3, h4, h5, h6⟩ := h
    exact ⟨h1, h2, h3, h4, h5, h6⟩
  refine ⟨fun hen hclear hout hheld htime => exec_of_runs hruns rfl (biasFaultSet_sets hen hclear hout hheld htime),
    fun hen hset hlow hhigh hheld htime => exec_of_runs hruns rfl (biasFaultClear_clears hen hset hlow hhigh hheld htime),
    fun hcomplete hbias => exec_of_runs hruns rfl ?_, fun hcomplete hclean hcal => exec_of_runs hruns rfl ?_,
    fun hcomplete hclean hcal hswap hon => exec_of_runs hruns rfl ?_, fun hclosing => ?_, fun hconv hpending =>
    exec_of_runs hruns rfl ?_⟩
  · have hor : (x.bias || (s.raman p).biasStk || (s.raman p).biasAst) = true := by
      rw [Bool.or_eq_true, Bool.or_eq_true, or_assoc]
      exact hbias
    rw [ramanRecordingEnd_drops (hrec hcomplete) (by rw [hor]; rfl)]
    simp only [hor, Bool.or_true, Bool.true_or, if_true]
    cases x.swap <;> rfl
  · obtain ⟨hb, hs, ha⟩ := hclean
    exact ramanRecordingEnd_joins (hrec hcomplete) (by rw [hb, hs, ha, hcal]; rfl)
  · obtain ⟨hb, hs, ha⟩ := hclean
    have hor : (x.bias || (s.raman p).biasStk || (s.raman p).biasAst) = false := by rw [hb, hs, ha]; rfl
    rw [ramanRecordingEnd_drops (hrec hcomplete) (by rw [hcal, Bool.or_true])]
    simp only [hor, Bool.or_false, hswap]
    exact if_neg (by rw [show (s.elapse dt).calOn .raman p = true from hon]; decide)
  · have hrow : ramanPeriodClose dt p s = u.closePeriod p t0 t1 := by
      unfold ramanPeriodClose
      simp only [show (s.elapse dt).closing p = _ from hclosing]
      rfl
    exact ⟨_, exec_of_runs hruns rfl hrow, closePeriod_period u p t0 t1⟩
  · simp only [profileReady, elapse_raman, hconv]
    exact if_neg (by rw [show (s.elapse dt).recPending p c.acc.stop = false from hpending]; decide)

end Sys2Proof.Machine

/-! # Zone samples, snapshots and what is enqueued -/

namespace Sys2Proof.Machine

section
variable {s : State} {dt : Nat} {p : Port} {z : ZoneId}

/-! ## Samples of zones (R249, R250) -/

theorem vibrationZoneSample_samples {m : Nat} (hoff : s.detect.off = false) (hen : s.flag Fld.zone_en z.val = true)
    (hturn : (s.elapse dt).zoneTurn z = true) (hkind : s.zoneTemp z = false)
    (hlaunch : portLaunches (s.port (s.zonePort z)).seq = true) (hblock : (s.elapse dt).sampleBlock z = some m) :
    vibrationZoneSample dt z m s =
      let u := s.elapse dt
      let tLast := (u.posTime (s.zonePort z) (u.sampleLast z m)).toNat
      let j := judgeAt (s.zoneJudge z) tLast (s.zone z).reconfig
      (((u.setZone z (fun y => { y with nextBlock := m + 1 })).zoneSample z tLast (u.sampleLast z m) j
          ((s.zone z).reconfig.any (fun e => e.1 ≤ tLast)) ((s.zone z).reconfig.filter (fun e => tLast < e.1))
          (fun t => t.vibView z j (t.zoneBands z m)) false).forgetBlocks (s.zonePort z)) := by
  have hoff' : (s.elapse dt).detect.off = false := hoff
  have hen' : (s.elapse dt).flag Fld.zone_en z.val = true := hen
  have hkind' : (s.elapse dt).zoneTemp z = false := hkind
  have hlaunch' : portLaunches ((s.elapse dt).port ((s.elapse dt).zonePort z)).seq = true := hlaunch
  simp only [vibrationZoneSample, hoff', hen', hkind', hlaunch', hturn, hblock]
  exact (if_neg (by decide)).trans (if_neg (not_not_intro rfl))

theorem temperatureZoneSample_samples {prof : List Byte} (hoff : s.detect.off = false)
    (hen : s.flag Fld.zone_en z.val = true) (hturn : (s.elapse dt).zoneTurn z = true) (hkind : s.zoneTemp z = true)
    (hprof : (s.port (s.zonePort z)).raman.profile = some prof) (hnew : (s.zone z).profSeq ≠ some (u32At prof 4)) :
    temperatureZoneSample dt z s =
      ((s.elapse dt).setZone z (fun y => { y with profSeq := some (u32At prof 4) })).zoneSample z (u64At prof 0x10) (-1)
        (s.zoneJudge z) ((s.zone z).reconfig ≠ []) [] (fun t => t.tempView z (s.zoneJudge z) prof) ((u8At prof 3).testBit 1) := by
  have hoff' : (s.elapse dt).detect.off = false := hoff
  have hen' : (s.elapse dt).flag Fld.zone_en z.val = true := hen
  have hkind' : (s.elapse dt).zoneTemp z = true := hkind
  have hprof' : ((s.elapse dt).port ((s.elapse dt).zonePort z)).raman.profile = some prof := hprof
  have hnew' : ((s.elapse dt).zone z).profSeq ≠ some (u32At prof 4) := hnew
  simp only [temperatureZoneSample, hoff', hen', hkind', hprof', hturn, decide_eq_false hnew']
  rfl

/-! ## Snapshots (R286, R288, R290) -/

theorem snapshotPublish_publishes {id : Nat} {n : Snapshot}
    (hfind : s.capture.snapshots.find? (fun n => n.id = id) = some n) (hpub : n.published = false)
    (hconf : n.unconfirmed = false) (hdone : ∀ q ∈ n.parts, q.done = true) :
    snapshotPublish dt id s = (s.elapse dt).publish n := by
  have hfind' : (s.elapse dt).capture.snapshots.find? (fun n => n.id = id) = some n := hfind
  have hready : snapReady n = true := by
    simp only [snapReady, hpub, hconf, List.all_eq_true.2 hdone]
    rfl
  simp only [snapshotPublish, hfind', hready, if_true]

/-! ## Raw words (R269) -/

@[simp] theorem rawWords_length (t : Nat) (xs : List Code) : (s.rawWords p t xs).length = xs.length := by
  induction xs generalizing t with
  | nil => rfl
  | cons c cs ih => simp only [State.rawWords, List.length_cons, ih]

theorem takeCodes_raw (t : Nat) (xs ys : List Code) : ((s.takeCodes p t xs ys).port p).rx.raw = (s.port p).rx.raw := by
  obtain ⟨seen, clip, h⟩ := takeCodes_port s p t xs ys
  rw [h]

/-- Words that do not reach the next multiple of 32,768 ns wait. -/
theorem rawFill_waits {t : Nat} {us vs : List Half} (hraw : (s.port p).rx.raw = some (t, us, vs))
    (hroom : us.length < 32768 - t % 32768) (fuel : Nat) : State.rawFill p fuel s = s := by
  cases fuel with
  | zero => rfl
  | succ fuel => simp only [State.rawFill, hraw, if_pos hroom]

/-- Words up to the next multiple of 32,768 ns make one record of all of them. -/
theorem rawFill_record {t : Nat} {us vs : List Half} (hraw : (s.port p).rx.raw = some (t, us, vs))
    (hlen : us.length = vs.length) (hfull : us.length = 32768 - t % 32768) (fuel : Nat) :
    State.rawFill p (fuel + 1) s =
      (s.enqueueRaw p t us vs).setRx p (fun x => { x with raw := some (t + (32768 - t % 32768), [], []) }) := by
  simp only [State.rawFill, hraw, ← hfull, if_neg (Nat.lt_irrefl _), List.take_length, List.drop_length]
  rw [hlen, List.take_length, List.drop_length]
  refine rawFill_waits (t := t + vs.length) (us := []) (vs := []) ?_ (Nat.sub_pos_of_lt (Nat.mod_lt _ (by decide))) fuel
  rw [setRx_port]

/-- The state of raw words that have joined those that wait, before any of them make a record. -/
def State.rawJoined (s : State) (p : Port) (t : Nat) (us vs : List Half) : State :=
  s.setRx p (fun x => { x with raw := some (t, us, vs) })

theorem rawJoined_raw (t : Nat) (us vs : List Half) : ((s.rawJoined p t us vs).port p).rx.raw = some (t, us, vs) := by
  rw [State.rawJoined, setRx_port]

/-- Raw words that follow those that wait without a gap. -/
theorem rawJoin_follows {t : Nat} {us vs : List Half} (hraw : (s.port p).rx.raw = some (t, us, vs)) (xs ys : List Half) :
    s.rawJoin p (t + us.length) xs ys =
      State.rawFill p (xs.length / 32768 + 1) (s.rawJoined p t (us ++ xs) (vs ++ ys)) := by
  simp only [State.rawJoin, hraw, if_neg (Nat.lt_irrefl _), Nat.sub_self, List.drop_zero, State.rawJoined]

section
variable {t0 : Nat} {us vs : List Half} {xs ys : List Code}

theorem recordEnqueue_raw (hraw : (s.port p).rx.raw = some (t0, us, vs))
    (hnow : t0 + us.length + xs.length ≤ (s.elapse dt).tb) :
    recordEnqueue dt (.raw p (t0 + us.length) xs ys) s =
      State.rawFill p (xs.length / 32768 + 1)
        (((s.elapse dt).takeCodes p (t0 + us.length) xs ys).rawJoined p t0
          (us ++ (s.elapse dt).rawWords p (t0 + us.length) xs) (vs ++ (s.elapse dt).rawWords p (t0 + us.length) ys)) := by
  have hfollows : (s.elapse dt).rawFollows p (t0 + us.length) xs.length = true := by
    simp only [State.rawFollows, elapse_port, hraw, decide_eq_true (Nat.le_refl _), decide_eq_true hnow]
    rfl
  have hraw' : (((s.elapse dt).takeCodes p (t0 + us.length) xs ys).port p).rx.raw = some (t0, us, vs) :=
    (takeCodes_raw _ _ _).trans hraw
  simp only [recordEnqueue, hfollows, rawJoin_follows hraw', rawWords_length]
  rfl

end

end

/-- Settles O26: each row by the branch that its premises choose; raw words wait or make one record. -/
theorem zonesAndSnapshots : Obligations.ZonesAndSnapshots := by
  intro dt z prof g id i m n p b rest us vs xs ys t0 s hruns u x
  refine ⟨fun ⟨hoff, hen⟩ hturn hkind hlaunch hblock =>
      exec_of_runs hruns rfl (vibrationZoneSample_samples hoff hen hturn hkind hlaunch hblock),
    fun ⟨hoff, hen⟩ hturn hkind hprof hnew =>
      exec_of_runs hruns rfl (temperatureZoneSample_samples hoff hen hturn hkind hprof hnew),
    fun hnear hsecond => exec_of_runs hruns rfl (if_neg (not_or.2 ⟨Nat.not_le.2 hnear, hsecond⟩)),
    fun hfind hpub hconf hdone => exec_of_runs hruns rfl (snapshotPublish_publishes hfind hpub hconf hdone),
    fun hon hauto hmode hfirst htime => exec_of_runs hruns rfl (if_pos ?_),
    fun hmode htype htime => exec_of_runs hruns rfl (if_pos ⟨hmode, htype, htime⟩),
    fun hreleased => exec_of_runs (f := fun d t => recordEnqueue d (.block p) t) hruns rfl ?_,
    fun hraw hlen hcodes hnow => ?_, fun hen hshare hquota => exec_of_runs hruns rfl (if_pos ?_)⟩
  · simp only [Bool.and_eq_true, decide_eq_true_eq, and_assoc]
    exact ⟨hon, hauto, hmode, congrArg Bool.not hfirst, htime⟩
  · simp only [recordEnqueue, elapse_port, hreleased]
    rfl
  · intro wx wy k
    let v := (u.takeCodes p (t0 + us.length) xs ys).rawJoined p t0 wx wy
    have hrow : exec (.recordEnqueue dt (.raw p (t0 + us.length) xs ys)) s =
        .next (State.rawFill p (xs.length / 32768 + 1) v) :=
      exec_of_runs (f := fun d t => recordEnqueue d (.raw p (t0 + us.length) xs ys) t) hruns rfl (recordEnqueue_raw hraw hnow)
    have hwx : wx.length = us.length + xs.length := by simp [wx]
    have hwy : wy.length = vs.length + ys.length := by simp [wy]
    refine ⟨fun hroom => ⟨v, ?_, rawJoined_raw _ _ _, rfl, fun q hq => ?_⟩, fun hfull => ⟨v, ?_, rfl⟩⟩
    · rw [hrow, rawFill_waits (rawJoined_raw _ _ _) (by omega)]
    · show ((u.takeCodes p _ xs ys).setRx p _).port q = _
      rw [setRx_port_other _ _ (Ne.symm hq), takeCodes_port_other _ _ (Ne.symm hq)]
      rfl
    · rw [hrow, rawFill_record (rawJoined_raw _ _ _) (by omega) (by omega)]
  · simp only [Bool.and_eq_true, decide_eq_true_eq, and_assoc]
    exact ⟨hen, hshare, hquota⟩

end Sys2Proof.Machine

/-! # Capture memory, mask tests, and jobs of Sumac that end -/

namespace Sys2Proof.Machine

/-! ## Devices of capture memory (R278, R279) -/

theorem deviceFails_replicate {d : CapDevice} (h : deviceOk d = true) : deviceFails (List.replicate 4 d) = none := by
  simp [deviceFails, h]

/-- Densities are even, so that two ranks of subchannels make whole GiB. -/
theorem capacity_replicate {d : CapDevice} (h : deviceOk d = true) :
    2 * capacity (List.replicate 4 d) = d.densityGb * d.ranks := by
  have hdens : d.densityGb = 8 ∨ d.densityGb = 16 ∨ d.densityGb = 32 := by
    simp only [deviceOk, Bool.and_eq_true, List.contains_iff_mem] at h
    simpa using h.1.2
  have heven : d.densityGb * d.ranks % 2 = 0 := by
    rw [Nat.mul_mod]
    rcases hdens with h | h | h <;> simp [h]
  simp only [capacity, List.replicate, List.map_cons, List.map_nil, List.foldl_cons, List.foldl_nil]
  omega

theorem trainFails_unsupported {d : CapDevice} (h : deviceOk d = false) (ds : List CapDevice) (failed : Option (Nat × Nat)) :
    trainFails ⟨d :: ds, failed⟩ = some (0, 1) := by
  simp [trainFails, deviceFails, List.findIdx?_cons, h]

section
variable {s : State} {dt : Nat} {p : Port}

/-! ## Training (R280) -/

@[simp] theorem mem_ite (c : Prop) [Decidable c] (s t : State) :
    (if c then s else t).capture.mem = if c then s.capture.mem else t.capture.mem :=
  apply_ite (fun v : State => v.capture.mem) _ _ _

theorem mem_foldl {α : Type} (g : State → α → State) (hg : ∀ t a, (g t a).capture.mem = t.capture.mem) (l : List α) :
    ∀ s : State, (l.foldl g s).capture.mem = s.capture.mem := by
  induction l with
  | nil => exact fun _ => rfl
  | cons a l ih => exact fun s => (ih _).trans (hg s a)

@[simp] theorem setRing_mem (k : RingKind) (f : RingSt → RingSt) : (s.setRing p k f).capture.mem = s.capture.mem := rfl

@[simp] theorem ringsStart_mem : (s.ringsStart p).capture.mem = s.capture.mem :=
  mem_foldl _ (fun t k => by simp) _ s

theorem forPorts_mem (ps : List Port) (g : Port → State → State)
    (hg : ∀ q t, (g q t).capture.mem = t.capture.mem) : (forPorts ps g s).capture.mem = s.capture.mem :=
  mem_foldl _ (fun t q => hg q t) _ s

/-- A training that no command waits for and that goes well. -/
theorem capmemTrainDone_trained {r : CapTrain} (htraining : s.capture.mem.training = some none)
    (hdue : s.capture.mem.due = false) (hr : trainFails r = none) :
    (capmemTrainDone dt r s).capture.mem =
      { s.capture.mem with trained := true, gib := capacity r.devices, training := none, rate := s.fld Fld.capmemCfg_rate 0,
                           lastAccess := s.clk + dt, lastCal := s.clk + dt, content := [] } := by
  have hrun : (if (s.elapse dt).capture.mem.due then none else (s.elapse dt).capture.mem.training) = some none :=
    (if_neg (Bool.eq_false_iff.1 hdue)).trans htraining
  simp only [capmemTrainDone, hrun, hr]
  exact forPorts_mem _ (fun q t => t.ringsStart q) fun _ _ => ringsStart_mem

theorem capmemTrainDone_failed {r : CapTrain} {rq : Req} {ch st : Nat} (htraining : s.capture.mem.training = some (some rq))
    (hdue : s.capture.mem.due = false) (hr : trainFails r = some (ch, st)) :
    capmemTrainDone dt r s =
      (((s.elapse dt).setMem (fun m => { m with trained := false, training := none })).event evCapmemFail noUnit noUnit
        [ch, st]).completeResult rq .ok (leBytes 1 ch ++ leBytes 1 st ++ zeros 2) := by
  simp only [capmemTrainDone, elapse_capture, hdue, htraining, hr]
  rfl

/-! ## Mask tests (R293, R294) -/

/-- A trace with no runs before it, once its frames have returned, is evaluated without a stop. -/
theorem maskTraceEval_evaluates {tr : MaskTrace} {later : List MaskTrace} (hen : s.flag Fld.mask_en p.val = true)
    (hgo : (s.mask p).stopped = false) (hmode : (s.port p).seq.mode = .running) (hlast : (s.mask p).lastRuns = [])
    (htraces : (s.mask p).traces = tr :: later) (htaken : 2 ^ s.fld Fld.mask_avg p.val ≤ tr.taken)
    (htime : tr.lastEnd + (s.elapse dt).dRxNs p ≤ (s.elapse dt).tb) :
    ∃ runs, maskTraceEval dt p ((s.elapse dt).tb - (tr.lastEnd + (s.elapse dt).dRxNs p)) tr.taken s =
      ({ s.elapse dt with free := s.free + s.maskBins p }).setMask p (fun y => { y with traces := later, lastRuns := runs }) := by
  have hwhole : (s.elapse dt).traceWhole p tr ((s.elapse dt).tb - (tr.lastEnd + (s.elapse dt).dRxNs p)) tr.taken = true := by
    simp only [State.traceWhole, Bool.and_eq_true, decide_eq_true_eq, beq_iff_eq]
    exact ⟨⟨htaken, trivial⟩, Nat.add_sub_cancel' htime⟩
  have hnone (l : List (Nat × Nat × Bool × Bool)) :
      l.find? (fun r => ([] : List (Nat × Nat)).any (fun q => q.1 ≤ r.2.1 && r.1 ≤ q.2)) = none :=
    List.find?_eq_none.2 (by simp)
  apply Exists.intro
  simp only [maskTraceEval, elapse_mask, elapse_flag, elapse_port, htraces, hen, hgo, hmode, hwhole, hlast, hnone]
  rfl

theorem maskStop_mask {run : Nat × Nat × Bool × Bool} {t : Nat} (hact : s.flag Fld.mask_action p.val = false) :
    ((s.maskStop p run t).mask p).stopped = true ∧ ((s.maskStop p run t).mask p).lastRuns = [] := by
  simp only [State.maskStop, hact, Bool.false_eq_true, if_false, setMask_mask, and_self]

end

/-- Settles O27: the devices by computation, each row by the branch that its premises choose. -/
theorem captureMemoryEvents : Obligations.CaptureMemoryEvents := by
  intro dt p r d ds ch st rq tr later s hruns u m
  refine ⟨fun h => ⟨deviceFails_replicate h, capacity_replicate h⟩, fun h => trainFails_unsupported h ds _,
    fun htraining hdue hr => ?_, fun htraining hdue hr =>
      exec_of_runs (f := fun d t => capmemTrainDone d r t) hruns rfl (capmemTrainDone_failed htraining hdue hr),
    fun htrained htime => exec_of_runs hruns rfl (if_pos ?_), fun hmode htrained htime => exec_of_runs hruns rfl (if_pos ?_),
    fun hen hgo hmode hlast htraces htaken htime => ?_, fun v run t0 hact => maskStop_mask hact⟩
  · have hmem := capmemTrainDone_trained (dt := dt) htraining hdue hr
    refine ⟨_, exec_of_runs (f := fun d t => capmemTrainDone d r t) hruns rfl rfl, ?_⟩
    rw [hmem]
    exact ⟨rfl, rfl, rfl, rfl⟩
  · simp only [Bool.and_eq_true, decide_eq_true_eq]
    exact ⟨htrained, htime⟩
  · simp only [Bool.and_eq_true, decide_eq_true_eq, and_assoc]
    exact ⟨hmode, htrained, htime⟩
  · obtain ⟨runs, heval⟩ := maskTraceEval_evaluates hen hgo hmode hlast htraces htaken htime
    refine ⟨_, exec_of_runs hruns rfl heval, ?_, ?_, rfl, rfl, rfl⟩
    · rw [setMask_mask]
    · rw [setMask_mask]
      exact hgo

section
variable {s : State} {dt : Nat}

/-! ## Jobs of the codec (R306 to R313) -/

theorem sumac_ite (c : Prop) [Decidable c] (s t : State) : (if c then s else t).sumac = if c then s.sumac else t.sumac :=
  apply_ite _ _ _ _

@[simp] theorem countIf_sumac (c : Ctr) (i : Nat) (b : Bool) : (s.countIf c i b).sumac = s.sumac := by cases b <;> rfl

@[simp] theorem spillNote_sumac (i : Nat) : (s.spillNote i).sumac = s.sumac := by
  simp only [State.spillNote, sumac_ite]
  exact ite_self _

@[simp] theorem pushStream_sumac (i typ flags : Nat) (payload : List Byte) :
    (s.pushStream i typ flags payload).sumac = s.sumac := by
  simp only [State.pushStream, sumac_ite, spillNote_sumac, countIf_sumac]
  exact ite_self _

@[simp] theorem pushData_sumac (i typ flags : Nat) (payload : List Byte) :
    (s.pushData i typ flags payload).sumac = s.sumac := by
  simp only [State.pushData, pushStream_sumac, sumac_ite, setStream_sumac, ite_self]

/-- Nothing of a stream that is not among the waiting jobs passes. -/
theorem marksPass_none {i : Nat} (h : ∀ j ∈ s.sumac.streamJobs, j.1 ≠ i) (fuel : Nat) : State.marksPass i fuel s = s := by
  cases fuel with
  | zero => rfl
  | succ fuel =>
    have hnone : s.sumac.streamJobs.find? (fun j => j.1 = i) = none :=
      List.find?_eq_none.2 fun j hj => by simpa using h j hj
    simp only [State.marksPass, hnone]

/-- The state in which a stream's first job has left the codec and counts. -/
def State.jobLeaves (s : State) (i stored : Nat) : State :=
  ((s.dropJob i).count Ctr.codecStats_streamJobs 0 1).count Ctr.codecStats_storedBlocks 0 stored

theorem jobLeaves_jobs {i ref n stored : Nat} {r : Rec} {jobs : List (Nat × Rec × Nat × Nat × Bool)}
    (h : s.sumac.streamJobs = (i, r, ref, n, false) :: jobs) : (s.jobLeaves i stored).sumac.streamJobs = jobs := by
  show s.sumac.streamJobs.takeWhile (fun j => j.1 ≠ i) ++ (s.sumac.streamJobs.dropWhile (fun j => j.1 ≠ i)).drop 1 = jobs
  simp [h]

theorem streamJobDone_pushes {i ref n : Nat} {r : Rec} {jobs : List (Nat × Rec × Nat × Nat × Bool)}
    (hjobs : s.sumac.streamJobs = (i, r, ref, n, false) :: jobs) (honly : ∀ j ∈ jobs, j.1 ≠ i)
    (hlane : i ∈ s.sumac.laneStreams) :
    streamJobDone dt i s =
      ((((s.elapse dt).jobLeaves i (encodeStream ref (r.payload.drop n)).2).pushData i r.typ r.flags
        (r.payload.take n ++ (encodeStream ref (r.payload.drop n)).1)).setSumac SumacSt.fillLanes) := by
  have hfind : s.sumac.streamJobs.find? (fun j => j.1 = i && s.sumac.laneStreams.contains i) = some (i, r, ref, n, false) := by
    simp [hjobs, hlane]
  simp only [streamJobDone, elapse_sumac, hfind]
  refine congrArg (State.setSumac · SumacSt.fillLanes) (marksPass_none (fun j hj => honly j ?_) _)
  rw [if_neg Bool.false_ne_true, pushData_sumac] at hj
  exact jobLeaves_jobs (s := s.elapse dt) hjobs ▸ hj

/-! ## Jobs of a block of bytes (R307) -/

theorem devWrite_keeps (addr : Nat) (bs : List Byte) :
    (s.devWrite addr bs).sumac = s.sumac ∧ (s.devWrite addr bs).mbox.flights = s.mbox.flights := by
  unfold State.devWrite
  split <;> exact ⟨rfl, rfl⟩

theorem chainWrite_keeps (links : List (Nat × Nat)) (bs : List Byte) :
    (s.chainWrite links bs).sumac = s.sumac ∧ (s.chainWrite links bs).mbox.flights = s.mbox.flights := by
  unfold State.chainWrite
  induction links generalizing s bs with
  | nil => exact ⟨rfl, rfl⟩
  | cons l links ih =>
    obtain ⟨hsumac, hflights⟩ := devWrite_keeps (s := s) l.1 (bs.take l.2)
    exact ⟨(ih _).1.trans hsumac, (ih _).2.trans hflights⟩

@[simp] theorem chainWrite_sumac (links : List (Nat × Nat)) (bs : List Byte) : (s.chainWrite links bs).sumac = s.sumac :=
  (chainWrite_keeps links bs).1

@[simp] theorem chainWrite_flights (links : List (Nat × Nat)) (bs : List Byte) :
    (s.chainWrite links bs).mbox.flights = s.mbox.flights := (chainWrite_keeps links bs).2

@[simp] theorem chainOpen_sumac (links : List (Nat × Nat)) (n : Nat) : (s.chainOpen links n).sumac = s.sumac :=
  chainWrite_sumac (s := s) links (freeBytes n s.free)

@[simp] theorem chainOpen_flights (links : List (Nat × Nat)) (n : Nat) :
    (s.chainOpen links n).mbox.flights = s.mbox.flights := chainWrite_flights (s := s) links (freeBytes n s.free)

/-- The job of a tag has left the codec, and the tag flight. -/
def BlockEnded (s : State) (tag : BitVec 6) (rq : Req) (t : State) : Prop :=
  t.sumac.blockJobs = s.sumac.blockJobs.filter (fun j => j.1.tag ≠ tag)
    ∧ t.mbox.flights = s.mbox.flights.filter (fun f => f.tag != rq.tag)

theorem blockLeaves_jobs (tag : BitVec 6) :
    (s.blockLeaves tag).sumac.blockJobs = s.sumac.blockJobs.filter (fun j => j.1.tag ≠ tag) := rfl

@[simp] theorem blockLeaves_mbox (tag : BitVec 6) : (s.blockLeaves tag).mbox = s.mbox := rfl

theorem blockEnded_complete {v : State} {tag : BitVec 6} (hsumac : v.sumac = ((s.elapse dt).blockLeaves tag).sumac)
    (hflights : v.mbox.flights = s.mbox.flights) (rq : Req) (st : Status) (r : List Byte) :
    BlockEnded s tag rq (v.completeResult rq st r) :=
  ⟨by rw [completeResult_sumac, hsumac, blockLeaves_jobs, elapse_sumac], by rw [completeResult_flights, hflights]⟩

theorem blockEnded_ite {tag : BitVec 6} {rq : Req} {c : Prop} [Decidable c] {t u : State} (ht : BlockEnded s tag rq t)
    (hu : BlockEnded s tag rq u) : BlockEnded s tag rq (if c then t else u) := by
  split
  · exact ht
  · exact hu

section
variable {tag : BitVec 6} {rq : Req} {d input : List Byte}

theorem find_laneBlock (hfind : s.sumac.blockJobs.find? (fun j => j.1.tag = tag) = some (rq, d, input))
    (hlane : tag ∈ s.sumac.laneBlocks) :
    s.sumac.blockJobs.find? (fun j => j.1.tag = tag && s.sumac.laneBlocks.contains tag) = some (rq, d, input) := by
  simpa [hlane] using hfind

theorem compressBlockDone_short (hfind : s.sumac.blockJobs.find? (fun j => j.1.tag = tag) = some (rq, d, input))
    (hlane : tag ∈ s.sumac.laneBlocks) (hshort : chainBytes d < 16) :
    compressBlockDone dt tag s =
      ((((s.elapse dt).blockLeaves tag).count Ctr.codecStats_chainExhausted 0 1).completeResult rq .chainExhausted
        (leBytes 4 (u32At d 0x10) ++ leBytes 4 0)) := by
  simp only [compressBlockDone, elapse_sumac, find_laneBlock hfind hlane]
  exact if_pos (Or.inl hshort)

theorem compressBlockDone_ends (hfind : s.sumac.blockJobs.find? (fun j => j.1.tag = tag) = some (rq, d, input))
    (hlane : tag ∈ s.sumac.laneBlocks) : BlockEnded s tag rq (compressBlockDone dt tag s) := by
  simp only [compressBlockDone, elapse_sumac, find_laneBlock hfind hlane]
  exact blockEnded_ite (blockEnded_complete (dt := dt) (by simp) (by simp) ..)
    (blockEnded_ite (blockEnded_complete (dt := dt) (by simp) (by simp) ..)
      (blockEnded_ite (blockEnded_complete (dt := dt) (by simp) (by simp) ..)
        (blockEnded_complete (dt := dt) (by simp) (by simp) ..)))

end

/-! ## Decompressions (R309, R310) -/

section
variable {j : DecJob} {rest : List DecJob}

theorem decompressDone_job {d : List Byte} (hjobs : s.sumac.decJobs = j :: rest) (huse : j.use = .job d) :
    decompressDone dt s = ((s.elapse dt).setSumac (fun x => { x with decJobs := rest })).decJobDone j.req d j.coded := by
  simp only [decompressDone, elapse_sumac, hjobs, huse]

/-- An image that has been decoded: applied, or refused with the status of its decoding. -/
theorem decompressDone_image (hjobs : s.sumac.decJobs = j :: rest) (huse : ∀ d, j.use ≠ .job d) :
    decompressDone dt s =
      let x := decompress (decLimit j.use) j.coded
      let w := ((s.elapse dt).setSumac (fun x => { x with decJobs := rest })).decCount x.status
      if x.status ≠ .ok then w.complete j.req x.status
      else (w.applyImage j.use x.bytes).2.complete j.req (w.applyImage j.use x.bytes).1 := by
  simp only [decompressDone, elapse_sumac, hjobs]
  cases hu : j.use with
  | job d => exact absurd hu (huse d)
  | zonePack => rfl
  | baselines => rfl
  | mask p => rfl

end

end

/-- Settles O28: the first job on a lane leaves with its outcome; decompressions end in their order. -/
theorem sumacJobsEnd : Obligations.SumacJobsEnd := by
  intro dt i ref n tag r rq d input j rest jobs s hruns u v
  refine ⟨?_, fun hfind hlane hshort => ?_, fun hfind hlane => ?_,
    fun hjobs => ⟨fun e huse => exec_of_runs hruns rfl (decompressDone_job hjobs huse), fun huse => ?_⟩⟩
  · intro hjobs honly hlane out
    exact ⟨u.jobLeaves i out.2, exec_of_runs (f := fun d t => streamJobDone d i t) hruns rfl
      (streamJobDone_pushes hjobs honly hlane), jobLeaves_jobs (s := u) hjobs, rfl⟩
  · exact ⟨(u.blockLeaves tag).count Ctr.codecStats_chainExhausted 0 1,
      exec_of_runs (f := fun d t => compressBlockDone d tag t) hruns rfl (compressBlockDone_short hfind hlane hshort), rfl, rfl⟩
  · exact ⟨_, exec_of_runs (f := fun d t => compressBlockDone d tag t) hruns rfl rfl, compressBlockDone_ends hfind hlane⟩
  · exact ⟨fun hbad => exec_of_runs hruns rfl ((decompressDone_image hjobs huse).trans (if_pos hbad)),
      fun hok => exec_of_runs hruns rfl ((decompressDone_image hjobs huse).trans (if_neg (not_not_intro hok)))⟩

end Sys2Proof.Machine

/-! # Calibration -/

namespace Sys2Proof.Machine

section
variable {s : State} {dt : Nat}

/-! ## The automatic check (R419) -/

/-- Counts of checks that begin again stand with the ports of the calibration. -/
theorem checksBegin_eq (ps : List Port) : ∃ v, s.checksBegin ps = s.setCal (fun c => { c with ports := v }) := by
  unfold State.checksBegin forPorts
  induction ps generalizing s with
  | nil => exact ⟨s.cal.ports, rfl⟩
  | cons p ps ih =>
    obtain ⟨v, h⟩ := ih (s := s.setCalPort p (fun c => { c with dieOver := 0, caseOver := 0 }))
    exact ⟨v, h⟩

theorem portMask_none {f : Port → Bool} (h : ∀ p, f p = false) : portMask f = 0 := by
  have hf : f = fun _ => false := funext h
  rw [hf]
  decide

/-- The state of an automatic check that has noted its time and its reference, before the ports are looked at. -/
def State.checkNoted (s : State) : State :=
  s.setCal (fun c =>
    { c with dieRef := (match c.dieRef with | some r => some r | none => s.dieReading), lastCheck := some s.clk })

/-- With no port enabled an automatic check notes its time and begins every port's counts again. -/
theorem calAutoCheck_notes (hauto : s.flag Fld.calCfg_autoEn 0 = true) (hmode : s.power.mode = .active)
    (hen : s.anyEnabled = false) (htime : ∀ t, s.cal.lastCheck = some t → t + 1000000000 ≤ s.clk + dt) :
    calAutoCheck dt s = (s.elapse dt).checkNoted.checksBegin (allPorts.filter (fun p => !portEnabled (s.port p).seq)) := by
  have hdue : ¬ (((s.elapse dt).power.mode ≠ .active
      || (s.elapse dt).cal.lastCheck.any (fun t => decide ((s.elapse dt).clk < t + secNs))) = true) := by
    simp only [elapse_power, hmode, ne_eq, not_true_eq_false, decide_false, Bool.false_or, Option.any_eq_true, not_exists,
      not_and, decide_eq_true_eq, Nat.not_lt]
    exact htime
  have hport (p : Port) : portEnabled (s.port p).seq = false := by
    simpa using List.any_eq_false.1 hen p (List.mem_finRange p)
  have henabled : allPorts.filter (fun p => portEnabled (s.port p).seq) = [] :=
    List.filter_eq_nil_iff.2 fun p _ => by simp [hport p]
  obtain ⟨v, hchecks⟩ := checksBegin_eq (s := (s.elapse dt).checkNoted) (allPorts.filter (fun p => !portEnabled (s.port p).seq))
  have hports (p : Port) : portEnabled (((s.elapse dt).checkNoted.checksBegin
      (allPorts.filter (fun p => !portEnabled (s.port p).seq))).port p).seq = false := by
    rw [hchecks]
    exact hport p
  refine (if_neg hdue).trans ((if_neg ?_).trans ?_)
  · rw [elapse_flag, hauto]
    decide
  · simp only [elapse_port, henabled, List.foldl_nil]
    refine if_neg fun ⟨_, hhot, _⟩ => hhot (portMask_none fun p => ?_)
    exact Bool.and_eq_false_iff.2 (Or.inl (Bool.and_eq_false_iff.2 (Or.inl (hports p))))

/-! ## The ends of steps (R412, R413) -/

section
variable {r : CalRun} {n : CalNow} {m : CalMeasure}

/-- What the measurements of a step with ports to serve do, once it has lasted and they are whole. -/
def State.stepMeasured (s : State) (r : CalRun) (n : CalNow) : CalMeasure → State
  | .noRefin => (s.refOutcome r.ports .notPossible).refFree false
  | .ref uv ga gb ms =>
    match s.refResult uv ga gb ms with
    | some x => ((s.refFree true).setRun (fun y => { y with results := y.results ++ [x] })).refOutcome r.ports .done
    | none => (s.refFree true).refOutcome r.ports .limits
  | .skew echo slots pols conn =>
    (maskPorts n.ports).foldl (fun t p => (t.portStepEnds .skew p (s.skewResult p echo slots pols conn)).skewStops p) s
  | .conv ms =>
    (maskPorts n.ports).foldl (fun t p => t.portStepEnds .conv p ((ms.find? (fun x => x.port = p)).bind convResult)) s
  | .raman ms =>
    (maskPorts n.ports).foldl (fun t p => t.portStepEnds .raman p ((ms.find? (fun x => x.port = p)).bind s.ramanResult)) s

theorem calStepEnd_ends (hrun : (s.elapse dt).refHoldsEnd.cal.run = some r) (hnow : r.now = some n) (hports : n.ports ≠ 0)
    (hlasted : (s.elapse dt).refHoldsEnd.stepLasted n = true) (hwhole : measureWhole n m = true) :
    calStepEnd dt m s = State.nextStep 12 ((s.elapse dt).refHoldsEnd.stepMeasured r n m) := by
  simp only [calStepEnd, hrun, hnow]
  refine (if_neg fun h => hports h.1).trans ((if_neg (by rw [hlasted, hwhole]; decide)).trans ?_)
  cases m with
  | ref uv ga gb ms =>
    unfold State.stepMeasured
    cases h : (s.elapse dt).refHoldsEnd.refResult uv ga gb ms <;> simp only [h]
  | noRefin => rfl
  | skew echo slots pols conn => rfl
  | conv ms => rfl
  | raman ms => rfl

theorem calStepEnd_goes_on (hrun : (s.elapse dt).refHoldsEnd.cal.run = some r) (hnow : r.now = some n) (hports : n.ports ≠ 0)
    (hopen : (s.elapse dt).refHoldsEnd.stepLasted n = false ∨ measureWhole n m = false) :
    calStepEnd dt m s = (s.elapse dt).refHoldsEnd := by
  simp only [calStepEnd, hrun, hnow]
  refine (if_neg fun h => hports h.1).trans (if_pos ?_)
  rcases hopen with h | h
  · rw [h]; rfl
  · rw [h]; exact Bool.or_true _

/-! ## The end of a run (R414) -/

theorem calRunEnd_ends (hrun : s.cal.run = some r) (hnow : r.now = none) (htodo : r.todo = []) :
    calRunEnd dt s =
      match r.req with
      | some rq =>
        ((r.results.foldl (fun t x => t.applyResult x) (s.elapse dt)).runOver r).completeWith rq .ok noFlags [] (runReport r)
      | none => (r.results.foldl (fun t x => t.applyResult x) (s.elapse dt)).runOver r := by
  simp only [calRunEnd, elapse_cal, hrun, hnow, htodo]
  rfl

end

end

/-- Settles O38: each row by the branch that its premises choose, the end of a step by its measurements. -/
theorem calibrationEvents : Obligations.CalibrationEvents := by
  intro dt ga gb echo conn uv slots pols ms cs rs r n rq s hruns b u go ends
  have hend (m : CalMeasure) (st : CalStep) (h : ends m st) :
      exec (.calStepEnd dt m) s = .next (go (u.stepMeasured r n m)) := by
    obtain ⟨hrun, hnow, -, hports, hlasted, hwhole⟩ := h
    exact exec_of_runs (f := fun d t => calStepEnd d m t) hruns rfl (calStepEnd_ends hrun hnow hports hlasted hwhole)
  refine ⟨fun hauto hmode hen hrun htime => ?_, fun h => ⟨fun y hy => (hend _ _ h).trans ?_, fun hy => (hend _ _ h).trans ?_⟩,
    hend _ _, fun m hrun hnow hports hopen => exec_of_runs (f := fun d t => calStepEnd d m t) hruns rfl
      (calStepEnd_goes_on hrun hnow hports hopen), hend _ _, hend _ _, hend _ _, fun hrun hnow htodo => ?_⟩
  · obtain ⟨v, hchecks⟩ := checksBegin_eq (s := b.checkNoted) (allPorts.filter (fun p => !portEnabled (s.port p).seq))
    exact ⟨_, exec_of_runs hruns rfl ((calAutoCheck_notes hauto hmode hen htime).trans hchecks), hrun, rfl, rfl, rfl⟩
  · simp only [State.stepMeasured, hy]
  · simp only [State.stepMeasured, hy]
  · have hdone := calRunEnd_ends (dt := dt) hrun hnow htodo
    refine ⟨fun hreq => exec_of_runs (f := fun d t => (calRunEnd d t).firstRuns) hruns rfl (congrArg State.firstRuns ?_),
      fun hreq => exec_of_runs (f := fun d t => (calRunEnd d t).firstRuns) hruns rfl (congrArg State.firstRuns ?_)⟩
    · rw [hdone, hreq]
    · rw [hdone, hreq]

end Sys2Proof.Machine

/-! # Resets by their causes -/

namespace Sys2Proof.Machine

/-- A reset that is the first to hold the device: what it leaves of a state. -/
def ResetDone (s : State) (hold : ResetHold) (cause : StartCause) (rail : Option Rail) (t : State) : Prop :=
  t.start.holds = [hold] ∧ t.start.nextCause = cause ∧ t.start.nextRail = rail ∧ t.start.boot = .reset
    ∧ t.ports = State.reset.ports ∧ t.mbox = State.reset.mbox ∧ t.pend = [] ∧ t.held = [] ∧ t.link = State.reset.link
    ∧ t.tb = 0 ∧ (s.start.flashWrite = none → t.flash = s.flash) ∧ t.banks = s.banks ∧ t.life.state = s.life.state
    ∧ t.life.otpMap = s.life.otpMap ∧ t.pending = s.pending

section
variable {s : State} {dt : Nat}

/-- A write that a reset cuts short changes the flash alone, and nothing where there was none. -/
theorem cutWrite_eq : ∃ f, s.cutWrite = { s with flash := f } ∧ (s.start.flashWrite = none → f = s.flash) := by
  unfold State.cutWrite
  split
  next hwrite =>
    refine ⟨(s.eraseSlot).flash, ?_, fun hnone => by simp [hnone] at hwrite⟩
    unfold State.eraseSlot
    split <;> rfl
  next => exact ⟨s.flash, rfl, fun _ => rfl⟩

theorem assertReset_first (hfirst : s.start.holds = []) (hold : ResetHold) (cause : StartCause) (rail : Option Rail) :
    ResetDone s hold cause rail (s.assertReset hold cause rail) := by
  obtain ⟨f, hcut, hflash⟩ := cutWrite_eq (s := s)
  simp only [State.assertReset, hcut, hfirst, decide_true, if_true]
  refine ⟨?_, rfl, rfl, rfl, rfl, rfl, rfl, rfl, rfl, rfl, hflash, rfl, rfl, rfl, rfl⟩
  show (if s.start.holds.contains hold = true then s.start.holds else s.start.holds ++ [hold]) = [hold]
  rw [hfirst]
  rfl

/-- A further hold joins those there are, and the cause stays. -/
theorem assertReset_joins {hold : ResetHold} (hheld : s.start.holds ≠ []) (hnew : s.start.holds.contains hold = false)
    (cause : StartCause) (rail : Option Rail) :
    (s.assertReset hold cause rail).start.holds = s.start.holds ++ [hold]
      ∧ (s.assertReset hold cause rail).start.nextCause = s.start.nextCause
      ∧ (s.assertReset hold cause rail).start.nextRail = s.start.nextRail := by
  obtain ⟨f, hcut, -⟩ := cutWrite_eq (s := s)
  simp only [State.assertReset, hcut, decide_eq_false hheld, Bool.false_eq_true, if_false]
  exact ⟨if_neg (by rw [hnew]; decide), rfl, rfl⟩

/-! ## Each cause (R43, R466, R468, R472, R473) -/

theorem resetAssert_asserts (hfirst : s.start.holds = []) (hmode : s.power.mode ≠ .off) :
    resetAssert dt s = (s.elapse dt).assertReset .pin .resetPin none := by
  refine if_pos ?_
  rw [Bool.and_eq_true]
  exact ⟨decide_eq_true hmode, by rw [elapse_start, hfirst]; rfl⟩

theorem supplyTrip_asserts {rail : Rail} (hheld : s.start.holds.contains .supply = false)
    (hmode : s.power.mode = .active ∨ s.power.mode = .standby ∨ s.power.mode = .entering) :
    supplyTrip dt rail s =
      ((s.elapse dt).setStart (fun t => { t with tripAt := s.clk + dt })).assertReset .supply .supply (some rail) := by
  have hretain : (s.elapse dt).power.mode ≠ .retain := by
    rw [elapse_power]
    rcases hmode with h | h | h <;> rw [h] <;> decide
  have hsup : (s.elapse dt).supervised = true := by
    rcases hmode with h | h | h <;> simp only [State.supervised, elapse_power, h]
  refine (if_neg hretain).trans ((if_neg (by rw [hsup]; decide)).trans (if_neg ?_))
  rw [elapse_start, hheld]
  decide

theorem deviceResetTrigger_asserts (hmode : s.power.mode ≠ .off) (hpend : s.start.resetPending ≠ none) :
    deviceResetTrigger dt s = (s.elapse dt).assertReset .internal .deviceReset none := by
  refine if_pos ?_
  rw [Bool.and_eq_true]
  exact ⟨decide_eq_true hmode, Option.isSome_iff_ne_none.2 hpend⟩

theorem watched_of_runs (hruns : s.runs = true) : s.watched = true := by
  simp only [State.runs, Bool.and_eq_true, decide_eq_true_eq] at hruns
  obtain ⟨⟨⟨⟨hboot, -⟩, hdown⟩, htest⟩, hmode⟩ := hruns
  have hpower : s.power.mode ≠ .off := fun h => by simp [h] at hmode
  simp only [State.watched, State.powered, hboot, hdown, htest, decide_eq_true hpower, Bool.and_self]

theorem watchdogExpiry_asserts (hruns : s.runs = true) :
    watchdogExpiry dt s = (s.elapse dt).assertReset .internal .watchdog none :=
  if_pos (watched_of_runs (s := s.elapse dt) hruns)

theorem dueAgain_of {last : Option Nat} {ns now : Nat} (h : ∀ n, last = some n → n + ns ≤ now) : dueAgain last ns now = true := by
  cases last with
  | none => rfl
  | some n => exact decide_eq_true (h n rfl)

theorem not_dueAgain_of {last : Option Nat} {ns now : Nat} (h : ∃ n, last = some n ∧ now < n + ns) :
    dueAgain last ns now = false := by
  obtain ⟨n, rfl, hlt⟩ := h
  exact decide_eq_false (Nat.not_le.2 hlt)

theorem dieTempSample_asserts {temp : Int} (hfirst : s.start.holds = []) (hmode : s.power.mode = .active)
    (hhot : 1250 < temp) (hdue : ∀ n, s.start.dieAt = some n → n + 1000000 ≤ s.clk + dt) :
    dieTempSample dt temp s =
      ((s.elapse dt).setStart (fun x => { x with dieAt := some (s.clk + dt) })).assertReset .thermal .thermal none := by
  have hdue' : dueAgain (s.elapse dt).start.dieAt msNs (s.elapse dt).clk = true := dueAgain_of hdue
  have hmode' : ((s.elapse dt).setStart (fun x => { x with dieAt := some (s.elapse dt).clk })).power.mode = .active := hmode
  simp only [dieTempSample, hmode', hdue']
  refine (if_neg (by decide)).trans (if_pos ⟨hhot, ?_⟩)
  show (!s.start.holds.contains .thermal) = true
  rw [hfirst]
  rfl

end

/-- Settles O39: each row asserts its reset, and the first one leaves the state of a reset. -/
theorem resetCauses : Obligations.ResetCauses := by
  intro dt rail s u reset
  have hasserts {i : Instr} {v : State} (hold : ResetHold) (cause : StartCause) (r : Option Rail) (hv : v.start.holds = [])
      (hi : exec i s = .next (v.assertReset hold cause r)) (hsame : ∀ t, ResetDone v hold cause r t → ResetDone s hold cause r t) :
      reset i hold cause r := ⟨_, hi, hsame _ (assertReset_first hv hold cause r)⟩
  refine ⟨fun hfirst => ⟨fun hmode => ?_, fun hmode => ?_, fun hmode hpend => ?_, fun hruns => ?_, fun hmode temp hhot hdue => ?_⟩,
    fun hheld hmode => ?_, fun htime => congrArg Host.Outcome.next (if_neg (Nat.not_lt.2 htime)), fun htime => congrArg Host.Outcome.next (if_pos htime)⟩
  · exact hasserts (v := u) _ _ _ hfirst (congrArg Host.Outcome.next (resetAssert_asserts hfirst hmode)) fun _ h => h
  · exact hasserts (v := u.setStart (fun t => { t with tripAt := s.clk + dt })) _ _ _ hfirst
      (congrArg Host.Outcome.next (supplyTrip_asserts (by rw [hfirst]; rfl) hmode)) fun _ h => h
  · exact hasserts (v := u) _ _ _ hfirst (congrArg Host.Outcome.next (deviceResetTrigger_asserts hmode hpend)) fun _ h => h
  · exact hasserts (v := u) _ _ _ hfirst (congrArg Host.Outcome.next (watchdogExpiry_asserts hruns)) fun _ h => h
  · exact hasserts (v := u.setStart (fun x => { x with dieAt := some (s.clk + dt) })) _ _ _ hfirst
      (congrArg Host.Outcome.next (dieTempSample_asserts hfirst hmode hhot hdue)) fun _ h => h
  · let v := u.setStart (fun t => { t with tripAt := s.clk + dt })
    have hjoins := assertReset_joins (s := v) (hold := .supply) (by show s.start.holds ≠ []; rw [hheld]; decide)
      (by show s.start.holds.contains .supply = false; rw [hheld]; rfl) .supply (some rail)
    refine ⟨_, congrArg Host.Outcome.next (supplyTrip_asserts (by rw [hheld]; rfl) (Or.inl hmode)), ?_, hjoins.2⟩
    rw [hjoins.1, show v.start.holds = [.pin] from hheld]
    rfl

end Sys2Proof.Machine

/-! # What leaves the start of the machine as it is -/

namespace Sys2Proof.Machine

@[simp] theorem start_ite (c : Prop) [Decidable c] (s t : State) :
    (if c then s else t).start = if c then s.start else t.start :=
  apply_ite _ _ _ _

@[simp] theorem start_foldl {α : Type} (g : State → α → State) (l : List α) (s : State)
    (hg : ∀ t a, (g t a).start = t.start) :
    (l.foldl g s).start = s.start := by
  induction l generalizing s with
  | nil => rfl
  | cons a l ih => exact (ih _).trans (hg s a)

@[simp] theorem countIf_start (s : State) (c : Ctr) (i : Nat) (b : Bool) :
    (s.countIf c i b).start = s.start := by cases b <;> rfl

@[simp] theorem memAccess_start (s : State) : s.memAccess.start = s.start := by
  unfold State.memAccess
  simp

@[simp] theorem spillNote_start (s : State) (i : Nat) : (s.spillNote i).start = s.start := by
  unfold State.spillNote
  simp

@[simp] theorem pushStream_start (s : State) (i typ flags : Nat) (payload : List Byte) :
    (s.pushStream i typ flags payload).start = s.start := by
  unfold State.pushStream
  simp

@[simp] theorem placeMark_start (s : State) (i typ : Nat) (payload : List Byte) :
    (s.placeMark i typ payload).start = s.start := by
  unfold State.placeMark
  simp

@[simp] theorem pushMark_start (s : State) (i typ : Nat) (payload : List Byte) :
    (s.pushMark i typ payload).start = s.start := by
  unfold State.pushMark
  simp

@[simp] theorem ringStop_start (s : State) (p : Port) (k : RingKind) : (s.ringStop p k).start = s.start := by
  unfold State.ringStop
  simp

@[simp] theorem cutParts_start (s : State) (p : Port) (k : RingKind) : (s.cutParts p k).start = s.start := by
  unfold State.cutParts
  simp

@[simp] theorem pushRing_start (s : State) (p : Port) (k : RingKind) (typ : Nat) (payload : List Byte) (t0 t1 : Nat) :
    (s.pushRing p k typ payload t0 t1).start = s.start := by
  unfold State.pushRing
  dsimp only
  (repeat' split) <;> simp

@[simp] theorem ringResume_start (s : State) (p : Port) (k : RingKind) : (s.ringResume p k).start = s.start := by
  unfold State.ringResume
  dsimp only
  (repeat' split) <;> simp

@[simp] theorem freeSnap_start (s : State) (id : Nat) : (s.freeSnap id).start = s.start := by
  unfold State.freeSnap
  simp

@[simp] theorem discardSnap_start (s : State) (g : GroupId) (id : Nat) : (s.discardSnap g id).start = s.start := by
  unfold State.discardSnap
  simp

@[simp] theorem snapRetract_start (s : State) (g : GroupId) (eventId : Nat) : (s.snapRetract g eventId).start = s.start := by
  unfold State.snapRetract
  (repeat' split) <;> simp

@[simp] theorem loopClear_start (s : State) (n : Fin 8) (cause : Nat) : (s.loopClear n cause).start = s.start := by
  unfold State.loopClear
  simp

@[simp] theorem loopUnjudge_start (s : State) (n : Fin 8) : (s.loopUnjudge n).start = s.start := by
  unfold State.loopUnjudge
  simp

@[simp] theorem loopEval_start (n : Fin 8) (s : State) : (State.loopEval n s).start = s.start := by
  unfold State.loopEval
  simp

@[simp] theorem alarmEval_start (n : Fin 8) (s : State) : (State.alarmEval n s).start = s.start := by
  unfold State.alarmEval
  simp

@[simp] theorem outputsEval_start (s : State) : s.outputsEval.start = s.start := by
  unfold State.outputsEval
  simp

@[simp] theorem toClass_start (s : State) (cls typ : Nat) (payload : List Byte) :
    (s.toClass cls typ payload).start = s.start := by
  unfold State.toClass
  simp

@[simp] theorem toQuery_start (s : State) (r : List Byte) : (s.toQuery r).start = s.start := by
  unfold State.toQuery
  simp

@[simp] theorem emitRecord_start (s : State) (z : ZoneId) (kind : EventKind) (flags cause : Nat) :
    (s.emitRecord z kind flags cause).start = s.start := by
  unfold State.emitRecord
  simp

@[simp] theorem sendSummary_start (s : State) (g : GroupId) (periodic : Bool) : (s.sendSummary g periodic).start = s.start := by
  unfold State.sendSummary
  simp

@[simp] theorem groupEval_start (g : GroupId) (s : State) : (State.groupEval g s).start = s.start := by
  unfold State.groupEval
  simp

@[simp] theorem groupsEval_start (s : State) (gs : List GroupId) : (s.groupsEval gs).start = s.start := by
  unfold State.groupsEval
  simp

@[simp] theorem zoneCarry_start (s : State) (z : ZoneId) (refHeld : Bool) : (s.zoneCarry z refHeld).start = s.start := by
  unfold State.zoneCarry
  simp

@[simp] theorem snapsRetract_start (s : State) (eventId : Nat) : (s.snapsRetract eventId).start = s.start := by
  unfold State.snapsRetract
  simp

@[simp] theorem zoneClose_start (z : ZoneId) (cause : Nat) (dest : ZoneMode) (s0 : State) :
    (State.zoneClose z cause dest s0).start = s0.start := by
  unfold State.zoneClose
  dsimp only
  split <;> simp

@[simp] theorem detectionOff_start (s : State) : s.detectionOff.start = s.start := by
  unfold State.detectionOff
  simp

@[simp] theorem zonesLost_start (s : State) : s.zonesLost.start = s.start := by
  unfold State.zonesLost
  simp

@[simp] theorem dropPartial_start (s : State) (i : Nat) : (s.dropPartial i).start = s.start := by
  unfold State.dropPartial
  dsimp only
  (repeat' split) <;> simp

@[simp] theorem eventToQueue_start (s : State) (e : EventRec) : (s.eventToQueue e).start = s.start := by
  obtain ⟨m, st, h⟩ := eventToQueue_mail s e
  rw [h]

@[simp] theorem reroute_start (s : State) (m : List Byte) : (s.reroute m).start = s.start := by
  unfold State.reroute
  dsimp only
  (repeat' split) <;> simp [State.cqPush]

@[simp] theorem loopSent_start (s : State) : s.loopSent.start = s.start := by
  unfold State.loopSent
  (repeat' split) <;> simp

@[simp] theorem loopReturns_start (s : State) : s.loopReturns.start = s.start := by
  unfold State.loopReturns
  (repeat' split) <;> simp

@[simp] theorem linkLeaves_start (s : State) (dest : LinkStage) : (s.linkLeaves dest).start = s.start := by
  unfold State.linkLeaves
  simp

@[simp] theorem bringUp_start (s : State) (fromDown : Bool) : (s.bringUp fromDown).start = s.start := by
  unfold State.bringUp
  simp

end Sys2Proof.Machine

/-! # The cold start, the check of an image, and firmware up -/

namespace Sys2Proof.Machine

section
variable {s : State} {dt : Nat}

/-- Without VAON no bank has a mode. -/
theorem vaonLoss_bankUp (b : IoBank) : (vaonLoss dt s).bankUp b = false := by
  have hbank : (vaonLoss dt s).banks[bankIx b] = .absent := Vector.getElem_replicate (bankIx b).isLt
  simp only [State.bankUp, hbank]

/-! ## The boot ROM (R469, R471) -/

/-- The tests of a cold start that finds nothing in its way end at the choice of an image to load. -/
structure StartsClean (s : State) : Prop where
  boot : s.start.boot = .reset
  shutDown : s.life.shutDown = false
  mode : s.power.mode = .active
  rails : s.power.railsOut = []
  alive : s.life.state ≠ .retired
  whole : s.life.unrepaired = []
  cause : s.start.nextCause = .powerOn

theorem filtersBegin_frame (p : Port) : ∃ v, s.filtersBegin p = { s with ports := v } := ⟨_, rfl⟩

theorem headFilters_frame : ∃ v, s.headFilters = { s with ports := v } := by
  unfold State.headFilters forPorts
  generalize allPorts.filter s.bankOk = ps
  induction ps generalizing s with
  | nil => exact ⟨s.ports, rfl⟩
  | cons p ps ih =>
    obtain ⟨v, h⟩ := ih (s := s.filtersBegin p)
    exact ⟨v, h⟩

@[simp] theorem headFilters_life : s.headFilters.life = s.life := by
  obtain ⟨v, h⟩ := headFilters_frame (s := s)
  rw [h]

@[simp] theorem headFilters_start : s.headFilters.start = s.start := by
  obtain ⟨v, h⟩ := headFilters_frame (s := s)
  rw [h]

@[simp] theorem headFilters_mbox : s.headFilters.mbox = s.mbox := by
  obtain ⟨v, h⟩ := headFilters_frame (s := s)
  rw [h]

@[simp] theorem headFilters_power : s.headFilters.power = s.power := by
  obtain ⟨v, h⟩ := headFilters_frame (s := s)
  rw [h]

/-- What the boot ROM has written of the start of the machine when it chooses an image. -/
def StartSt.cold (t : StartSt) (src : BootSrc) (now : Nat) : StartSt :=
  { t with holds := [], bootSrc := src, bootErr := 0, cause := .powerOn, rail := t.nextRail,
           starts := (t.starts + 1) % 4294967296, startMs := 0, calMs := 0, releasedAt := now, readyAt := none,
           nextCause := .powerOn, nextRail := none,
           wdogStarts := t.wdogStarts.filter (fun x => now < x + 600 * secNs) }

/-- A cold start from power-on reaches the choice of an image, with nothing in the mailbox changed. -/
theorem coldStart_loads (src : BootSrc) (h : StartsClean s) (hholds : s.start.holds = []) :
    ∃ v : State, coldStart dt src true s = v.bootLoad ∧ v.start = s.start.cold (if s.bankUp .cb then src else .flash) (s.clk + dt)
      ∧ v.life.failures = 0 ∧ v.mbox = s.mbox := by
  obtain ⟨hboot, hdown, hmode, hrails, halive, hwhole, hcause⟩ := h
  refine ⟨_, (if_neg ?_).trans ((if_neg ?_).trans ((if_neg ?_).trans (if_neg ?_))), ?_, ?_, ?_⟩
  · simp only [elapse_start, hboot, hholds, hrails, elapse_power, hmode]
    simp [hdown]
  · simp only [State.refBegins, setTime_life, headFilters_life, setPower_life]
    show ¬ (if s.life.state = .service then LifeCycle.deployed else s.life.state) = .retired
    split
    · decide
    · exact halive
  · simp only [State.memoryBad, State.refBegins, setTime_life, headFilters_life, setPower_life]
    show ¬ ((s.life.unrepaired.filter (fun u : Nat × Nat => u.1 ≠ 8) ++ []).any _ = true)
    rw [hwhole]
    simp
  · simp only [State.refBegins, setTime_start, headFilters_start, setPower_start]
    show ¬ (_ ∧ s.start.nextCause = .watchdog)
    rw [hcause]
    simp
  · simp only [State.refBegins, setTime_start, headFilters_start, setPower_start]
    show StartSt.mk .. = StartSt.mk ..
    simp only [elapse_start, hcause, reduceCtorEq, if_false, List.append_nil]
    rfl
  · simp only [State.refBegins, setTime_life, headFilters_life, setPower_life]
    rfl
  · simp only [State.refBegins, setTime_mbox, headFilters_mbox, setPower_mbox]
    rfl

/-- A hold that has not been released keeps the boot ROM from its start. -/
theorem coldStart_held (src : BootSrc) (good : Bool) (hholds : s.start.holds = [.supply]) :
    coldStart dt src good s = s.elapse dt := by
  refine if_pos (Or.inr (Or.inr (Or.inr (Or.inl ?_))))
  rw [elapse_start, hholds]
  rfl

theorem bootLoad_flash (hsrc : s.start.bootSrc = .flash) :
    s.bootLoad = s.setStart (fun t => { t with boot := .loading, load := .flash }) := by
  simp only [State.bootLoad, hsrc]

theorem bootLoad_host (hsrc : s.start.bootSrc = .host) : s.bootLoad = s.waitHost 0 := by
  simp only [State.bootLoad, hsrc]

/-- Waiting for the host after a cause that is not fatal sets BOOT_DONE alone. -/
theorem waitHost_plain (hcause : fatalCause s.start.cause = false) :
    s.waitHost 0 = (s.setStart (fun t => { t with boot := .waitHost, bootErr := 0, load := .none })).setIrq irqBootDone := by
  refine if_neg ?_
  show ¬ (((decide (s.power.mode ≠ .waking) && fatalCause s.start.cause) || decide (0 = 8) || decide (0 = 9)) = true)
  rw [hcause, Bool.and_false]
  simp

/-! ## The check of an image (R368 to R370) -/

/-- The boot ROM looks for an image in flash. -/
theorem bootImageChecked_flash (hload : s.start.load = .flash) (hbank : s.bankUp .cb = true) :
    (∀ i, (s.elapse dt).flashCheck true = .good i → bootImageChecked dt true s = (s.elapse dt).imageStarts i)
      ∧ (∀ e st, (s.elapse dt).flashCheck true = .error e st → bootImageChecked dt true s = (s.elapse dt).waitHost e) := by
  have hbank' : (s.elapse dt).bankUp .cb = true := hbank
  refine ⟨fun i himage => ?_, fun e st himage => ?_⟩
  · simp only [bootImageChecked, elapse_start, hload, hbank', Bool.and_self, himage]
  · simp only [bootImageChecked, elapse_start, hload, hbank', Bool.and_self, himage]

/-- The boot ROM checks an image that the host has staged. -/
theorem bootImageChecked_download {rq : Req} {n : Nat} (hload : s.start.load = .download rq n) (hhead : 128 ≤ n)
    (hlen : n = imageBytes ((s.elapse dt).staged 0 n)) :
    (∀ i, imageCheck s.life.state s.life.keyHash n none ((s.elapse dt).staged 0 n) = .good i →
        bootImageChecked dt true s = ((s.elapse dt).complete rq .ok).imageStarts i)
      ∧ (∀ e st, imageCheck s.life.state s.life.keyHash n none ((s.elapse dt).staged 0 n) = .error e st →
        bootImageChecked dt true s =
          ((s.elapse dt).setStart (fun t => { t with load := .none, bootErr := e })).complete rq st) := by
  have hfits : ¬ (n < 128 ∨ n ≠ imageBytes ((s.elapse dt).staged 0 n)) :=
    not_or.2 ⟨Nat.not_lt.2 hhead, not_not_intro hlen⟩
  refine ⟨fun i himage => ?_, fun e st himage => ?_⟩
  · simp only [bootImageChecked, elapse_start, elapse_life, hload, if_neg hfits, himage]
  · simp only [bootImageChecked, elapse_start, elapse_life, hload, if_neg hfits, himage]

/-! ## Firmware is up (R469, R471) -/

@[simp] theorem enginesUp_start (g : EngineId → EngineMode) : (s.enginesUp g).start = s.start :=
  setClove_start ..

@[simp] theorem roleChanged_start : s.roleChanged.start = s.start := rfl

@[simp] theorem setIrq_start (bits : BitVec 7) : (s.setIrq bits).start = s.start := rfl

@[simp] theorem firmwareUp_start : s.firmwareUp.start = { s.start with boot := .ready } := by
  unfold State.firmwareUp
  simp

@[simp] theorem fatalNow_start : s.fatalNow.start = s.start := by
  unfold State.fatalNow
  split <;> rfl

theorem brownoutEvents_none (h : s.start.cause ≠ .brownout) : s.brownoutEvents = s := if_neg h

/-- READY on a device that no wake began. -/
theorem fwInitDone_ready (good : Byte) (tj : Int) (hboot : s.start.boot = .fwInit) (hmode : s.power.mode = .active) :
    fwInitDone dt good tj s =
      let ms := divRound (s.clk + dt - s.start.releasedAt) msNs
      let w := if s.start.cause = .brownout then (List.range 7).foldl (fun t b => t.loseBank b) (s.elapse dt) else s.elapse dt
      (((w.firmwareUp.fatalNow.setStart (fun t => { t with readyAt := some (s.clk + dt), startMs := ms })).event evStart
        noUnit noUnit [causeCode s.start.cause, ms])).brownoutEvents := by
  refine (if_neg (not_not_intro hboot)).trans ?_
  simp only [elapse_power, hmode]
  rfl

end

/-- Settles O40: each row by the branch that its premises choose; a start from power-on by the choice of its image. -/
theorem coldStartEvents : Obligations.ColdStart := by
  intro dt n src good tj i rq e st s u
  refine ⟨fun hmode => ⟨_, congrArg Host.Outcome.next (if_pos hmode), rfl, rfl, rfl⟩,
    ⟨_, rfl, rfl, rfl, rfl, rfl, fun b => ?_, rfl, rfl, rfl, rfl⟩,
    fun hboot hdown hmode hholds hrails halive hwhole hcause => ⟨?_, fun hbank => ?_⟩,
    fun _ _ _ hholds => congrArg Host.Outcome.next (coldStart_held src true hholds),
    fun hload hbank => ⟨fun himage => congrArg Host.Outcome.next ((bootImageChecked_flash hload hbank).1 i himage),
      fun himage => congrArg Host.Outcome.next ((bootImageChecked_flash hload hbank).2 e st himage)⟩,
    fun hload hhead hlen => ⟨fun himage => congrArg Host.Outcome.next ((bootImageChecked_download hload hhead hlen).1 i himage),
      fun himage => congrArg Host.Outcome.next ((bootImageChecked_download hload hhead hlen).2 e st himage)⟩,
    fun hboot hmode => ?_⟩
  · exact vaonLoss_bankUp b
  · obtain ⟨v, hv, hstart, hlife, -⟩ := coldStart_loads (dt := dt) .flash
      ⟨hboot, hdown, hmode, hrails, halive, hwhole, hcause⟩ hholds
    rw [ite_self] at hstart
    refine ⟨_, congrArg Host.Outcome.next (hv.trans (bootLoad_flash (by rw [hstart]; rfl))), rfl, rfl, ?_, ?_, ?_, ?_, hlife⟩
    all_goals rw [setStart_start, hstart]; rfl
  · obtain ⟨v, hv, hstart, -, hmbox⟩ := coldStart_loads (dt := dt) .host
      ⟨hboot, hdown, hmode, hrails, halive, hwhole, hcause⟩ hholds
    rw [if_pos hbank] at hstart
    have hwait : v.bootLoad = _ :=
      (bootLoad_host (by rw [hstart]; rfl)).trans (waitHost_plain (by rw [hstart]; rfl))
    exact ⟨_, congrArg Host.Outcome.next (hv.trans hwait), rfl, rfl, congrArg (fun m : MboxSt => m.irq ||| irqBootDone) hmbox⟩
  · intro ms w v
    have hready : exec (.fwInitDone dt good tj) s = .next v.brownoutEvents :=
      congrArg Host.Outcome.next (fwInitDone_ready good tj hboot hmode)
    refine ⟨hready, fun hcause => ?_⟩
    refine hready.trans (congrArg Host.Outcome.next (brownoutEvents_none ?_))
    simp only [v, event_start, setStart_start, fatalNow_start, firmwareUp_start, w, if_neg hcause]
    exact hcause

end Sys2Proof.Machine

/-! # Supplies of the banks, die, crystal, and the boot flash -/

namespace Sys2Proof.Machine

section
variable {s : State} {dt : Nat}

/-! ## Banks (R37, R38) -/

theorem setBank_bankUp (b : IoBank) (m : BankMode) : (s.setBank b m).bankUp b = decide (m = .v18 ∨ m = .v33) := by
  have hbank : (s.setBank b m).banks[bankIx b] = m := vmod_same ..
  simp only [State.bankUp, hbank]
  cases m <;> rfl

/-- What a supply that is sensed brings with it. -/
def State.bankBegins (s : State) (b : IoBank) : State :=
  match b with
  | .hb p => if s.bankOk p then s.filtersBegin p else s
  | .tb => s.refBegins
  | .cb | .ab => s

theorem bankSupplyRise_rises {b : IoBank} (mv : Nat) (h : s.banks[bankIx b] = .absent) :
    bankSupplyRise dt b mv s = ((s.elapse dt).setBank b (bankModeOf mv)).bankBegins b :=
  (if_neg (not_not_intro h)).trans (by cases b <;> rfl)

theorem bankSupplyFall_other {b : IoBank} (h : s.banks[bankIx b] ≠ .absent) (hb : ∀ p, b ≠ .hb p) :
    bankSupplyFall dt b s = ((s.elapse dt).setBank b .absent).bankInputs b := by
  refine (if_neg h).trans ?_
  cases b with
  | hb p => exact absurd rfl (hb p)
  | tb => rfl
  | cb => rfl
  | ab => rfl

theorem bankSupplyFall_head {p : Port} (hruns : s.runs = true) (h : s.banks[bankIx (.hb p)] ≠ .absent) :
    bankSupplyFall dt (.hb p) s =
      let v := (s.elapse dt).setBank (.hb p) .absent
      let down := (v.portFault p causeInterlock).setHead p (fun h => { h with ilkClosed := false })
      if s.bankUp (.hb p) then (if (s.port p).head.present then down.loseHead p else down) else v := by
  have hruns' : (s.elapse dt).runs = true := hruns
  refine (if_neg h).trans ?_
  simp only [hruns', Bool.not_true, Bool.false_or, State.bankInputs]
  cases hbank : s.bankUp (.hb p) with
  | true => exact if_neg (by rw [show (s.elapse dt).bankOk p = true from hbank]; decide)
  | false => exact if_pos (by rw [show (s.elapse dt).bankOk p = false from hbank]; rfl)

/-! ## The die (R473) -/

/-- The state of a die sample that has been taken. -/
def State.dieSampled (s : State) (dt : Nat) : State := (s.elapse dt).setStart (fun x => { x with dieAt := some (s.clk + dt) })

theorem dieTempSample_early {temp : Int} (h : ∃ n, s.start.dieAt = some n ∧ s.clk + dt < n + 1000000) :
    dieTempSample dt temp s = s.elapse dt := by
  refine if_pos ?_
  have hdue : dueAgain (s.elapse dt).start.dieAt msNs (s.elapse dt).clk = false := not_dueAgain_of h
  rw [hdue]
  exact Bool.or_true _

theorem mode_of_runs (hruns : s.runs = true) :
    s.power.mode = .active ∨ s.power.mode = .standby ∨ s.power.mode = .entering ∨ s.power.mode = .waking := by
  simp only [State.runs, Bool.and_eq_true] at hruns
  obtain ⟨-, hmode⟩ := hruns
  cases h : s.power.mode <;> simp [h] at hmode ⊢

/-- A sample of 125.0 °C at most counts, and the die is hot or cool again when its count is full. -/
theorem dieTempSample_counts {temp : Int} (hruns : s.runs = true)
    (hdue : ∀ n, s.start.dieAt = some n → n + 1000000 ≤ s.clk + dt) (hlow : 1000 < temp) (hhigh : temp ≤ 1250) :
    dieTempSample dt temp s =
      let hot := if 1100 < temp then s.start.dieAbove110 + 1 else 0
      let v := (s.dieSampled dt).setStart (fun x => { x with dieAbove110 := hot, dieBelow100 := 0 })
      if 10 ≤ hot ∧ s.start.dieHot = false then
        (forPorts allPorts State.portStop (v.setStart (fun x => { x with dieHot := true }))).event evDieHot noUnit noUnit []
      else v := by
  have hdue' : dueAgain (s.elapse dt).start.dieAt msNs (s.elapse dt).clk = true := dueAgain_of hdue
  have hruns' : ((s.elapse dt).setStart (fun x => { x with dieAt := some (s.elapse dt).clk })).runs = true := hruns
  have hcold : ¬ temp ≤ 1000 := Int.not_le.2 hlow
  rcases mode_of_runs hruns with hmode | hmode | hmode | hmode <;>
  · have hmode' : ((s.elapse dt).setStart (fun x => { x with dieAt := some (s.elapse dt).clk })).power.mode = _ := hmode
    simp only [dieTempSample, hmode', hdue', hruns', hcold, if_false]
    refine (if_neg (by decide)).trans ((if_neg fun h => absurd h.1 (Int.not_lt.2 hhigh)).trans ?_)
    simp [State.dieSampled]

/-! ## The crystal (R474) -/

theorem xtalCheck_early {err : Int} (h : ∃ n, s.start.xtalAt = some n ∧ s.clk + dt < n + 1000000000) :
    xtalCheck dt (.ppm err) s = s.elapse dt := by
  have hdue : dueAgain (s.elapse dt).start.xtalAt secNs (s.elapse dt).clk = false := not_dueAgain_of h
  refine if_pos ?_
  rw [hdue]
  exact Bool.or_true _

theorem xtalCheck_noEdge_early (h : s.clk + dt < s.start.vaonAt + 1000000000) : xtalCheck dt .noEdge s = s.elapse dt := by
  refine if_neg fun hcond => ?_
  exact absurd (of_decide_eq_true (Bool.and_eq_true_iff.1 hcond).2) (Nat.not_le.2 h)

/-- A measurement out of its limits counts, and the second one in a row is a fault. -/
theorem xtalCheck_bad {err : Int} (hruns : s.runs = true)
    (hdue : ∀ n, s.start.xtalAt = some n → n + 1000000000 ≤ s.clk + dt) (href : s.time.refState = .locked)
    (herr : err < -500 ∨ 500 < err) :
    xtalCheck dt (.ppm err) s =
      let n := s.start.xtalBad + 1
      let v := (s.elapse dt).setStart (fun t => { t with xtalAt := some (s.clk + dt), xtalBad := n, xtalGood := 0 })
      let w := v.setStart (fun t => { t with xtalFault := true, xtalGood := 0 })
      if 2 ≤ n then (if s.start.xtalFault then w else w.event evXtalFault noUnit noUnit []) else v := by
  have hdue' : dueAgain (s.elapse dt).start.xtalAt secNs (s.elapse dt).clk = true := dueAgain_of hdue
  have hruns' : (s.elapse dt).runs = true := hruns
  refine (if_neg ?_).trans (if_pos herr)
  rw [hruns', hdue', elapse_time, href]
  decide

/-! ## The calibration of a start, and the boot flash (R371, R470) -/

theorem startUpCalBegin_begins {t0 : Nat} (hruns : s.runs = true) (hready : s.start.readyAt = some t0)
    (hmode : s.power.mode = .active) (hfirst : s.start.startCalBegun = false) (hrun : s.cal.run = none)
    (hconds : s.startCalReady = true) :
    startUpCalBegin dt s =
      ((s.elapse dt).setStart (fun x => { x with startCalBegun := true })).runStart (portMask (fun p => (s.record p).isSome))
        (BitVec.ofNat 4 (s.fld Fld.calCfg_startSteps 0)) none false false true := by
  have hruns' : (s.elapse dt).runs = true := hruns
  have hconds' : (s.elapse dt).startCalReady = true := hconds
  simp only [startUpCalBegin, elapse_start, hready]
  refine if_neg ?_
  rw [hruns', elapse_power, hmode, hfirst, elapse_cal, hrun, hconds', Bool.true_or]
  decide

theorem flashWriteDone_waits {w : FlashWrite} (hw : s.start.flashWrite = some w) (hbank : s.bankUp .cb = false) :
    flashWriteDone dt s = s.elapse dt := by
  have hbank' : (s.elapse dt).bankUp .cb = false := hbank
  simp only [flashWriteDone, elapse_start, hw, hbank', Bool.not_false, if_true]

/-- A part of an image that is neither the first nor the last one. -/
theorem flashWriteDone_writes {w : FlashWrite} (hw : s.start.flashWrite = some w) (hbank : s.bankUp .cb = true)
    (hoffset : w.offset ≠ 0) (hfinal : w.final = false) :
    flashWriteDone dt s =
      ((((s.elapse dt).flashPut (imageSlotBase s.idleSlot + w.offset) w.data).setStart (fun t =>
        { t with flashWrite := none, flashNext := w.offset + w.data.length })).complete w.req .ok) := by
  have hbank' : (s.elapse dt).bankUp .cb = true := hbank
  simp only [flashWriteDone, elapse_start, hw, hbank', hoffset, hfinal, Bool.not_true, Bool.not_false, if_true, if_false,
    Bool.false_eq_true]
  rfl

end

/-- Settles O41: each row by the branch that its premises choose. -/
theorem deviceSupervision : Obligations.DeviceSupervision := by
  intro dt mv b p temp err w s hruns u sampled measured
  refine ⟨?_, ?_, fun h => congrArg Host.Outcome.next (dieTempSample_early h),
    fun hdue hlow hhigh => congrArg Host.Outcome.next ((dieTempSample_counts hruns hdue hlow (by omega)).trans ?_),
    fun hdue hlow hhigh hcount hcold =>
      congrArg Host.Outcome.next ((dieTempSample_counts hruns hdue (by omega) hhigh).trans ?_),
    fun hdue href herr hbad => congrArg Host.Outcome.next ((xtalCheck_bad hruns hdue href herr).trans ?_),
    fun h => congrArg Host.Outcome.next (xtalCheck_early h), fun h => congrArg Host.Outcome.next (xtalCheck_noEdge_early h),
    fun hdue href herr hbad hgood => congrArg Host.Outcome.next ((xtalCheck_bad hruns hdue href herr).trans ?_),
    fun t0 hready hmode hfirst hrun hconds =>
      congrArg Host.Outcome.next (startUpCalBegin_begins hruns hready hmode hfirst hrun hconds),
    fun hw hbank => congrArg Host.Outcome.next (flashWriteDone_waits hw hbank),
    fun hw hbank hoffset hfinal => congrArg Host.Outcome.next (flashWriteDone_writes hw hbank hoffset hfinal)⟩
  · intro habsent v
    have hrise : exec (.bankSupplyRise dt b mv) s = .next (v.bankBegins b) :=
      congrArg Host.Outcome.next (bankSupplyRise_rises mv habsent)
    rw [hrise]
    refine ⟨?_, ?_, ?_, ?_⟩
    · rintro (rfl | rfl) <;> rfl
    · rintro rfl; rfl
    · rintro rfl hmode
      exact congrArg Host.Outcome.next (if_pos ((setBank_bankUp _ _).trans (decide_eq_true hmode)))
    · rintro rfl hmode
      have hnone : ¬ (bankModeOf mv = .v18 ∨ bankModeOf mv = .v33) := by rcases hmode with h | h <;> simp [h]
      refine congrArg Host.Outcome.next (if_neg fun hok => ?_)
      exact hnone (of_decide_eq_true ((setBank_bankUp _ _).symm.trans hok))
  · intro hbank v down
    refine ⟨?_, ?_, ?_, ?_, ?_⟩
    · rintro (rfl | rfl) <;> exact congrArg Host.Outcome.next (bankSupplyFall_other hbank (by simp))
    · rintro rfl; exact congrArg Host.Outcome.next (bankSupplyFall_other hbank (by simp))
    · rintro rfl hfault
      have hdown : s.bankUp (.hb p) = false := by simp only [State.bankUp, hfault]
      exact congrArg Host.Outcome.next ((bankSupplyFall_head hruns hbank).trans (if_neg (by rw [hdown]; decide)))
    · rintro rfl hup hpres
      exact congrArg Host.Outcome.next ((bankSupplyFall_head hruns hbank).trans
        ((if_pos hup).trans (if_neg (by rw [hpres]; decide))))
    · rintro rfl hup hpres
      exact congrArg Host.Outcome.next ((bankSupplyFall_head hruns hbank).trans ((if_pos hup).trans (if_pos hpres)))
  · have hcool : ¬ 1100 < temp := by omega
    simp only [hcool, if_false]
    rfl
  · simp only [hlow, if_true, hcount, hcold]
    exact if_pos (by simp)
  · simp only [hbad]
    rfl
  · simp only [hbad, hgood]
    rfl

end Sys2Proof.Machine

/-! # Into and out of STANDBY and RETAIN -/

namespace Sys2Proof.Machine

/-- A device in SERVICE at the end of an entry into RETAIN, whose temperature compensation of the seed of port 0 is off. -/
def serviceEntering : State :=
  { State.reset with
    clk := 61000
    cfg := [(fldKey Fld.emitCfg_compEnSeed 0, 0)]
    life := { LifeSt.reset with state := .service }
    power := { PowerSt.reset with
      mode := .entering
      retain := some
        { req := identifyRq, banks := 0, acceptedAt := 0, noisyAt := none, armedAt := some 0, commitAt := none,
          tCommit := 0, presAtCommit := 0, presence := 0, latched := none, wokenAt := none, report := WakeReport.none,
          suppliesGood := false, goodBanks := none, presLost := 0, serialChecks := 0, serialGood := 0,
          kept := Vector.replicate 8 [], brownout := false } } }

/-- The commit point takes the device out of SERVICE, which turns the compensation on again. -/
theorem serviceEntering_commit_cfg : (commitPoint 0 serviceEntering).cfg ≠ serviceEntering.cfg := by
  decide

/-- Refutes O42: the commit point of a device in SERVICE makes COMP_EN 1 on every emitter (R457, R460), so that its
configuration is not the one before where COMP_EN was 0. -/
theorem not_powerMoves : ¬ Obligations.PowerMoves := by
  intro h
  obtain ⟨-, -, -, -, -, hcommit⟩ := h 0 0 0 identifyRq _ serviceEntering
  obtain ⟨t, ht, -, -, -, -, hcfg, -⟩ := hcommit rfl rfl rfl (Nat.le_refl _)
  cases ht
  exact serviceEntering_commit_cfg hcfg

end Sys2Proof.Machine

/-! # Waking -/

namespace Sys2Proof.Machine

section
variable {s : State} {dt : Nat} {r : RetainSt}

/-! ## Wake events and their replay (R435, R437, R438) -/

section
variable {xs ys : List WakeSource}

theorem wakeEvent_entering (hret : s.power.retain = some r) (hys : (s.elapse dt).wakeSources xs = ys) (hne : ys ≠ [])
    (hmode : s.power.mode = .entering) :
    wakeEvent dt xs s =
      if r.armedAt.isSome then (s.elapse dt).abortEntry r ys
      else (s.elapse dt).setRetain (fun x => { x with noisyAt := some (s.clk + dt) }) := by
  simp only [wakeEvent, elapse_power, hret, hys, if_neg hne, hmode]
  rfl

theorem wakeEvent_retain {t0 : Nat} (hret : s.power.retain = some r) (hys : (s.elapse dt).wakeSources xs = ys) (hne : ys ≠ [])
    (hmode : s.power.mode = .retain) (hcommit : r.commitAt = some t0) (hfirst : r.latched = none) :
    wakeEvent dt xs s =
      if s.clk + dt < t0 + 122071 then (s.elapse dt).setRetain (fun x => { x with latched := some ys })
      else (s.elapse dt).wakeNow r 1 ys := by
  simp only [wakeEvent, elapse_power, hret, hys, if_neg hne, hmode, hcommit, hfirst]
  rfl

theorem wakeReplay_wakes {t0 : Nat} (hret : s.power.retain = some r) (hmode : s.power.mode = .retain)
    (hcommit : r.commitAt = some t0) (hlatched : r.latched = some ys) (htime : t0 + 122071 ≤ s.clk + dt) :
    wakeReplay dt s = ((s.elapse dt).count Ctr.powerStats_replayed 0 1).wakeNow r 2 ys := by
  simp only [wakeReplay, elapse_power, hret, hmode, hcommit, hlatched]
  exact if_pos htime

end

/-! ## Brown-out and supplies (R429, R439) -/

theorem brownout_notes {t0 : Nat} (hret : s.power.retain = some r) (hmode : s.power.mode = .retain)
    (hcommit : r.commitAt = some t0) (hfirst : r.brownout = false) :
    brownout dt s =
      ((((s.elapse dt).setPower (fun w =>
        { w with brownout := true, brownoutAt := aonCycles (s.clk + dt - t0) })).setRetain
          (fun x => { x with brownout := true })).count Ctr.powerStats_brownouts 0 1) := by
  simp only [brownout, elapse_power, hret, hmode, hcommit, hfirst]
  rfl

/-- The state of a wake whose supplies have been found good. -/
def State.suppliesFound (s : State) (dt t0 : Nat) : State :=
  (((s.elapse dt).setPower (fun w => { w with isolated := false, railsOut := [] })).setRetain (fun x =>
    { x with suppliesGood := true,
             report := { x.report with supplyWaitUs := (s.clk + dt - t0) / 1000 } })).headFilters.refBegins

theorem suppliesFound_life (t0 : Nat) : (s.suppliesFound dt t0).life = s.life := by
  simp only [State.suppliesFound, State.refBegins, setTime_life, headFilters_life]
  rfl

theorem wakeSuppliesGood_eq {t0 : Nat} (hret : s.power.retain = some r) (hmode : s.power.mode = .waking)
    (hfirst : r.suppliesGood = false) (hwoken : r.wokenAt = some t0) :
    wakeSuppliesGood dt s =
      if s.clk + dt < t0 + 1000000 then s.elapse dt
      else if s.memoryBad then (s.suppliesFound dt t0).waitHost 8 else (s.suppliesFound dt t0).bootLoad := by
  have hbad : (s.suppliesFound dt t0).memoryBad = s.memoryBad := congrArg (fun l : LifeSt => l.unrepaired.any _)
    (suppliesFound_life t0)
  rw [← hbad]
  simp only [wakeSuppliesGood, elapse_power, hret, hmode, hfirst, hwoken, ne_eq, not_true_eq_false, Bool.false_eq_true,
    false_or]
  rfl

/-! ## The serial of a head (R440) -/

section
variable {p : Port} {attempts : List (Option IdAttempt)}

/-- The state in which the attempts of a serial have been made. -/
def State.serialRead (s : State) (dt : Nat) (p : Port) (attempts : List (Option IdAttempt)) : State :=
  (((s.elapse dt).setRetain (fun x => { x with serialChecks := x.serialChecks &&& ~~~(1#8 <<< p.val) })).setHead p
    (fun x => { x with bus := serialBus attempts })).count Ctr.headStats_idRetry p.val (attempts.length - 1)

/-- A head whose serial is the one kept is accepted with its record. -/
def State.serialAccepted (s : State) (p : Port) (record : List Byte) : State :=
  let v := (((s.setHead p (fun x => { x with idState := .accepted, record := record })).setRetain
    (fun x => { x with serialGood := x.serialGood ||| (1#8 <<< p.val) })).setDrive p (fun d => { d with caseAt := s.clk })).setRaman
      p (fun x => { x with lastRecord := record })
  v.event evHeadAccepted p.val noUnit [v.headStatus p]

/-- A head with another serial is read again. -/
def State.serialRefused (s : State) (p : Port) (due : Nat) : State :=
  (s.setHead p (fun x => { x with read := some (newRead due none) })).setRetain (fun x =>
    { x with report := { x.report with rescanned := x.report.rescanned ||| (1#8 <<< p.val) } })

theorem wakeSerialCheck_reads (hret : s.power.retain = some r) (hruns : s.runs = true) (hcheck : maskHas r.serialChecks p = true)
    (hpres : (s.port p).head.present = true) (hreading : (s.port p).head.idState = .reading)
    (hread : (s.port p).head.read = none) (hwhole : serialWhole attempts = true)
    (htime : (s.port p).head.presAt + (10 + 25 * (attempts.filter (·.isNone)).length) * 1000000 ≤ s.clk + dt) :
    wakeSerialCheck dt p attempts s =
      if serialOf attempts = some (bytesAt r.kept[p] 8 16) then (s.serialRead dt p attempts).serialAccepted p r.kept[p]
      else (s.serialRead dt p attempts).serialRefused p ((s.port p).head.presAt + 100000000) := by
  have hruns' : (s.elapse dt).runs = true := hruns
  have hpres' : ((s.elapse dt).port p).head.present = true := hpres
  have hreading' : ((s.elapse dt).port p).head.idState = .reading := hreading
  have hread' : ((s.elapse dt).port p).head.read = none := hread
  have htime' : ¬ (s.elapse dt).clk <
      ((s.elapse dt).port p).head.presAt + (10 + 25 * (attempts.filter (·.isNone)).length) * msNs := Nat.not_lt.2 htime
  simp only [wakeSerialCheck, elapse_power, hret, hruns', hcheck, hpres', hreading', hread', hwhole, decide_eq_false htime']
  rfl

theorem serialRead_head : ((s.serialRead dt p attempts).port p).head = { (s.port p).head with bus := serialBus attempts } := by
  rw [State.serialRead, count_port, setHead_port]
  rfl

theorem serialAccepted_head (record : List Byte) : ((s.serialAccepted p record).port p).head =
    { (s.port p).head with idState := .accepted, record := record } := by
  simp only [State.serialAccepted, event_port, setRaman_port, setDrive_port]
  rw [State.setRetain, setPower_port, setHead_port]

theorem serialAccepted_cfg (record : List Byte) : (s.serialAccepted p record).cfg = s.cfg := event_cfg ..

theorem serialRefused_head (due : Nat) : ((s.serialRefused p due).port p).head =
    { (s.port p).head with read := some (newRead due none) } := by
  rw [State.serialRefused, State.setRetain, setPower_port, setHead_port]

end

/-! ## The end of a wake (R433, R441) -/

/-- The report of a wake that does not resume. -/
def State.standbyReport (s : State) (r : RetainSt) : WakeReport :=
  { r.report with resumed := false, presChanged := portMask (fun p => (s.port p).head.present != maskHas r.presence p) }

theorem wakeComplete_standby (hret : s.power.retain = some r) (hmode : s.power.mode = .waking) (hready : s.wakeReady = true)
    (hstays : (s.elapse dt).wakeResumes r = false) :
    wakeComplete dt s =
      let rep := s.standbyReport r
      let v := (((s.elapse dt).setPower (fun w => { w with mode := .standby, retain := none, lastWake := rep })).count
        Ctr.powerStats_standbyEntries 0 1).setMem (fun m => { m with selfRefresh := m.trained, lastAccess := s.clk + dt })
      ((((v.groupsEval allGroups).outputsEval).completeWith r.req .ok noFlags [] (reportBytes rep)).event evWake noUnit
        noUnit [rep.kind, rep.cause, rep.banksFailed.toNat]) := by
  have hready' : (s.elapse dt).wakeReady = true := hready
  simp only [wakeComplete, elapse_power, hret, hmode, hready', hstays]
  rfl

end

/-- Settles O43: each row by the branch that its premises choose; a serial by whether it is the one kept. -/
theorem wakeEvents : Obligations.WakeEvents := by
  intro dt t0 p r xs ys attempts s hret u
  refine ⟨fun hys hne => ⟨fun hmode harmed => ?_, fun hmode harmed => ?_, fun hmode hcommit hfirst htime => ?_,
      fun hmode hcommit hfirst htime => ?_⟩,
    fun hmode hcommit hlatched htime => congrArg Host.Outcome.next (wakeReplay_wakes hret hmode hcommit hlatched htime),
    fun hmode hcommit hfirst => congrArg Host.Outcome.next (brownout_notes hret hmode hcommit hfirst),
    fun hmode hfirst hwoken => ⟨fun htime => ?_, fun htime hgood => ?_, fun htime hbad => ?_⟩,
    fun hruns hcheck hpres hreading hread hwhole htime => ?_,
    fun hmode hready hstays => congrArg Host.Outcome.next (wakeComplete_standby hret hmode hready hstays)⟩
  · exact congrArg Host.Outcome.next ((wakeEvent_entering hret hys hne hmode).trans (if_pos (Option.isSome_iff_ne_none.2 harmed)))
  · exact congrArg Host.Outcome.next ((wakeEvent_entering hret hys hne hmode).trans (if_neg (by rw [harmed]; decide)))
  · exact congrArg Host.Outcome.next ((wakeEvent_retain hret hys hne hmode hcommit hfirst).trans (if_pos htime))
  · exact congrArg Host.Outcome.next ((wakeEvent_retain hret hys hne hmode hcommit hfirst).trans (if_neg (Nat.not_lt.2 htime)))
  · exact congrArg Host.Outcome.next ((wakeSuppliesGood_eq hret hmode hfirst hwoken).trans (if_pos htime))
  · exact congrArg Host.Outcome.next ((wakeSuppliesGood_eq hret hmode hfirst hwoken).trans
      ((if_neg (Nat.not_lt.2 htime)).trans (if_neg (by rw [hgood]; decide))))
  · exact congrArg Host.Outcome.next ((wakeSuppliesGood_eq hret hmode hfirst hwoken).trans
      ((if_neg (Nat.not_lt.2 htime)).trans (if_pos hbad)))
  · have hreads := wakeSerialCheck_reads hret hruns hcheck hpres hreading hread hwhole htime
    by_cases hsame : serialOf attempts = some (bytesAt r.kept[p] 8 16)
    · rw [if_pos hsame] at hreads
      have hhead := (serialAccepted_head (s := s.serialRead dt p attempts) (p := p) r.kept[p]).trans (by rw [serialRead_head])
      refine ⟨_, congrArg Host.Outcome.next hreads, serialAccepted_cfg .., ?_, fun _ => ?_, fun h => absurd hsame h⟩
      · rw [hhead]
      · rw [hhead]; exact ⟨rfl, rfl⟩
    · rw [if_neg hsame] at hreads
      have hhead := (serialRefused_head (s := s.serialRead dt p attempts) (p := p)
        ((s.port p).head.presAt + 100000000)).trans (by rw [serialRead_head])
      refine ⟨_, congrArg Host.Outcome.next hreads, rfl, ?_, fun h => absurd h hsame, fun _ => ?_⟩
      · rw [hhead]
      · rw [hhead]; exact ⟨hreading, rfl⟩

end Sys2Proof.Machine

/-! # What leaves the life of the machine as it is -/

namespace Sys2Proof.Machine

@[simp] theorem life_ite (c : Prop) [Decidable c] (s t : State) : (if c then s else t).life = if c then s.life else t.life :=
  apply_ite _ _ _ _

@[simp] theorem life_foldl {α : Type} (g : State → α → State) (l : List α) (s : State)
    (hg : ∀ t a, (g t a).life = t.life) : (l.foldl g s).life = s.life := by
  induction l generalizing s with
  | nil => rfl
  | cons a l ih => exact (ih _).trans (hg s a)

@[simp] theorem forPorts_life (ps : List Port) (f : Port → State → State) (s : State) (hf : ∀ p t, (f p t).life = t.life) :
    (forPorts ps f s).life = s.life := life_foldl _ ps s (fun t p => hf p t)

@[simp] theorem setKey_life (s : State) (k v : Nat) : (State.setKey s k v).life = s.life := by
  unfold State.setKey
  split <;> simp

@[simp] theorem applyFields_life (s : State) (es : Tab Nat) : (State.applyFields s es).life = s.life := by
  unfold State.applyFields
  simp

@[simp] theorem applyPending_life (s : State) (p : Port) (t : Nat) : (State.applyPending s p t).life = s.life := by
  unfold State.applyPending
  simp

@[simp] theorem rampTo_life (s : State) (p : Port) (target : Nat) (e : Emitter) : (State.rampTo s p target e).life = s.life := by
  unfold State.rampTo
  simp

@[simp] theorem fall_life (s : State) (p : Port) : (State.fall s p).life = s.life := by
  unfold State.fall
  simp

@[simp] theorem cqPush_life (s : State) (entry : List Byte) : (State.cqPush s entry).life = s.life := by
  unfold State.cqPush
  simp

@[simp] theorem drainEvents_life (fuel : Nat) (s : State) : (State.drainEvents fuel s).life = s.life := by
  obtain ⟨m, st, h⟩ := drainEvents_mail fuel s
  rw [h]

@[simp] theorem setIrq_life (s : State) (bits : BitVec 7) : (State.setIrq s bits).life = s.life := by
  unfold State.setIrq
  simp

@[simp] theorem eventToQueue_life (s : State) (e : EventRec) : (State.eventToQueue s e).life = s.life := by
  unfold State.eventToQueue
  simp

@[simp] theorem toHost_life (s : State) (typ : Nat) (body : List Byte) : (State.toHost s typ body).life = s.life := by
  unfold State.toHost
  simp

@[simp] theorem calOutcome_life (s : State) (st : CalStep) (p : Port) (o : CalOutcome) :
    (State.calOutcome s st p o).life = s.life := by
  unfold State.calOutcome
  dsimp only
  (repeat' split) <;> simp

@[simp] theorem calAbortPort_life (s : State) (p : Port) : (State.calAbortPort s p).life = s.life := by
  unfold State.calAbortPort
  (repeat' split) <;> simp

@[simp] theorem cutParts_life (s : State) (p : Port) (k : RingKind) : (State.cutParts s p k).life = s.life := by
  unfold State.cutParts
  simp

@[simp] theorem countIf_life (s : State) (c : Ctr) (i : Nat) (b : Bool) : (s.countIf c i b).life = s.life := by
  unfold State.countIf
  simp

@[simp] theorem memAccess_life (s : State) : (State.memAccess s).life = s.life := by
  unfold State.memAccess
  simp

@[simp] theorem spillNote_life (s : State) (i : Nat) : (State.spillNote s i).life = s.life := by
  unfold State.spillNote
  simp

@[simp] theorem pushStream_life (s : State) (i typ flags : Nat) (payload : List Byte) :
    (State.pushStream s i typ flags payload).life = s.life := by
  unfold State.pushStream
  simp

@[simp] theorem placeMark_life (s : State) (i typ : Nat) (payload : List Byte) :
    (State.placeMark s i typ payload).life = s.life := by
  unfold State.placeMark
  simp

@[simp] theorem pushMark_life (s : State) (i typ : Nat) (payload : List Byte) :
    (State.pushMark s i typ payload).life = s.life := by
  unfold State.pushMark
  simp

@[simp] theorem ringStop_life (s : State) (p : Port) (k : RingKind) : (State.ringStop s p k).life = s.life := by
  unfold State.ringStop
  simp

@[simp] theorem pushRing_life (s : State) (p : Port) (k : RingKind) (typ : Nat) (payload : List Byte) (t0 t1 : Nat) :
    (State.pushRing s p k typ payload t0 t1).life = s.life := by
  unfold State.pushRing
  dsimp only
  (repeat' split) <;> simp

@[simp] theorem markRings_life (s : State) (p : Port) (kinds : List RingKind) (m : Mark) :
    (State.markRings s p kinds m).life = s.life := by
  unfold State.markRings
  simp

@[simp] theorem markStreams_life (s : State) (p : Port) (classes : List Nat) (m : Mark) :
    (State.markStreams s p classes m).life = s.life := by
  unfold State.markStreams
  simp

@[simp] theorem markStop_life (s : State) (p : Port) (cause : Nat) : (State.markStop s p cause).life = s.life := by
  unfold State.markStop
  simp

@[simp] theorem gapBlock_life (s : State) (p : Port) (b : Block) (c : GapCause) : (State.gapBlock s p b c).life = s.life := by
  unfold State.gapBlock
  simp

@[simp] theorem forgetBlocks_life (s : State) (p : Port) : (State.forgetBlocks s p).life = s.life := by
  unfold State.forgetBlocks
  simp

@[simp] theorem releaseBlocks_life (p : Port) (fuel : Nat) (s : State) : (State.releaseBlocks p fuel s).life = s.life := by
  induction fuel generalizing s with
  | zero => rfl
  | succ n ih =>
    simp only [State.releaseBlocks]
    (repeat' split) <;> simp [ih]

@[simp] theorem release_life (s : State) (p : Port) : (State.release s p).life = s.life := by
  unfold State.release
  simp

@[simp] theorem blockJoins_life (s : State) (p : Port) (j : Nat) : (State.blockJoins s p j).life = s.life := by
  unfold State.blockJoins
  dsimp only
  (repeat' split) <;> simp

@[simp] theorem closeColumn_life (p : Port) (j : Nat) (fuel : Nat) (s : State) : (State.closeColumn p j fuel s).life = s.life := by
  induction fuel generalizing s with
  | zero => rfl
  | succ n ih =>
    simp only [State.closeColumn]
    (repeat' split) <;> simp [ih]

@[simp] theorem queueStop_life (s : State) (p : Port) : (State.queueStop s p).life = s.life := by
  unfold State.queueStop
  simp

@[simp] theorem pushRingData_life (s : State) (p : Port) (k : RingKind) (typ : Nat) (payload : List Byte) (t0 t1 : Nat) :
    (State.pushRingData s p k typ payload t0 t1).life = s.life := by
  unfold State.pushRingData
  simp

@[simp] theorem pushData_life (s : State) (i typ flags : Nat) (payload : List Byte) :
    (State.pushData s i typ flags payload).life = s.life := by
  unfold State.pushData
  simp

@[simp] theorem streamData_life (s : State) (i typ : Nat) (sub data : List Byte) (refDist : Nat) :
    (State.streamData s i typ sub data refDist).life = s.life := by
  unfold State.streamData
  simp

@[simp] theorem enqueueRaw_life (s : State) (p : Port) (tFirst : Nat) (xs ys : List Half) :
    (State.enqueueRaw s p tFirst xs ys).life = s.life := by
  unfold State.enqueueRaw
  simp

@[simp] theorem rawEnd_life (s : State) (p : Port) : (State.rawEnd s p).life = s.life := by
  unfold State.rawEnd
  split <;> simp

@[simp] theorem ringsStop_life (s : State) (p : Port) : (State.ringsStop s p).life = s.life := by
  unfold State.ringsStop
  simp

@[simp] theorem sendSummary_life (s : State) (g : GroupId) (periodic : Bool) :
    (State.sendSummary s g periodic).life = s.life := by
  unfold State.sendSummary
  simp

@[simp] theorem groupEval_life (g : GroupId) (s : State) : (State.groupEval g s).life = s.life := by
  unfold State.groupEval
  simp

@[simp] theorem alarmEval_life (n : Fin 8) (s : State) : (State.alarmEval n s).life = s.life := by
  unfold State.alarmEval
  simp

@[simp] theorem loopClear_life (s : State) (n : Fin 8) (cause : Nat) : (State.loopClear s n cause).life = s.life := by
  unfold State.loopClear
  simp

@[simp] theorem loopUnjudge_life (s : State) (n : Fin 8) : (State.loopUnjudge s n).life = s.life := by
  unfold State.loopUnjudge
  simp

@[simp] theorem loopEval_life (n : Fin 8) (s : State) : (State.loopEval n s).life = s.life := by
  unfold State.loopEval
  simp

@[simp] theorem outputsEval_life (s : State) : (State.outputsEval s).life = s.life := by
  unfold State.outputsEval
  simp

@[simp] theorem groupsEval_life (s : State) (gs : List GroupId) : (State.groupsEval s gs).life = s.life := by
  unfold State.groupsEval
  simp

@[simp] theorem toClass_life (s : State) (cls typ : Nat) (payload : List Byte) :
    (State.toClass s cls typ payload).life = s.life := by
  unfold State.toClass
  simp

@[simp] theorem toQuery_life (s : State) (r : List Byte) : (State.toQuery s r).life = s.life := by
  unfold State.toQuery
  simp

@[simp] theorem emitRecord_life (s : State) (z : ZoneId) (kind : EventKind) (flags cause : Nat) :
    (State.emitRecord s z kind flags cause).life = s.life := by
  unfold State.emitRecord
  simp

@[simp] theorem ringResume_life (s : State) (p : Port) (k : RingKind) : (State.ringResume s p k).life = s.life := by
  unfold State.ringResume
  dsimp only
  (repeat' split) <;> simp

@[simp] theorem freeSnap_life (s : State) (id : Nat) : (State.freeSnap s id).life = s.life := by
  unfold State.freeSnap
  simp

@[simp] theorem discardSnap_life (s : State) (g : GroupId) (id : Nat) : (State.discardSnap s g id).life = s.life := by
  unfold State.discardSnap
  simp

@[simp] theorem snapRetract_life (s : State) (g : GroupId) (eventId : Nat) : (State.snapRetract s g eventId).life = s.life := by
  unfold State.snapRetract
  split <;> simp

@[simp] theorem snapsRetract_life (s : State) (eventId : Nat) : (State.snapsRetract s eventId).life = s.life := by
  unfold State.snapsRetract
  simp

@[simp] theorem zoneCarry_life (s : State) (z : ZoneId) (refHeld : Bool) : (State.zoneCarry s z refHeld).life = s.life := by
  unfold State.zoneCarry
  simp

@[simp] theorem zoneClose_life (z : ZoneId) (cause : Nat) (dest : ZoneMode) (s0 : State) :
    (State.zoneClose z cause dest s0).life = s0.life := by
  unfold State.zoneClose
  dsimp only
  split <;> simp

@[simp] theorem zonesPortStop_life (s : State) (p : Port) : (State.zonesPortStop s p).life = s.life := by
  unfold State.zonesPortStop
  simp

@[simp] theorem portLeaves_life (s : State) (p : Port) (mode : PortMode) (cause : Nat) :
    (State.portLeaves s p mode cause).life = s.life := by
  unfold State.portLeaves
  simp

@[simp] theorem proofOverdue_life (s : State) (p : Port) : (State.proofOverdue s p).life = s.life := by
  unfold State.proofOverdue
  simp

@[simp] theorem proofDue_life (dt : Nat) (p : Port) (s0 : State) : (proofDue dt p s0).life = s0.life := by
  unfold proofDue
  dsimp only
  split <;> simp

@[simp] theorem portStop_life (p : Port) (s : State) : (State.portStop p s).life = s.life := by
  unfold State.portStop
  simp

@[simp] theorem loadUnsigned_life (s : State) : (State.loadUnsigned s).life = s.life := by
  unfold State.loadUnsigned
  split <;> simp

@[simp] theorem loadDone_life (s : State) : (State.loadDone s).life = s.life := by
  unfold State.loadDone
  split <;> simp

@[simp] theorem engineBoundary_life (s : State) (e : EngineId) : (State.engineBoundary s e).life = s.life := by
  unfold State.engineBoundary
  simp

@[simp] theorem relayEngines_life (s : State) : (State.relayEngines s).life = s.life :=
  life_foldl _ allEngines s fun t e => by split <;> simp

@[simp] theorem clearSram_life (s : State) (p : Port) : (State.clearSram s p).life = s.life := by
  unfold State.clearSram
  simp

@[simp] theorem compensate_life (s : State) : (State.compensate s).life = s.life :=
  forPorts_life allPorts _ s fun _ t => life_foldl _ allEmitters t fun _ _ => rfl

end Sys2Proof.Machine


/-! # Self-tests, life-cycle moves, and the test port -/

namespace Sys2Proof.Machine

section
variable {s : State} {dt : Nat} {res : TestResult}

/-! ## The shutdown self-test (R447, R451) -/

/-- What a completed shutdown self-test leaves. -/
def LifeSt.shutTested (l : LifeSt) (r : TestResult) : LifeSt :=
  { l with aonMap := r.repairs.take 512, otpMap := (addEntries l.otpMap (r.repairs.take 512)).take 512,
           otpFull := decide (512 < (addEntries l.otpMap (r.repairs.take 512)).length), shutRecords := r.records.take 256,
           setBit := false, outcome := outcomeOf r.records, startsSince := 0, unrepaired := badMemories r.records }

theorem shutdownSelftestDone_eq {since : Nat} (htest : s.life.test = .shutdown since) :
    shutdownSelftestDone dt res s =
      if s.clk + dt < since + shutdownTestNs s.life.otpMap (res.repairs.take 512)
          ∨ (res.records.all (fun x => shutdownTests x.memId && recordOk 0 x)) = false then s.elapse dt
      else ((s.elapse dt).setLife (·.shutTested res)).shutDownNow := by
  simp only [shutdownSelftestDone, elapse_life, htest, Bool.not_eq_true']
  rfl

theorem shutdownTestNs_least (otp map : List RepairEntry) : 85000000 ≤ shutdownTestNs otp map := by
  have h : 85 * msNs ≤ shutdownTestNs otp map := Nat.mul_le_mul_right msNs (Nat.le_add_right 85 _)
  exact h

/-! ## A per-block test (R453, R455) -/

@[simp] theorem reloadBlock_life (memId inst : Nat) : (s.reloadBlock memId inst).life = s.life := by
  unfold State.reloadBlock
  simp

/-- The life of the machine after a per-block test that leaves nothing beyond repair. -/
def LifeSt.blockTested (l : LifeSt) (r : TestResult) (memId inst : Nat) : LifeSt :=
  { l with test := .none, blockRecords := r.records.take 256, rawBitmap := r.bitmap, setBit := true,
           outcome := outcomeOf r.records, aonMap := (addEntries l.aonMap r.repairs).take 512,
           applied := addEntries l.applied r.repairs, unrepaired := l.unrepaired.filter (fun u => u ≠ (memId, inst)) }

theorem selftestBlockDone_ends {rq : Req} {memId inst pat since : Nat} (htest : s.life.test = .block rq memId inst pat since)
    (hpause : pat = 3 → since + 100000000 ≤ s.clk + dt) (hgood : res.records.any beyondRepair = false)
    (hrecords : ∀ y ∈ res.records, y.memId = memId ∧ y.inst = inst ∧ recordOk pat y = true) :
    selftestBlockDone dt res s =
      ((((s.elapse dt).setLife (·.blockTested res memId inst)).reloadBlock memId inst).event evSelftestDone noUnit noUnit
        [memId, inst, (res.records.filter (fun x => x.kind = 3)).length]).completeResult rq .ok
        (leBytes 4 (min 256 res.records.length) ++ leBytes 4 (res.records.filter (fun x => x.kind = 3)).length
          ++ leBytes 4 (divRound (s.clk + dt - since) msNs)) := by
  have hall : res.records.all (fun x => x.memId = memId && x.inst = inst && recordOk pat x) = true := by
    simpa [and_assoc] using hrecords
  have hdone : ¬ ((pat = 3 ∧ (s.elapse dt).clk < since + 100 * msNs)
      ∨ (!(res.records.all (fun x => x.memId = memId && x.inst = inst && recordOk pat x))) = true) := by
    rw [hall]
    exact not_or.2 ⟨fun h => Nat.not_le.2 h.2 (hpause h.1), by decide⟩
  simp only [selftestBlockDone, elapse_life, htest, if_neg hdone, hgood, Bool.false_eq_true, false_and, if_false]
  rfl

/-! ## Life-cycle moves (R459, R460) -/

/-- The state of a life-cycle move that has been programmed. -/
def State.lifeMoved (s : State) (rq : Req) (target : LifeCycle) (hash : List Byte) : State :=
  let s1 := s.setLife (fun l => { l with state := target, keyHash := hash, setting := none })
  let s2 := if target = .deployed then s1.enterDeployed else s1
  (s2.event evLifecycle noUnit noUnit [lifeCode target]).complete rq .ok

theorem lifecycleProgrammed_eq {rq : Req} {target : LifeCycle} {hash : List Byte}
    (hset : s.life.setting = some (rq, target, hash)) :
    lifecycleProgrammed dt s =
      if target = .retired ∧ (allPorts.all (s.elapse dt).portDark) = false then s.elapse dt
      else if target = .retired then
        ((s.elapse dt).lifeMoved rq target hash).setStart (fun x => { x with resetPending := some (s.clk + dt) })
      else (s.elapse dt).lifeMoved rq target hash := by
  simp only [lifecycleProgrammed, elapse_life, hset, Bool.not_eq_true']
  rfl

@[simp] theorem enterDeployed_life : s.enterDeployed.life = { s.life with blockRecords := [], rawBitmap := [] } := by
  unfold State.enterDeployed
  simp

theorem lifeMoved_life (rq : Req) (target : LifeCycle) (hash : List Byte) : (s.lifeMoved rq target hash).life =
    if target = .deployed then
      { s.life with state := target, keyHash := hash, setting := none, blockRecords := [], rawBitmap := [] }
    else { s.life with state := target, keyHash := hash, setting := none } := by
  simp only [State.lifeMoved, complete_life, event_life, life_ite, enterDeployed_life, setLife_life]

/-! ## The test port (R458) -/

theorem boundaryScanAccess_held (hbank : s.bankUp .cb = false) (op : JtagOp) :
    boundaryScanAccess dt op s = (s.elapse dt).setLife (fun l => { l with jtagIr := .idcode, jtagDr := idcodeBits }) :=
  if_pos (by rw [show (s.elapse dt).bankUp .cb = false from hbank]; rfl)

theorem boundaryScanAccess_up (hbank : s.bankUp .cb = true) (op : JtagOp) :
    boundaryScanAccess dt op s = (s.elapse dt).setLife (fun l =>
      match op with
      | .reset => { l with jtagIr := .idcode, jtagDr := idcodeBits }
      | .instruction i =>
        let j := if jtagAllowed s.life.state i then i else .bypass
        { l with jtagIr := j, jtagDr := jtagCapture j }
      | .shift bits => { l with jtagDr := (l.jtagDr ++ bits).drop bits.length }) := by
  refine (if_neg (by rw [show (s.elapse dt).bankUp .cb = true from hbank]; decide)).trans ?_
  cases op <;> rfl

end

/-- Settles O44: each row by the branch that its premises choose; a move by what it leaves of the life of the machine. -/
theorem selfTestAndLifeCycle : Obligations.SelfTestAndLifeCycle := by
  intro dt since res rq target hash j bits s u
  refine ⟨fun htest htime hrecords => ?_, fun htest htime => ?_, fun memId inst pat htest hpause hgood hrecords => ?_,
    fun hset hdark => ?_, fun hset hdark => congrArg Host.Outcome.next ((lifecycleProgrammed_eq hset).trans (if_pos ⟨rfl, hdark⟩)),
    congrArg Host.Outcome.next ?_, fun hbank hallowed => congrArg Host.Outcome.next ?_,
    fun hbank hallowed => congrArg Host.Outcome.next ?_, fun hbank => congrArg Host.Outcome.next (boundaryScanAccess_up hbank _),
    fun hbank op => congrArg Host.Outcome.next (boundaryScanAccess_held hbank op)⟩
  · have hdone : ¬ (s.clk + dt < since + shutdownTestNs s.life.otpMap (res.repairs.take 512)
        ∨ (res.records.all (fun x => shutdownTests x.memId && recordOk 0 x)) = false) := by
      have hall : res.records.all (fun x => shutdownTests x.memId && recordOk 0 x) = true := by simpa using hrecords
      rw [hall]
      exact not_or.2 ⟨Nat.not_lt.2 htime, by decide⟩
    exact ⟨_, congrArg Host.Outcome.next ((shutdownSelftestDone_eq htest).trans (if_neg hdone)), rfl, rfl, rfl, rfl, rfl, rfl,
      rfl, rfl, rfl, rfl⟩
  · have hleast := shutdownTestNs_least s.life.otpMap (res.repairs.take 512)
    exact congrArg Host.Outcome.next ((shutdownSelftestDone_eq htest).trans (if_pos (Or.inl (by omega))))
  · refine ⟨_, congrArg Host.Outcome.next (selftestBlockDone_ends htest hpause hgood hrecords), ?_⟩
    rw [reloadBlock_life]
    exact ⟨rfl, rfl, rfl, rfl, rfl, rfl, rfl⟩
  · have hgo : ¬ (target = .retired ∧ (allPorts.all u.portDark) = false) := fun h => by
      have := hdark h.1
      simp [this] at h
    have hrow := (lifecycleProgrammed_eq (dt := dt) hset).trans (if_neg hgo)
    have hlife := lifeMoved_life (s := u) rq target hash
    by_cases hret : target = .retired
    · subst hret
      rw [if_neg (by decide)] at hlife
      refine ⟨_, congrArg Host.Outcome.next (hrow.trans (if_pos rfl)), ?_, ?_, ?_, fun _ => rfl, fun h => nomatch h⟩
      all_goals rw [setStart_life, hlife]
    · refine ⟨_, congrArg Host.Outcome.next (hrow.trans (if_neg hret)), ?_, ?_, ?_, fun h => absurd h hret, fun h => ?_⟩
      · rw [hlife]; split <;> rfl
      · rw [hlife]; split <;> rfl
      · rw [hlife]; split <;> rfl
      · rw [hlife, if_pos h]; exact ⟨rfl, rfl⟩
  · cases hbank : s.bankUp .cb with
    | true => exact boundaryScanAccess_up hbank _
    | false => exact boundaryScanAccess_held hbank _
  · simp only [boundaryScanAccess_up hbank, hallowed, if_true]
    rfl
  · simp only [boundaryScanAccess_up hbank, hallowed, Bool.false_eq_true, if_false]
    rfl

end Sys2Proof.Machine

/-! # Commands of the host that only read -/

namespace Sys2Proof.Machine

section
variable {s u t : State} {dt code : Nat} {rq : Req} {ps : List Byte}

/-- A command that begins answers what its work makes of the state in which it begins. -/
theorem exec_of_began {i : Instr} {body : State → State} (h : s.began dt rq code ps = some u)
    (hi : exec i s = .next (s.runCmd dt rq code ps body)) (ht : body u = t) : exec i s = .next t := by
  rw [hi, runCmd_began h, ht]

theorem statusCmd_running (hrom : s.romAnswers = false) :
    s.statusCmd rq = s.completeResult rq .ok (leBytes 2 s.devState
      ++ allPorts.map (fun p => BitVec.ofNat 8 (modeCode (s.port p).seq.mode)) ++ leBytes 1 (linkCode s.link.stage) ++ zeros 1) := by
  simp only [State.statusCmd, hrom, Bool.false_eq_true, if_false]

/-- An EVENT_QUERY of a count that it takes: of events that the ring has dropped, or of some that it holds. -/
theorem eventQueryCmd_counts (first : Word) {n : Nat} (hpos : 1 ≤ n) (hmax : n ≤ 7) :
    s.eventQueryCmd rq first n =
      let ring := s.detect.ring
      let back := (s.detect.nextRun - first).toNat
      let bounds (k : Nat) : List Byte :=
        leBytes 4 (s.detect.nextRun - BitVec.ofNat 32 ring.length).toNat ++ leBytes 4 s.detect.nextRun.toNat ++ leBytes 4 k
      let got := (ring.drop (ring.length - back)).take n
      if ring.length < back then s.completeResult rq .badParam (bounds 0)
      else s.completeWith rq .ok noFlags (bounds got.length) got.flatten :=
  if_neg (by omega)

theorem paramReadCmd_reads {block inst word n : Nat} {b : BlockDesc} (hblock : blockOf block = some b)
    (hinst : hasInst b inst = true) (hzone : block ≠ 0x1E) (hpos : 1 ≤ n) (hmax : n ≤ 28) (hfits : word + n ≤ b.words) :
    s.paramReadCmd rq block inst word n =
      let held := shadowBits b s.held inst word n
      let pend := shadowBits b (s.pend ++ s.held) inst word n
      let ws := s.blockWords b inst word n
      s.completeWith rq .ok ⟨pend ≠ 0, held ≠ 0⟩ []
        (leBytes 4 pend ++ leBytes 4 held ++ ws.1.flatMap (leBytes 4) ++ ws.2.flatMap (leBytes 4)) := by
  simp only [State.paramReadCmd, hblock]
  refine (if_neg ?_).trans (if_neg ?_)
  · rw [hinst, decide_eq_false (show ¬ n = 0 by omega), decide_eq_false (Nat.not_lt.2 hmax), decide_eq_false (Nat.not_lt.2 hfits)]
    decide
  · rw [decide_eq_false hzone]
    exact Bool.false_ne_true

theorem selftestResultCmd_summary (hlife : s.life.state ≠ .retired) :
    s.selftestResultCmd rq 0 = s.completeResult rq .ok s.testSummary :=
  (if_neg hlife).trans (if_pos rfl)

theorem selftestResultCmd_records {index : Nat} (hlife : s.life.state ≠ .retired) (hpos : 1 ≤ index) (hmax : index ≤ 256)
    (hhas : index ≤ s.life.shutRecords.length) :
    s.selftestResultCmd rq index =
      s.completeWith rq .ok noFlags [] (((s.life.shutRecords.drop (index - 1)).take 14).flatMap failRecord) :=
  (if_neg hlife).trans ((if_neg (by omega)).trans ((if_pos hmax).trans (if_neg (by omega))))

end

/-- Settles O47: each command does its read in the state in which it begins. -/
theorem hostReads : Obligations.HostReads := by
  intro dt rq first index count block inst word h b s u
  refine ⟨fun hu => exec_of_began hu rfl rfl, fun hu hrom => exec_of_began hu rfl ?_, ?_, ?_, ?_,
    fun hu hlife => exec_of_began hu rfl ?_, fun hu hlife hpos hmax hhas => exec_of_began hu rfl ?_⟩
  · rw [statusCmd_running hrom, began_link hu]
    simp only [began_port hu]
  · intro hu ring back oldest bounds got
    have hdetect := began_detect hu
    have hquery (hpos : 1 ≤ count.toNat) (hmax : count.toNat ≤ 7) := eventQueryCmd_counts (s := u) (rq := rq) first hpos hmax
    simp only [hdetect] at hquery
    refine ⟨fun hcount => exec_of_began hu rfl (if_pos hcount), fun hpos hmax hold => exec_of_began hu rfl ?_,
      fun hpos hmax hhas => exec_of_began hu rfl ?_⟩
    · exact (hquery hpos hmax).trans (if_pos hold)
    · exact (hquery hpos hmax).trans (if_neg (Nat.not_lt.2 hhas))
  · intro hu hblock hinst hzone hpos hmax hfits held pend ws
    refine exec_of_began hu rfl ((paramReadCmd_reads hblock hinst hzone hpos hmax hfits).trans ?_)
    simp only [began_held hu, began_pend hu]
    rfl
  · intro hu r
    refine exec_of_began hu rfl ?_
    rw [State.tiReadCmd, began_time hu]
  · exact selftestResultCmd_summary (by rw [began_life hu]; exact hlife)
  · have hrecords := selftestResultCmd_records (s := u) (rq := rq) (index := index.toNat) (by rw [began_life hu]; exact hlife) hpos hmax
      (by rw [began_life hu]; exact hhas)
    rw [began_life hu] at hrecords
    exact hrecords

end Sys2Proof.Machine

/-! # Parameters that the host writes -/

namespace Sys2Proof.Machine

section
variable {s : State} {rq : Req}

/-! ## PARAM_WRITE (R359 to R363) -/

section
variable {block inst word flags : Nat} {words : List (Word × Word)} {b : BlockDesc} {ws : List FieldWrite}

/-- A write whose words make fields that may be written now is judged field by field, then place by place. -/
theorem paramWriteCmd_judges (hflags : flags ≤ 1) (hshape : writeShape block inst word words.length = none)
    (hblock : blockOf block = some b) (hfields : fieldWrites b inst (writeNums word words) = some ws)
    (htest : s.writeTested ws = false) :
    (∀ st, s.fieldFails ws = some st → s.paramWriteCmd rq block inst word flags words = s.complete rq st)
      ∧ (∀ x, s.fieldFails ws = none → s.writeFails ws (judgedPlaces (flags = 1) (placesOf (ws.map FieldWrite.at_))) = some x →
        s.paramWriteCmd rq block inst word flags words = s.complete rq x.1)
      ∧ (s.fieldFails ws = none → s.writeFails ws (judgedPlaces (flags = 1) (placesOf (ws.map FieldWrite.at_))) = none →
        s.paramWriteCmd rq block inst word flags words =
          (s.applyWrites ws (flags = 1)).1.completeWith rq .ok ⟨false, (s.applyWrites ws (flags = 1)).2⟩ [] []) := by
  have hnot : ¬ 1 < flags := Nat.not_lt.2 hflags
  refine ⟨fun st hfails => ?_, fun x hfits hfails => ?_, fun hfits hpasses => ?_⟩
  · simp only [State.paramWriteCmd, hshape, hblock, if_neg hnot, hfields, htest, Bool.false_eq_true, if_false, hfails]
  · simp only [State.paramWriteCmd, hshape, hblock, if_neg hnot, hfields, htest, Bool.false_eq_true, if_false, hfits, hfails]
  · simp only [State.paramWriteCmd, hshape, hblock, if_neg hnot, hfields, htest, Bool.false_eq_true, if_false, hfits, hpasses]

end

/-! ## COMMIT (R365) -/

/-- The writes that a table of held values stands for. -/
def heldWrites (held : Tab Nat) : List FieldWrite :=
  held.filterMap (fun e => (fieldAt e.1).map (fun f => (⟨f, keyInst e.1, e.2⟩ : FieldWrite)))

theorem commitCmd_discards : s.commitCmd rq 1 = { s with held := [] }.completeResult rq .ok (leBytes 4 s.held.length) := rfl

/-- Held values are judged as a whole, and released together. -/
theorem commitCmd_judges (htest : s.writeTested (heldWrites s.held) = false) :
    (∀ st c i, s.writeFails (heldWrites s.held) (placesOf ((heldWrites s.held).map FieldWrite.at_)) = some (st, c, i) →
        s.commitCmd rq 0 = s.completeResult rq st (zeros 4 ++ leBytes 2 c ++ leBytes 2 i))
      ∧ (s.writeFails (heldWrites s.held) (placesOf ((heldWrites s.held).map FieldWrite.at_)) = none →
        s.commitCmd rq 0 = ({ s with held := [] }.shadow s.held).completeResult rq .ok (leBytes 4 s.held.length)) := by
  have htest' : s.writeTested (s.held.filterMap (fun e =>
    (fieldAt e.1).map (fun f => (⟨f, keyInst e.1, e.2⟩ : FieldWrite)))) = false := htest
  unfold heldWrites
  refine ⟨fun st c i hfails => ?_, fun hpasses => ?_⟩
  · simp only [State.commitCmd, htest', hfails]
    rfl
  · simp only [State.commitCmd, htest', hpasses]
    rfl

theorem shadow_nil : s.shadow [] = s := by
  have hnone : s.enabledZones.filter (fun _ => false) = [] := List.filter_eq_nil_iff.2 fun _ _ => Bool.false_ne_true
  simp [State.shadow, State.applyFields, hnone]

/-! ## CLEAR_STATS (R355) -/

/-- The blocks of statistics. -/
def statsBlocks : List BlockDesc := paramBlocks.filter (fun b => b.kind = .stats)

/-- The flags of a receiver that its statistics hold, cleared for some ports. -/
def State.clearSeen (s : State) (ps : List Port) : State :=
  ps.foldl (fun t p => t.setRx p (fun x => { x with clipSeen := false, ovldSeen := false })) s

theorem clearSeen_stats (ps : List Port) : (s.clearSeen ps).stats = s.stats := by
  unfold State.clearSeen
  induction ps generalizing s with
  | nil => rfl
  | cons p ps ih => exact ih (s := s.setRx p _)

/-- Flags that are clear stay so. -/
theorem clearSeen_keeps (ps : List Port) {p : Port} (hclip : (s.port p).rx.clipSeen = false)
    (hovld : (s.port p).rx.ovldSeen = false) :
    ((s.clearSeen ps).port p).rx.clipSeen = false ∧ ((s.clearSeen ps).port p).rx.ovldSeen = false := by
  unfold State.clearSeen
  induction ps generalizing s with
  | nil => exact ⟨hclip, hovld⟩
  | cons q ps ih =>
    by_cases hq : q = p
    · subst hq
      exact ih (s := s.setRx q _) (by rw [setRx_port]) (by rw [setRx_port])
    · exact ih (s := s.setRx q _) (by rw [setRx_port_other _ _ hq]; exact hclip) (by rw [setRx_port_other _ _ hq]; exact hovld)

theorem clearSeen_clears {ps : List Port} {p : Port} (hp : p ∈ ps) :
    ((s.clearSeen ps).port p).rx.clipSeen = false ∧ ((s.clearSeen ps).port p).rx.ovldSeen = false := by
  induction ps generalizing s with
  | nil => cases hp
  | cons q ps ih =>
    rcases List.mem_cons.1 hp with rfl | hp
    · exact clearSeen_keeps (s := s.setRx p _) ps (by rw [setRx_port]) (by rw [setRx_port])
    · exact ih (s := s.setRx q _) hp

theorem clearStatsCmd_all : s.clearStatsCmd rq 0xFFFF 0xFFFF =
    (({ s with stats := s.stats.filter (fun e => !statsBlocks.any (fun b => e.1 / 4194304 = b.id)) } : State).clearSeen
      allPorts).complete rq .ok := by
  have hblocks : paramBlocks.filter (fun b => b.kind = .stats && (0xFFFF = 0xFFFF || b.id = 0xFFFF)) = statsBlocks :=
    List.filter_congr fun b _ => Bool.and_true _
  have hsome : statsBlocks ≠ [] := by decide
  have hrx : statsBlocks.any (fun b => b.id = 0x10) = true := by decide
  have hall : allPorts.filter (fun _ => true) = allPorts := List.filter_eq_self.2 fun _ _ => rfl
  unfold State.clearStatsCmd
  rw [hblocks]
  refine (if_neg fun h => h.elim hsome fun hinst => hinst.1 rfl).trans ?_
  simp only [decide_true, Bool.true_or, Bool.and_true, hrx, hall]
  rfl

end

/-- Settles O48: a write or a COMMIT by the check that refuses it, or what it applies; CLEAR_STATS by what it clears. -/
theorem hostParameters : Obligations.HostParameters := by
  intro dt rq block inst word flags words b ws st s u
  refine ⟨fun hu hflags hshape hblock hfields htest => ?_, fun hu => exec_of_began hu rfl ?_, fun hu hheld => ?_,
    fun hu => ?_, fun hu => ?_⟩
  · obtain ⟨hrefused, hfailed, happlied⟩ := paramWriteCmd_judges (rq := rq) hflags hshape hblock hfields htest
    exact ⟨fun h => exec_of_began hu rfl (hrefused st h), fun z hfits h => exec_of_began hu rfl (hfailed (st, z) hfits h),
      fun hfits h => exec_of_began hu rfl (happlied hfits h)⟩
  · rw [← began_held hu]
    rfl
  · have hu' : u.held = [] := (began_held hu).trans hheld
    have hcommit := (commitCmd_judges (s := u) (rq := rq) (by rw [hu']; rfl)).2 (by rw [hu']; rfl)
    rw [hu', shadow_nil] at hcommit
    exact ⟨_, exec_of_began hu rfl hcommit, show u.cfg = s.cfg from began_cfg hu,
      show u.pend = s.pend from began_pend hu⟩
  · have hheld := began_held hu
    rw [← hheld]
    intro hs htest
    obtain ⟨hfails, hpasses⟩ := commitCmd_judges (rq := rq) htest
    exact ⟨fun c i h => exec_of_began hu rfl (hfails st c i h), fun h => exec_of_began hu rfl (hpasses h)⟩
  · refine ⟨_, exec_of_began hu rfl clearStatsCmd_all, fun p => ?_, fun e he => ?_⟩
    · rw [complete_port]
      exact clearSeen_clears (List.mem_finRange p)
    · rw [complete_stats, clearSeen_stats] at he
      simpa [statsBlocks] using (List.mem_filter.1 he).2

end Sys2Proof.Machine

/-! # Ports that the host starts, stops, reads, clears and launches -/

namespace Sys2Proof.Machine

section
variable {s : State} {rq : Req} {p : Port}

/-! ## PORT_START (R495) -/

theorem portStartCmd_starts {ports : BitVec 8} (h : ∀ q ∈ maskPorts ports, s.enableFails q = none) :
    s.portStartCmd rq ports = ((maskPorts ports).foldl (fun t q => t.portEnable q) s).complete rq .ok := by
  have hnone : (maskPorts ports).findSome? (fun p => (s.enableFails p).map (fun x => (p, x.1, x.2))) = none :=
    List.findSome?_eq_none_iff.2 fun q hq => by rw [h q hq]; rfl
  simp only [State.portStartCmd, hnone]

/-- The first port of a mask that may not start decides. -/
theorem portStartCmd_fails {ports : BitVec 8} {qs : List Port} {st : Status} {z : Nat} (hports : maskPorts ports = p :: qs)
    (h : s.enableFails p = some (st, z)) :
    s.portStartCmd rq ports =
      if st = .busySelftest ∧ qs = [] then s.busyTest rq else s.completeResult rq st (leBytes 4 p.val ++ leBytes 4 z) := by
  have hfirst : (maskPorts ports).findSome? (fun p => (s.enableFails p).map (fun x => (p, x.1, x.2))) = some (p, st, z) := by
    rw [hports, List.findSome?_cons, h]
    rfl
  have hone : (maskPorts ports).length = 1 ↔ qs = [] := by
    rw [hports, List.length_cons, Nat.add_eq_right, List.length_eq_zero_iff]
  simp only [State.portStartCmd, hfirst, hone]

/-! ## Commands that name a port by its number -/

theorem toNat_port (p : Port) : (BitVec.ofNat 8 p.val).toNat = p.val := by
  rw [BitVec.toNat_ofNat]
  omega

theorem toNat_slot (k : Fin 4) : (BitVec.ofNat 8 k.val).toNat = k.val := by
  rw [BitVec.toNat_ofNat]
  omega

theorem withPort_port (f : Port → State) : s.withPort rq (BitVec.ofNat 8 p.val).toNat f = f p := by
  rw [State.withPort, dif_pos (lt_of_eq_of_lt (toNat_port p) p.isLt)]
  exact congrArg f (Fin.ext (toNat_port p))

theorem headRescan_reads (hpres : (s.port p).head.present = true) (hidle : (s.port p).head.idState ≠ .reading)
    (hmode : (s.port p).seq.mode = .stopped ∨ (s.port p).seq.mode = .shut) :
    s.headRescan rq p = s.setHead p (fun x =>
      { x with idState := .reading, rejectCause := 0, badOffset := 0, read := some (newRead s.clk (some rq)) }) := by
  refine (if_neg (by rw [hpres]; decide)).trans ((if_neg hidle).trans ?_)
  rcases hmode with h | h <;> simp only [h]

/-! ## CLEAR_FAULT (R101) -/

theorem clearFault_clear (h : (s.port p).drive.latched = false) : s.clearFault p = (.ok, s) :=
  if_pos (by rw [h]; rfl)

theorem clearFault_clears (hlatched : (s.port p).drive.latched = true)
    (hall : ∀ c : Fin 10, (s.port p).drive.causeMask.getLsbD c.val = true → s.clearable p (c.val + 1) = true) :
    s.clearFault p = (.ok,
      (s.setDrive p (fun x => { x with latched := false, firstCause := 0, emitter := 0, causeMask := 0 })).setSeq p
        (fun q => { q with mode := .stopped })) := by
  refine (if_neg (by rw [hlatched]; decide)).trans (if_pos (List.all_eq_true.2 fun i hi => ?_))
  cases hcause : (s.port p).drive.causeMask.getLsbD i with
  | false => rfl
  | true => exact hall ⟨i, List.mem_range.1 hi⟩ hcause

theorem clearFault_present {c : Fin 10} (hlatched : (s.port p).drive.latched = true)
    (hcause : (s.port p).drive.causeMask.getLsbD c.val = true) (hstays : s.clearable p (c.val + 1) = false) :
    s.clearFault p = (.faultPresent, s) := by
  refine (if_neg (by rw [hlatched]; decide)).trans (if_neg fun hall => ?_)
  have hc := List.all_eq_true.1 hall c.val (List.mem_range.2 c.isLt)
  rw [hcause, hstays] at hc
  cases hc

/-! ## LAUNCH_SHOT (R109, R110) -/

theorem launchShotCmd_of (k : Fin 4) : s.launchShotCmd rq (BitVec.ofNat 8 p.val).toNat (BitVec.ofNat 8 k.val).toNat =
    if s.inActive then s.requestShot rq p k (s.sinceAccepted rq.tag) else s.complete rq .badState := by
  have hlt : (BitVec.ofNat 8 k.val).toNat < 4 := lt_of_eq_of_lt (toNat_slot k) k.isLt
  rw [State.launchShotCmd, withPort_port, dif_pos hlt]
  have heq : (⟨(BitVec.ofNat 8 k.val).toNat, hlt⟩ : Fin 4) = k := Fin.ext (toNat_slot k)
  rw [heq]

end

/-- Settles O49: each command by the branch that its premises choose. -/
theorem hostPorts : Obligations.HostPorts := by
  intro dt rq ports p k z st s u pb
  refine ⟨fun hu => ⟨fun h => exec_of_began hu rfl (portStartCmd_starts h), fun qs hports hfails => ⟨fun hbusy => ?_,
      fun hst hqs => ?_⟩⟩, fun hu => exec_of_began hu rfl rfl, fun hu hpres hidle hmode => exec_of_began hu rfl ?_,
    fun hu => ⟨fun hclear => exec_of_began hu rfl ?_, fun hlatched hall => exec_of_began hu rfl ?_,
      fun c hlatched hcause hstays => exec_of_began hu rfl ?_⟩,
    fun hu => ?_⟩
  · exact exec_of_began hu rfl ((portStartCmd_fails hports hfails).trans
      (if_neg fun h => hbusy.elim (fun hne => hne h.1) fun hne => hne h.2))
  · exact exec_of_began hu rfl ((portStartCmd_fails hports hfails).trans (if_pos ⟨hst, hqs⟩))
  · rw [State.headRescanCmd, withPort_port, headRescan_reads, began_clk hu]
    all_goals rw [began_port hu]
    all_goals assumption
  · rw [State.clearFaultCmd, withPort_port, clearFault_clear (by rw [began_port hu]; exact hclear)]
  · rw [State.clearFaultCmd, withPort_port, clearFault_clears (by rw [began_port hu]; exact hlatched)
      (by rw [began_port hu]; exact hall)]
  · rw [State.clearFaultCmd, withPort_port, clearFault_present (by rw [began_port hu]; exact hlatched)
      (by rw [began_port hu]; exact hcause) hstays]
  · rw [← toNat_slot k] at hu
    refine ⟨fun f hact hflight => exec_of_began hu rfl ?_, fun hact => exec_of_began hu rfl ?_⟩
    · have hsince : u.sinceAccepted rq.tag = s.clk + dt - f.acceptedAt := by
        simp only [State.sinceAccepted, hflight, began_clk hu]
      rw [launchShotCmd_of, if_pos hact, hsince]
      rfl
    · rw [launchShotCmd_of, if_neg (by rw [hact]; decide)]

end Sys2Proof.Machine

/-! # Images and jobs that the host brings -/

namespace Sys2Proof.Machine

section
variable {s : State} {rq : Req} {off n : Nat}

/-! ## Programs of the engines (R214 to R216) -/

/-- The release that the running image gives. -/
def State.releaseNow (s : State) : Nat :=
  match s.start.image with
  | some i => i.release
  | none => 0

/-- What the check of a staged program says. -/
def State.programVerdict (s : State) (slot off n : Nat) : ProgramCheck :=
  programCheck s.life.state s.life.keyHash s.releaseNow (codeTotal (Tab.erase s.clove.programs slot)) (s.staged off n)

theorem loadProgramCmd_checks {slot : Nat} (hlow : 8 ≤ slot) (hhigh : slot ≤ 15) (hstaged : off + n ≤ stagingMapped)
    (hused : s.programUsed slot = false) (hload : s.clove.load = none) :
    (∀ st, s.programVerdict slot off n = .bad st → s.loadProgramCmd rq slot off n = s.complete rq st)
      ∧ (∀ prog, s.programVerdict slot off n = .good prog → s.loadProgramCmd rq slot off n = s.loadBegin rq slot prog) := by
  have hgo : s.loadProgramCmd rq slot off n =
      match s.programVerdict slot off n with
      | .bad st => s.complete rq st
      | .good p => s.loadBegin rq slot p :=
    (if_neg (by omega)).trans ((if_neg (by rw [hused]; decide)).trans (if_neg (by rw [hload]; decide)))
  exact ⟨fun st h => by rw [hgo, h], fun prog h => by rw [hgo, h]⟩

theorem unloadProgramCmd_unloads {slot : Nat} (hlow : 8 ≤ slot) (hhigh : slot ≤ 15) (hused : s.programUsed slot = false)
    (hload : s.clove.load = none) :
    s.unloadProgramCmd rq slot =
      (s.setClove (fun c => { c with programs := Tab.erase c.programs slot })).relayEngines.complete rq .ok :=
  (if_neg (by omega)).trans ((if_neg (by rw [hused]; decide)).trans (if_neg (by rw [hload]; exact Bool.false_ne_true)))

/-! ## Images for the decompressor (R246, R292, R310) -/

/-- The state in which a staged image waits for the decompressor. -/
def State.imageWaits (s : State) (rq : Req) (use : DecUse) (off n : Nat) : State :=
  s.setSumac (fun x => { x with decJobs := x.decJobs ++ [⟨rq, use, s.staged off n⟩] })

theorem loadZonePackCmd_waits (htest : s.testOn 0x06 0 = false) (hstaged : off + n ≤ stagingMapped) :
    s.loadZonePackCmd rq off n = s.imageWaits rq .zonePack off n :=
  (if_neg (by rw [htest]; decide)).trans (if_neg (Nat.not_lt.2 hstaged))

theorem loadBaselinesCmd_waits (hstaged : off + n ≤ stagingMapped) :
    s.loadBaselinesCmd rq off n = s.imageWaits rq .baselines off n :=
  if_neg (Nat.not_lt.2 hstaged)

theorem loadMaskCmd_port (p : Port) (hstaged : off + n ≤ stagingMapped) :
    s.loadMaskCmd rq p.val off n =
      if s.flag Fld.mask_en p.val then s.complete rq .locked else s.imageWaits rq (.mask p) off n := by
  simp only [State.loadMaskCmd, dif_pos p.isLt, if_neg (Nat.not_lt.2 hstaged)]
  rfl

/-! ## Jobs of Sumac (R306) -/

theorem sumacJob_bad {desc : List Byte} (hbad : s.jobOk desc = false) : s.sumacJob rq desc = s.complete rq .badParam :=
  if_pos (Or.inr (by rw [hbad]; rfl))

/-- A COMPRESS job takes its input and its place; an access to capture memory is all that it changes beside. -/
theorem sumacJob_compress {desc : List Byte} (hlen : desc.length = 224) (hok : s.jobOk desc = true) (hop : u8At desc 0 = 1) :
    (s.sumacJob rq desc).sumac = SumacSt.fillLanes
        { s.sumac with blockJobs := s.sumac.blockJobs ++ [(rq, desc, s.devRead (u64At desc 8) (u32At desc 4))] }
      ∧ (s.sumacJob rq desc).mbox = s.mbox := by
  have hgo : ¬ (desc.length ≠ 224 ∨ (!s.jobOk desc) = true) := not_or.2 ⟨not_not_intro hlen, by rw [hok]; decide⟩
  simp only [State.sumacJob, if_neg hgo, if_pos hop]
  split <;> exact ⟨rfl, rfl⟩

/-! ## Firmware images (R370, R371) -/

theorem fwDownloadCmd_loads (hboot : s.start.boot = .waitHost) (herr : s.start.bootErr ≠ 8) (hlife : s.life.state ≠ .retired)
    (hload : s.start.load = .none) (hsize : n ≤ imageSlotBytes) :
    s.fwDownloadCmd rq n = s.setStart (fun t => { t with load := .download rq n }) := by
  have hgo : ¬ (s.start.boot ≠ .waitHost ∨ s.start.bootErr = 8 ∨ s.life.state = .retired) :=
    not_or.2 ⟨not_not_intro hboot, not_or.2 ⟨herr, hlife⟩⟩
  simp only [State.fwDownloadCmd, if_neg hgo, hload, if_neg (Nat.not_lt.2 hsize)]

theorem flashWriteRow_final (hfree : s.start.flashWrite = none) (hpos : 1 ≤ n) (hstaged : n ≤ stagingMapped)
    (hfits : off + n ≤ imageSlotBytes) (hnext : off = 0 ∨ off = s.start.flashNext) :
    s.flashWriteRow rq off n 1 = s.setStart (fun t => { t with flashWrite := some ⟨rq, off, s.staged 0 n, true⟩ }) := by
  refine (if_neg (by decide)).trans ((if_neg (by rw [hfree]; decide)).trans (if_neg ?_))
  omega

end

/-- Settles O50: each command by the checks that its premises pass or fail. -/
theorem hostLoads : Obligations.HostLoads := by
  intro dt rq slot pb off n prog desc p st s u release img verdict waits
  refine ⟨fun hu hlow hhigh hstaged hused hload => ?_, fun hu hlow hhigh hused hload => exec_of_began hu rfl ?_,
    fun hu htest hstaged => exec_of_began hu rfl (loadZonePackCmd_waits htest hstaged),
    fun hu hstaged => exec_of_began hu rfl (loadBaselinesCmd_waits hstaged), fun hu hport hstaged => ?_,
    fun hu hlen => ⟨fun hbad => exec_of_began hu rfl (sumacJob_bad hbad), fun hok hop => ?_⟩,
    fun hu hboot herr hlife hload hsize => exec_of_began hu rfl ?_,
    fun hu hfree hpos hstaged hfits hnext => exec_of_began hu rfl ?_⟩
  · obtain ⟨m, rfl⟩ := began_mail hu
    obtain ⟨hbad, hgood⟩ := loadProgramCmd_checks (s := (s.elapse dt).setMbox fun _ => m) (rq := rq) hlow hhigh hstaged hused hload
    exact ⟨fun h => exec_of_began hu rfl (hbad st h), fun h => exec_of_began hu rfl (hgood prog h)⟩
  · obtain ⟨m, rfl⟩ := began_mail hu
    exact unloadProgramCmd_unloads hlow hhigh hused hload
  · have hmask := loadMaskCmd_port (s := u) (rq := rq) p hstaged
    rw [← hport, began_flag hu] at hmask
    rw [← hport]
    exact ⟨fun hoff => exec_of_began hu rfl (hmask.trans (if_neg (by rw [hoff]; decide))),
      fun hon => exec_of_began hu rfl (hmask.trans (if_pos hon))⟩
  · obtain ⟨hsumac, hmbox⟩ := sumacJob_compress (s := u) (rq := rq) hlen hok hop
    rw [began_sumac hu] at hsumac
    exact ⟨_, exec_of_began hu rfl rfl, hsumac, hmbox⟩
  · obtain ⟨m, rfl⟩ := began_mail hu
    exact fwDownloadCmd_loads hboot herr hlife hload hsize
  · obtain ⟨m, rfl⟩ := began_mail hu
    exact flashWriteRow_final hfree hpos hstaged hfits hnext

end Sys2Proof.Machine

/-! # Engines, groups, snapshots, masks and capture memory under the host -/

namespace Sys2Proof.Machine

section
variable {s : State} {rq : Req}

/-- What a reset of an idle engine leaves of it (R213). -/
def EngineSt.returned (y : EngineSt) : EngineSt :=
  { EngineSt.reset with pmem := y.pmem, holds := y.holds, dmem := y.dmem, cycles := y.cycles, busySince := y.busySince, mode := y.mode }

theorem engineResetCmd_idle {cl n : Nat} {e : EngineId} (hcl : cl ≤ 7) (hn : n ≤ 3) (he : e.val = 4 * cl + n)
    (hprog : s.testOn 0x01 e.val = false) (hdata : s.testOn 0x02 e.val = false) (hmode : (s.engine e).mode = .idle) :
    s.engineResetCmd rq cl n = (s.setEngine e EngineSt.returned).complete rq .ok := by
  have hid : (⟨(4 * cl + n) % 32, by omega⟩ : EngineId) = e := Fin.ext (by rw [he]; exact Nat.mod_eq_of_lt (by omega))
  have htest : ¬ (s.testOn 0x01 (4 * cl + n) || s.testOn 0x02 (4 * cl + n)) = true := by
    rw [← he, hprog, hdata]
    decide
  refine (if_neg (by omega)).trans ((if_neg htest).trans ?_)
  simp only [hid, hmode]
  rfl

/-! ## Groups (R259) -/

theorem ackGroupCmd_group (g : GroupId) : s.ackGroupCmd rq g.val = (s.ackGroup g).2.complete rq (s.ackGroup g).1 :=
  dif_pos g.isLt

theorem ackGroup_busy {g : GroupId} (h : (s.group g).activeZones ≠ 0) : s.ackGroup g = (.busy, s) := if_pos h

theorem ackGroup_unlatched {g : GroupId} (hzones : (s.group g).activeZones = 0) (h : (s.group g).latched = false) :
    s.ackGroup g = (.ok, s) :=
  (if_neg (not_not_intro hzones)).trans (if_pos (by rw [h]; rfl))

theorem ackGroup_latched {g : GroupId} (hzones : (s.group g).activeZones = 0) (h : (s.group g).latched = true) :
    s.ackGroup g =
      (.ok, ((s.setGroup g (fun y => { y with active := false, latched := false })).sendSummary g false).outputsEval) :=
  (if_neg (not_not_intro hzones)).trans (if_neg (by rw [h]; decide))

/-! ## Snapshots (R291) -/

section
variable {id : Nat} {n : Snapshot}

theorem snapReadRow_reads {i : Nat} (hfind : s.capture.snapshots.find? (fun n => n.id = id) = some n)
    (hen : s.flag Fld.stream_en i = true) (hclass : s.streamClass i = clsSnapshot) (hpub : n.published = true)
    (hfree : s.capture.readouts.any (fun r => r.stream = i) = false) :
    s.snapReadRow rq id i 0 =
      (s.setCapture (fun c =>
        { c with readouts := c.readouts ++ [⟨rq, id, i, false,
            ⟨typSnapHeader, 0xFF, 0, 0, i, snapHeader n (recsBytes (s.snapRecords n))⟩ :: s.snapRecords n, 0, 0, false⟩] })).readoutStep
          i := by
  have hstream : ¬ ((!s.flag Fld.stream_en i || s.streamClass i ≠ clsSnapshot) = true) := by
    rw [hen, hclass]
    decide
  have hbusy : ¬ ((!n.published || s.capture.readouts.any (fun r => r.stream = i)) = true) := by
    rw [hpub, hfree]
    decide
  refine (if_neg (by decide)).trans ?_
  simp only [State.snapReadCmd, hfind, if_neg hstream, if_neg hbusy]
  rfl

theorem snapReleaseCmd_releases (hfind : s.capture.snapshots.find? (fun n => n.id = id) = some n) (hpub : n.published = true)
    (hfree : s.capture.readouts.any (fun r => r.snapId = id) = false) :
    s.snapReleaseCmd rq id = (s.freeSnap id).complete rq .ok := by
  have hbusy : ¬ ((!n.published || s.capture.readouts.any (fun r => r.snapId = id)) = true) := by
    rw [hpub, hfree]
    decide
  simp only [State.snapReleaseCmd, hfind, if_neg hbusy]

end

/-! ## Masks and capture memory (R280, R295) -/

theorem maskRearmCmd_busy {p : Port} (h : (s.mask p).snapId ≠ none) : s.maskRearmCmd rq p.val = s.complete rq .busy := by
  rw [State.maskRearmCmd, dif_pos p.isLt]
  exact if_pos (Option.isSome_iff_ne_none.2 h)

/-- What a pass over the rings does to none of them. -/
theorem foldl_rings_none {p : Port} (f : State → RingKind → State) (h : ∀ k, (s.ring p k).mode ≠ .frozen) (ks : List RingKind) :
    ks.foldl (fun t k => if (t.ring p k).mode = .frozen then f t k else t) s = s := by
  induction ks with
  | nil => rfl
  | cons k ks ih => rw [List.foldl_cons, if_neg (h k), ih]

theorem maskRearmCmd_rearms {p : Port} (hsnap : (s.mask p).snapId = none) (hrings : ∀ k, (s.ring p k).mode ≠ .frozen)
    (hmode : (s.port p).seq.mode ≠ .halted) :
    s.maskRearmCmd rq p.val = (s.setMask p (fun x =>
      { x with stopped := false, traces := [], taking := false, owed := false, lastRuns := [] })).complete rq .ok := by
  rw [State.maskRearmCmd, dif_pos p.isLt]
  refine (if_neg (by rw [show (s.mask ⟨p.val, p.isLt⟩).snapId = none from hsnap]; decide)).trans ?_
  simp only [if_neg hmode]
  exact congrArg (fun t : State => (t.setMask p _).complete rq .ok) (foldl_rings_none _ hrings allRings)

theorem capmemRetrainCmd_trains (huse : s.captureInUse = false) (hidle : s.capture.mem.training = none) :
    s.capmemRetrainCmd rq = s.setMem (fun m => { m with trained := false, training := some (some rq) }) :=
  (if_neg (by rw [huse]; decide)).trans (if_neg (by rw [hidle]; decide))

end

/-- Settles O51: each command by the branch that its premises choose. -/
theorem hostDetection : Obligations.HostDetection := by
  intro dt rq cl en g pb id stream n e gr p s u
  refine ⟨fun hu hcl hen he hprog hdata hmode => exec_of_began hu rfl ?_, fun hu hg => ?_,
    fun hu hfind hen hclass hpub hfree => exec_of_began hu rfl ?_, fun hu hfind hpub hfree => exec_of_began hu rfl ?_,
    fun hu hport => ?_, fun hu => ⟨fun huse => exec_of_began hu rfl (if_pos huse), fun huse hidle => exec_of_began hu rfl ?_⟩⟩
  · exact engineResetCmd_idle hcl hen he hprog hdata (by rw [began_engine hu]; exact hmode)
  · have hack := ackGroupCmd_group (s := u) (rq := rq) gr
    rw [← hg] at hack
    refine ⟨fun hzones => exec_of_began hu rfl ?_, fun hzones hlatched => exec_of_began hu rfl ?_,
      fun hzones hlatched => exec_of_began hu rfl ?_⟩
    · rw [hack, ackGroup_busy (by rw [began_group hu]; exact hzones)]
    · rw [hack, ackGroup_unlatched (by rw [began_group hu]; exact hzones) (by rw [began_group hu]; exact hlatched)]
    · rw [hack, ackGroup_latched (by rw [began_group hu]; exact hzones) (by rw [began_group hu]; exact hlatched)]
  · obtain ⟨m, rfl⟩ := began_mail hu
    exact snapReadRow_reads hfind hen hclass hpub hfree
  · obtain ⟨m, rfl⟩ := began_mail hu
    exact snapReleaseCmd_releases hfind hpub hfree
  · refine ⟨fun hsnap => exec_of_began hu rfl ?_, fun hsnap hrings hmode => exec_of_began hu rfl ?_⟩
    · rw [hport]
      exact maskRearmCmd_busy (by rw [began_mask hu]; exact hsnap)
    · rw [hport]
      exact maskRearmCmd_rearms (by rw [began_mask hu]; exact hsnap) (fun k => by rw [began_ring hu]; exact hrings k)
        (by rw [began_port hu]; exact hmode)
  · exact capmemRetrainCmd_trains huse (by rw [began_capture hu]; exact hidle)

end Sys2Proof.Machine

/-! # Link, power moves and the reset under the host -/

namespace Sys2Proof.Machine

section
variable {s : State} {rq : Req}

/-! ## LINK_LOOP (R337) -/

/-- The state in which a loop of PATTERN 0 has been asked for. -/
def State.loopAsked (s : State) (mode lanes time : Nat) (tag : Option (BitVec 6)) : State :=
  s.setLink (fun l => { l with loop := some ⟨mode, 0, BitVec.ofNat 8 lanes, time, tag, s.clk, 0, false⟩ })

theorem linkLoopCmd_asks {mode lanes time : Nat} (hlow : 1 ≤ mode) (hhigh : mode ≤ 3) (hlanes : lanes ≤ 255) (hpos : 1 ≤ time)
    (htime : time ≤ 65535) (hstage : s.link.stage ≠ .disabled) :
    (rq.route = .link →
        s.linkLoopCmd rq mode 0 lanes time = ((s.loopAsked mode lanes time (some rq.tag)).complete rq .ok).loopSent)
      ∧ (rq.route = .controlPort →
        s.linkLoopCmd rq mode 0 lanes time = (s.loopAsked mode lanes time none).loopBegin.complete rq .ok) := by
  have hranges : ¬ (1 < 0 ∨ time = 0 ∨ 65535 < time ∨ 255 < lanes
      ∨ (0 = 1 ∧ (mode = 3 ∨ (!lanesWhole (BitVec.ofNat 8 lanes)) = true))) := by omega
  refine ⟨fun hroute => ?_, fun hroute => ?_⟩
  · simp only [State.linkLoopCmd, if_neg (show ¬ 3 < mode by omega), if_neg (show ¬ mode = 0 by omega), if_neg hranges,
      if_neg hstage, hroute]
    rfl
  · simp only [State.linkLoopCmd, if_neg (show ¬ 3 < mode by omega), if_neg (show ¬ mode = 0 by omega), if_neg hranges,
      if_neg hstage, hroute]
    rfl

/-! ## POWER_STATE (R426 to R428, R434) -/

section
variable (hfree : s.blockTest = false) (hmove : s.power.move = none)
include hfree hmove

theorem powerStateCmd_free (target banks : Nat) : s.powerStateCmd rq target banks =
    if 2 < target ∨ 255 < banks ∨ (target ≠ 2 ∧ banks ≠ 0) then s.complete rq .badParam
    else if target = 2 then
      match s.retainFails rq (BitVec.ofNat 8 banks) with
      | some st => s.complete rq st
      | none => s.toRetain rq (BitVec.ofNat 8 banks)
    else
      match s.power.mode with
      | .active => if target = 0 then s.complete rq .ok else s.toStandby rq
      | .standby =>
        if target = 1 then s.complete rq .ok
        else s.setPower (fun w => { w with move := some (rq, .active, s.clk) })
      | .entering | .retain | .waking | .off => s.complete rq .badState :=
  if_neg (by rw [hfree, hmove]; decide)

theorem powerStateCmd_standby :
    (s.power.mode = .active → s.powerStateCmd rq 1 0 = s.toStandby rq)
      ∧ (s.power.mode = .standby → s.powerStateCmd rq 1 0 = s.complete rq .ok) := by
  have hcmd := powerStateCmd_free (rq := rq) hfree hmove 1 0
  exact ⟨fun hmode => by simp [hcmd, hmode], fun hmode => by simp [hcmd, hmode]⟩

theorem powerStateCmd_active (hmode : s.power.mode = .standby) :
    s.powerStateCmd rq 0 0 = s.setPower (fun w => { w with move := some (rq, .active, s.clk) }) := by
  simp [powerStateCmd_free hfree hmove, hmode]

theorem powerStateCmd_retain (banks : Byte) :
    (∀ st, s.retainFails rq banks = some st → s.powerStateCmd rq 2 banks.toNat = s.complete rq st)
      ∧ (s.retainFails rq banks = none → s.powerStateCmd rq 2 banks.toNat = s.toRetain rq banks) := by
  have hcmd := powerStateCmd_free (rq := rq) hfree hmove 2 banks.toNat
  have hbanks : BitVec.ofNat 8 banks.toNat = banks := by rw [BitVec.ofNat_toNat, BitVec.setWidth_eq]
  rw [if_neg (by omega), if_pos rfl, hbanks] at hcmd
  exact ⟨fun st h => by rw [hcmd, h], fun h => by rw [hcmd, h]⟩

end

end

/-- Settles O52: each command by the branch that its premises choose. -/
theorem hostLinkAndPower : Obligations.HostLinkAndPower := by
  intro dt rq mode pattern lanes time banks s u
  refine ⟨fun hu => exec_of_began hu rfl rfl, fun hu hlow hhigh hpattern hpos hstage => ?_, fun hu hfree hmove => ?_,
    fun hu hfree hmove hmode => exec_of_began hu rfl ?_, fun hu hfree hmove => ?_, fun hu => exec_of_began hu rfl ?_⟩
  · obtain ⟨m, rfl⟩ := began_mail hu
    obtain ⟨hlink, hport⟩ := linkLoopCmd_asks (s := (s.elapse dt).setMbox fun _ => m) (rq := rq) (lanes := lanes.toNat)
      hlow hhigh (by omega) hpos (by omega) hstage
    rw [← hpattern] at hlink hport
    exact ⟨fun hroute => exec_of_began hu rfl ((hlink hroute).trans (by rw [State.loopAsked]; rfl)),
      fun hroute => exec_of_began hu rfl (hport hroute)⟩
  · have hmove' : u.power.move = none := by rw [began_power hu]; exact hmove
    obtain ⟨hactive, hstandby⟩ := powerStateCmd_standby (rq := rq) hfree hmove'
    rw [began_power hu] at hactive hstandby
    exact ⟨fun hmode => exec_of_began hu rfl (hactive hmode), fun hmode => exec_of_began hu rfl (hstandby hmode)⟩
  · rw [← began_clk hu]
    exact powerStateCmd_active hfree (by rw [began_power hu]; exact hmove) (by rw [began_power hu]; exact hmode)
  · obtain ⟨hrefused, htaken⟩ := powerStateCmd_retain (rq := rq) hfree (by rw [began_power hu]; exact hmove) banks
    exact ⟨fun st h => exec_of_began hu rfl (hrefused st h), fun h => exec_of_began hu rfl (htaken h),
      fun hmode => if_pos (by rw [began_power hu]; exact hmode)⟩
  · rw [← began_clk hu]
    rfl

end Sys2Proof.Machine

/-! # Tests and life-cycle moves under the host -/

namespace Sys2Proof.Machine

section
variable {s : State} {rq : Req}

/-! ## SHUTDOWN and ABORT_SELFTEST (R446 to R448) -/

theorem shutdownCmd_shuts {flags : Nat} (hflags : flags ≤ 1) (hmode : s.power.mode = .standby) (hmove : s.power.move = none)
    (hfree : s.blockTest = false) :
    (rq.route = .controlPort →
        s.shutdownCmd rq flags = (s.complete rq .ok).shutBegin (s.acceptedAt rq) (flags = 1))
      ∧ (rq.route = .link →
        s.shutdownCmd rq flags =
          ((s.complete rq .ok).setLife (fun l =>
            { l with shutNext := some (rq.tag, s.acceptedAt rq, decide (flags = 1)) })).shutGo) := by
  have hstate : ¬ (s.power.mode ≠ .standby ∨ s.power.move.isSome = true) := by
    rw [hmode, hmove]
    decide
  have hbusy : ¬ s.blockTest = true := by rw [hfree]; decide
  refine ⟨fun hroute => ?_, fun hroute => ?_⟩
  · simp only [State.shutdownCmd, if_neg hstate, if_neg hbusy, if_neg (Nat.not_lt.2 hflags), hroute]
  · simp only [State.shutdownCmd, if_neg hstate, if_neg hbusy, if_neg (Nat.not_lt.2 hflags), hroute]

theorem abortSelftestCmd_none (h : s.life.test = .none) : s.abortSelftestCmd rq = s.complete rq .badState := by
  simp only [State.abortSelftestCmd, h]

theorem abortSelftestCmd_block {test : Req} {m i q t : Nat} (h : s.life.test = .block test m i q t) :
    s.abortSelftestCmd rq = (s.stopBlockTest.complete test .aborted).complete rq .ok := by
  simp only [State.abortSelftestCmd, h]

theorem abortSelftestCmd_shutdown {t : Nat} (h : s.life.test = .shutdown t) :
    s.abortSelftestCmd rq = ((s.setLife (fun l => { l with outcome := 4 })).complete rq .ok).shutDownNow := by
  simp only [State.abortSelftestCmd, h]

/-! ## SELFTEST_RUN (R455) -/

theorem selftestRunCmd_runs {block pattern n : Nat} (hlife : openLife s.life.state = true)
    (hmode : s.power.mode = .active ∨ s.power.mode = .standby) (hblock : blockInstances (block / 256) = some n)
    (hinst : block % 256 < n) (hpattern : pattern ≤ 3) (hidle : s.blockTest = false) :
    s.selftestRunCmd rq block pattern =
      if s.blockFree (block / 256) (block % 256) = false then s.complete rq .locked
      else s.setLife (fun l => { l with test := .block rq (block / 256) (block % 256) pattern s.clk }) := by
  have hbusy : ¬ s.blockTest = true := by rw [hidle]; decide
  have hrange : ¬ (n ≤ block % 256 ∨ 3 < pattern) := by omega
  rcases hmode with hmode | hmode
  · simp only [State.selftestRunCmd, hlife, hmode, hblock, if_neg hrange, if_neg hbusy, Bool.not_eq_true']
    rfl
  · simp only [State.selftestRunCmd, hlife, hmode, hblock, if_neg hrange, if_neg hbusy, Bool.not_eq_true']
    rfl

/-! ## SERVICE and LIFECYCLE_SET (R459, R462) -/

/-- The state in which a challenge of free bytes has been issued. -/
def State.challenged (s : State) : State :=
  ({ s with free := s.free + 32 } : State).setLife (fun l => { l with challenge := some (freeBytes 32 s.free, s.clk) })

theorem serviceChallengeCmd_issues (hlife : s.life.state = .deployed) (hfew : s.life.failures < 5) :
    s.serviceChallengeCmd rq = s.challenged.completeWith rq .ok noFlags [] (freeBytes 32 s.free) :=
  (if_neg (not_not_intro hlife)).trans (if_neg (Nat.not_le.2 hfew))

theorem serviceChallengeCmd_denied (hlife : s.life.state = .deployed) (hmany : 5 ≤ s.life.failures) :
    s.serviceChallengeCmd rq = s.complete rq .denied :=
  (if_neg (not_not_intro hlife)).trans (if_pos hmany)

/-- A BLANK device becomes a FACTORY one with a key on the curve. -/
theorem lifecycleSetCmd_factory (hidle : s.blockTest = false) (hset : s.life.setting = none) (hlife : s.life.state = .blank) :
    s.lifecycleSetCmd rq 1 =
      if onP256 (beNat ((s.staged 0 64).take 32)) (beNat ((s.staged 0 64).drop 32)) then
        s.setLife (fun l => { l with setting := some (rq, .factory, sha256 (s.staged 0 64)) })
      else s.complete rq .badParam := by
  have hbusy : ¬ (s.blockTest || s.life.setting.isSome) = true := by
    rw [hidle, hset]
    decide
  have htarget : lifeOf 1 = some .factory := rfl
  simp only [State.lifecycleSetCmd, if_neg hbusy, hlife, htarget]

end

/-- Settles O53: each command by the branch that its premises choose. -/
theorem hostTestAndLife : Obligations.HostTestAndLife := by
  intro dt rq test block pattern sig m i q t0 n s u
  refine ⟨fun f hf hu hmode hmove hidle => ?_, fun hu => ⟨fun h => exec_of_began hu rfl ?_, fun h => exec_of_began hu rfl ?_,
      fun h => exec_of_began hu rfl ?_⟩, fun hu hlife hmode hblock hinst hpattern hidle => ?_,
    fun hu hlife => ⟨fun hfew => ?_, fun hmany => exec_of_began hu rfl ?_⟩, fun hu => exec_of_began hu rfl rfl,
    fun hu hidle hset hlife => ?_⟩
  · obtain ⟨hport, hlink⟩ := shutdownCmd_shuts (s := u) (rq := rq) hf (by rw [began_power hu]; exact hmode)
      (by rw [began_power hu]; exact hmove) hidle
    exact ⟨fun hroute => exec_of_began hu rfl (hport hroute), fun hroute => exec_of_began hu rfl (hlink hroute)⟩
  · exact abortSelftestCmd_none (by rw [began_life hu]; exact h)
  · exact abortSelftestCmd_block (by rw [began_life hu]; exact h)
  · exact abortSelftestCmd_shutdown (by rw [began_life hu]; exact h)
  · have hrun := selftestRunCmd_runs (s := u) (rq := rq) (by rw [began_life hu]; exact hlife)
      (by rw [began_power hu]; exact hmode) hblock hinst hpattern hidle
    rw [began_clk hu] at hrun
    exact ⟨fun hfree => exec_of_began hu rfl (hrun.trans (if_neg (by rw [hfree]; decide))),
      fun hused => exec_of_began hu rfl (hrun.trans (if_pos hused))⟩
  · refine ⟨u.challenged, freeBytes 32 u.free, exec_of_began hu rfl (serviceChallengeCmd_issues (by rw [began_life hu]; exact hlife)
      (by rw [began_life hu]; exact hfew)), ?_, rfl⟩
    rw [← began_life hu, ← began_clk hu]
    rfl
  · exact serviceChallengeCmd_denied (by rw [began_life hu]; exact hlife) (by rw [began_life hu]; exact hmany)
  · intro key
    have hmove := lifecycleSetCmd_factory (s := u) (rq := rq) hidle (by rw [began_life hu]; exact hset)
      (by rw [began_life hu]; exact hlife)
    exact ⟨fun hkey => exec_of_began hu rfl (hmove.trans (if_pos hkey)),
      fun hkey => exec_of_began hu rfl (hmove.trans (if_neg (by rw [hkey]; decide)))⟩

end Sys2Proof.Machine

/-! # Calibration and the time-interval unit under the host -/

namespace Sys2Proof.Machine

section
variable {s : State} {rq : Req}

theorem calRunCmd_runs {ports : Byte} {steps : Nat} (hidle : s.cal.run = none) (hact : s.inActive = true) (hports : ports ≠ 0)
    (hlow : 1 ≤ steps) (hhigh : steps < 16) (hrec : ∀ q ∈ maskPorts ports, s.record q ≠ none) :
    s.calRunCmd rq ports.toNat steps =
      if (if rq.timeout = 0 then 10000 else rq.timeout.toNat) * 1000000 < s.calEstimate ports (BitVec.ofNat 4 steps) then
        s.complete rq .badParam
      else s.runStart ports (BitVec.ofNat 4 steps) (some rq) false false false := by
  have hmask : BitVec.ofNat 8 ports.toNat = ports := by rw [BitVec.ofNat_toNat, BitVec.setWidth_eq]
  have hne : ports.toNat ≠ 0 := fun h => hports (BitVec.eq_of_toNat_eq h)
  have hrange : ¬ (ports.toNat = 0 ∨ 256 ≤ ports.toNat ∨ steps = 0 ∨ 16 ≤ steps) := by omega
  have hall : ¬ ((maskPorts ports).any (fun p => (s.record p).isNone) = true) := by
    rw [List.any_eq_true]
    rintro ⟨q, hq, hnone⟩
    exact hrec q hq (Option.isNone_iff_eq_none.1 hnone)
  unfold State.calRunCmd
  rw [hmask]
  exact (if_neg (by rw [hidle]; decide)).trans ((if_neg (by rw [hact]; decide)).trans ((if_neg hrange).trans (if_neg hall)))

theorem calSetRefresCmd_sets {v : Nat} (hidle : s.cal.run = none) (hlow : 95000 ≤ v) (hhigh : v ≤ 105000) :
    s.calSetRefresCmd rq v = (s.setFld Fld.calCfg_refresMohm 0 v).complete rq .ok := by
  have hset : s.setRefres v = (.ok, s.setFld Fld.calCfg_refresMohm 0 v) :=
    (if_neg (by rw [hidle]; decide)).trans (if_neg (by omega))
  rw [State.calSetRefresCmd, hset]

theorem calSetRefresCmd_outside {v : Nat} (hidle : s.cal.run = none) (h : v < 95000 ∨ 105000 < v) :
    s.calSetRefresCmd rq v = s.complete rq .badParam := by
  have hset : s.setRefres v = (.badParam, s) := (if_neg (by rw [hidle]; decide)).trans (if_pos h)
  rw [State.calSetRefresCmd, hset]

/-- A bath reading within its limits on a span that is long enough and far enough from the coil. -/
theorem calSetBathCmd_sets {p : Port} {r : List Byte} {t : Word} (hrec : s.record p = some r) (hlow : -40000 ≤ t.toInt)
    (hhigh : t.toInt ≤ 85000) (hspan : s.fld Fld.calPort_bathFirst p.val + 15 ≤ s.fld Fld.calPort_bathLast p.val)
    (hfibre : s.fld Fld.calPort_bathLast p.val < s.fld Fld.seqPort_fibreLen p.val)
    (hfar : 10000 * s.fld Fld.seqPort_groupIndex p.val ≤ (twiceFromCoil (s.ramanCoef p) (s.fld Fld.calPort_bathFirst p.val)
      (s.fld Fld.calPort_bathLast p.val)).natAbs * 14989623) (hidle : s.calOn .raman p = false) :
    s.calSetBathCmd rq p.val t =
      ((s.setCalPort p (fun c => { c with bath := some t.toInt, coefSerial := bytesAt r 8 16 })).setHead p
        (fun h => { h with headChanged := false })).complete rq .ok := by
  have hset : s.setBath p.val t.toInt =
      (.ok, (s.setCalPort p (fun c => { c with bath := some t.toInt, coefSerial := bytesAt r 8 16 })).setHead p
        (fun h => { h with headChanged := false })) := by
    rw [State.setBath, dif_pos p.isLt]
    simp only [hrec]
    exact (if_neg (by omega)).trans ((if_neg (by omega)).trans ((if_neg (Nat.not_lt.2 hfar)).trans
      (if_neg (by rw [hidle]; decide))))
  rw [State.calSetBathCmd, hset]

/-! ## TI_ARM (R384) -/

section
variable {b : List Byte} {a : TiArm}

theorem tiArmed_of (hlen : b.length = 28) (ha : tiParams b = some a) : s.tiArmed b =
    if a.src = 0 then (.ok, s.setTi (fun t => { t with arm := none, meas := none, excess := none, fired := 0 }))
    else if s.time.ti.arm.isSome then (.busy, s)
    else (.ok, s.setTi (fun t => { t with arm := some a, meas := none, excess := none, fired := 0, number := 0 })) := by
  simp only [State.tiArmed, if_pos hlen, ha]

theorem tiArmCmd_active (hskew : s.skewRuns = false) (hact : s.inActive = true) :
    s.tiArmCmd rq b = (s.tiArmed b).2.complete rq (s.tiArmed b).1 := by
  refine (if_neg (by rw [hskew]; decide)).trans (if_neg ?_)
  rw [hact]
  exact Bool.false_ne_true

end

end

/-- Settles O54: each command by the limits that its premises keep or break. -/
theorem hostCalibration : Obligations.HostCalibration := by
  intro dt rq ports pb steps v temp params a p r s u
  refine ⟨fun hu hidle hact hports hlow hhigh hrec => ?_, fun hu hidle => ⟨fun hlow hhigh => exec_of_began hu rfl ?_,
      fun hout => exec_of_began hu rfl ?_⟩,
    fun hu hport hrec hlow hhigh hspan hfibre hfar hidle => exec_of_began hu rfl ?_,
    fun hu hlen ha hskew hact => ?_⟩
  · intro t sm
    have hrun := calRunCmd_runs (s := u) (rq := rq) (by rw [began_cal hu]; exact hidle) hact hports hlow hhigh
      (fun q hq => by rw [began_record hu]; exact hrec q hq)
    exact ⟨fun hfits => exec_of_began hu rfl (hrun.trans (if_neg (Nat.not_lt.2 hfits))),
      fun hlong => exec_of_began hu rfl (hrun.trans (if_pos hlong))⟩
  · exact calSetRefresCmd_sets (by rw [began_cal hu]; exact hidle) hlow hhigh
  · exact calSetRefresCmd_outside (by rw [began_cal hu]; exact hidle) hout
  · obtain ⟨m, rfl⟩ := began_mail hu
    rw [hport]
    exact calSetBathCmd_sets hrec hlow hhigh hspan hfibre hfar hidle
  · have harm := tiArmCmd_active (b := params) (rq := rq) hskew hact
    rw [tiArmed_of hlen ha, began_time hu] at harm
    refine ⟨fun hsrc => exec_of_began hu rfl ?_, fun hsrc hfree => exec_of_began hu rfl ?_,
      fun hsrc hbusy => exec_of_began hu rfl ?_⟩
    · rw [harm, if_pos hsrc]
    · rw [harm, if_neg hsrc, hfree]
      rfl
    · rw [harm, if_neg hsrc, if_pos (Option.isSome_iff_ne_none.2 hbusy)]

end Sys2Proof.Machine

/-! # What the host writes (R341 to R345, R350, R352, R356) -/

namespace Sys2Proof.Machine

section
variable {s : State}

/-! ## The registers -/

/-- The four bytes of a word are one whole word: the word itself. -/
theorem wholeWords_leBytes (v : Word) : wholeWords (leBytes 4 v.toNat) = [v] := by
  have hv := v.isLt
  have hword : BitVec.ofNat 32 (leNat (leBytes 4 v.toNat)) = v := by
    apply BitVec.eq_of_toNat_eq
    simp only [leBytes, leNat, BitVec.toNat_ofNat]
    omega
  change [BitVec.ofNat 32 (leNat (leBytes 4 v.toNat))] = [v]
  rw [hword]

/-- Beyond the registers a word of the command window is stored in its memory. -/
theorem portWrite_window {addr : Nat} {v : Word} (hlow : 0x4000 ≤ addr) (hhigh : addr < 0x8000) :
    s.portWrite addr v =
      s.setMbox (fun m => { m with window := memWriteAll blankByte m.window (addr - 0x4000) (leBytes 4 v.toNat) }) := by
  unfold State.portWrite
  split
  case h_7 => exact if_pos ⟨hlow, hhigh⟩
  all_goals omega

/-- Between the command window and the completion queue's end a write has no effect. -/
theorem portWrite_queue {addr : Nat} {v : Word} (hlow : 0x8000 ≤ addr) (hhigh : addr < 0xA000) : s.portWrite addr v = s := by
  unfold State.portWrite
  split
  case h_7 => exact (if_neg (by omega)).trans (if_neg (by omega))
  all_goals omega

/-- Clearing bits of IRQ_STATUS sets none: FATAL stands afterwards only where it stood before. -/
theorem fatal_of_cleared {mask : BitVec 7}
    (h : (s.setMbox (fun m => { m with irq := m.irq &&& ~~~mask })).fatal = true) : s.fatal = true := by
  have hclear : s.mbox.irq &&& ~~~mask &&& irqFatal = irqFatal := of_decide_eq_true h
  refine decide_eq_true ?_
  calc s.mbox.irq &&& irqFatal
      = s.mbox.irq &&& (s.mbox.irq &&& ~~~mask &&& irqFatal) := by rw [hclear]
    _ = s.mbox.irq &&& ~~~mask &&& irqFatal := by rw [← BitVec.and_assoc, ← BitVec.and_assoc, BitVec.and_self]
    _ = irqFatal := hclear

theorem irqClear_same {mask : BitVec 7} {t : State} (ht : t = s.setMbox (fun m => { m with irq := m.irq &&& ~~~mask }))
    (h : s.fatal = t.fatal) : s.irqClear mask = t := by
  subst ht
  exact if_neg (by rw [← h]; simp)

theorem irqClear_fatal {mask : BitVec 7} {t : State} (ht : t = s.setMbox (fun m => { m with irq := m.irq &&& ~~~mask }))
    (h : s.fatal ≠ t.fatal) : s.irqClear mask = t.outputsEval := by
  have hnot : t.fatal = false :=
    Bool.eq_false_iff.2 fun hfatal => h ((fatal_of_cleared (by rw [← ht]; exact hfatal)).trans hfatal.symm)
  have hwas : s.fatal = true := by
    rw [hnot] at h
    exact Bool.not_eq_false _ ▸ h
  subst ht
  exact if_pos (by rw [hwas, hnot]; rfl)

/-- Events that move into the queue leave CQ_HEAD, which is the host's. -/
theorem drainEvents_cqHead (fuel : Nat) : ∀ s : State, (State.drainEvents fuel s).mbox.cqHead = s.mbox.cqHead := by
  induction fuel with
  | zero => exact fun _ => rfl
  | succ n ih =>
    intro s
    rw [State.drainEvents]
    split
    · rfl
    · split
      · exact ih _
      · split
        · rfl
        · exact ih _

theorem headWrite_beyond {b : Byte} (h : s.cqUsed < (b - s.mbox.cqHead).toNat) : s.headWrite b = s.setIrq irqCqErr := if_pos h

/-- A CQ_HEAD within the entries in use is taken. -/
theorem headWrite_within {b : Byte} (h : (b - s.mbox.cqHead).toNat ≤ s.cqUsed) :
    (s.headWrite b).mbox.cqHead = b ∧ (s.headWrite b).ports = s.ports ∧ (s.headWrite b).cfg = s.cfg := by
  rw [show s.headWrite b = State.drainEvents 260 (s.setMbox fun m => { m with cqHead := b }) from if_neg (Nat.not_lt.2 h)]
  obtain ⟨m, st, hmail⟩ := drainEvents_mail 260 (s.setMbox fun m => { m with cqHead := b })
  refine ⟨drainEvents_cqHead _ _, ?_, ?_⟩ <;> rw [hmail] <;> rfl

theorem doorbellWrite_beyond {v : Nat} (h : 64 ≤ v) :
    s.doorbellWrite v = ((s.count Ctr.mboxStats_doorbells 0 1).setIrq irqLostDoorbell).count Ctr.mboxStats_lostDoorbell 0 1 :=
  if_pos h

/-- The slot of a tag begins at 256 times the tag. -/
theorem slotBase_ofNat {v : Nat} (h : v < 64) : slotBase (BitVec.ofNat 6 v) = 256 * v := by
  simp only [slotBase, BitVec.toNat_ofNat]
  omega

theorem doorbellWrite_slot {v : Nat} {slot : List Byte} (h : v < 64)
    (hslot : memReadAll blankByte s.mbox.window (256 * v) 256 = slot) :
    s.doorbellWrite v =
      (s.count Ctr.mboxStats_doorbells 0 1).submit (slotReq (BitVec.ofNat 6 v) .controlPort slot) (u16At slot 0)
        (slotOk (BitVec.ofNat 6 v) slot) (bytesAt slot 16 (min 240 (u16At slot 4))) := by
  rw [← slotBase_ofNat h] at hslot
  subst hslot
  exact if_neg (Nat.not_le.2 h)

/-! ## Transactions of the control port -/

section
variable {dt khz addr : Nat} {clocks data : List (BitVec 4)} {o : PortOp}

theorem registerWrite_unknown (h : portParse clocks = none) : registerWrite dt khz clocks s = s.elapse dt := by
  unfold registerWrite
  simp only [h]

/-- Nothing stands against a transaction on an address of a word at a clock its opcode allows. -/
theorem transaction_taken (hport : (s.elapse dt).portAnswers = true) (hclock : khz ≤ 1000 * o.mhz) (haddr : addr % 4 = 0) :
    ¬ (!(s.elapse dt).portAnswers || decide (addr % 4 ≠ 0) || decide (1000 * o.mhz < khz)) = true := by
  simp [hport, haddr, hclock]

theorem registerWrite_reads (hparse : portParse clocks = some (o, addr, data)) (hport : (s.elapse dt).portAnswers = true)
    (hclock : khz ≤ 1000 * o.mhz) (haddr : addr % 4 = 0) (hread : o.write = false) :
    registerWrite dt khz clocks s = (s.elapse dt).setMbox (fun m =>
      { m with portOut := (((s.elapse dt).portReadBytes addr (data.length * o.lines / 32 + 1)).flatMap (byteClocks o.lines)).take
                  data.length }) := by
  unfold registerWrite
  simp only [hparse]
  exact (if_neg (transaction_taken hport hclock haddr)).trans (if_neg (by rw [hread]; decide))

/-- A write transaction of one word writes it. -/
theorem registerWrite_word {v : Word} (hparse : portParse clocks = some (o, addr, data))
    (hport : (s.elapse dt).portAnswers = true) (hclock : khz ≤ 1000 * o.mhz) (haddr : addr % 4 = 0) (hwrite : o.write = true)
    (hdata : clockBytes o.lines data = leBytes 4 v.toNat) :
    registerWrite dt khz clocks s = (s.elapse dt).portWrite addr v := by
  unfold registerWrite
  simp only [hparse]
  refine (if_neg (transaction_taken hport hclock haddr)).trans ((if_pos hwrite).trans ?_)
  rw [hdata, wholeWords_leBytes]
  rfl

end

/-! ## Messages of stream 0 -/

section
variable {dt : Nat} {msg : List Byte}

theorem takes_of (h : (s.elapse dt).takesMessages = true) : ¬ (!(s.elapse dt).takesMessages) = true := by
  rw [h]
  decide

theorem stream0Command_malformed (htakes : (s.elapse dt).takesMessages = true) (hbad : messageOk 1 24 msg = false) :
    stream0Command dt msg s = ((s.elapse dt).hostBytes msg.length).count Ctr.linkStats_rxDiscard 0 1 :=
  (if_neg (takes_of htakes)).trans (if_pos (by rw [hbad]; rfl))

theorem stream0Command_submits {h : List Byte} {tag : BitVec 6} (htakes : (s.elapse dt).takesMessages = true)
    (hok : messageOk 1 24 msg = true) (hh : msg.drop 8 = h) (hlow : u8At h 2 ≤ 63) (htag : BitVec.ofNat 6 (u8At h 2) = tag) :
    stream0Command dt msg s = ((s.elapse dt).hostBytes msg.length).submit (slotReq tag .link h) (u16At h 0)
      (slotOk tag h && u16At h 4 + 24 = msg.length && bytesAt msg 1 3 = zeros 3) (h.drop 16) := by
  subst htag hh
  refine (if_neg (takes_of htakes)).trans (if_neg ?_)
  rw [hok, decide_eq_false (Nat.not_lt.2 hlow)]
  decide

/-- The units that a message frees are the link's: the staging window is as before. -/
theorem hostBytes_stagingWindow (n : Nat) : (s.hostBytes n).stagingWindow = s.stagingWindow := rfl

theorem stageWrite_stores {off : Nat} {stored : List Byte} (htakes : (s.elapse dt).takesMessages = true)
    (hok : messageOk 4 12 msg = true) (hoff : u32At msg 8 = off)
    (hstored : (msg.drop 12).take (((s.elapse dt).hostBytes msg.length).stagingWindow - off) = stored) :
    stageWrite dt msg s = ((s.elapse dt).hostBytes msg.length).setMbox
      (fun x => { x with staging := memWriteAll blankByte x.staging off stored }) := by
  subst hoff hstored
  exact (if_neg (takes_of htakes)).trans (if_neg (by rw [hok]; decide))

end

/-! ## A command that times out -/

/-- What a timeout stops: the work of a command that has started. -/
def State.stopped (s : State) (f : Flight) : State := if f.started then s.stopWork f else s

/-- A command past its timeout completes with TIMEOUT unless it moves the device into RETAIN by its own rules. -/
theorem commandTimeout_completes {dt : Nat} {tag : BitVec 6} {f : Flight} (hf : s.flightOf tag = some f)
    (hpast : f.acceptedAt + f.timeoutMs * 1000000 ≤ s.clk + dt)
    (htimes : (f.started && decide (f.code = 0x70) && !(s.elapse dt).powerTimes) = false) :
    commandTimeout dt tag s =
      ((((s.elapse dt).stopped f).count Ctr.mboxStats_timeouts 0 1).complete f.req .timeout) := by
  have helapsed : (s.elapse dt).flightOf tag = some f := hf
  unfold commandTimeout
  simp only [helapsed]
  refine if_neg ?_
  have hlate : decide ((s.elapse dt).clk < f.acceptedAt + f.timeoutMs * msNs) = false := decide_eq_false (Nat.not_lt.2 hpast)
  rw [hlate, htimes]
  decide

end

/-- Settles O55: each write by the register or the message it is, and a timeout that has passed. -/
theorem mailboxWrites : Obligations.MailboxWrites := by
  intro dt khz addr v b mask clocks data o msg tag f s u
  refine ⟨fun hport => ⟨?_, ?_, ?_, ?_, ?_, ?_, ?_⟩, ?_, ?_, ?_, ?_⟩
  · exact fun hlost => congrArg Host.Outcome.next ((if_pos hport).trans (doorbellWrite_beyond hlost))
  · intro hslot slot tag
    exact congrArg Host.Outcome.next ((if_pos hport).trans (doorbellWrite_slot hslot rfl))
  · exact fun hbeyond => congrArg Host.Outcome.next ((if_pos hport).trans (headWrite_beyond (s := u) hbeyond))
  · exact fun hwithin => ⟨_, congrArg Host.Outcome.next (if_pos hport), headWrite_within (s := u) hwithin⟩
  · intro t
    exact ⟨fun hsame => congrArg Host.Outcome.next ((if_pos hport).trans (irqClear_same rfl hsame)),
      fun hcleared => congrArg Host.Outcome.next ((if_pos hport).trans (irqClear_fatal rfl hcleared))⟩
  · exact fun hnone => congrArg Host.Outcome.next (registerWrite_unknown hnone)
  · intro hparse hclock haddr
    refine ⟨fun hread => congrArg Host.Outcome.next (registerWrite_reads hparse hport hclock haddr hread),
      fun hwrite hdata => ?_⟩
    have hword := registerWrite_word hparse hport hclock haddr hwrite hdata
    exact ⟨fun hscratch => congrArg Host.Outcome.next (by rw [hword, hscratch]; rfl),
      fun henable => congrArg Host.Outcome.next (by rw [hword, henable]; rfl),
      fun hlow hhigh => congrArg Host.Outcome.next (hword.trans (portWrite_window hlow hhigh)),
      fun hlow hhigh => congrArg Host.Outcome.next (hword.trans (portWrite_queue hlow hhigh))⟩
  · exact fun htakes hbad => congrArg Host.Outcome.next (stream0Command_malformed htakes hbad)
  · intro htakes hok hlow h tag
    exact congrArg Host.Outcome.next (stream0Command_submits htakes hok rfl hlow rfl)
  · intro htakes hok w off stored
    exact congrArg Host.Outcome.next (stageWrite_stores htakes hok rfl rfl)
  · intro hf hpast
    refine ⟨fun hnot => ?_, fun htimes => ?_⟩
    · have h := commandTimeout_completes hf hpast (by rw [hnot]; rfl)
      rw [State.stopped, hnot] at h
      exact congrArg Host.Outcome.next h
    · refine ⟨_, congrArg Host.Outcome.next (commandTimeout_completes hf hpast ?_), fun hstarted => ?_⟩
      · rcases htimes with hcode | hpower
        · rw [decide_eq_false hcode, Bool.and_false, Bool.false_and]
        · rw [show (s.elapse dt).powerTimes = true from hpower, Bool.not_true, Bool.and_false]
      · rw [State.stopped, hstarted]
        rfl

end Sys2Proof.Machine

/-! # The queue of commands: mailbox, streams, outputs, zones, engines

Only `step` takes commands off the queue: no operation of the model touches it. One lemma per operation, in the order of the
model's files, each by the branches of its definition; the rows then need no argument of their own. -/

namespace Sys2Proof.Machine

@[simp] theorem pending_ite (c : Prop) [Decidable c] (s t : State) :
    (if c then s else t).pending = if c then s.pending else t.pending := apply_ite _ _ _ _

@[simp] theorem pending_foldl {α : Type} (g : State → α → State) (l : List α) (s : State)
    (hg : ∀ t a, (g t a).pending = t.pending) : (l.foldl g s).pending = s.pending := by
  induction l generalizing s with
  | nil => rfl
  | cons a l ih => exact (ih _).trans (hg s a)

@[simp] theorem forPorts_pending (ps : List Port) (f : Port → State → State) (s : State)
    (hf : ∀ p t, (f p t).pending = t.pending) : (forPorts ps f s).pending = s.pending :=
  pending_foldl _ ps s (fun t p => hf p t)

/-! ## Settings of many units in turn leave the queue -/

@[simp] theorem setEmitters_pending (s : State) (p : Port) (es : List Emitter) (f : Emitter → EmitterSt → EmitterSt) :
    (es.foldl (fun u e => u.setEmitter p e (f e)) s).pending = s.pending := pending_foldl _ _ s fun _ _ => rfl

@[simp] theorem setCalPorts_pending {α : Type} (s : State) (xs : List α) (p : α → Port)
    (f : State → α → CalPortSt → CalPortSt) :
    (xs.foldl (fun t x => t.setCalPort (p x) (f t x)) s).pending = s.pending := pending_foldl _ _ s fun _ _ => rfl

@[simp] theorem setRxs_pending (s : State) (ps : List Port) (f : Port → RxSt → RxSt) :
    (ps.foldl (fun t p => t.setRx p (f p)) s).pending = s.pending := pending_foldl _ _ s fun _ _ => rfl

@[simp] theorem setFlds_pending (s : State) (ws : List FieldWrite) :
    (ws.foldl (fun t w => t.setFld w.fld w.inst w.val) s).pending = s.pending := pending_foldl _ _ s fun _ _ => rfl

@[simp] theorem setRamans_pending (s : State) (ps : List Port) (f : Port → RamanSt → RamanSt) :
    (forPorts ps (fun p t => t.setRaman p (f p)) s).pending = s.pending := forPorts_pending _ _ s fun _ _ => rfl

@[simp] theorem setPorts_pending (s : State) (ps : List Port) (f : Port → PortSt → PortSt) :
    (forPorts ps (fun p t => t.setPort p (f p)) s).pending = s.pending := forPorts_pending _ _ s fun _ _ => rfl

/-! ## The functions of Machine/Mailbox leave the queue -/

@[simp] theorem countIf_pending (s : State) (c : Ctr) (i : Nat) (b : Bool) : (s.countIf c i b).pending = s.pending := by
  unfold State.countIf
  simp

@[simp] theorem takeFree_pending (s : State) (w : Nat) : (s.takeFree w).2.pending = s.pending := rfl

@[simp] theorem setIrq_pending (s : State) (bits : BitVec 7) : (State.setIrq s bits).pending = s.pending := by
  unfold State.setIrq
  simp

@[simp] theorem cqPush_pending (s : State) (entry : List Byte) : (State.cqPush s entry).pending = s.pending := by
  unfold State.cqPush
  simp

@[simp] theorem toHost_pending (s : State) (typ : Nat) (body : List Byte) :
    (State.toHost s typ body).pending = s.pending := by
  unfold State.toHost
  simp

@[simp] theorem drainEvents_pending (x0 : Nat) (x1 : State) : (State.drainEvents x0 x1).pending = x1.pending := by
  induction x0 generalizing x1 with
  | zero => rfl
  | succ n ih =>
    rw [State.drainEvents]
    (repeat' split) <;> simp [ih]

@[simp] theorem eventToQueue_pending (s : State) (e : EventRec) : (State.eventToQueue s e).pending = s.pending := by
  unfold State.eventToQueue
  simp

/-! ## The functions of Machine/Streams leave the queue -/

@[simp] theorem memAccess_pending (s : State) : (State.memAccess s).pending = s.pending := by
  unfold State.memAccess
  simp

@[simp] theorem spillNote_pending (s : State) (i : Nat) : (State.spillNote s i).pending = s.pending := by
  unfold State.spillNote
  simp

@[simp] theorem pushStream_pending (s : State) (i typ flags : Nat) (payload : List Byte) :
    (State.pushStream s i typ flags payload).pending = s.pending := by
  unfold State.pushStream
  simp

@[simp] theorem pushData_pending (s : State) (i typ flags : Nat) (payload : List Byte) :
    (State.pushData s i typ flags payload).pending = s.pending := by
  unfold State.pushData
  simp

@[simp] theorem placeMark_pending (s : State) (i typ : Nat) (payload : List Byte) :
    (State.placeMark s i typ payload).pending = s.pending := by
  unfold State.placeMark
  simp

@[simp] theorem pushMark_pending (s : State) (i typ : Nat) (payload : List Byte) :
    (State.pushMark s i typ payload).pending = s.pending := by
  unfold State.pushMark
  simp

@[simp] theorem dropJob_pending (s : State) (i : Nat) : (State.dropJob s i).pending = s.pending := by
  unfold State.dropJob
  simp

@[simp] theorem marksPass_pending (i : Nat) (x0 : Nat) (x1 : State) :
    (State.marksPass i x0 x1).pending = x1.pending := by
  induction x0 generalizing x1 with
  | zero => rfl
  | succ n ih =>
    rw [State.marksPass]
    (repeat' split) <;> simp [ih]

@[simp] theorem ringStop_pending (s : State) (p : Port) (k : RingKind) :
    (State.ringStop s p k).pending = s.pending := by
  unfold State.ringStop
  simp

@[simp] theorem cutParts_pending (s : State) (p : Port) (k : RingKind) :
    (State.cutParts s p k).pending = s.pending := by
  unfold State.cutParts
  simp

@[simp] theorem pushRing_pending (s : State) (p : Port) (k : RingKind) (typ : Nat) (payload : List Byte) (t0 t1 : Nat) :
    (State.pushRing s p k typ payload t0 t1).pending = s.pending := by
  unfold State.pushRing
  dsimp only
  (repeat' split) <;> simp

@[simp] theorem pushRingData_pending (s : State) (p : Port) (k : RingKind) (typ : Nat) (payload : List Byte) (t0 t1 : Nat) :
    (State.pushRingData s p k typ payload t0 t1).pending = s.pending := by
  unfold State.pushRingData
  simp

@[simp] theorem ringResume_pending (s : State) (p : Port) (k : RingKind) :
    (State.ringResume s p k).pending = s.pending := by
  unfold State.ringResume
  dsimp only
  (repeat' split) <;> simp

@[simp] theorem markStreams_pending (s : State) (p : Port) (classes : List Nat) (m : Mark) :
    (State.markStreams s p classes m).pending = s.pending := by
  unfold State.markStreams
  simp

@[simp] theorem markRings_pending (s : State) (p : Port) (kinds : List RingKind) (m : Mark) :
    (State.markRings s p kinds m).pending = s.pending := by
  unfold State.markRings
  simp

@[simp] theorem headerDueRings_pending (s : State) (p : Port) :
    (State.headerDueRings s p).pending = s.pending := pending_foldl _ _ s fun _ _ => rfl

@[simp] theorem markStart_pending (s : State) (p : Port) (cause : Nat) :
    (State.markStart s p cause).pending = s.pending := by
  unfold State.markStart
  simp

@[simp] theorem markStop_pending (s : State) (p : Port) (cause : Nat) :
    (State.markStop s p cause).pending = s.pending := by
  unfold State.markStop
  simp

@[simp] theorem headerDueAll_pending (s : State) (p : Port) : (State.headerDueAll s p).pending = s.pending := by
  unfold State.headerDueAll
  rw [headerDueRings_pending]
  exact pending_foldl _ _ s fun _ _ => rfl

@[simp] theorem markSchedule_pending (s : State) (p : Port) : (State.markSchedule s p).pending = s.pending := by
  unfold State.markSchedule
  simp

@[simp] theorem ringsStart_pending (s : State) (p : Port) : (State.ringsStart s p).pending = s.pending := by
  unfold State.ringsStart
  simp

@[simp] theorem ringsStop_pending (s : State) (p : Port) : (State.ringsStop s p).pending = s.pending := by
  unfold State.ringsStop
  simp

/-! ## The functions of Machine/Capture leave the queue -/

@[simp] theorem openSnap_pending (s : State) (g : GroupId) (tTrig eventId location : Nat) (zone : Option (Fin 4096))
    (forced spec : Bool) (pos : Int) :
    (State.openSnap s g tTrig eventId location zone forced spec pos).pending = s.pending := by
  unfold State.openSnap
  simp

@[simp] theorem markTrigger_pending (s : State) (g : GroupId) (pos : Int) (id cause flags eventId location : Nat) :
    (State.markTrigger s g pos id cause flags eventId location).pending = s.pending := by
  unfold State.markTrigger
  simp

@[simp] theorem takeSnap_pending (s : State) (g : GroupId) (tTrig eventId location : Nat) (pos : Int) (zone : Option
    (Fin 4096)) (forced : Bool) :
    (State.takeSnap s g tTrig eventId location pos zone forced).pending = s.pending := by
  unfold State.takeSnap
  simp

@[simp] theorem setSnap_pending (s : State) (id : Nat) (f : Snapshot → Snapshot) :
    (State.setSnap s id f).pending = s.pending := by
  unfold State.setSnap
  simp

@[simp] theorem freeSnap_pending (s : State) (id : Nat) : (State.freeSnap s id).pending = s.pending := by
  unfold State.freeSnap
  simp

@[simp] theorem discardSnap_pending (s : State) (g : GroupId) (id : Nat) :
    (State.discardSnap s g id).pending = s.pending := by
  unfold State.discardSnap
  simp

@[simp] theorem snapProvisional_pending (s : State) (g : GroupId) (tSample eventId location : Nat) (pos : Int)
    (zone : Fin 4096) :
    (State.snapProvisional s g tSample eventId location pos zone).pending = s.pending := by
  unfold State.snapProvisional
  simp

@[simp] theorem snapRetract_pending (s : State) (g : GroupId) (eventId : Nat) :
    (State.snapRetract s g eventId).pending = s.pending := by
  unfold State.snapRetract
  split <;> simp

@[simp] theorem suppressTrigger_pending (s : State) (g : GroupId) (cause eventId location : Nat) (pos : Int) :
    (State.suppressTrigger s g cause eventId location pos).pending = s.pending := by
  unfold State.suppressTrigger
  simp

@[simp] theorem confirmTrigger_pending (s : State) (g : GroupId) (tSample eventId location : Nat) (pos : Int)
    (zone : Fin 4096) :
    (State.confirmTrigger s g tSample eventId location pos zone).pending = s.pending := by
  unfold State.confirmTrigger
  dsimp only
  (repeat' split) <;> simp

@[simp] theorem snapConfirm_pending (s : State) (g : GroupId) (tSample eventId location : Nat) (pos : Int) (zone : Fin 4096) :
    (State.snapConfirm s g tSample eventId location pos zone).pending = s.pending := by
  unfold State.snapConfirm
  simp

@[simp] theorem publish_pending (s : State) (n : Snapshot) : (State.publish s n).pending = s.pending := by
  unfold State.publish
  dsimp only
  split <;> simp

@[simp] theorem maskSnap_pending (s : State) (p : Port) (tTrig : Nat) :
    (State.maskSnap s p tTrig).pending = s.pending := by
  unfold State.maskSnap
  simp

/-! ## The functions of Machine/Outputs leave the queue -/

@[simp] theorem loopClear_pending (s : State) (n : Fin 8) (cause : Nat) :
    (State.loopClear s n cause).pending = s.pending := by
  unfold State.loopClear
  simp

@[simp] theorem loopUnjudge_pending (s : State) (n : Fin 8) : (State.loopUnjudge s n).pending = s.pending := by
  unfold State.loopUnjudge
  simp

@[simp] theorem loopEval_pending (n : Fin 8) (s : State) : (State.loopEval n s).pending = s.pending := by
  unfold State.loopEval
  simp

@[simp] theorem alarmEval_pending (n : Fin 8) (s : State) : (State.alarmEval n s).pending = s.pending := by
  unfold State.alarmEval
  simp

@[simp] theorem outputsEval_pending (s : State) : (State.outputsEval s).pending = s.pending := by
  unfold State.outputsEval
  simp

@[simp] theorem loopMeasured_pending (s : State) (n : Fin 8) (ua : Nat) :
    (State.loopMeasured s n ua).pending = s.pending := by
  unfold State.loopMeasured
  simp

@[simp] theorem loopTick_pending (dt : Nat) (measured : Vector Nat 8) (s0 : State) :
    (loopTick dt measured s0).pending = s0.pending := by
  unfold loopTick
  simp

@[simp] theorem loopCauseSet_pending (dt : Nat) (n : Fin 8) (cause : Fin 3) (x : LoopReading) (s0 : State) :
    (loopCauseSet dt n cause x s0).pending = s0.pending := by
  unfold loopCauseSet
  split <;> simp

@[simp] theorem loopCauseClear_pending (dt : Nat) (n : Fin 8) (cause : Fin 3) (x : LoopReading) (s0 : State) :
    (loopCauseClear dt n cause x s0).pending = s0.pending := by
  unfold loopCauseClear
  split <;> simp

@[simp] theorem loopDriveRetry_pending (dt : Nat) (n : Fin 8) (s0 : State) :
    (loopDriveRetry dt n s0).pending = s0.pending := by
  unfold loopDriveRetry
  simp

@[simp] theorem alarmOverload_pending (dt : Nat) (n : Fin 8) (s0 : State) :
    (alarmOverload dt n s0).pending = s0.pending := by
  unfold alarmOverload
  dsimp only
  (repeat' split) <;> simp

@[simp] theorem alarmRetry_pending (dt : Nat) (n : Fin 8) (s0 : State) : (alarmRetry dt n s0).pending = s0.pending := by
  unfold alarmRetry
  simp

@[simp] theorem alarmOverloadClear_pending (dt : Nat) (n : Fin 8) (s0 : State) :
    (alarmOverloadClear dt n s0).pending = s0.pending := by
  unfold alarmOverloadClear
  simp

@[simp] theorem alarmMinActiveEnd_pending (dt : Nat) (n : Fin 8) (s : State) :
    (alarmMinActiveEnd dt n s).pending = s.pending := by
  unfold alarmMinActiveEnd
  simp

/-! ## The functions of Machine/Zones leave the queue -/

@[simp] theorem toClass_pending (s : State) (cls typ : Nat) (payload : List Byte) :
    (State.toClass s cls typ payload).pending = s.pending := by
  unfold State.toClass
  simp

@[simp] theorem toQuery_pending (s : State) (r : List Byte) : (State.toQuery s r).pending = s.pending := by
  unfold State.toQuery
  simp

@[simp] theorem emitRecord_pending (s : State) (z : ZoneId) (kind : EventKind) (flags cause : Nat) :
    (State.emitRecord s z kind flags cause).pending = s.pending := by
  unfold State.emitRecord
  simp

@[simp] theorem takeEventId_pending (s : State) : (State.takeEventId s).2.pending = s.pending := by
  unfold State.takeEventId
  simp

@[simp] theorem sendSummary_pending (s : State) (g : GroupId) (periodic : Bool) :
    (State.sendSummary s g periodic).pending = s.pending := by
  unfold State.sendSummary
  simp

@[simp] theorem groupEval_pending (g : GroupId) (s : State) : (State.groupEval g s).pending = s.pending := by
  unfold State.groupEval
  simp

@[simp] theorem groupsEval_pending (s : State) (gs : List GroupId) : (State.groupsEval s gs).pending = s.pending := by
  unfold State.groupsEval
  simp

@[simp] theorem zoneCarry_pending (s : State) (z : ZoneId) (refHeld : Bool) :
    (State.zoneCarry s z refHeld).pending = s.pending := by
  unfold State.zoneCarry
  simp

@[simp] theorem snapsRetract_pending (s : State) (eventId : Nat) :
    (State.snapsRetract s eventId).pending = s.pending := by
  unfold State.snapsRetract
  simp

@[simp] theorem zoneClose_pending (z : ZoneId) (cause : Nat) (dest : ZoneMode) (s0 : State) :
    (State.zoneClose z cause dest s0).pending = s0.pending := by
  unfold State.zoneClose
  dsimp only
  split <;> simp

@[simp] theorem zonesPortStop_pending (s : State) (p : Port) : (State.zonesPortStop s p).pending = s.pending := by
  unfold State.zonesPortStop
  simp

@[simp] theorem zonesPortStart_pending (s : State) (p : Port) :
    (State.zonesPortStart s p).pending = s.pending := pending_foldl _ _ s fun _ _ => rfl

@[simp] theorem zoneEnable_pending (s : State) (z : ZoneId) : (State.zoneEnable s z).pending = s.pending := by
  unfold State.zoneEnable
  simp

@[simp] theorem zoneDisable_pending (s : State) (z : ZoneId) : (State.zoneDisable s z).pending = s.pending := by
  unfold State.zoneDisable
  simp

@[simp] theorem detectionOff_pending (s : State) : (State.detectionOff s).pending = s.pending := by
  unfold State.detectionOff
  simp

@[simp] theorem zonesLost_pending (s : State) : (State.zonesLost s).pending = s.pending := by
  unfold State.zonesLost
  simp

@[simp] theorem zoneNote_pending (s : State) (z : ZoneId) (j : ZoneJudge) (v : ZoneView) (refHeld : Bool) :
    (State.zoneNote s z j v refHeld).pending = s.pending := by
  unfold State.zoneNote
  dsimp only
  split <;> simp

@[simp] theorem zoneRetract_pending (s : State) (z : ZoneId) (cause : Nat) :
    (State.zoneRetract s z cause).pending = s.pending := by
  unfold State.zoneRetract
  simp

@[simp] theorem zoneConfirm_pending (s : State) (z : ZoneId) (noProv : Bool) (pos : Int) :
    (State.zoneConfirm s z noProv pos).pending = s.pending := by
  unfold State.zoneConfirm
  simp

@[simp] theorem zoneMachine_pending (s : State) (z : ZoneId) (j : ZoneJudge) (c : Cond) (hold : Bool) (pos : Int) :
    (State.zoneMachine s z j c hold pos).pending = s.pending := by
  unfold State.zoneMachine
  dsimp only
  (repeat' split) <;> simp

@[simp] theorem zoneBase_pending (s : State) (z : ZoneId) (v : ZoneView) :
    (State.zoneBase s z v).pending = s.pending := by
  unfold State.zoneBase
  simp

@[simp] theorem zoneSample_pending (s : State) (z : ZoneId) (tSample : Nat) (pos : Int) (j : ZoneJudge)
    (reconfigured : Bool) (later : List (Nat × ZoneJudge)) (view : State → ZoneView) (refHeld : Bool) :
    (State.zoneSample s z tSample pos j reconfigured later view refHeld).pending = s.pending := by
  unfold State.zoneSample
  simp

@[simp] theorem forgetBlocks_pending (s : State) (p : Port) : (State.forgetBlocks s p).pending = s.pending := by
  unfold State.forgetBlocks
  simp

@[simp] theorem vibrationZoneSample_pending (dt : Nat) (z : ZoneId) (block : Nat) (s0 : State) :
    (vibrationZoneSample dt z block s0).pending = s0.pending := by
  unfold vibrationZoneSample
  dsimp only
  (repeat' split) <;> simp

@[simp] theorem temperatureZoneSample_pending (dt : Nat) (z : ZoneId) (s0 : State) :
    (temperatureZoneSample dt z s0).pending = s0.pending := by
  unfold temperatureZoneSample
  dsimp only
  split <;> simp

@[simp] theorem summaryPeriodic_pending (dt : Nat) (s0 : State) : (summaryPeriodic dt s0).pending = s0.pending := by
  unfold summaryPeriodic
  dsimp only
  split <;> simp

@[simp] theorem ackGroup_pending (s : State) (g : GroupId) : (State.ackGroup s g).2.pending = s.pending := by
  unfold State.ackGroup
  dsimp only
  (repeat' split) <;> simp

/-! ## The functions of Machine/Queue leave the queue -/

@[simp] theorem gapBlock_pending (s : State) (p : Port) (b : Block) (c : GapCause) :
    (State.gapBlock s p b c).pending = s.pending := by
  unfold State.gapBlock
  simp

@[simp] theorem releaseBlocks_pending (p : Port) (x0 : Nat) (x1 : State) :
    (State.releaseBlocks p x0 x1).pending = x1.pending := by
  induction x0 generalizing x1 with
  | zero => rfl
  | succ n ih =>
    rw [State.releaseBlocks]
    (repeat' split) <;> simp [ih]

@[simp] theorem release_pending (s : State) (p : Port) : (State.release s p).pending = s.pending := by
  unfold State.release
  simp

@[simp] theorem blockJoins_pending (s : State) (p : Port) (j : Nat) : (State.blockJoins s p j).pending = s.pending := by
  unfold State.blockJoins
  dsimp only
  (repeat' split) <;> simp

@[simp] theorem queueStart_pending (s : State) (p : Port) : (State.queueStart s p).pending = s.pending := by
  unfold State.queueStart
  simp

@[simp] theorem closeColumn_pending (p : Port) (j : Nat) (x0 : Nat) (x1 : State) :
    (State.closeColumn p j x0 x1).pending = x1.pending := by
  induction x0 generalizing x1 with
  | zero => rfl
  | succ n ih =>
    rw [State.closeColumn]
    simp [ih]

@[simp] theorem queueStop_pending (s : State) (p : Port) : (State.queueStop s p).pending = s.pending := by
  unfold State.queueStop
  simp

@[simp] theorem loadDone_pending (s : State) : (State.loadDone s).pending = s.pending := by
  unfold State.loadDone
  split <;> simp

@[simp] theorem engineBoundary_pending (s : State) (e : EngineId) : (State.engineBoundary s e).pending = s.pending := by
  unfold State.engineBoundary
  simp

@[simp] theorem relayEngines_pending (s : State) :
    (State.relayEngines s).pending = s.pending := pending_foldl _ _ s fun t e => by split <;> simp

@[simp] theorem loadBegin_pending (s : State) (rq : Req) (slot : Nat) (prog : Program) :
    (State.loadBegin s rq slot prog).pending = s.pending := by
  unfold State.loadBegin
  simp

@[simp] theorem engineIdles_pending (s : State) (e : EngineId) (dest : EngineMode) :
    (State.engineIdles s e dest).pending = s.pending := by
  unfold State.engineIdles
  simp

@[simp] theorem engineFault_pending (s : State) (e : EngineId) (cause : Nat) :
    (State.engineFault s e cause).pending = s.pending := by
  unfold State.engineFault
  dsimp only
  (repeat' split) <;> simp

/-- A step of an engine is its own: whatever the operation does, the queue stays. -/
@[simp] theorem cloveRun_pending (s : State) (e : EngineId) (fs : List WordField) (mayRepeat : Bool) (cycles : Nat)
    (first : EngineSt → EngineSt) (f : EngineSt → Option EngineSt) :
    (s.cloveRun e fs mayRepeat cycles first f).pending = s.pending := by
  unfold State.cloveRun
  dsimp only
  (repeat' split) <;> simp

@[simp] theorem cloveOp_pending (s : State) (e : EngineId) (fs : List WordField) (mayRepeat : Bool) (cycles : Nat)
    (f : EngineSt → Option EngineSt) : (s.cloveOp e fs mayRepeat cycles f).pending = s.pending := by
  unfold State.cloveOp
  simp

@[simp] theorem clovePlain_pending (s : State) (e : EngineId) (fs : List WordField) (cycles : Nat)
    (f : EngineSt → EngineSt) : (s.clovePlain e fs cycles f).pending = s.pending := by
  unfold State.clovePlain
  simp

@[simp] theorem copyBlock_pending (s0 : State) (e : EngineId) (p : Port) (b : Block) :
    (State.copyBlock s0 e p b).pending = s0.pending := by
  unfold State.copyBlock
  dsimp only
  split <;> simp

@[simp] theorem commitBlock_pending (s : State) (e : EngineId) (p : Port) (j m : Nat) :
    (State.commitBlock s e p j m).pending = s.pending := by
  unfold State.commitBlock
  split <;> simp

@[simp] theorem streamData_pending (s : State) (i typ : Nat) (sub data : List Byte) (refDist : Nat) :
    (State.streamData s i typ sub data refDist).pending = s.pending := by
  unfold State.streamData
  simp

@[simp] theorem enqueueBlock_pending (s : State) (p : Port) (b : Block) :
    (State.enqueueBlock s p b).pending = s.pending := by
  unfold State.enqueueBlock
  split <;> simp

@[simp] theorem enqueueRaw_pending (s : State) (p : Port) (tFirst : Nat) (xs ys : List Half) :
    (State.enqueueRaw s p tFirst xs ys).pending = s.pending := by
  unfold State.enqueueRaw
  simp

@[simp] theorem rawFill_pending (p : Port) (x0 : Nat) (x1 : State) : (State.rawFill p x0 x1).pending = x1.pending := by
  induction x0 generalizing x1 with
  | zero => rfl
  | succ n ih =>
    rw [State.rawFill]
    (repeat' split) <;> simp [ih]

@[simp] theorem rawStart_pending (s : State) (p : Port) : (State.rawStart s p).pending = s.pending := by
  unfold State.rawStart
  simp

@[simp] theorem rawEnd_pending (s : State) (p : Port) : (State.rawEnd s p).pending = s.pending := by
  unfold State.rawEnd
  split <;> simp

@[simp] theorem rawJoin_pending (s : State) (p : Port) (tFirst : Nat) (xs ys : List Half) :
    (State.rawJoin s p tFirst xs ys).pending = s.pending := by
  unfold State.rawJoin
  split <;> simp

@[simp] theorem throttleNote_pending (s : State) (c : Port) (old : Nat) :
    (State.throttleNote s c old).pending = s.pending := by
  unfold State.throttleNote
  simp

@[simp] theorem blockReady_pending (dt : Nat) (p : Port) (j : Nat) (s0 : State) :
    (blockReady dt p j s0).pending = s0.pending := by
  unfold blockReady
  simp

@[simp] theorem engineRequest_pending (dt : Nat) (e : EngineId) (s0 : State) :
    (engineRequest dt e s0).pending = s0.pending := by
  unfold engineRequest
  dsimp only
  (repeat' split) <;> simp

@[simp] theorem blockCopied_pending (dt : Nat) (e : EngineId) (s0 : State) :
    (blockCopied dt e s0).pending = s0.pending := by
  unfold blockCopied
  dsimp only
  (repeat' split) <;> simp

@[simp] theorem blockCutoff_pending (dt : Nat) (p : Port) (j : Nat) (s0 : State) :
    (blockCutoff dt p j s0).pending = s0.pending := by
  unfold blockCutoff
  dsimp only
  split <;> simp

@[simp] theorem engineWatchdog_pending (dt : Nat) (e : EngineId) (s0 : State) :
    (engineWatchdog dt e s0).pending = s0.pending := by
  unfold engineWatchdog
  simp

@[simp] theorem clusterTempSample_pending (dt : Nat) (c : Port) (t : Int) (s0 : State) :
    (clusterTempSample dt c t s0).pending = s0.pending := by
  unfold clusterTempSample
  simp

@[simp] theorem undefinedOpcode_pending (e : EngineId) (s : State) : (undefinedOpcode e s).pending = s.pending := by
  unfold undefinedOpcode
  simp

@[simp] theorem cloveDone_pending (e : EngineId) (s : State) : (cloveDone e s).pending = s.pending := by
  unfold cloveDone
  dsimp only
  split <;> simp

@[simp] theorem cloveRep_pending (e : EngineId) (n : BitVec 16) (s : State) : (cloveRep e n s).pending = s.pending := by
  unfold cloveRep
  simp

end Sys2Proof.Machine

/-! # The queue of commands: ports and their measurements -/

namespace Sys2Proof.Machine

/-! ## The functions of Machine/CalCore leave the queue -/

@[simp] theorem calOutcome_pending (s : State) (st : CalStep) (p : Port) (o : CalOutcome) :
    (State.calOutcome s st p o).pending = s.pending := by
  unfold State.calOutcome
  dsimp only
  (repeat' split) <;> simp

@[simp] theorem calAbortPort_pending (s : State) (p : Port) : (State.calAbortPort s p).pending = s.pending := by
  unfold State.calAbortPort
  (repeat' split) <;> simp

/-! ## The functions of Machine/PortFlow leave the queue -/

@[simp] theorem setKey_pending (s : State) (k v : Nat) : (State.setKey s k v).pending = s.pending := by
  unfold State.setKey
  split <;> simp

@[simp] theorem applyFields_pending (s : State) (es : Tab Nat) : (State.applyFields s es).pending = s.pending := by
  unfold State.applyFields
  simp

@[simp] theorem applyPending_pending (s : State) (p : Port) (t : Nat) :
    (State.applyPending s p t).pending = s.pending := by
  unfold State.applyPending
  simp

@[simp] theorem takeShadow_pending (s : State) (p : Port) (t : Nat) : (State.takeShadow s p t).pending = s.pending := by
  unfold State.takeShadow
  simp

@[simp] theorem portLeaves_pending (s : State) (p : Port) (mode : PortMode) (cause : Nat) :
    (State.portLeaves s p mode cause).pending = s.pending := by
  unfold State.portLeaves
  simp

@[simp] theorem calStart_pending (s : State) (p : Port) : (State.calStart s p).pending = s.pending := by
  unfold State.calStart
  simp

@[simp] theorem portBegins_pending (s0 : State) (p : Port) (mode : PortMode) (cause : Nat) :
    (State.portBegins s0 p mode cause).pending = s0.pending := by
  unfold State.portBegins
  simp

/-! ## The functions of Machine/Drive leave the queue -/

@[simp] theorem rampTo_pending (s : State) (p : Port) (target : Nat) (e : Emitter) :
    (State.rampTo s p target e).pending = s.pending := by
  unfold State.rampTo
  simp

@[simp] theorem setpointWritten_pending (s : State) (p : Port) (e : Emitter) :
    (State.setpointWritten s p e).pending = s.pending := by
  unfold State.setpointWritten
  simp

@[simp] theorem caseDelivered_pending (s0 : State) (p : Port) : (State.caseDelivered s0 p).pending = s0.pending := by
  unfold State.caseDelivered
  dsimp only
  split
  · rfl
  · split
    · rfl
    · (repeat' split) <;> simp

@[simp] theorem caseTempUpdate_pending (dt : Nat) (p : Port) (s0 : State) :
    (caseTempUpdate dt p s0).pending = s0.pending := by
  unfold caseTempUpdate
  simp

@[simp] theorem updateEmitter_pending (p : Port) (e : Emitter) (s : State) :
    (State.updateEmitter p e s).pending = s.pending := by
  unfold State.updateEmitter
  simp

@[simp] theorem groupEpoch_pending (s : State) (g : Fin 4) : (State.groupEpoch s g).pending = s.pending := by
  unfold State.groupEpoch
  dsimp only
  split <;> simp

@[simp] theorem rampsDone_pending (s0 : State) (p : Port) : (State.rampsDone s0 p).pending = s0.pending := by
  unfold State.rampsDone
  dsimp only
  (repeat' split) <;> simp

@[simp] theorem afterUpdate_pending (p : Port) (s : State) : (State.afterUpdate p s).pending = s.pending := by
  unfold State.afterUpdate
  dsimp only
  (repeat' split) <;> simp

@[simp] theorem portUpdate_pending (p : Port) (s : State) : (State.portUpdate p s).pending = s.pending := by
  unfold State.portUpdate
  simp

@[simp] theorem driveUpdate_pending (dt : Nat) (s : State) : (driveUpdate dt s).pending = s.pending := by
  unfold driveUpdate
  simp

@[simp] theorem shutPort_pending (s : State) (p : Port) (causes : BitVec 10) (e : Option Emitter) :
    (State.shutPort s p causes e).pending = s.pending := by
  unfold State.shutPort
  dsimp only
  split <;> simp

@[simp] theorem acceptFaults_pending (s : State) (fs : List FaultReport) :
    (State.acceptFaults s fs).pending = s.pending := by
  unfold State.acceptFaults
  simp

@[simp] theorem emitterFaultAccept_pending (dt : Nat) (rs : List FaultReading) (s0 : State) :
    (emitterFaultAccept dt rs s0).pending = s0.pending := by
  unfold emitterFaultAccept
  simp

@[simp] theorem portFault_pending (s : State) (p : Port) (cause : Nat) :
    (State.portFault s p cause).pending = s.pending := by
  unfold State.portFault
  simp

@[simp] theorem caseStaleTimeout_pending (dt : Nat) (p : Port) (s0 : State) :
    (caseStaleTimeout dt p s0).pending = s0.pending := by
  unfold caseStaleTimeout
  simp

@[simp] theorem caseRangeTimeout_pending (dt : Nat) (p : Port) (s0 : State) :
    (caseRangeTimeout dt p s0).pending = s0.pending := by
  unfold caseRangeTimeout
  simp

@[simp] theorem overtempTimeout_pending (dt : Nat) (p : Port) (s0 : State) :
    (overtempTimeout dt p s0).pending = s0.pending := by
  unfold overtempTimeout
  simp

@[simp] theorem proofOverdue_pending (s : State) (p : Port) : (State.proofOverdue s p).pending = s.pending := by
  unfold State.proofOverdue
  simp

@[simp] theorem proofDue_pending (dt : Nat) (p : Port) (s0 : State) : (proofDue dt p s0).pending = s0.pending := by
  unfold proofDue
  dsimp only
  split <;> simp

@[simp] theorem proofPulse_pending (dt : Nat) (p : Port) (x : EmitterReading) (s0 : State) :
    (proofPulse dt p x s0).pending = s0.pending := by
  unfold proofPulse
  dsimp only
  split
  · rfl
  · split
    · rw [pending_ite, acceptFaults_pending]
      exact ite_self _
    · rfl

@[simp] theorem proofMoved_pending (s : State) (p : Port) : (State.proofMoved s p).pending = s.pending := by
  unfold State.proofMoved
  simp

@[simp] theorem pumpNrgSample_pending (dt : Nat) (p : Port) (mv : Nat) (s0 : State) :
    (pumpNrgSample dt p mv s0).pending = s0.pending := by
  unfold pumpNrgSample
  dsimp only
  split <;> simp

@[simp] theorem clearFault_pending (s : State) (p : Port) : (State.clearFault s p).2.pending = s.pending := by
  unfold State.clearFault
  dsimp only
  (repeat' split) <;> simp

/-! ## The functions of Machine/Receive leave the queue -/

@[simp] theorem rangeControl_pending (s : State) (p : Port) (t : Nat) :
    (State.rangeControl s p t).pending = s.pending := by
  unfold State.rangeControl
  split <;> simp

@[simp] theorem rangeSwitch_pending (dt : Nat) (p : Port) (s0 : State) :
    (rangeSwitch dt p s0).pending = s0.pending := by
  unfold rangeSwitch
  simp

@[simp] theorem ovldOnset_pending (dt : Nat) (p : Port) (i : Fin 2) (held : Nat) (s0 : State) :
    (ovldOnset dt p i held s0).pending = s0.pending := by
  unfold ovldOnset
  simp

@[simp] theorem pairBegin_pending (s : State) (p : Port) (w : Nat) : (State.pairBegin s p w).pending = s.pending := by
  unfold State.pairBegin
  simp

@[simp] theorem takeCodes_pending (s : State) (p : Port) (tFirst : Nat) (xs ys : List Code) :
    (State.takeCodes s p tFirst xs ys).pending = s.pending := by
  unfold State.takeCodes
  simp

@[simp] theorem pairClear_pending (s : State) (p : Port) : (State.pairClear s p).pending = s.pending := by
  unfold State.pairClear
  simp

@[simp] theorem pairVerdict_pending (s : State) (p : Port) (xs ys : List Int) :
    (State.pairVerdict s p xs ys).pending = s.pending := by
  unfold State.pairVerdict
  dsimp only
  split <;> simp

@[simp] theorem pairCheckEnd_pending (dt : Nat) (p : Port) (xs ys : List Code) (s0 : State) :
    (pairCheckEnd dt p xs ys s0).pending = s0.pending := by
  unfold pairCheckEnd
  dsimp only
  split <;> simp

/-! ## The functions of Machine/Mace leave the queue -/

@[simp] theorem maskAdd_pending (s : State) (p : Port) (c first : Nat) (bins : List BinOut) :
    (State.maskAdd s p c first bins).pending = s.pending := by
  unfold State.maskAdd
  simp

@[simp] theorem maceDeliver_pending (s : State) (p : Port) (f : Frame) (tFirst : Nat) (xs ys : List Code) :
    (State.maceDeliver s p f tFirst xs ys).pending = s.pending := by
  unfold State.maceDeliver
  simp

/-! ## The functions of Machine/Interval leave the queue -/

@[simp] theorem refBegins_pending (s : State) : (State.refBegins s).pending = s.pending := by
  unfold State.refBegins
  simp

@[simp] theorem tiWrite_pending (s : State) (r : List Byte) : (State.tiWrite s r).pending = s.pending := by
  unfold State.tiWrite
  simp

@[simp] theorem tiOpen_pending (s : State) (ns frac input flags slot : Nat) :
    (State.tiOpen s ns frac input flags slot).pending = s.pending := by
  unfold State.tiOpen
  simp

@[simp] theorem tiClose_pending (s : State) (byStops : Bool) : (State.tiClose s byStops).pending = s.pending := by
  unfold State.tiClose
  split <;> simp

@[simp] theorem tiLaunch_pending (s : State) (p : Port) (k : Fin 4) (t : Nat) :
    (State.tiLaunch s p k t).pending = s.pending := by
  unfold State.tiLaunch
  (repeat' split) <;> simp

@[simp] theorem tiStartEdge_pending (dt : Nat) (e : TiStart) (x : Stamp) (s0 : State) :
    (tiStartEdge dt e x s0).pending = s0.pending := by
  unfold tiStartEdge
  dsimp only
  (repeat' split) <;> simp

@[simp] theorem echoNote_pending (s : State) (a : TiArm) (i : Fin 12) (e : TiEdge) :
    (State.echoNote s a i e).pending = s.pending := by
  unfold State.echoNote
  split <;> simp

@[simp] theorem tiStop_pending (s : State) (a : TiArm) (m : TiMeas) (i : Fin 12) (ns frac : Nat) :
    (State.tiStop s a m i ns frac).pending = s.pending := by
  unfold State.tiStop
  simp

@[simp] theorem tiStopEdge_pending (dt : Nat) (i : Fin 12) (e : TiEdge) (x : Stamp) (s0 : State) :
    (tiStopEdge dt i e x s0).pending = s0.pending := by
  unfold tiStopEdge
  dsimp only
  (repeat' split) <;> simp

@[simp] theorem tiWindowEnd_pending (dt : Nat) (s0 : State) : (tiWindowEnd dt s0).pending = s0.pending := by
  unfold tiWindowEnd
  dsimp only
  split <;> simp

@[simp] theorem tiFreqGateEnd_pending (dt : Nat) (x : Stamp) (edges interval : Nat) (s0 : State) :
    (tiFreqGateEnd dt x edges interval s0).pending = s0.pending := by
  unfold tiFreqGateEnd
  dsimp only
  split <;> simp

@[simp] theorem tiArmed_pending (s : State) (b : List Byte) : (State.tiArmed s b).2.pending = s.pending := by
  unfold State.tiArmed
  (repeat' split) <;> simp

/-! ## The functions of Machine/Sequencer leave the queue -/

@[simp] theorem hkLaunch_pending (s : State) (p : Port) (trig t : Nat) :
    (State.hkLaunch s p trig t).pending = s.pending := by
  unfold State.hkLaunch
  simp

@[simp] theorem launch_pending (s : State) (p : Port) (k : Fin 4) (t stop cycle pos rank : Nat) :
    (State.launch s p k t stop cycle pos rank).pending = s.pending := by
  unfold State.launch
  simp

@[simp] theorem gridLaunch_pending (dt : Nat) (p : Port) (k : Fin 4) (s0 : State) :
    (gridLaunch dt p k s0).pending = s0.pending := by
  unfold gridLaunch
  simp

@[simp] theorem requestShot_pending (s : State) (rq : Req) (p : Port) (k : Fin 4) (ago : Nat) :
    (State.requestShot s rq p k ago).pending = s.pending := by
  unfold State.requestShot
  simp

@[simp] theorem singleShot_pending (s : State) (p : Port) (k : Fin 4) (t : Nat) :
    (State.singleShot s p k t).pending = s.pending := by
  unfold State.singleShot
  simp

@[simp] theorem arbitrate_pending (s : State) (p : Port) (r : LaunchReq) :
    (State.arbitrate s p r).pending = s.pending := by
  unfold State.arbitrate
  dsimp only
  split <;> simp

@[simp] theorem hostLaunchRequest_pending (dt : Nat) (p : Port) (s0 : State) :
    (hostLaunchRequest dt p s0).pending = s0.pending := by
  unfold hostLaunchRequest
  dsimp only
  split <;> simp

@[simp] theorem launchDeferredRetry_pending (dt : Nat) (p : Port) (s0 : State) :
    (launchDeferredRetry dt p s0).pending = s0.pending := by
  unfold launchDeferredRetry
  dsimp only
  split <;> simp

@[simp] theorem boundaryPort_pending (c : Nat) (p : Port) (s : State) :
    (State.boundaryPort c p s).pending = s.pending := by
  unfold State.boundaryPort
  simp

@[simp] theorem boundaryJoin_pending (fresh : Bool) (p : Port) (s : State) :
    (State.boundaryJoin fresh p s).pending = s.pending := by
  unfold State.boundaryJoin
  dsimp only
  split <;> simp

@[simp] theorem noteSched_pending (p : Port) (s : State) : (State.noteSched p s).pending = s.pending := by
  unfold State.noteSched
  simp

@[simp] theorem noteCycle_pending (c : Nat) (p : Port) (s : State) : (State.noteCycle c p s).pending = s.pending := by
  unfold State.noteCycle
  simp

@[simp] theorem gridDither_pending (s : State) (g : Fin 12) (p : Port) (skip : Nat) :
    (State.gridDither s g p skip).pending = s.pending := by
  unfold State.gridDither
  simp

@[simp] theorem enterCycle_pending (s : State) (g : Fin 12) (p : Port) (c skip : Nat) (fresh : Bool) :
    (State.enterCycle s g p c skip fresh).pending = s.pending := by
  unfold State.enterCycle
  simp

@[simp] theorem cycleBoundary_pending (dt : Nat) (g : Fin 12) (s0 : State) :
    (cycleBoundary dt g s0).pending = s0.pending := by
  unfold cycleBoundary
  dsimp only
  (repeat' split) <;> simp

@[simp] theorem openWindow_pending (s : State) (p : Port) (raman : Bool) (w close : Nat) :
    (State.openWindow s p raman w close).pending = s.pending := by
  unfold State.openWindow
  simp

@[simp] theorem windowOpen_pending (dt : Nat) (p : Port) (s0 : State) : (windowOpen dt p s0).pending = s0.pending := by
  unfold windowOpen
  simp

@[simp] theorem singleCheckWindow_pending (dt : Nat) (p : Port) (s0 : State) :
    (singleCheckWindow dt p s0).pending = s0.pending := by
  unfold singleCheckWindow
  dsimp only
  rw [pending_ite, pending_ite, openWindow_pending, ite_self]
  exact ite_self _

@[simp] theorem fall_pending (s : State) (p : Port) : (State.fall s p).pending = s.pending := by
  unfold State.fall
  simp

@[simp] theorem rise_pending (s : State) (p : Port) : (State.rise s p).pending = s.pending := by
  unfold State.rise
  simp

@[simp] theorem portStop_pending (p : Port) (s : State) : (State.portStop p s).pending = s.pending := by
  unfold State.portStop
  simp

@[simp] theorem stopFramesDrained_pending (dt : Nat) (p : Port) (s0 : State) :
    (stopFramesDrained dt p s0).pending = s0.pending := by
  unfold stopFramesDrained
  simp

@[simp] theorem portHalt_pending (s : State) (p : Port) : (State.portHalt s p).pending = s.pending := by
  unfold State.portHalt
  simp

/-! ## The functions of Machine/Head leave the queue -/

@[simp] theorem rescanEnds_pending (s : State) (p : Port) (rq : Option Req) (st : Status) :
    (State.rescanEnds s p rq st).pending = s.pending := by
  unfold State.rescanEnds
  split <;> simp

@[simp] theorem newHead_pending (s : State) (p : Port) (serial : List Byte) :
    (State.newHead s p serial).pending = s.pending := by
  unfold State.newHead
  simp

@[simp] theorem readFaults_pending (s : State) (p : Port) (cause : Nat) (rq : Option Req) :
    (State.readFaults s p cause rq).pending = s.pending := by
  unfold State.readFaults
  simp

@[simp] theorem readDone_pending (s : State) (p : Port) (r : List Byte) (rq : Option Req) :
    (State.readDone s p r rq).pending = s.pending := by
  unfold State.readDone
  split <;> simp

@[simp] theorem attemptFails_pending (s : State) (p : Port) (x : IdRead) (cause : Nat) :
    (State.attemptFails s p x cause).pending = s.pending := by
  unfold State.attemptFails
  simp

@[simp] theorem lostEnds_pending (s : State) (p : Port) (x : IdRead) (bus : List BusOp) :
    (State.lostEnds s p x bus).pending = s.pending := by
  unfold State.lostEnds
  split <;> simp

@[simp] theorem filtersBegin_pending (s : State) (p : Port) : (State.filtersBegin s p).pending = s.pending := by
  unfold State.filtersBegin
  simp

@[simp] theorem headFilters_pending (s : State) : (State.headFilters s).pending = s.pending := by
  unfold State.headFilters
  simp

@[simp] theorem presAcceptLow_pending (dt : Nat) (p : Port) (s0 : State) :
    (presAcceptLow dt p s0).pending = s0.pending := by
  unfold presAcceptLow
  simp

@[simp] theorem loseHead_pending (s : State) (p : Port) : (State.loseHead s p).pending = s.pending := by
  unfold State.loseHead
  simp

@[simp] theorem presLoss_pending (dt : Nat) (p : Port) (s0 : State) : (presLoss dt p s0).pending = s0.pending := by
  unfold presLoss
  simp

@[simp] theorem ilkChange_pending (dt : Nat) (p : Port) (closed : Bool) (s0 : State) :
    (ilkChange dt p closed s0).pending = s0.pending := by
  unfold ilkChange
  simp

@[simp] theorem idReadStart_pending (dt : Nat) (p : Port) (s0 : State) :
    (idReadStart dt p s0).pending = s0.pending := by
  unfold idReadStart
  dsimp only
  split <;> simp

@[simp] theorem transactionEnds_pending (s : State) (p : Port) (x : IdRead) (pulses : Nat) (r : IdResult) :
    (State.transactionEnds s p x pulses r).pending = s.pending := by
  unfold State.transactionEnds
  dsimp only
  (repeat' split) <;> simp

@[simp] theorem idTransactionEnd_pending (dt : Nat) (p : Port) (pulses : Fin 10) (r : IdResult) (s0 : State) :
    (idTransactionEnd dt p pulses r s0).pending = s0.pending := by
  unfold idTransactionEnd
  dsimp only
  split <;> simp

@[simp] theorem idTransactionTimeout_pending (dt : Nat) (p : Port) (pulses : Fin 10) (s0 : State) :
    (idTransactionTimeout dt p pulses s0).pending = s0.pending := by
  unfold idTransactionTimeout
  dsimp only
  (repeat' split) <;> simp

@[simp] theorem headRescan_pending (s : State) (rq : Req) (p : Port) :
    (State.headRescan s rq p).pending = s.pending := by
  unfold State.headRescan
  split <;> simp

@[simp] theorem rescanTimeout_pending (s : State) (p : Port) : (State.rescanTimeout s p).pending = s.pending := by
  unfold State.rescanTimeout
  split <;> simp

/-! ## The functions of Machine/Gauge leave the queue -/

@[simp] theorem gaugeCount_pending (s : State) (p : Port) (f : Formed) :
    (State.gaugeCount s p f).pending = s.pending := by
  unfold State.gaugeCount
  simp

@[simp] theorem sampleOut_pending (s : State) (p : Port) (gauge pos era : Nat) (f : Formed) :
    (State.sampleOut s p gauge pos era f).pending = s.pending := by
  unfold State.sampleOut
  simp

@[simp] theorem formFrom_pending (s : State) (p : Port) (f : Frame) (x : GaugeIn) :
    (State.formFrom s p f x).pending = s.pending := by
  unfold State.formFrom
  simp

@[simp] theorem formGap_pending (s : State) (p : Port) (g : GapPos) (gauge : Nat) :
    (State.formGap s p g gauge).pending = s.pending := by
  unfold State.formGap
  simp

@[simp] theorem gaugeSample_pending (dt : Nat) (p : Port) (x : GaugeIn) (s0 : State) :
    (gaugeSample dt p x s0).pending = s0.pending := by
  unfold gaugeSample
  dsimp only
  (repeat' split) <;> simp

/-! ## The functions of Machine/Raman leave the queue -/

@[simp] theorem takeNextWindow_pending (s : State) (p : Port) (t : Nat) :
    (State.takeNextWindow s p t).pending = s.pending := by
  unfold State.takeNextWindow
  split <;> simp

@[simp] theorem pumpFires_pending (s : State) (p : Port) (w : Window) (t : Nat) :
    (State.pumpFires s p w t).pending = s.pending := by
  unfold State.pumpFires
  simp

@[simp] theorem pumpLaunch_pending (dt : Nat) (p : Port) (s0 : State) : (pumpLaunch dt p s0).pending = s0.pending := by
  unfold pumpLaunch
  dsimp only
  split <;> simp

@[simp] theorem biasFaultSet_pending (dt : Nat) (p : Port) (x : BiasReading) (s0 : State) :
    (biasFaultSet dt p x s0).pending = s0.pending := by
  unfold biasFaultSet
  simp

@[simp] theorem biasFaultClear_pending (dt : Nat) (p : Port) (x : BiasReading) (s0 : State) :
    (biasFaultClear dt p x s0).pending = s0.pending := by
  unfold biasFaultClear
  simp

@[simp] theorem joinCarried_pending (s : State) (p : Port) (a : RamanAcc) :
    (State.joinCarried s p a).2.pending = s.pending := by
  unfold State.joinCarried
  dsimp only
  (repeat' split) <;> simp

@[simp] theorem convert_pending (s : State) (p : Port) (c : RamanConv) : (State.convert s p c).pending = s.pending := by
  unfold State.convert
  simp

@[simp] theorem profileReady_pending (dt : Nat) (p : Port) (s0 : State) :
    (profileReady dt p s0).pending = s0.pending := by
  unfold profileReady
  dsimp only
  split <;> simp

@[simp] theorem closePeriod_pending (s0 : State) (p : Port) (t0 t1 : Nat) :
    (State.closePeriod s0 p t0 t1).pending = s0.pending := by
  unfold State.closePeriod
  split <;> simp

@[simp] theorem ramanPeriodClose_pending (dt : Nat) (p : Port) (s0 : State) :
    (ramanPeriodClose dt p s0).pending = s0.pending := by
  unfold ramanPeriodClose
  dsimp only
  split <;> simp

@[simp] theorem leavePeriod_pending (s : State) (p : Port) (t : Nat) :
    (State.leavePeriod s p t).pending = s.pending := by
  unfold State.leavePeriod
  split <;> simp

@[simp] theorem accAt_pending (s : State) (p : Port) (t : Nat) (f : RamanAcc → RamanAcc) :
    (State.accAt s p t f).pending = s.pending := by
  unfold State.accAt
  split <;> simp

@[simp] theorem calWindow_pending (s : State) (p : Port) (swap : Bool) (cs ca : List Int) :
    (State.calWindow s p swap cs ca).pending = s.pending := by
  unfold State.calWindow
  simp

@[simp] theorem ramanRecordingEnd_pending (dt : Nat) (p : Port) (baseS baseA codesS codesA : List Half) (s0 : State) :
    (ramanRecordingEnd dt p baseS baseA codesS codesA s0).pending = s0.pending := by
  unfold ramanRecordingEnd
  dsimp only
  (repeat' split) <;> simp

end Sys2Proof.Machine

/-! # The queue of commands: housekeeping, time, calibration, codec, link -/

namespace Sys2Proof.Machine

/-! ## The functions of Machine/House leave the queue -/

@[simp] theorem startFront_pending (s : State) (i : Fin 2) : (State.startFront s i).pending = s.pending := by
  unfold State.startFront
  simp

@[simp] theorem hkaStart_pending (s : State) (late : Bool) : (State.hkaStart s late).pending = s.pending := by
  unfold State.hkaStart
  simp

@[simp] theorem hkbStart_pending (s : State) (lateCheck lateJob : Bool) :
    (State.hkbStart s lateCheck lateJob).pending = s.pending := by
  unfold State.hkbStart
  simp

@[simp] theorem hkWaiting_pending (s : State) (i : Fin 2) : (State.hkWaiting s i).pending = s.pending := by
  unfold State.hkWaiting
  simp

@[simp] theorem hkRelease_pending (s : State) (i : Fin 2) : (State.hkRelease s i).pending = s.pending := by
  unfold State.hkRelease
  simp

@[simp] theorem refHoldsEnd_pending (s : State) : (State.refHoldsEnd s).pending = s.pending := by
  unfold State.refHoldsEnd
  dsimp only
  (repeat' split) <;> simp

@[simp] theorem hkTrigger_pending (s : State) (i : Fin 2) : (State.hkTrigger s i).pending = s.pending := by
  unfold State.hkTrigger
  simp

@[simp] theorem hkTick_pending (s : State) (i : Fin 2) (ms : Nat) : (State.hkTick s i ms).pending = s.pending := by
  have hgo : ∀ n : Nat, ((s.setHk i (fun x => { x with tickAt := n })).hkTrigger i).pending = s.pending := fun n =>
    hkTrigger_pending _ i
  have hstep : ∀ n : Nat, (if n = (s.hk i).tickAt then s else
      (s.setHk i (fun x => { x with tickAt := n })).hkTrigger i).pending = s.pending := fun n => by
    rw [pending_ite, hgo, ite_self]
  exact hstep _

@[simp] theorem hkRetick_pending (s : State) : (State.hkRetick s).pending = s.pending := by
  unfold State.hkRetick
  simp

@[simp] theorem hkaSequence_pending (dt : Nat) (s0 : State) : (hkaSequence dt s0).pending = s0.pending := by
  unfold hkaSequence
  simp

@[simp] theorem hkbJobTrigger_pending (dt : Nat) (s0 : State) : (hkbJobTrigger dt s0).pending = s0.pending := by
  unfold hkbJobTrigger
  dsimp only
  (repeat' split) <;> simp

@[simp] theorem checkTrigger_pending (s : State) (i : Fin 2) : (State.checkTrigger s i).pending = s.pending := by
  unfold State.checkTrigger
  simp

@[simp] theorem hkCheckTrigger_pending (dt : Nat) (s0 : State) : (hkCheckTrigger dt s0).pending = s0.pending := by
  unfold hkCheckTrigger
  simp

@[simp] theorem judgeCheck_pending (s : State) (i : Fin 2) (code : Int) :
    (State.judgeCheck s i code).pending = s.pending := by
  unfold State.judgeCheck
  simp

@[simp] theorem judgeAgreement_pending (s : State) : (State.judgeAgreement s).pending = s.pending := by
  unfold State.judgeAgreement
  split <;> simp

@[simp] theorem hkAdvance_pending (s : State) (i : Fin 2) (es : List HkEntry) :
    (State.hkAdvance s i es).pending = s.pending := by
  unfold State.hkAdvance
  simp

@[simp] theorem neverSettles_pending (s : State) (i : Fin 2) (channels : List Nat) :
    (State.neverSettles s i channels).pending = s.pending := by
  unfold State.neverSettles
  simp

@[simp] theorem hkNeverSettles_pending (s : State) (i : Fin 2) : (State.hkNeverSettles s i).pending = s.pending := by
  unfold State.hkNeverSettles
  split <;> simp

@[simp] theorem hkStore_pending (s : State) (i : Fin 2) (e : HkEntry) (w : Word) :
    (State.hkStore s i e w).pending = s.pending := by
  unfold State.hkStore
  simp

@[simp] theorem hkEntryResult_pending (dt : Nat) (i : Fin 2) (result : Option (List Int × Bool)) (s0 : State) :
    (hkEntryResult dt i result s0).pending = s0.pending := by
  unfold hkEntryResult
  dsimp only
  split <;> simp

@[simp] theorem pulseRefChanged_pending (s : State) (p : Port) : (State.pulseRefChanged s p).pending = s.pending := by
  unfold State.pulseRefChanged
  split <;> simp

@[simp] theorem refChanged_pending (s : State) (i : Fin 2) : (State.refChanged s i).pending = s.pending := by
  unfold State.refChanged
  simp

@[simp] theorem refSettlingEnd_pending (dt : Nat) (i : Fin 2) (s0 : State) :
    (refSettlingEnd dt i s0).pending = s0.pending := by
  unfold refSettlingEnd
  simp

@[simp] theorem hkDisabled_pending (s : State) (i : Fin 2) : (State.hkDisabled s i).pending = s.pending := by
  unfold State.hkDisabled
  simp

@[simp] theorem hkHold_pending (s : State) (i : Fin 2) : (State.hkHold s i).pending = s.pending := by
  unfold State.hkHold
  dsimp only
  split
  · exact forPorts_pending _ _ _ fun _ _ => rfl
  · rfl

@[simp] theorem rtdPulseStart_pending (dt : Nat) (p : Port) (s0 : State) :
    (rtdPulseStart dt p s0).pending = s0.pending := by
  unfold rtdPulseStart
  dsimp only
  split <;> simp

@[simp] theorem rtdBad_pending (s : State) (p : Port) (c : RtdCause) : (State.rtdBad s p c).pending = s.pending := by
  unfold State.rtdBad
  simp

@[simp] theorem rtdGood_pending (s : State) (p : Port) (start : Nat) (t : Int) :
    (State.rtdGood s p start t).pending = s.pending := by
  unfold State.rtdGood
  simp

@[simp] theorem rtdStore_pending (s : State) (x : RtdPulse) (o : RtdOutput) :
    (State.rtdStore s x o).pending = s.pending := by
  unfold State.rtdStore
  simp

@[simp] theorem rtdRead_pending (s : State) (p : Port) (x : RtdPulse) (outs : List RtdOutput) :
    (State.rtdRead s p x outs).pending = s.pending := by
  unfold State.rtdRead
  dsimp only
  (repeat' split) <;> simp

@[simp] theorem rtdPulseEnd_pending (dt : Nat) (p : Port) (outs : List RtdOutput) (s0 : State) :
    (rtdPulseEnd dt p outs s0).pending = s0.pending := by
  unfold rtdPulseEnd
  dsimp only
  split <;> simp

/-! ## The functions of Machine/TimeBase leave the queue -/

@[simp] theorem trainStart_pending (s : State) : (State.trainStart s).pending = s.pending := by
  unfold State.trainStart
  simp

@[simp] theorem refQualified_pending (dt : Nat) (ppm : Int) (s0 : State) :
    (refQualified dt ppm s0).pending = s0.pending := by
  unfold refQualified
  dsimp only
  (repeat' split) <;> simp

@[simp] theorem refLost_pending (dt : Nat) (s0 : State) : (refLost dt s0).pending = s0.pending := by
  unfold refLost
  dsimp only
  split <;> simp

@[simp] theorem refSrcChanged_pending (s : State) : (State.refSrcChanged s).pending = s.pending := by
  unfold State.refSrcChanged
  simp

@[simp] theorem ocxoLevel_pending (s : State) (level : Bool) : (State.ocxoLevel s level).pending = s.pending := by
  unfold State.ocxoLevel
  simp

@[simp] theorem ocxoRdyChange_pending (dt : Nat) (level : Bool) (s0 : State) :
    (ocxoRdyChange dt level s0).pending = s0.pending := by
  have hchange : ∀ (s : State) (due : Nat) (b : Bool), (if s.clk < due then s else s.ocxoLevel b).pending = s.pending :=
    fun s due b => by rw [pending_ite, ocxoLevel_pending, ite_self]
  exact hchange (s0.elapse dt) _ _

@[simp] theorem portMoved_pending (s : State) (p : Port) (ns : Nat) : (State.portMoved s p ns).pending = s.pending := by
  unfold State.portMoved
  simp

@[simp] theorem allMoved_pending (s : State) (ns : Nat) : (State.allMoved s ns).pending = s.pending := by
  unfold State.allMoved
  simp

@[simp] theorem loadTime_pending (s : State) (n : Nat) : (State.loadTime s n).pending = s.pending := by
  unfold State.loadTime
  simp

@[simp] theorem loadNow_pending (s : State) : (State.loadNow s).pending = s.pending := by
  unfold State.loadNow
  rw [pending_ite, setFld_pending, loadTime_pending, ite_self]

@[simp] theorem ppsLoad_pending (s : State) (x : Stamp) : (State.ppsLoad s x).pending = s.pending := by
  unfold State.ppsLoad
  dsimp only
  rw [pending_ite, pending_ite, pending_ite, setFld_pending, setFld_pending, loadTime_pending, loadTime_pending, ite_self,
    ite_self, ite_self]

@[simp] theorem ppsEdge_pending (dt : Nat) (x : Stamp) (high : Bool) (s0 : State) :
    (ppsEdge dt x high s0).pending = s0.pending := by
  unfold ppsEdge
  simp

@[simp] theorem ppsTimeout_pending (dt : Nat) (s0 : State) : (ppsTimeout dt s0).pending = s0.pending := by
  unfold ppsTimeout
  simp

@[simp] theorem ppsFirst_pending (s : State) : (State.ppsFirst s).pending = s.pending := by
  unfold State.ppsFirst
  simp

@[simp] theorem ppsOutSecond_pending (dt : Nat) (s0 : State) : (ppsOutSecond dt s0).pending = s0.pending := by
  unfold ppsOutSecond
  simp

@[simp] theorem roleChanged_pending (s : State) : (State.roleChanged s).pending = s.pending := by
  unfold State.roleChanged
  simp

@[simp] theorem siteLoad_pending (s : State) (x : Stamp) (count : Nat) :
    (State.siteLoad s x count).pending = s.pending := by
  unfold State.siteLoad
  simp

@[simp] theorem siteFault_pending (s : State) : (State.siteFault s).pending = s.pending := by
  unfold State.siteFault
  simp

@[simp] theorem siteLock_pending (s : State) : (State.siteLock s).pending = s.pending := by
  unfold State.siteLock
  simp

@[simp] theorem goodMarker_pending (s : State) (site : SiteState) (x : Stamp) (count : Nat) :
    (State.goodMarker s site x count).pending = s.pending := by
  unfold State.goodMarker
  split <;> simp

@[simp] theorem syncMarker_pending (dt : Nat) (x : Stamp) (falls : List Nat) (s0 : State) :
    (syncMarker dt x falls s0).pending = s0.pending := by
  unfold syncMarker
  dsimp only
  (repeat' split) <;> simp

@[simp] theorem syncTimeout_pending (dt : Nat) (s0 : State) : (syncTimeout dt s0).pending = s0.pending := by
  unfold syncTimeout
  dsimp only
  (repeat' split) <;> simp

@[simp] theorem syncPhaseStep_pending (dt : Nat) (s0 : State) : (syncPhaseStep dt s0).pending = s0.pending := by
  unfold syncPhaseStep
  dsimp only
  split <;> simp

/-! ## The functions of Machine/Calib leave the queue -/

@[simp] theorem stepHolds_pending (s : State) (st : CalStep) (ports : BitVec 8) :
    (State.stepHolds s st ports).pending = s.pending := by
  unfold State.stepHolds
  split <;> simp

@[simp] theorem refOutcome_pending (s : State) (ports : BitVec 8) (o : CalOutcome) :
    (State.refOutcome s ports o).pending = s.pending := by
  unfold State.refOutcome
  split <;> simp

@[simp] theorem stepOutcome_pending (s : State) (st : CalStep) (ports : BitVec 8) (o : CalOutcome) :
    (State.stepOutcome s st ports o).pending = s.pending := by
  unfold State.stepOutcome
  split <;> simp

@[simp] theorem setCalSums_pending (s : State) (ps : List Port) (f : State → Port → CalPortSt → CalPortSt)
    (g : State → Port → RamanSt → RamanSt) :
    (ps.foldl (fun t p => (t.setCalPort p (f t p)).setRaman p (g t p)) s).pending = s.pending :=
  pending_foldl _ _ s fun _ _ => rfl

@[simp] theorem nextStep_pending (x0 : Nat) (x1 : State) : (State.nextStep x0 x1).pending = x1.pending := by
  induction x0 generalizing x1 with
  | zero => rfl
  | succ n ih =>
    rw [State.nextStep]
    (repeat' split) <;> simp [ih]

@[simp] theorem runStart_pending (s : State) (ports : BitVec 8) (steps : BitVec 4) (req : Option Req)
    (auto noSkew startUp : Bool) :
    (State.runStart s ports steps req auto noSkew startUp).pending = s.pending := by
  unfold State.runStart
  simp

@[simp] theorem portStepEnds_pending (s : State) (st : CalStep) (p : Port) (r : Option CalResult) :
    (State.portStepEnds s st p r).pending = s.pending := by
  unfold State.portStepEnds
  split <;> simp

@[simp] theorem refFree_pending (s : State) (measured : Bool) : (State.refFree s measured).pending = s.pending := by
  unfold State.refFree
  simp

@[simp] theorem skewStops_pending (s : State) (p : Port) : (State.skewStops s p).pending = s.pending := by
  unfold State.skewStops
  simp

@[simp] theorem calStepEnd_pending (dt : Nat) (m : CalMeasure) (s0 : State) :
    (calStepEnd dt m s0).pending = s0.pending := by
  unfold calStepEnd
  dsimp only
  (repeat' split) <;> simp

@[simp] theorem applyResult_pending (s : State) (x : CalResult) : (State.applyResult s x).pending = s.pending := by
  unfold State.applyResult
  (repeat' split) <;> simp

@[simp] theorem runOver_pending (s : State) (r : CalRun) : (State.runOver s r).pending = s.pending := by
  unfold State.runOver
  rw [outputsEval_pending, event_pending, pending_ite, setStart_pending, ite_self, pending_ite, hkRelease_pending,
    hkRelease_pending, ite_self, setCalPorts_pending, setCal_pending]

@[simp] theorem calRunEnd_pending (dt : Nat) (s0 : State) : (calRunEnd dt s0).pending = s0.pending := by
  unfold calRunEnd
  dsimp only
  (repeat' split) <;> simp

@[simp] theorem stepAbort_pending (s : State) : (State.stepAbort s).pending = s.pending := by
  unfold State.stepAbort
  dsimp only
  (repeat' split) <;> simp

@[simp] theorem calLeaveActive_pending (s : State) : (State.calLeaveActive s).pending = s.pending := by
  unfold State.calLeaveActive
  simp

@[simp] theorem calTimeout_pending (s : State) : (State.calTimeout s).pending = s.pending := by
  unfold State.calTimeout
  split <;> simp

@[simp] theorem calRunCmd_pending (s : State) (rq : Req) (ports steps : Nat) :
    (State.calRunCmd s rq ports steps).pending = s.pending := by
  unfold State.calRunCmd
  simp

@[simp] theorem setRefres_pending (s : State) (v : Nat) : (State.setRefres s v).2.pending = s.pending := by
  unfold State.setRefres
  (repeat' split) <;> simp

@[simp] theorem setBath_pending (s : State) (port : Nat) (t : Int) :
    (State.setBath s port t).2.pending = s.pending := by
  unfold State.setBath
  dsimp only
  (repeat' split) <;> simp

@[simp] theorem attenWritten_pending (s : State) (p : Port) : (State.attenWritten s p).pending = s.pending := by
  unfold State.attenWritten
  split <;> simp

@[simp] theorem checksBegin_pending (s : State) (ps : List Port) :
    (State.checksBegin s ps).pending = s.pending := forPorts_pending _ _ s fun _ _ => rfl

@[simp] theorem firstRuns_pending (s : State) : (State.firstRuns s).pending = s.pending := by
  unfold State.firstRuns
  split <;> simp

@[simp] theorem calAutoCheck_pending (dt : Nat) (s0 : State) : (calAutoCheck dt s0).pending = s0.pending := by
  unfold calAutoCheck
  (repeat' split) <;> simp

/-! ## The functions of Machine/Sumac leave the queue -/

@[simp] theorem devWrite_pending (s : State) (addr : Nat) (bs : List Byte) :
    (State.devWrite s addr bs).pending = s.pending := by
  unfold State.devWrite
  simp

@[simp] theorem chainWrite_pending (s : State) (links : List (Nat × Nat)) (bs : List Byte) :
    (State.chainWrite s links bs).pending = s.pending := by
  unfold State.chainWrite
  suffices h : ∀ x : State × List Byte, (links.foldl (fun (x : State × List Byte) l =>
      (x.1.devWrite l.1 (x.2.take l.2), x.2.drop l.2)) x).1.pending = x.1.pending from h (s, bs)
  induction links with
  | nil => exact fun _ => rfl
  | cons l ls ih => exact fun x => (ih _).trans (devWrite_pending x.1 l.1 _)

@[simp] theorem chainOpen_pending (s : State) (links : List (Nat × Nat)) (n : Nat) :
    (State.chainOpen s links n).pending = s.pending := by
  unfold State.chainOpen
  simp

@[simp] theorem blockLeaves_pending (s : State) (tag : BitVec 6) : (State.blockLeaves s tag).pending = s.pending := by
  unfold State.blockLeaves
  simp

@[simp] theorem sumacJob_pending (s : State) (rq : Req) (d : List Byte) :
    (State.sumacJob s rq d).pending = s.pending := by
  unfold State.sumacJob
  simp

@[simp] theorem compressBlockDone_pending (dt : Nat) (tag : BitVec 6) (s0 : State) :
    (compressBlockDone dt tag s0).pending = s0.pending := by
  unfold compressBlockDone
  dsimp only
  split <;> simp

@[simp] theorem decCount_pending (s : State) (st : Status) : (State.decCount s st).pending = s.pending := by
  unfold State.decCount
  simp

@[simp] theorem decJobDone_pending (s : State) (rq : Req) (d coded : List Byte) :
    (State.decJobDone s rq d coded).pending = s.pending := by
  unfold State.decJobDone
  simp

@[simp] theorem streamJobDone_pending (dt i : Nat) (s0 : State) : (streamJobDone dt i s0).pending = s0.pending := by
  unfold streamJobDone
  dsimp only
  split <;> simp

@[simp] theorem sumacTimeout_pending (s : State) (tag : BitVec 6) : (State.sumacTimeout s tag).pending = s.pending := by
  unfold State.sumacTimeout
  dsimp only
  (repeat' split) <;> simp

/-! ## The functions of Machine/Checks leave the queue -/

@[simp] theorem portEnable_pending (s : State) (p : Port) : (State.portEnable s p).pending = s.pending := by
  unfold State.portEnable
  simp

@[simp] theorem busyTest_pending (s : State) (rq : Req) : (State.busyTest s rq).pending = s.pending := by
  unfold State.busyTest
  split <;> simp

@[simp] theorem portStartCmd_pending (s : State) (rq : Req) (ports : BitVec 8) :
    (State.portStartCmd s rq ports).pending = s.pending := by
  unfold State.portStartCmd
  split <;> simp

/-! ## The functions of Machine/Snapshots leave the queue -/

@[simp] theorem snapshotPublish_pending (dt id : Nat) (s0 : State) :
    (snapshotPublish dt id s0).pending = s0.pending := by
  unfold snapshotPublish
  dsimp only
  split <;> simp

@[simp] theorem autoTimeout_pending (dt : Nat) (g : GroupId) (s0 : State) :
    (autoTimeout dt g s0).pending = s0.pending := by
  unfold autoTimeout
  simp

@[simp] theorem holdoffEnd_pending (dt : Nat) (g : GroupId) (s0 : State) :
    (holdoffEnd dt g s0).pending = s0.pending := by
  unfold holdoffEnd
  dsimp only
  split <;> simp

@[simp] theorem recordEnqueue_pending (dt : Nat) (item : EnqueueItem) (s0 : State) :
    (recordEnqueue dt item s0).pending = s0.pending := by
  unfold recordEnqueue
  dsimp only
  (repeat' split) <;> simp

@[simp] theorem spillWriteTimeout_pending (dt i : Nat) (s0 : State) :
    (spillWriteTimeout dt i s0).pending = s0.pending := by
  unfold spillWriteTimeout
  simp

@[simp] theorem capmemRetrainCmd_pending (s : State) (rq : Req) :
    (State.capmemRetrainCmd s rq).pending = s.pending := by
  unfold State.capmemRetrainCmd
  simp

@[simp] theorem trainAnswer_pending (s : State) (rq : Option Req) (result : List Byte) :
    (State.trainAnswer s rq result).pending = s.pending := by
  unfold State.trainAnswer
  split <;> simp

@[simp] theorem capmemTrainDone_pending (dt : Nat) (r : CapTrain) (s0 : State) :
    (capmemTrainDone dt r s0).pending = s0.pending := by
  unfold capmemTrainDone
  dsimp only
  (repeat' split) <;> simp

@[simp] theorem retrainTimeout_pending (s : State) : (State.retrainTimeout s).pending = s.pending := by
  unfold State.retrainTimeout
  split <;> simp

@[simp] theorem capmemPeriodicCal_pending (dt : Nat) (s0 : State) : (capmemPeriodicCal dt s0).pending = s0.pending := by
  unfold capmemPeriodicCal
  simp

@[simp] theorem capmemSelfRefresh_pending (dt : Nat) (s0 : State) : (capmemSelfRefresh dt s0).pending = s0.pending := by
  unfold capmemSelfRefresh
  simp

@[simp] theorem appendRec_pending (s : State) (i typ src flags : Nat) (payload : List Byte) :
    (State.appendRec s i typ src flags payload).pending = s.pending := by
  unfold State.appendRec
  simp

@[simp] theorem setReadout_pending (s : State) (i : Nat) (f : Readout → Readout) :
    (State.setReadout s i f).pending = s.pending := by
  unfold State.setReadout
  simp

@[simp] theorem snapEndRec_pending (s : State) (r : Readout) : (State.snapEndRec s r).pending = s.pending := by
  unfold State.snapEndRec
  simp

@[simp] theorem readoutFill_pending (i : Nat) (x0 : Nat) (x1 : State) :
    (State.readoutFill i x0 x1).pending = x1.pending := by
  induction x0 generalizing x1 with
  | zero => rfl
  | succ n ih =>
    rw [State.readoutFill]
    (repeat' split) <;> simp [ih]

@[simp] theorem readoutStep_pending (s : State) (i : Nat) : (State.readoutStep s i).pending = s.pending := by
  unfold State.readoutStep
  split <;> simp

@[simp] theorem snapReadCmd_pending (s : State) (rq : Req) (id i : Nat) (release : Bool) :
    (State.snapReadCmd s rq id i release).pending = s.pending := by
  unfold State.snapReadCmd
  split <;> simp

@[simp] theorem snapReadTimeout_pending (s : State) (tag : BitVec 6) :
    (State.snapReadTimeout s tag).pending = s.pending := by
  unfold State.snapReadTimeout
  split <;> simp

@[simp] theorem snapReleaseCmd_pending (s : State) (rq : Req) (id : Nat) :
    (State.snapReleaseCmd s rq id).pending = s.pending := by
  unfold State.snapReleaseCmd
  split <;> simp

@[simp] theorem freezeRing_pending (s : State) (p : Port) (k : RingKind) :
    (State.freezeRing s p k).pending = s.pending := by
  unfold State.freezeRing
  split <;> simp

@[simp] theorem maskStop_pending (s : State) (p : Port) (run : Nat × Nat × Bool × Bool) (tTrig : Nat) :
    (State.maskStop s p run tTrig).pending = s.pending := by
  unfold State.maskStop
  simp

@[simp] theorem maskTraceEval_pending (dt : Nat) (p : Port) (ago cycles : Nat) (s0 : State) :
    (maskTraceEval dt p ago cycles s0).pending = s0.pending := by
  unfold maskTraceEval
  dsimp only
  (repeat' split) <;> simp

@[simp] theorem maskRearmCmd_pending (s : State) (rq : Req) (port : Nat) :
    (State.maskRearmCmd s rq port).pending = s.pending := by
  unfold State.maskRearmCmd
  split <;> simp

@[simp] theorem loadMaskCmd_pending (s : State) (rq : Req) (port off bytes : Nat) :
    (State.loadMaskCmd s rq port off bytes).pending = s.pending := by
  unfold State.loadMaskCmd
  split <;> simp

/-! ## The functions of Machine/Link leave the queue -/

@[simp] theorem blockDiscard_pending (dt : Nat) (k : Fin 8) (sync : BitVec 2) (bytes : List Byte) (s0 : State) :
    (blockDiscard dt k sync bytes s0).pending = s0.pending := by
  unfold blockDiscard
  simp

@[simp] theorem dropPartial_pending (s : State) (i : Nat) : (State.dropPartial s i).pending = s.pending := by
  unfold State.dropPartial
  dsimp only
  (repeat' split) <;> simp

@[simp] theorem reroute_pending (s : State) (m : List Byte) : (State.reroute s m).pending = s.pending := by
  unfold State.reroute
  simp

@[simp] theorem loopSent_pending (s : State) : (State.loopSent s).pending = s.pending := by
  unfold State.loopSent
  (repeat' split) <;> simp

@[simp] theorem loopReturns_pending (s : State) : (State.loopReturns s).pending = s.pending := by
  unfold State.loopReturns
  split <;> simp

@[simp] theorem linkLeaves_pending (s : State) (dest : LinkStage) : (State.linkLeaves s dest).pending = s.pending := by
  unfold State.linkLeaves
  simp

@[simp] theorem bringUp_pending (s : State) (fromDown : Bool) : (State.bringUp s fromDown).pending = s.pending := by
  unfold State.bringUp
  simp

@[simp] theorem leaveActive_pending (s : State) (cause : Nat) : (State.leaveActive s cause).pending = s.pending := by
  unfold State.leaveActive
  simp

@[simp] theorem stageFail_pending (s : State) (cause : Nat) : (State.stageFail s cause).pending = s.pending := by
  unfold State.stageFail
  simp

@[simp] theorem detectCheck_pending (dt : Nat) (found : BitVec 8) (s0 : State) :
    (detectCheck dt found s0).pending = s0.pending := by
  unfold detectCheck
  simp

@[simp] theorem downCheck_pending (dt : Nat) (found : BitVec 8) (s0 : State) :
    (downCheck dt found s0).pending = s0.pending := by
  unfold downCheck
  dsimp only
  (repeat' split) <;> simp

@[simp] theorem linkFailIdleEnd_pending (dt : Nat) (s0 : State) : (linkFailIdleEnd dt s0).pending = s0.pending := by
  unfold linkFailIdleEnd
  dsimp only
  (repeat' split) <;> simp

@[simp] theorem bringupStageTimeout_pending (dt : Nat) (s0 : State) :
    (bringupStageTimeout dt s0).pending = s0.pending := by
  unfold bringupStageTimeout
  dsimp only
  (repeat' split) <;> simp

@[simp] theorem trainingFramesStart_pending (dt : Nat) (polarity : BitVec 8) (s0 : State) :
    (trainingFramesStart dt polarity s0).pending = s0.pending := by
  unfold trainingFramesStart
  simp

@[simp] theorem trainingFrameRx_pending (dt : Nat) (k : Fin 8) (control status : BitVec 16) (ownReady : Bool) (s0 : State) :
    (trainingFrameRx dt k control status ownReady s0).pending = s0.pending := by
  unfold trainingFrameRx
  simp

@[simp] theorem alignLanes_pending (locked : BitVec 8) (seen : Vector (Option AlignIn) 8) (s : State) :
    (State.alignLanes locked seen s).pending = s.pending := pending_foldl _ _ s fun t k => by dsimp only; split <;> rfl

@[simp] theorem alignRx_pending (dt : Nat) (locked : BitVec 8) (seen : Vector (Option AlignIn) 8) (s0 : State) :
    (alignRx dt locked seen s0).pending = s0.pending := by
  unfold alignRx
  dsimp only
  (repeat' split) <;> simp

@[simp] theorem blockLockLoss_pending (dt : Nat) (k : Fin 8) (s0 : State) :
    (blockLockLoss dt k s0).pending = s0.pending := by
  unfold blockLockLoss
  dsimp only
  (repeat' split) <;> simp

@[simp] theorem idleLoss_pending (dt : Nat) (k : Fin 8) (s0 : State) : (idleLoss dt k s0).pending = s0.pending := by
  unfold idleLoss
  dsimp only
  split <;> simp

@[simp] theorem lrefUnlock_pending (dt : Nat) (s0 : State) : (lrefUnlock dt s0).pending = s0.pending := by
  unfold lrefUnlock
  dsimp only
  split <;> simp

@[simp] theorem linkUp_pending (s : State) (peer : List Byte) : (State.linkUp s peer).pending = s.pending := by
  unfold State.linkUp
  simp

@[simp] theorem exchangeCheck_pending (s : State) : (State.exchangeCheck s).pending = s.pending := by
  unfold State.exchangeCheck
  split <;> simp

@[simp] theorem capabilitySend_pending (dt : Nat) (s0 : State) : (capabilitySend dt s0).pending = s0.pending := by
  unfold capabilitySend
  dsimp only
  split <;> simp

@[simp] theorem capabilityRx_pending (dt : Nat) (bytes : List Byte) (s0 : State) :
    (capabilityRx dt bytes s0).pending = s0.pending := by
  unfold capabilityRx
  dsimp only
  split <;> simp

@[simp] theorem sendFrame_pending (s : State) (i n fseq rst : Nat) (payload : List Byte) :
    (State.sendFrame s i n fseq rst payload).pending = s.pending := by
  unfold State.sendFrame
  simp

@[simp] theorem sendZero_pending (s : State) : (State.sendZero s).pending = s.pending := by
  unfold State.sendZero
  simp

@[simp] theorem sendStream_pending (s : State) (i : Nat) : (State.sendStream s i).pending = s.pending := by
  unfold State.sendStream
  simp

@[simp] theorem sendLoop_pending (s : State) : (State.sendLoop s).pending = s.pending := by
  unfold State.sendLoop
  dsimp only
  split <;> simp

@[simp] theorem frameSelect_pending (dt : Nat) (s0 : State) : (frameSelect dt s0).pending = s0.pending := by
  unfold frameSelect
  dsimp only
  (repeat' split) <;> simp

@[simp] theorem rxWake_pending (s : State) : (State.rxWake s).pending = s.pending := by
  unfold State.rxWake
  simp

@[simp] theorem freeUnits_pending (s : State) (n : Nat) : (State.freeUnits s n).pending = s.pending := by
  unfold State.freeUnits
  simp

@[simp] theorem hostBytes_pending (s : State) (n : Nat) : (State.hostBytes s n).pending = s.pending := by
  unfold State.hostBytes
  simp

@[simp] theorem creditReceived_pending (dt stream total : Nat) (s0 : State) :
    (creditReceived dt stream total s0).pending = s0.pending := by
  unfold creditReceived
  dsimp only
  (repeat' split) <;> simp

@[simp] theorem creditRepeat_pending (dt : Nat) (s0 : State) : (creditRepeat dt s0).pending = s0.pending := by
  unfold creditRepeat
  dsimp only
  split <;> simp

@[simp] theorem loopBad_pending (s : State) : (State.loopBad s).pending = s.pending := by
  unfold State.loopBad
  split <;> simp

@[simp] theorem hostFrameDiscard_pending (dt : Nat) (why : FrameFault) (s0 : State) :
    (hostFrameDiscard dt why s0).pending = s0.pending := by
  unfold hostFrameDiscard
  dsimp only
  (repeat' split) <;> simp

@[simp] theorem txQuietEntry_pending (dt : Nat) (s0 : State) : (txQuietEntry dt s0).pending = s0.pending := by
  unfold txQuietEntry
  simp

@[simp] theorem txSleepEntry_pending (dt : Nat) (s0 : State) : (txSleepEntry dt s0).pending = s0.pending := by
  unfold txSleepEntry
  simp

@[simp] theorem quietRefresh_pending (dt : Nat) (s0 : State) : (quietRefresh dt s0).pending = s0.pending := by
  unfold quietRefresh
  dsimp only
  split <;> simp

@[simp] theorem txExit_pending (s : State) : (State.txExit s).pending = s.pending := by
  unfold State.txExit
  simp

@[simp] theorem txPmExit_pending (dt : Nat) (s0 : State) : (txPmExit dt s0).pending = s0.pending := by
  unfold txPmExit
  dsimp only
  split <;> simp

@[simp] theorem pmBlockRx_pending (dt : Nat) (target : Nat) (s0 : State) :
    (pmBlockRx dt target s0).pending = s0.pending := by
  unfold pmBlockRx
  dsimp only
  split <;> simp

@[simp] theorem rxSleepExit_pending (dt : Nat) (s0 : State) : (rxSleepExit dt s0).pending = s0.pending := by
  unfold rxSleepExit
  dsimp only
  split <;> simp

@[simp] theorem linkRestart_pending (s : State) : (State.linkRestart s).pending = s.pending := by
  unfold State.linkRestart
  simp

@[simp] theorem linkEnWritten_pending (s : State) (before after : Bool) :
    (State.linkEnWritten s before after).pending = s.pending := by
  unfold State.linkEnWritten
  dsimp only
  (repeat' split) <;> simp

@[simp] theorem linkPmWritten_pending (s : State) : (State.linkPmWritten s).pending = s.pending := by
  unfold State.linkPmWritten
  split <;> simp

@[simp] theorem loopBegin_pending (s : State) : (State.loopBegin s).pending = s.pending := by
  unfold State.loopBegin
  simp

@[simp] theorem linkLoopCmd_pending (s : State) (rq : Req) (mode pattern lanes time : Nat) :
    (State.linkLoopCmd s rq mode pattern lanes time).pending = s.pending := by
  unfold State.linkLoopCmd
  dsimp only
  (repeat' split) <;> simp

@[simp] theorem linkLoopStart_pending (dt : Nat) (s0 : State) : (linkLoopStart dt s0).pending = s0.pending := by
  unfold linkLoopStart
  dsimp only
  split <;> simp

@[simp] theorem linkLoopEnd_pending (dt : Nat) (s0 : State) : (linkLoopEnd dt s0).pending = s0.pending := by
  unfold linkLoopEnd
  dsimp only
  (repeat' split) <;> simp

@[simp] theorem loopCheckerLock_pending (dt : Nat) (k : Fin 8) (locked : Bool) (errors : Nat) (s0 : State) :
    (loopCheckerLock dt k locked errors s0).pending = s0.pending := by
  unfold loopCheckerLock
  dsimp only
  (repeat' split) <;> simp

end Sys2Proof.Machine

/-! # The queue of commands: start, life, power and the host -/

namespace Sys2Proof.Machine

/-! ## The functions of Machine/StartUp leave the queue -/

/-- An event of the running device leaves the queue where what it does leaves it. -/
@[simp] theorem whenRuns_pending (dt : Nat) (f : Nat → State → State) (s : State)
    (hf : ∀ d t, (f d t).pending = t.pending) : (whenRuns dt f s).pending = s.pending := by
  unfold whenRuns
  rw [pending_ite, hf]
  exact ite_self _

@[simp] theorem volatileReset_pending (s : State) : (State.volatileReset s).pending = s.pending := by
  unfold State.volatileReset
  simp

@[simp] theorem eraseSlot_pending (s : State) : (State.eraseSlot s).pending = s.pending := by
  unfold State.eraseSlot
  simp

@[simp] theorem cutWrite_pending (s : State) : (State.cutWrite s).pending = s.pending := by
  unfold State.cutWrite
  simp

@[simp] theorem assertReset_pending (s0 : State) (hold : ResetHold) (cause : StartCause) (rail : Option Rail) :
    (State.assertReset s0 hold cause rail).pending = s0.pending := by
  unfold State.assertReset
  simp

@[simp] theorem resetAssert_pending (dt : Nat) (s0 : State) : (resetAssert dt s0).pending = s0.pending := by
  unfold resetAssert
  simp

@[simp] theorem supplyTrip_pending (dt : Nat) (rail : Rail) (s0 : State) :
    (supplyTrip dt rail s0).pending = s0.pending := by
  unfold supplyTrip
  simp

@[simp] theorem supplyRelease_pending (dt : Nat) (s0 : State) : (supplyRelease dt s0).pending = s0.pending := by
  unfold supplyRelease
  simp

@[simp] theorem deviceResetCmd_pending (s : State) (rq : Req) : (State.deviceResetCmd s rq).pending = s.pending := by
  unfold State.deviceResetCmd
  simp

@[simp] theorem deviceResetTrigger_pending (dt : Nat) (s0 : State) :
    (deviceResetTrigger dt s0).pending = s0.pending := by
  unfold deviceResetTrigger
  simp

@[simp] theorem watchdogExpiry_pending (dt : Nat) (s0 : State) : (watchdogExpiry dt s0).pending = s0.pending := by
  unfold watchdogExpiry
  simp

@[simp] theorem fatalNow_pending (s : State) : (State.fatalNow s).pending = s.pending := by
  unfold State.fatalNow
  simp

@[simp] theorem waitHost_pending (s : State) (err : Nat) : (State.waitHost s err).pending = s.pending := by
  unfold State.waitHost
  simp

@[simp] theorem bootLoad_pending (s : State) : (State.bootLoad s).pending = s.pending := by
  unfold State.bootLoad
  split <;> simp

@[simp] theorem coldStart_pending (dt : Nat) (src : BootSrc) (mailboxGood : Bool) (s0 : State) :
    (coldStart dt src mailboxGood s0).pending = s0.pending := by
  unfold coldStart
  simp

@[simp] theorem imageStarts_pending (s : State) (i : RunningImage) : (State.imageStarts s i).pending = s.pending := by
  unfold State.imageStarts
  simp

@[simp] theorem bootImageChecked_pending (dt : Nat) (responds : Bool) (s0 : State) :
    (bootImageChecked dt responds s0).pending = s0.pending := by
  unfold bootImageChecked
  dsimp only
  (repeat' split) <;> simp

@[simp] theorem fwDownloadCmd_pending (s : State) (rq : Req) (bytes : Nat) :
    (State.fwDownloadCmd s rq bytes).pending = s.pending := by
  unfold State.fwDownloadCmd
  (repeat' split) <;> simp

@[simp] theorem downloadTimeout_pending (s : State) : (State.downloadTimeout s).pending = s.pending := by
  unfold State.downloadTimeout
  split <;> simp

@[simp] theorem fwFlashWriteCmd_pending (s : State) (rq : Req) (off bytes : Nat) (final : Bool) :
    (State.fwFlashWriteCmd s rq off bytes final).pending = s.pending := by
  unfold State.fwFlashWriteCmd
  simp

@[simp] theorem flashPut_pending (s : State) (addr : Nat) (bs : List Byte) :
    (State.flashPut s addr bs).pending = s.pending := by
  unfold State.flashPut
  simp

@[simp] theorem flashWriteDone_pending (dt : Nat) (s0 : State) : (flashWriteDone dt s0).pending = s0.pending := by
  unfold flashWriteDone
  dsimp only
  (repeat' split) <;> simp

@[simp] theorem flashTimeout_pending (s : State) : (State.flashTimeout s).pending = s.pending := by
  unfold State.flashTimeout
  split <;> simp

@[simp] theorem dieTempSample_pending (dt : Nat) (t : Int) (s0 : State) :
    (dieTempSample dt t s0).pending = s0.pending := by
  unfold dieTempSample
  simp

@[simp] theorem xtalCheck_pending (dt : Nat) (x : XtalReading) (s0 : State) :
    (xtalCheck dt x s0).pending = s0.pending := by
  unfold xtalCheck
  dsimp only
  (repeat' split) <;> simp

@[simp] theorem bankSupplyRise_pending (dt : Nat) (b : IoBank) (mv : Nat) (s0 : State) :
    (bankSupplyRise dt b mv s0).pending = s0.pending := by
  unfold bankSupplyRise
  dsimp only
  (repeat' split) <;> simp

@[simp] theorem bankInputs_pending (s : State) (b : IoBank) : (State.bankInputs s b).pending = s.pending := by
  unfold State.bankInputs
  split <;> simp

@[simp] theorem bankSupplyFall_pending (dt : Nat) (b : IoBank) (s0 : State) :
    (bankSupplyFall dt b s0).pending = s0.pending := by
  unfold bankSupplyFall
  dsimp only
  (repeat' split) <;> simp

@[simp] theorem startUpCalBegin_pending (dt : Nat) (s0 : State) : (startUpCalBegin dt s0).pending = s0.pending := by
  unfold startUpCalBegin
  dsimp only
  split <;> simp

/-! ## The functions of Machine/Life leave the queue -/

@[simp] theorem quieten_pending (s : State) : (State.quieten s).pending = s.pending := by
  unfold State.quieten
  simp

@[simp] theorem shutDownNow_pending (s : State) : (State.shutDownNow s).pending = s.pending := by
  unfold State.shutDownNow
  simp

@[simp] theorem shutBegin_pending (s : State) (since : Nat) (selftest : Bool) :
    (State.shutBegin s since selftest).pending = s.pending := by
  unfold State.shutBegin
  simp

@[simp] theorem shutGo_pending (s : State) : (State.shutGo s).pending = s.pending := by
  unfold State.shutGo
  split <;> simp

@[simp] theorem shutdownCmd_pending (s : State) (rq : Req) (flags : Nat) :
    (State.shutdownCmd s rq flags).pending = s.pending := by
  unfold State.shutdownCmd
  (repeat' split) <;> simp

@[simp] theorem shutdownSelftestDone_pending (dt : Nat) (r : TestResult) (s0 : State) :
    (shutdownSelftestDone dt r s0).pending = s0.pending := by
  unfold shutdownSelftestDone
  dsimp only
  split <;> simp

@[simp] theorem selftestRunCmd_pending (s : State) (rq : Req) (block pattern : Nat) :
    (State.selftestRunCmd s rq block pattern).pending = s.pending := by
  unfold State.selftestRunCmd
  dsimp only
  (repeat' split) <;> simp

@[simp] theorem clearSram_pending (s : State) (p : Port) : (State.clearSram s p).pending = s.pending := by
  unfold State.clearSram
  simp

@[simp] theorem reloadBlock_pending (s : State) (memId inst : Nat) :
    (State.reloadBlock s memId inst).pending = s.pending := by
  unfold State.reloadBlock
  simp

@[simp] theorem selftestBlockDone_pending (dt : Nat) (r : TestResult) (s0 : State) :
    (selftestBlockDone dt r s0).pending = s0.pending := by
  unfold selftestBlockDone
  dsimp only
  split <;> simp

@[simp] theorem stopBlockTest_pending (s : State) : (State.stopBlockTest s).pending = s.pending := by
  unfold State.stopBlockTest
  split <;> simp

@[simp] theorem abortSelftestCmd_pending (s : State) (rq : Req) :
    (State.abortSelftestCmd s rq).pending = s.pending := by
  unfold State.abortSelftestCmd
  split <;> simp

@[simp] theorem selftestResultCmd_pending (s : State) (rq : Req) (index : Nat) :
    (State.selftestResultCmd s rq index).pending = s.pending := by
  unfold State.selftestResultCmd
  simp

@[simp] theorem serviceChallengeCmd_pending (s : State) (rq : Req) :
    (State.serviceChallengeCmd s rq).pending = s.pending := by
  unfold State.serviceChallengeCmd
  simp

@[simp] theorem serviceResponseCmd_pending (s : State) (rq : Req) (sig : List Byte) :
    (State.serviceResponseCmd s rq sig).pending = s.pending := by
  unfold State.serviceResponseCmd
  simp

@[simp] theorem lifecycleSetCmd_pending (s : State) (rq : Req) (target : Nat) :
    (State.lifecycleSetCmd s rq target).pending = s.pending := by
  unfold State.lifecycleSetCmd
  dsimp only
  (repeat' split) <;> simp

@[simp] theorem loadUnsigned_pending (s : State) : (State.loadUnsigned s).pending = s.pending := by
  unfold State.loadUnsigned
  split <;> simp

@[simp] theorem compensate_pending (s : State) :
    (State.compensate s).pending = s.pending := forPorts_pending _ _ s fun _ t => pending_foldl _ _ t fun _ _ => rfl

@[simp] theorem enterDeployed_pending (s0 : State) : (State.enterDeployed s0).pending = s0.pending := by
  unfold State.enterDeployed
  simp

@[simp] theorem lifecycleProgrammed_pending (dt : Nat) (s0 : State) :
    (lifecycleProgrammed dt s0).pending = s0.pending := by
  unfold lifecycleProgrammed
  dsimp only
  split <;> simp

@[simp] theorem lifecycleTimeout_pending (s : State) : (State.lifecycleTimeout s).pending = s.pending := by
  unfold State.lifecycleTimeout
  simp

@[simp] theorem boundaryScanAccess_pending (dt : Nat) (op : JtagOp) (s0 : State) :
    (boundaryScanAccess dt op s0).pending = s0.pending := by
  unfold boundaryScanAccess
  split <;> simp

/-! ## The functions of Machine/Power leave the queue -/

@[simp] theorem toStandby_pending (s : State) (rq : Req) : (State.toStandby s rq).pending = s.pending := by
  unfold State.toStandby
  simp

@[simp] theorem standbyGated_pending (dt : Nat) (s0 : State) : (standbyGated dt s0).pending = s0.pending := by
  unfold standbyGated
  dsimp only
  split <;> simp

@[simp] theorem startEach_pending (x0 : List Port) (x1 : State) (x2 : BitVec 8) :
    (startEach x0 x1 x2).1.pending = x1.pending := by
  induction x0 generalizing x1 x2 with
  | nil => rfl
  | cons v vs ih =>
    rw [startEach]
    (repeat' split) <;> simp [ih]

@[simp] theorem clocksUngated_pending (dt : Nat) (s0 : State) : (clocksUngated dt s0).pending = s0.pending := by
  unfold clocksUngated
  dsimp only
  split <;> simp

@[simp] theorem toRetain_pending (s : State) (rq : Req) (banks : BitVec 8) :
    (State.toRetain s rq banks).pending = s.pending := by
  unfold State.toRetain
  simp

@[simp] theorem powerStateCmd_pending (s : State) (rq : Req) (target banks : Nat) :
    (State.powerStateCmd s rq target banks).pending = s.pending := by
  unfold State.powerStateCmd
  (repeat' split) <;> simp

@[simp] theorem powerTimeout_pending (s : State) : (State.powerTimeout s).pending = s.pending := by
  unfold State.powerTimeout
  split <;> simp

@[simp] theorem retainArm_pending (dt : Nat) (s0 : State) : (retainArm dt s0).pending = s0.pending := by
  unfold retainArm
  dsimp only
  split <;> simp

@[simp] theorem powerDown_pending (s : State) : (State.powerDown s).pending = s.pending := by
  unfold State.powerDown
  simp

@[simp] theorem commitPoint_pending (dt : Nat) (s0 : State) : (commitPoint dt s0).pending = s0.pending := by
  unfold commitPoint
  dsimp only
  split <;> simp

@[simp] theorem wakeNow_pending (s : State) (r : RetainSt) (kind : Nat) (xs : List WakeSource) :
    (State.wakeNow s r kind xs).pending = s.pending := by
  unfold State.wakeNow
  simp

@[simp] theorem abortEntry_pending (s : State) (r : RetainSt) (xs : List WakeSource) :
    (State.abortEntry s r xs).pending = s.pending := by
  unfold State.abortEntry
  simp

@[simp] theorem wakeEvent_pending (dt : Nat) (xs : List WakeSource) (s0 : State) :
    (wakeEvent dt xs s0).pending = s0.pending := by
  unfold wakeEvent
  dsimp only
  (repeat' split) <;> simp

@[simp] theorem wakeReplay_pending (dt : Nat) (s0 : State) : (wakeReplay dt s0).pending = s0.pending := by
  unfold wakeReplay
  dsimp only
  (repeat' split) <;> simp

@[simp] theorem brownout_pending (dt : Nat) (s0 : State) : (brownout dt s0).pending = s0.pending := by
  unfold brownout
  dsimp only
  (repeat' split) <;> simp

@[simp] theorem presLostAsleep_pending (s : State) (p : Port) : (State.presLostAsleep s p).pending = s.pending := by
  unfold State.presLostAsleep
  split <;> simp

@[simp] theorem wakeSuppliesGood_pending (dt : Nat) (s0 : State) : (wakeSuppliesGood dt s0).pending = s0.pending := by
  unfold wakeSuppliesGood
  dsimp only
  (repeat' split) <;> simp

@[simp] theorem dropCfg_pending (s : State) (lost : Nat → Bool) : (State.dropCfg s lost).pending = s.pending := by
  unfold State.dropCfg
  simp

@[simp] theorem loseBank_pending (s : State) (b : Nat) : (State.loseBank s b).pending = s.pending := by
  unfold State.loseBank
  (repeat' split) <;> simp

@[simp] theorem enginesUp_pending (s : State) (g : EngineId → EngineMode) :
    (State.enginesUp s g).pending = s.pending := by
  unfold State.enginesUp
  simp

@[simp] theorem firmwareUp_pending (s : State) : (State.firmwareUp s).pending = s.pending := by
  unfold State.firmwareUp
  simp

@[simp] theorem wakeFirmware_pending (s : State) (r : RetainSt) (good : BitVec 8) (tj : Int) :
    (State.wakeFirmware s r good tj).pending = s.pending := by
  unfold State.wakeFirmware
  simp

@[simp] theorem brownoutEvents_pending (s : State) : (State.brownoutEvents s).pending = s.pending := by
  unfold State.brownoutEvents
  simp

@[simp] theorem fwInitDone_pending (dt : Nat) (good : BitVec 8) (tj : Int) (s0 : State) :
    (fwInitDone dt good tj s0).pending = s0.pending := by
  unfold fwInitDone
  dsimp only
  split
  · rfl
  · split
    · exact wakeFirmware_pending _ _ _ _
    · rw [brownoutEvents_pending, event_pending, setStart_pending, fatalNow_pending, firmwareUp_pending, pending_ite,
        pending_foldl State.loseBank _ _ loseBank_pending]
      exact ite_self _

@[simp] theorem wakeSerialCheck_pending (dt : Nat) (p : Port) (attempts : List (Option IdAttempt)) (s0 : State) :
    (wakeSerialCheck dt p attempts s0).pending = s0.pending := by
  unfold wakeSerialCheck
  dsimp only
  split <;> simp

@[simp] theorem wakeComplete_pending (dt : Nat) (s0 : State) : (wakeComplete dt s0).pending = s0.pending := by
  unfold wakeComplete
  dsimp only
  split <;> simp

@[simp] theorem vaonLoss_pending (dt : Nat) (s0 : State) : (vaonLoss dt s0).pending = s0.pending := rfl

@[simp] theorem vaonRise_pending (dt : Nat) (s0 : State) : (vaonRise dt s0).pending = s0.pending := by
  unfold vaonRise
  dsimp only
  split <;> simp

/-! ## The functions of Machine/Params leave the queue -/

@[simp] theorem withShadows_pending (s : State) : (State.withShadows s).pending = s.pending := by
  unfold State.withShadows
  simp

@[simp] theorem withWrites_pending (s : State) (ws : List FieldWrite) :
    (State.withWrites s ws).pending = s.pending := by
  unfold State.withWrites
  simp

@[simp] theorem streamOff_pending (s : State) (i : Nat) : (State.streamOff s i).pending = s.pending := by
  unfold State.streamOff
  simp

@[simp] theorem streamOn_pending (s : State) (i : Nat) : (State.streamOn s i).pending = s.pending := by
  unfold State.streamOn
  simp

@[simp] theorem restoreBanks_pending (s : State) (m : Nat) : (State.restoreBanks s m).pending = s.pending := by
  unfold State.restoreBanks
  simp

@[simp] theorem ringsResized_pending (t : State) (s : State) (p : Port) :
    (State.ringsResized t s p).pending = t.pending := by
  unfold State.ringsResized
  simp

@[simp] theorem afterInst_pending (t : State) (s : State) (block i : Nat) (ws : List FieldWrite) :
    (State.afterInst t s block i ws).pending = t.pending := by
  unfold State.afterInst
  split <;> simp

@[simp] theorem shadow_pending (s : State) (es : Tab Nat) : (State.shadow s es).pending = s.pending := by
  unfold State.shadow
  simp

@[simp] theorem applyWrites_pending (s : State) (ws : List FieldWrite) (hold : Bool) :
    (State.applyWrites s ws hold).1.pending = s.pending := by
  unfold State.applyWrites
  simp

@[simp] theorem paramWriteCmd_pending (s : State) (rq : Req) (block inst word flags : Nat) (words : List (Word × Word)) :
    (State.paramWriteCmd s rq block inst word flags words).pending = s.pending := by
  unfold State.paramWriteCmd
  dsimp only
  (repeat' split) <;> simp

@[simp] theorem paramReadCmd_pending (s : State) (rq : Req) (block inst word n : Nat) :
    (State.paramReadCmd s rq block inst word n).pending = s.pending := by
  unfold State.paramReadCmd
  split <;> simp

@[simp] theorem commitCmd_pending (s : State) (rq : Req) (flags : Nat) :
    (State.commitCmd s rq flags).pending = s.pending := by
  unfold State.commitCmd
  dsimp only
  (repeat' split) <;> simp

@[simp] theorem clearStatsCmd_pending (s : State) (rq : Req) (block inst : Nat) :
    (State.clearStatsCmd s rq block inst).pending = s.pending := by
  unfold State.clearStatsCmd
  dsimp only
  split <;> simp

/-! ## The functions of Machine/Loads leave the queue -/

@[simp] theorem loadProgramCmd_pending (s : State) (rq : Req) (slot off bytes : Nat) :
    (State.loadProgramCmd s rq slot off bytes).pending = s.pending := by
  unfold State.loadProgramCmd
  dsimp only
  (repeat' split) <;> simp

@[simp] theorem unloadProgramCmd_pending (s : State) (rq : Req) (slot : Nat) :
    (State.unloadProgramCmd s rq slot).pending = s.pending := by
  unfold State.unloadProgramCmd
  simp

@[simp] theorem loadTimeout_pending (s : State) : (State.loadTimeout s).pending = s.pending := by
  unfold State.loadTimeout
  simp

@[simp] theorem engineResetCmd_pending (s : State) (rq : Req) (cl e : Nat) :
    (State.engineResetCmd s rq cl e).pending = s.pending := by
  unfold State.engineResetCmd
  dsimp only
  (repeat' split) <;> simp

@[simp] theorem applyPack_pending (s : State) (rs : List PackRun) : (State.applyPack s rs).2.pending = s.pending := by
  unfold State.applyPack
  dsimp only
  (repeat' split) <;> simp

@[simp] theorem loadZonePackCmd_pending (s : State) (rq : Req) (off bytes : Nat) :
    (State.loadZonePackCmd s rq off bytes).pending = s.pending := by
  unfold State.loadZonePackCmd
  simp

@[simp] theorem loadBaselinesCmd_pending (s : State) (rq : Req) (off bytes : Nat) :
    (State.loadBaselinesCmd s rq off bytes).pending = s.pending := by
  unfold State.loadBaselinesCmd
  simp

@[simp] theorem applyBaselines_pending (s : State) (img : List Byte) :
    (State.applyBaselines s img).pending = s.pending := pending_foldl _ _ s fun _ _ => rfl

@[simp] theorem applyImage_pending (s : State) (u : DecUse) (img : List Byte) :
    (State.applyImage s u img).2.pending = s.pending := by
  unfold State.applyImage
  (repeat' split) <;> simp

@[simp] theorem decompressDone_pending (dt : Nat) (s0 : State) : (decompressDone dt s0).pending = s0.pending := by
  unfold decompressDone
  dsimp only
  (repeat' split) <;> simp

/-! ## The functions of Machine/HostCmd leave the queue -/

@[simp] theorem doorbellLost_pending (s : State) : (State.doorbellLost s).pending = s.pending := by
  unfold State.doorbellLost
  simp

@[simp] theorem tagClash_pending (s : State) : (State.tagClash s).pending = s.pending := by
  unfold State.tagClash
  simp

@[simp] theorem acceptCmd_pending (s : State) (rq : Req) (code : Nat) (headOk : Bool) (params : List Byte) :
    (State.acceptCmd s rq code headOk params).pending = s.pending := by
  unfold State.acceptCmd
  (repeat' split) <;> simp

@[simp] theorem submit_pending (s : State) (rq : Req) (code : Nat) (headOk : Bool) (params : List Byte) :
    (State.submit s rq code headOk params).pending = s.pending := by
  unfold State.submit
  split <;> simp

/-- A command of the host leaves the queue where its work leaves it. -/
@[simp] theorem runCmd_pending (s : State) (dt : Nat) (rq : Req) (code : Nat) (params : List Byte) (body : State → State)
    (hbody : ∀ t, (body t).pending = t.pending) : (s.runCmd dt rq code params body).pending = s.pending := by
  unfold State.runCmd
  dsimp only
  (repeat' split) <;> simp [hbody]

@[simp] theorem doorbellWrite_pending (s : State) (v : Nat) : (State.doorbellWrite s v).pending = s.pending := by
  unfold State.doorbellWrite
  simp

@[simp] theorem headWrite_pending (s : State) (v : BitVec 8) : (State.headWrite s v).pending = s.pending := by
  unfold State.headWrite
  simp

@[simp] theorem irqClear_pending (s : State) (mask : BitVec 7) : (State.irqClear s mask).pending = s.pending := by
  unfold State.irqClear
  simp

@[simp] theorem portWrite_pending (s : State) (addr : Nat) (v : Word) :
    (State.portWrite s addr v).pending = s.pending := by
  unfold State.portWrite
  split <;> simp

@[simp] theorem portWrites_pending (x0 : List Word) (x1 : Nat) (x2 : State) :
    (State.portWrites x0 x1 x2).pending = x2.pending := by
  induction x0 generalizing x1 x2 with
  | nil => rfl
  | cons v vs ih =>
    rw [State.portWrites]
    simp [ih]

@[simp] theorem registerWrite_pending (dt khz : Nat) (clocks : List (BitVec 4)) (s0 : State) :
    (registerWrite dt khz clocks s0).pending = s0.pending := by
  unfold registerWrite
  split <;> simp

@[simp] theorem doorbell_pending (dt : Nat) (v : Word) (s0 : State) : (doorbell dt v s0).pending = s0.pending := by
  unfold doorbell
  simp

@[simp] theorem cqHeadWrite_pending (dt : Nat) (v : Byte) (s0 : State) :
    (cqHeadWrite dt v s0).pending = s0.pending := by
  unfold cqHeadWrite
  simp

@[simp] theorem irqStatusClear_pending (dt : Nat) (mask : BitVec 7) (s0 : State) :
    (irqStatusClear dt mask s0).pending = s0.pending := by
  unfold irqStatusClear
  simp

@[simp] theorem skipMessage_pending (s : State) : (State.skipMessage s).pending = s.pending := by
  unfold State.skipMessage
  simp

@[simp] theorem stream0Command_pending (dt : Nat) (m : List Byte) (s0 : State) :
    (stream0Command dt m s0).pending = s0.pending := by
  unfold stream0Command
  simp

@[simp] theorem stageWrite_pending (dt : Nat) (m : List Byte) (s0 : State) :
    (stageWrite dt m s0).pending = s0.pending := by
  unfold stageWrite
  simp

@[simp] theorem identifyCmd_pending (s : State) (rq : Req) : (State.identifyCmd s rq).pending = s.pending := by
  unfold State.identifyCmd
  simp

@[simp] theorem statusCmd_pending (s : State) (rq : Req) : (State.statusCmd s rq).pending = s.pending := by
  unfold State.statusCmd
  simp

@[simp] theorem eventQueryCmd_pending (s : State) (rq : Req) (first : Word) (n : Nat) :
    (State.eventQueryCmd s rq first n).pending = s.pending := by
  unfold State.eventQueryCmd
  simp

@[simp] theorem portStopCmd_pending (s : State) (rq : Req) (ports : BitVec 8) :
    (State.portStopCmd s rq ports).pending = s.pending := by
  unfold State.portStopCmd
  simp

/-- A command on a port leaves the queue where its work on the port does. -/
theorem withPort_pending (s : State) (rq : Req) (port : Nat) (f : Port → State) (hf : ∀ p, (f p).pending = s.pending) :
    (s.withPort rq port f).pending = s.pending := by
  unfold State.withPort
  split
  · exact hf _
  · simp

@[simp] theorem headRescanCmd_pending (s : State) (rq : Req) (port : Nat) :
    (State.headRescanCmd s rq port).pending = s.pending := by
  unfold State.headRescanCmd
  exact withPort_pending s rq port _ fun p => by simp

@[simp] theorem clearFaultCmd_pending (s : State) (rq : Req) (port : Nat) :
    (State.clearFaultCmd s rq port).pending = s.pending := by
  unfold State.clearFaultCmd
  exact withPort_pending s rq port _ fun p => by simp

@[simp] theorem launchShotCmd_pending (s : State) (rq : Req) (port slot : Nat) :
    (State.launchShotCmd s rq port slot).pending = s.pending := by
  unfold State.launchShotCmd
  refine withPort_pending s rq port _ fun p => ?_
  (repeat' split) <;> simp

@[simp] theorem ackGroupCmd_pending (s : State) (rq : Req) (g : Nat) :
    (State.ackGroupCmd s rq g).pending = s.pending := by
  unfold State.ackGroupCmd
  split <;> simp

@[simp] theorem calSetRefresCmd_pending (s : State) (rq : Req) (v : Nat) :
    (State.calSetRefresCmd s rq v).pending = s.pending := by
  unfold State.calSetRefresCmd
  simp

@[simp] theorem calSetBathCmd_pending (s : State) (rq : Req) (port : Nat) (t : Word) :
    (State.calSetBathCmd s rq port t).pending = s.pending := by
  unfold State.calSetBathCmd
  simp

@[simp] theorem tiArmCmd_pending (s : State) (rq : Req) (b : List Byte) :
    (State.tiArmCmd s rq b).pending = s.pending := by
  unfold State.tiArmCmd
  simp

@[simp] theorem tiReadCmd_pending (s : State) (rq : Req) (first n : Nat) :
    (State.tiReadCmd s rq first n).pending = s.pending := by
  unfold State.tiReadCmd
  simp

@[simp] theorem snapReadRow_pending (s : State) (rq : Req) (id stream flags : Nat) :
    (State.snapReadRow s rq id stream flags).pending = s.pending := by
  unfold State.snapReadRow
  simp

@[simp] theorem flashWriteRow_pending (s : State) (rq : Req) (off bytes flags : Nat) :
    (State.flashWriteRow s rq off bytes flags).pending = s.pending := by
  unfold State.flashWriteRow
  simp

@[simp] theorem linkRestartCmd_pending (s : State) (rq : Req) : (State.linkRestartCmd s rq).pending = s.pending := by
  unfold State.linkRestartCmd
  simp

@[simp] theorem stopWork_pending (s : State) (f : Flight) : (State.stopWork s f).pending = s.pending := by
  unfold State.stopWork
  split
  case h_1 => exact withPort_pending s _ _ _ fun p => by simp
  case h_2 => exact withPort_pending s _ _ _ fun p => rfl
  all_goals simp

@[simp] theorem commandTimeout_pending (dt : Nat) (tag : BitVec 6) (s0 : State) :
    (commandTimeout dt tag s0).pending = s0.pending := by
  unfold commandTimeout
  dsimp only
  split <;> simp

end Sys2Proof.Machine

/-! # Every step answers, and takes one command off the queue -/

namespace Sys2Proof.Machine

/-- An event with one argument, as `whenRuns_pending` has it. The row is kept as a variable here: the kernel would otherwise
compute with the nanoseconds that a row names. -/
theorem whenRuns_apply_pending {α : Type} (f : Nat → α → State → State) (hf : ∀ d a t, (f d a t).pending = t.pending)
    (dt : Nat) (a : α) (s : State) : (whenRuns dt (fun d t => f d a t) s).pending = s.pending :=
  whenRuns_pending dt _ s fun d t => hf d a t

/-- Whatever the command, its row answers a next state and leaves the queue: each row runs operations that leave it. -/
theorem exec_pending (i : Instr) (s : State) : ∃ t, exec i s = .next t ∧ t.pending = s.pending := by
  cases i
  case ocxoRdyChange dt level => exact ⟨_, rfl, whenRuns_apply_pending ocxoRdyChange ocxoRdyChange_pending dt level s⟩
  all_goals exact ⟨_, rfl, by simp⟩

/-- A step answers a state whose queue is the old one without its front. -/
theorem step_next_pending (s : State) : ∃ t, step s = .next t ∧ t.pending = s.pending.tail := by
  cases hq : s.pending with
  | nil => exact ⟨s, by rw [step, hq], hq⟩
  | cons c rest =>
    obtain ⟨t, hnext, hqueue⟩ := exec_pending c { s with pending := rest }
    exact ⟨t, by rw [step, hq]; exact hnext, hqueue⟩

theorem run_succ {n : Nat} {s t : State} (h : step s = .next t) :
    Sys2Proof.core.run (n + 1) s = Sys2Proof.core.run n t := by
  have hcore : Sys2Proof.core.step s = .next t := h
  simp only [Host.Core.run, hcore]

/-- No run stops: every step of it answers. -/
theorem core_run_next (n : Nat) : ∀ s : State, ∃ t, Sys2Proof.core.run n s = .next t := by
  induction n with
  | zero => exact fun s => ⟨s, rfl⟩
  | succ n ih =>
    intro s
    obtain ⟨t, hstep, -⟩ := step_next_pending s
    obtain ⟨u, hrun⟩ := ih t
    exact ⟨u, (run_succ hstep).trans hrun⟩

/-- Settles O57: each command's row answers and leaves the queue, whose front the step has taken; so runs go on, by induction on
their length. -/
theorem stepsAnswerInOrder : Obligations.StepsAnswerInOrder :=
  ⟨step_next_pending, fun s n => core_run_next n s⟩

end Sys2Proof.Machine
